-- ==== Sys2Proof/Word.lean ====
section
/-!
DEFINITION. Word.lean: the word types of the block and the bit-field of a word.
-/
namespace Sys2Proof

/-- One byte, the smallest addressable unit of every memory of the block (R3). -/
abbrev Byte := BitVec 8

/-- A string of bytes, the lowest address first (R3). -/
abbrev Bytes := List Byte

/-- The contents of one register, 32 bits or 64 bits wide (R8); a 32-bit register keeps its upper half 0. -/
abbrev Word := BitVec 64

/-- A bit-field `[lo + w - 1 : lo]` of a register (R4). -/
structure Fld where
  lo : Nat
  w  : Nat
  deriving DecidableEq, Repr

/-- The value of the field in a word. -/
def Fld.get (f : Fld) (v : Word) : Nat := (v.toNat / 2 ^ f.lo) % 2 ^ f.w

/-- The bits of the field as a mask. -/
def Fld.mask (f : Fld) : Word := BitVec.ofNat 64 ((2 ^ f.w - 1) * 2 ^ f.lo)

/-- The word with the field replaced by the low bits of `x`. -/
def Fld.put (f : Fld) (x : Nat) (v : Word) : Word :=
  (v &&& ~~~ f.mask) ||| BitVec.ofNat 64 ((x % 2 ^ f.w) * 2 ^ f.lo)

end Sys2Proof
end

