-- ==== Sys2Proof/Syntax.lean ====
section
/-!
DEFINITION. Syntax.lean: the commands of the block, one constructor for each row of spec/opcode_table.json. The table gives the
rows no operands; the operands are the model's (log entry 1): what the sender names, and what the device reads or senses from
outside while the command takes effect (an entry fetched from host memory, a frame received, a level at a ball).
-/
namespace Sys2Proof

/-- What a read of host memory, of a drive or of another part answers: the bytes, or the cause code of R305. -/
inductive Fetch where
  | ok (bytes : Bytes)
  | failed (cause : Nat)
  deriving DecidableEq, Repr


/-- The commands of the block. -/
inductive Instr where
  /-- REGISTER_WRITE (R4). A BAR0 write to a register with no row of its own sets fields under their access codes, or is discarded under the rules for size, alignment, reserved encodings, locks and powered-down blocks. -/
  | registerWrite (addr : Nat) (size : Nat) (value : Nat)
  /-- BAR0_READ_SPECIAL (R22). A BAR0 read of an unmapped offset, of a block that is off or in reset, or of a bad size returns zeros within 1 µs and sets the matching flag. -/
  | bar0ReadSpecial (addr : Nat) (size : Nat)
  /-- LOW_WORD_READ (R8). A 32-bit read of the low word of a 64-bit register returns it and latches the high word captured in the same cycle. -/
  | lowWordRead (addr : Nat)
  /-- HIGH_WORD_WRITE (R8). A 32-bit write of the high word of a 64-bit register applies it together with the held low word, or with a low word formed field by field. -/
  | highWordWrite (addr : Nat) (value : Nat)
  /-- BAR2_ACCESS (R24). A read or write through BAR2 reaches host-visible HBM, or completes with zeros and a flag when it is out of range or the memory domain is in reset. -/
  | bar2Access (write : Bool) (off : Nat) (data : Bytes)
  /-- SQ_ENABLE (R36). Writing ENABLE 1 to a submission ring checks its configuration and either enables it with counts at zero or records CFG_ERR. -/
  | sqEnable (sq : Nat)
  /-- SQ_DISABLE (R37). Writing ENABLE 0 to a submission ring stops fetching and starts draining the commands in flight. -/
  | sqDisable (sq : Nat)
  /-- SQ_DRAIN_DONE (R37). When IN_FLIGHT of a draining ring reaches 0, ENABLED clears and a standing ENABLE 1 re-enables the ring at once. -/
  | sqDrainDone (sq : Nat)
  /-- CQ_ENABLE (R36). Writing ENABLE 1 to a completion ring checks its configuration and enables it or records CFG_ERR. -/
  | cqEnable (cq : Nat)
  /-- CQ_DISABLE (R37). Writing ENABLE 0 to a completion ring disables it, or is discarded with RING_CFG_LOCKED while an enabled submission ring names it. -/
  | cqDisable (cq : Nat)
  /-- DBELL_SQ (R39). A submission doorbell write credits new entries if valid, is held during replay, or is discarded with DOORBELL_INVALID. -/
  | dbellSq (sq : Nat) (count : Nat)
  /-- DBELL_CQ (R39). A completion doorbell write releases consumed completion slots if valid, or is discarded with DOORBELL_INVALID. -/
  | dbellCq (cq : Nat) (count : Nat)
  /-- COMMAND_FETCH (R45). The Postmaster fetches a credited entry, stages ADMIT, runs the ordered entry checks and either starts the command or writes a failing completion. -/
  | commandFetch (sq : Nat) (entry : Fetch) (block : Fetch)
  /-- COMPLETION_WRITE (R40). A formed completion is staged and written into a released completion slot, waiting with CQ_FULL while none is free. -/
  | completionWrite (cq : Nat)
  /-- CQ_HOLDOFF_EXPIRY (R40). HOLDOFF microseconds after the first unsignalled completion, the completion ring signals its vector. -/
  | cqHoldoffExpiry (cq : Nat)
  /-- IDENTIFY (R402). Returns the slot versions and states, the running and active slots, the SVN count, the option SEQ and the active JOB. -/
  | identify (sq : Nat) (tag : Nat)
  /-- GET_FEATURE (R28). Returns the value of a feature such as link, time, inventory, internal size or scratch. -/
  | getFeature (sq : Nat) (tag : Nat)
  /-- SET_FEATURE (R28). Writes a writable feature (scratch) and returns the resulting value, or fails with PARAM for read-only or reserved features. -/
  | setFeature (sq : Nat) (tag : Nat)
  /-- ABORT (R51). Finds the target command and stops it if it is not started or is abortable, reporting the outcome. -/
  | abort (sq : Nat) (tag : Nat)
  /-- SYNC_DURABLE (R52). Waits until every parcel produced for the covered contexts before admission is durable. -/
  | syncDurable (sq : Nat) (tag : Nat)
  /-- LEDGER_READ (R53). Copies held Ledger records from FIRST_SEQ onward into a host buffer. -/
  | ledgerRead (sq : Nat) (tag : Nat)
  /-- RESET (R386). Checks reach and target and asserts the SOFTWARE reset source with the effective reach. -/
  | reset (sq : Nat) (tag : Nat)
  /-- RESERVE_QUERY (R54). Reports free and reserved HBM and restante capacity and rate sums, optionally into a buffer. -/
  | reserveQuery (sq : Nat) (tag : Nat)
  /-- TTBL_LOAD (R89). Fetches and checks a timetable image, including budget and section contents, and stores it as a numbered image. -/
  | ttblLoad (sq : Nat) (tag : Nat) (image : Fetch)
  /-- TTBL_ACTIVATE (R90). Schedules activation of a loaded image at a track position, or refuses with STATE. -/
  | ttblActivate (sq : Nat) (tag : Nat)
  /-- TTBL_UNLOAD (R91). Removes a loaded image that is neither active nor pending and frees its space. -/
  | ttblUnload (sq : Nat) (tag : Nat)
  /-- REF_ALLOC (R161). Allocates a reference region of host-visible HBM rounded up to 2 MiB. -/
  | refAlloc (sq : Nat) (tag : Nat)
  /-- REF_LOAD (R162). Loads and checks a reference page into a region from host sources or in place, unloading overlapped pages. -/
  | refLoad (sq : Nat) (tag : Nat) (content : Fetch)
  /-- REF_FREE (R163). Unloads every page of a region not holding the bound page and returns its space. -/
  | refFree (sq : Nat) (tag : Nat)
  /-- CAPTURE_START (R58). Checks the product set and contexts, runs admission, reserves in HBM or on the restante, binds the contexts and arms the capture. -/
  | captureStart (sq : Nat) (tag : Nat)
  /-- CAPTURE_STOP (R205). Sets the end of an armed or running capture at a stop line, the next page close or the next hand-over. -/
  | captureStop (sq : Nat) (tag : Nat)
  /-- BUFFER_POST (R50). Appends a list of host buffers to a context's posted buffer space. -/
  | bufferPost (sq : Nat) (tag : Nat)
  /-- CONTEXT_OPEN (R216). Opens a closed stream context for a product kind and parcel size, restarting parcel numbers and durable value. -/
  | contextOpen (sq : Nat) (tag : Nat)
  /-- CONTEXT_CLOSE (R217). Closes a context that is not bound, returning unfilled buffers once its parcels are durable. -/
  | contextClose (sq : Nat) (tag : Nat)
  /-- CAL_RUN (R255). Queues a drift, offset, gain or anchor calibration run over the named LIVE segments. -/
  | calRun (sq : Nat) (tag : Nat)
  /-- CAL_TILE_RUN (R259). Queues a white-tile run that moves the tile in, measures shading, decides and moves it out. -/
  | calTileRun (sq : Nat) (tag : Nat)
  /-- BASELINE_WRITE (R239). Checks a baseline record and its certificate and makes it current in NVS. -/
  | baselineWrite (sq : Nat) (tag : Nat)
  /-- MOVE (R320). Checks and queues a table or gear move on an axis. -/
  | move (sq : Nat) (tag : Nat)
  /-- HOME (R338). Starts homing an axis by stall, limit or SET. -/
  | home (sq : Nat) (tag : Nat)
  /-- STOP (R332). Ramps an axis to rest, suspending or ending its move, optionally flushing the queue. -/
  | stop (sq : Nat) (tag : Nat)
  /-- RESUME (R333). Moves a suspended axis through its remaining distance with a resume profile. -/
  | resume (sq : Nat) (tag : Nat)
  /-- AUX_CONFIG (R355). Checks a list of chain, input, guard and bridge records and applies them all in one cycle. -/
  | auxConfig (sq : Nat) (tag : Nat)
  /-- AUX_CONVERT (R358). Has the chains visit the named inputs and returns their results. -/
  | auxConvert (sq : Nat) (tag : Nat)
  /-- RATIO_SET (R359). Configures a ratiometric output's source, scaling and fault behaviour. -/
  | ratioSet (sq : Nat) (tag : Nat)
  /-- DRIVE_SCAN (R280). Pulses unsuitable or failed root ports, adopts named foreign drives and reports port masks once settled. -/
  | driveScan (sq : Nat) (tag : Nat)
  /-- RESTANTE_READ (R281). Copies held parcels of a context from the restante into host buffers. -/
  | restanteRead (sq : Nat) (tag : Nat) (read : Nat × List (Nat × Bytes))
  /-- RESTANTE_RELEASE (R282). Releases held restante parcels and frees their blocks. -/
  | restanteRelease (sq : Nat) (tag : Nat)
  /-- MIRROR_SET (R276). Pairs root ports into mirrored pairs while the restante is empty. -/
  | mirrorSet (sq : Nat) (tag : Nat)
  /-- FW_STAGE (R399). Checks and writes a firmware image into the slot that is not running, or applies a fuse request in Crown mode. -/
  | fwStage (sq : Nat) (tag : Nat)
  /-- FW_ACTIVATE (R401). Writes a new option copy naming a valid slot, optionally clearing starts and restarting WARM. -/
  | fwActivate (sq : Nat) (tag : Nat)
  /-- CERT_READ (R408). Returns the identity certificate chain, the public key or a checkpoint block. -/
  | certRead (sq : Nat) (tag : Nat)
  /-- DIAG_LOOPBACK (R435). Writes a pattern to a host buffer, reads it back and reports its CRC and mismatches. -/
  | diagLoopback (sq : Nat) (tag : Nat) (readBack : Fetch)
  /-- DIAG_LOG_READ (R436). Copies the event history, the ECC log or the NVS fault log into a buffer. -/
  | diagLogRead (sq : Nat) (tag : Nat)
  /-- CROWN_GO (R384). Writing RST_CROWN_GO runs the mailbox command entry in Crown mode and places its completion in RST_CROWN_CPL. -/
  | crownGo (block : Fetch)
  /-- RATIO_ARM (R82). ESC_RATIO_CTRL.ARM checks the next ratio and applies it at once, late, or leaves it pending for AT. -/
  | ratioArm
  /-- RATIO_CANCEL (R82). ESC_RATIO_CTRL.CANCEL clears a pending host ratio change. -/
  | ratioCancel
  /-- TTBL_HANDOVER_NOW (R99). Requests one hand-over while no image is active, or is denied with HANDOVER_NOW_DENIED. -/
  | ttblHandoverNow
  /-- TTBL_GEN_COMMIT (R97). Commits host-owned table classes for swap at the next hand-over, ignoring busy or not-owned classes with a flag. -/
  | ttblGenCommit (classes : Nat)
  /-- PORT_RESUME (R122). PORT_CTRL.RESUME moves a READY, FAULT or OFF segment on towards LIVE or POWERING. -/
  | portResume (port : Nat)
  /-- PORT_POWER_OFF (R125). PORT_CTRL.POWER_OFF powers a segment down into OFF. -/
  | portPowerOff (port : Nat)
  /-- CAL_RESTORE (R244). CAL_CTRL.RESTORE checks the staging DRIFT bank and accepts it as a result or reports CAL_RESTORE_FAIL. -/
  | calRestore
  /-- PAGE_CTRL_OPEN (R203). PROD_PAGE_CTRL.OPEN acts as a host fire that opens a page. -/
  | pageCtrlOpen
  /-- PAGE_CTRL_CLOSE (R203). PROD_PAGE_CTRL.CLOSE acts as a host fire that closes the page. -/
  | pageCtrlClose
  /-- SYNC_CTRL_ARM (R229). On the master, SYNC_CTRL.ARM sends ARM with a fire rule and arms the ring. -/
  | syncCtrlArm (rule : Nat)
  /-- SYNC_CTRL_DISARM (R229). On the master, SYNC_CTRL.DISARM sends DISARM, disarming every device. -/
  | syncCtrlDisarm
  /-- DMA_CH_TAIL (R293). A DMA tail write credits new descriptors if valid, or is discarded with DMA_TAIL_INVALID. -/
  | dmaChTail (chan : Nat) (count : Nat)
  /-- DMA_CH_ENABLE (R303). ENABLE 1 takes a disabled channel to IDLE with counts zeroed; ENABLE 0 disables it where allowed. -/
  | dmaChEnable (chan : Nat) (enable : Bool)
  /-- DMA_CH_PAUSE (R304). PAUSE 1 stops a channel's reads at an element boundary; PAUSE 0 resumes it from its saved state. -/
  | dmaChPause (chan : Nat) (pause : Bool)
  /-- DMA_CH_RESTART (R303). RESTART takes a HALTED channel to IDLE and refetches the slot at HEAD. -/
  | dmaChRestart (chan : Nat)
  /-- AX_ENABLE (R335). AX_CTRL.ENABLE 1 enables a disabled axis; ENABLE 0 ramps it down and disables it. -/
  | axEnable (axis : Nat) (enable : Bool) (faultHigh : Bool)
  /-- AX_CLEAR_FAULT (R335). CLEAR_FAULT takes a faulted axis to DISABLED when AX_FAULT_N is high. -/
  | axClearFault (axis : Nat) (faultHigh : Bool)
  /-- GEAR_ARM (R326). AX_GEAR_CTRL.ARM arms a ratio change of a running gear move at a master count. -/
  | gearArm (axis : Nat)
  /-- GEAR_CANCEL (R326). AX_GEAR_CTRL.CANCEL clears a pending gear ratio change. -/
  | gearCancel (axis : Nat)
  /-- AUX_FORCE (R351). AUX_CHAIN_CTRL.FORCE delivers a forced result from the filter or the last code. -/
  | auxForce (chain : Nat)
  /-- AUX_URGENT (R357). Requests an urgent visit to one input of an idle chain, optionally pushing the result to an urgent queue. -/
  | auxUrgent (chain : Nat) (input : Nat) (queue : Nat) (push : Bool)
  /-- OPTION_COMMIT (R403). SEC_OPTION_CTRL.COMMIT forms, checks and writes a new option record copy. -/
  | optionCommit
  /-- EVT_SW_SET (R414). EVT_CTRL.SW_SET makes a SW_EVENT source occur. -/
  | evtSwSet (source : Nat)
  /-- EVT_CLEAR_COUNT (R427). EVT_CTRL.CLEAR_COUNT sets the named source's occurrence counter to 0. -/
  | evtClearCount (source : Nat)
  /-- EVT_STATUS_CLEAR (R416). A W1C write to EVT_STATUS clears flags unless an occurrence meets it in the same cycle. -/
  | evtStatusClear (word : Nat) (value : Nat)
  /-- EVT_ENABLE_WRITE (R418). Writing EVT_ENABLE enables sources and signals the vector of a newly enabled source whose flag is set. -/
  | evtEnableWrite (word : Nat) (value : Nat)
  /-- EVT_LOG_READ (R425). Releases event log slots consumed by host software, or is discarded if invalid. -/
  | evtLogRead (count : Nat)
  /-- EVT_LOG_CFG_WRITE (R425). Configures and enables the event log ring, discarding writes that would enable it with SIZE 0. -/
  | evtLogCfgWrite (size : Nat) (enable : Bool)
  /-- DIAG_INJECT (R434). DIAG_INJECT.ARM arms a one- or two-bit error or a parity error for the next write to a memory. -/
  | diagInject (memory : Nat) (double : Bool) (arm : Bool)
  /-- UQ_POP (R263). A read of QUE_UQ_POP pops and returns the head entry of an urgent queue, or VALID 0 if it is empty. -/
  | uqPop (queue : Nat)
  /-- MSIX_ENABLE (R418). MSI-X Enable changing to 1 signals each vector that has an enabled source with its flag set. -/
  | msixEnable
  /-- MSIX_UNMASK (R418). Unmasking a vector with its pending bit set sends the message. -/
  | msixUnmask (vector : Nat)
  /-- SPDM_REQUEST (R409). A DOE SPDM request is answered by Franking with its response or an ERROR. -/
  | spdmRequest (object : Bytes)
  /-- ENCODER_EDGE (R75). A filtered A or B change is decoded into a count and moves the track position through the gearing. -/
  | encoderEdge (enc : Nat) (a : Bool) (b : Bool)
  /-- ENC_INDEX (R75). A rising Z with INDEX_EN 1 latches the track position into ENC_INDEX_POS. -/
  | encIndex (enc : Nat) (a : Bool) (b : Bool)
  /-- ENC_LOS (R76). A faulty encoder pair sets LOS and stops counting until it clears. -/
  | encLos (enc : Nat)
  /-- TRACK_STILL (R77). No count for ESC_STILL_TIME sets velocity to 0 and flags TRACK_STILL. -/
  | trackStill
  /-- SLOT_RELEASE (R92). A comparator slot whose position the interpolated track position reaches releases its event or actuation. -/
  | slotRelease
  /-- SLOT_REFILL (R92). The Escapement cores load the next unreleased events into freed slots, releasing at once any already passed. -/
  | slotRefill
  /-- GEN_COPY_DONE (R88). The generation copy completes, so the bank swaps at the next hand-over. -/
  | genCopyDone (cls : Nat)
  /-- EVOUT_PULSE_END (R224). At the end of a pulse's width the event output returns to its kept level. -/
  | evoutPulseEnd (output : Nat)
  /-- HANDOVER (R95). At a line position the hand-over commits the exposure start and brings shadowed values, commits, generations and drift results into force. -/
  | handover (start : Nat)
  /-- PG_RUN_END (R107). At RUN_LEN a generator's run ends and outputs not in FREE return to IDLE. -/
  | pgRunEnd (gen : Nat) (clamp : Int) (volts : List (List (Int × Int)))
  /-- CLK_FAULT (R127). A clock output disagreeing with its ball for over 100 ns turns the generator off and faults its segments. -/
  | clkFault (gen : Nat)
  /-- LANE_FRAME_RX (R116). A lane frame is received in a window and used, or discarded and counted by outcome. -/
  | laneFrameRx (port : Nat) (codeErr : Bool) (lengthOk : Bool) (seq : Nat) (ignored : Bytes) (payload : Bytes) (crc : Nat)
  /-- LANE_WINDOW_CLOSE (R116). A lane window closes, and a window without a frame masks its segment for the line. -/
  | laneWindowClose (port : Nat)
  /-- LANE_LOCK (R115). 64 clean idle sets take a lane from ACQUIRE to LOCKED. -/
  | laneLock (port : Nat)
  /-- LANE_LOS (R115). Code errors or loss of the recovered clock take a lane from LOCKED to ACQUIRE. -/
  | laneLos (port : Nat)
  /-- FLIT_RESEND (R14). A flit failing its check is requested again from the replay buffer. -/
  | flitResend (die : Nat) (ok : Bool)
  /-- DIE_LINK_UP (R14). A retrained die link delivers again and its segments are rediscovered. -/
  | dieLinkUp (die : Nat)
  /-- I3C_HOT_JOIN (R120). A Hot-Join request runs discovery on its bus and binds matching heads. -/
  | i3cHotJoin (bus : Nat) (gone : List Nat) (descs : List Bytes)
  /-- I3C_IBI (R118). An in-band interrupt is accepted, its mandatory byte read and I3C_IBIS incremented. -/
  | i3cIbi (bus : Nat)
  /-- I3C_POLL (R121). Every 4 ms the device sends GETSTATUS to each bound head. -/
  | i3cPoll (bus : Nat) (failed : List Nat) (errors : Nat)
  /-- I3C_POLL_RETRY (R121). 100 µs after a failed poll the device repeats it, and a second failure establishes removal. -/
  | i3cPollRetry (segment : Nat) (answered : Bool)
  /-- SEG_POWER_ENABLE (R124). CLK_TO_PWR after clocks start, SPWR_EN of every port of the segment goes high. -/
  | segPowerEnable (segment : Nat)
  /-- SEG_LANES_ACQUIRE (R124). READY_TIME after power, the segment's lanes enter ACQUIRE. -/
  | segLanesAcquire (segment : Nat)
  /-- SEG_LOCK_TIMEOUT (R122). Lanes not locked within READY_TIME plus 10 ms fault the segment. -/
  | segLockTimeout (segment : Nat)
  /-- SEG_RELOCK_TIMEOUT (R122). A segment in RELOCK not relocked within 10 ms powers down into FAULT. -/
  | segRelockTimeout (segment : Nat)
  /-- SEG_CLOCKS_OFF (R125). PWR_TO_CLKOFF after power-down, drivers of generators serving no powered port turn off. -/
  | segClocksOff (segment : Nat)
  /-- LINE_COMPLETE (R154). The last sample of a line leaves stage 9, delivering the line to the comparator, products and calibration. -/
  | lineComplete (late : Bool) (latency : Nat)
  /-- VERDICT_PATH (R183). Within 750 ns of C(k) blobs are matched and closed, verdict records formed and actuations inserted. -/
  | verdictPath
  /-- REG_BAND_RESULT (R173). A registration band's result is formed within 20 µs and comes into force at the next hand-over. -/
  | regBandResult
  /-- EDGE_FIT (R207). The page's edge and skew fit is formed from its first 64 lines within 20 µs. -/
  | edgeFit
  /-- CROP_FORM (R214). A crop record is cut once its last margin line has left stage 9, or at page close or capture end. -/
  | cropForm
  /-- TRIGGER_PIN_EDGE (R194). A filtered trigger pin level change is fed to its trigger units. -/
  | triggerPinEdge (pin : Nat) (level : Bool)
  /-- TRIGGER_TIMEOUT (R196). A TIMEOUT unit fires when its level has stayed in the watched region for MIN, then every MAX. -/
  | triggerTimeout (trigger : Nat)
  /-- SEQ_TIMER_EXPIRY (R199). A sequencer state's timer expires and the sequencer enters NEXT_TIMEOUT. -/
  | seqTimerExpiry (seq : Nat)
  /-- BUTTON (R222). A button level stable for DEBOUNCE samples is accepted and sets BUTTON. -/
  | button (btn : Nat) (level : Bool)
  /-- PARCEL_FLUSH (R221). FLUSH_US after its first byte, a part-filled parcel is closed and sent. -/
  | parcelFlush (ctx : Nat)
  /-- PARCEL_DELIVER (R267). The lowest undelivered parcel of a context is written into posted buffer space once it is available. -/
  | parcelDeliver (ctx : Nat)
  /-- PARCEL_REACHED_HOST (R66). A read after a parcel's writes completes, so the parcel has reached the host and a DELIVER record is staged. -/
  | parcelReachedHost (ctx : Nat)
  /-- LEDGER_NVS_WRITE (R64). Staged Ledger records are copied to the NVS journal, advancing durable watermarks and completing commands that waited for durability. -/
  | ledgerNvsWrite
  /-- CHECKPOINT_SIGNED (R407). Franking finishes signing a checkpoint block and the CHECKPOINT record is written. -/
  | checkpointSigned
  /-- SYNC_FRAME_RX (R225). A whole ring frame is checked, acted on by type and forwarded or removed. -/
  | syncFrameRx (frame : Bytes)
  /-- SYNC_ENUM_TIMER (R226). Every 100 µs while the ring is down the master sends ENUM. -/
  | syncEnumTimer
  /-- SYNC_POS_TIMER (R226). Every 1 µs while the ring is up the master sends POS. -/
  | syncPosTimer
  /-- SYNC_FIRE_APPLY (R230). 250 ns after the first FIRE, the device applies the collected fires as ring fires. -/
  | syncFireApply
  /-- SYNC_RX_LOS (R232). Loss of signal at SYNC_RX takes the ring down and disarms the device. -/
  | syncRxLos
  /-- SYNC_POS_TIMEOUT (R232). No POS for 10 µs on a non-master takes the ring down. -/
  | syncPosTimeout
  /-- CAL_DECISION (R252). After set B the Regulator tests agreement and accepts or rejects the run within 5 ms. -/
  | calDecision
  /-- CAL_TIMEOUT (R250). TIMEOUT_MS passing before collection ends finishes the run with TIMEOUT. -/
  | calTimeout
  /-- CAL_HOLDOFF_EXPIRY (R258). A segment's holdoff after an unaccepted automatic run ends. -/
  | calHoldoffExpiry (segment : Nat)
  /-- TILE_SETTLE_DONE (R259). SETTLE_US after the tile-in move completes, set A of a tile run starts. -/
  | tileSettleDone
  /-- QUEUE_LEVEL_UPDATE (R266). Every 1 µs the queue level is recomputed, switching spill on or off and resuming paced transports. -/
  | queueLevelUpdate
  /-- SPILL_WRITE_DONE (R269). A spilled parcel's data and index writes complete with FUA, so it reaches the restante and its HBM space is freed. -/
  | spillWriteDone (writeUnit : Nat) (ok : Bool)
  /-- RESTANTE_RETURN_DONE (R270). A parcel read back from the restante arrives in the return area and is checked. -/
  | restanteReturnDone (ctx : Nat) (readable : Bool) (failed : Option Bytes)
  /-- DRIVE_PRESENT (R274). RP_PRSNT_N low for 100 ms powers a port and starts training. -/
  | drivePresent (port : Nat)
  /-- DRIVE_LINK_UP (R274). A drive link up for 100 ms moves the port to INIT for enumeration. -/
  | driveLinkUp (port : Nat) (rate : Nat) (width : Nat)
  /-- DRIVE_TRAIN_TIMEOUT (R274). No link within 1 s fails the port. -/
  | driveTrainTimeout (port : Nat)
  /-- DRIVE_INIT_DONE (R274). Initialisation ends with the port MEMBER, FOREIGN or UNSUITABLE. -/
  | driveInitDone (port : Nat) (namespaces : List (List Nat)) (found : List Nat × Nat)
  /-- DRIVE_CMD_TIMEOUT (R274). A drive command timeout or fatal status triggers a controller reset, or the port fails. -/
  | driveCmdTimeout (port : Nat) (what : Nat) (restored : Bool)
  /-- DRIVE_REMOVED (R275). Presence loss or link loss ends a port's commands and handles lost or degraded parcels. -/
  | driveRemoved (port : Nat) (present : Bool)
  /-- MIRROR_REBUILD_DONE (R277). The rebuild copy of a degraded pair completes and the pair leaves the degraded state. -/
  | mirrorRebuildDone (writeUnit : Nat)
  /-- DRIVE_SCAN_SETTLED (R280). Every port settled for 100 ms, or 5 s passing, completes DRIVE_SCAN. -/
  | driveScanSettled (timeout : Bool)
  /-- DMA_DESCRIPTOR_START (R297). An idle channel fetches the descriptor at HEAD and checks it. -/
  | dmaDescriptorStart (chan : Nat) (desc : Fetch) (index : Bytes) (source : Bytes)
  /-- DMA_DESCRIPTOR_DONE (R295). A descriptor's last write completes and its write-back records DONE or BAD with CHECK. -/
  | dmaDescriptorDone (chan : Nat)
  /-- DMA_READ_ERROR (R306). A failed read ends the descriptor BAD and stages a DMA_BAD record. -/
  | dmaReadError (chan : Nat) (cause : Nat) (got : Nat)
  /-- DMA_TIMER_CREDIT (R300). Every PERIOD ns a timer-sourced channel gains one credit. -/
  | dmaTimerCredit (chan : Nat)
  /-- DMA_PAUSED (R303). A pausing channel whose issued reads are all written out enters PAUSED. -/
  | dmaPaused (chan : Nat) (upTo : Nat)
  /-- SERVO_TICK (R315). Every 25 µs the Remontoire computes set-points, runs moves and pacing, and checks limits. -/
  | servoTick
  /-- STEP_UPDATE (R315). Every 100 ns the step generator updates the commanded position, yielding source counts and level changes. -/
  | stepUpdate (axis : Nat)
  /-- LIMIT_SAMPLE (R337). An accepted limit level trips, releases or chatters the limit latch. -/
  | limitSample (axis : Nat) (neg : Bool) (pos : Bool)
  /-- AX_OVERCURRENT (R331). Sensed coil current above I_OC after blank faults the axis. -/
  | axOvercurrent (axis : Nat)
  /-- AX_BRIDGE_FAULT (R331). AX_FAULT_N low for 1 µs faults the axis. -/
  | axBridgeFault (axis : Nat)
  /-- AX_BRAKE_DELAY (R335). BRAKE_DELAY after enabling releases the brake, or after disabling takes the axis to DISABLED. -/
  | axBrakeDelay (axis : Nat)
  /-- AX_HOLD_DELAY (R329). HOLD_DELAY after motion ends the coil current drops to I_HOLD. -/
  | axHoldDelay (axis : Nat)
  /-- AUX_SETTLE_DONE (R348). SETTLE_US after the multiplexer switches, the filter resets and the modulator runs. -/
  | auxSettleDone (chain : Nat)
  /-- AUX_CODE (R348). A filter settle count or conversion period elapses and a main or lead code is taken. -/
  | auxCode (chain : Nat) (raw : Int) (ovf : Bool)
  /-- AUX_CONV_PIN (R356). An accepted AUX_CONV edge starts or queues a scan. -/
  | auxConvPin (chain : Nat) (level : Bool)
  /-- RATIO_TIMEOUT (R360). TIMEOUT_MS without an update puts a ratiometric output into fault. -/
  | ratioTimeout (output : Nat)
  /-- POWER_FAIL_ASSERT (R67). POWER_FAIL asserts and the device stops work, closes DMA and writes the closing records to NVS. -/
  | powerFailAssert
  /-- POWER_FAIL_DEASSERT (R67). POWER_FAIL deasserting with supplies in range causes a WARM reset and replay. -/
  | powerFailDeassert
  /-- SUPPLY_OUT_OF_RANGE (R444). A monitored supply outside its window for 1 µs asserts its reset source. -/
  | supplyOutOfRange (domain : Nat)
  /-- RESET_N_LOW (R368). RESET_N asserts a WARM reset. -/
  | resetNLow
  /-- PCIE_PERST (R368). PERST# asserts the PCIE_PERST reset source. -/
  | pciePerst
  /-- PCIE_HOT_RESET (R368). A link Hot Reset asserts the PCIE_HOT_RESET source. -/
  | pcieHotReset
  /-- PCIE_FLR (R368). A Function Level Reset asserts a PATH reset keeping the link up. -/
  | pcieFlr
  /-- WATCHDOG_EXPIRY (R368). A processor watchdog expires and asserts its reset source. -/
  | watchdogExpiry (processor : Nat)
  /-- CLOCK_LOSS (R19). The clock monitor detects a lost clock or unlocked PLL and asserts its reset source. -/
  | clockLoss (clock : Nat)
  /-- THERMAL (R368). Tj reaching THERMAL_TRIP asserts a WARM reset. -/
  | thermal
  /-- RESET_ASSERT (R370). A reset source asserts, its cause bit sets and its set joins or merges into the reset in progress. -/
  | resetAssert (source : Nat)
  /-- DOMAIN_IDLE (R375). A domain asked to go idle becomes idle and its isolation wrapper closes. -/
  | domainIdle (domain : Nat)
  /-- RST_IDLE_TIMEOUT (R375). RST_IDLE_TIMEOUT ends step 1, closing the wrapper and completing open transfers. -/
  | rstIdleTimeout
  /-- RESET_DEASSERT (R370). The last contributing source deasserts and the release begins. -/
  | resetDeassert (source : Nat)
  /-- WINDER_RELEASE_STEP (R379). After its gap and power-good the Winder releases the next domain of the set. -/
  | winderReleaseStep (rate : Nat) (width : Nat)
  /-- DOMAIN_POWER_TIMEOUT (R380). Power-good not arriving within 1 ms leaves the domain off and marks it failed. -/
  | domainPowerTimeout
  /-- FW_VERIFIED (R396). Franking finishes verifying the slots and reports firmware verified, or the start enters Crown mode. -/
  | fwVerified
  /-- BOOT_COMPLETE (R381). All hub domains released, processors ready and the Ledger rebuilt: the counter clears and BOOT_COMPLETE sets. -/
  | bootComplete
  /-- START_TIMEOUT (R381). No boot-complete 2 s after a start asserts START_TIMEOUT. -/
  | startTimeout
  /-- SVN_BURN (R398). Within 10 ms of boot-complete a BURN image raises the SVN fuse and marks older slots ROLLBACK. -/
  | svnBurn
  /-- REPLAY (R68). After the Postmaster's release the device reads the Ledger and rebuilds rings, reservations and durable values. -/
  | replay (torn : Nat)
  /-- REPLAY_RESUME (R68). Once Bus Master Enable is 1 and BAR0 assigned, completions, parcels and descriptors are re-issued and fetching resumes. -/
  | replayResume
  /-- BANK_RESTORE_DONE (R431). A table bank hit by an uncorrectable error is restored from its HBM copy. -/
  | bankRestoreDone (cls : Nat)
  /-- SCRUB_PASS (R433). A scrub pass of an HBM stack completes. -/
  | scrubPass (stack : Nat) (errors : List (List Nat))
  /-- TJ_UPDATE (R456). Every 1 ms the junction sensors update GLB_TJ and GLB_TJ_MAX. -/
  | tjUpdate (temps : List Int)
  /-- ENC_FAULT_CLEARS (R76). When the open or shorted encoder pair recovers, ENC_STATUS.LOS returns to 0 and counting resumes from the filtered levels. -/
  | encFaultClears (enc : Nat)
  /-- CHECKPOINT_INTERVAL (R64). At least once each second while any context is open, the device starts a Ledger checkpoint. -/
  | checkpointInterval
  /-- ARRAY_SCRUB (R433). Every 100 ms the device scrubs each on-die SECDED array, correcting or acting on errors it finds under R431. -/
  | arrayScrub (errors : List (List Nat))
  /-- NVS_WRITE_DONE (R403). An NVS write with read-back, of a firmware slot, an option copy or a baseline record, ends; the slot, copy or record becomes current and the waiting command or commit completes. -/
  | nvsWriteDone (what : Nat) (ok : Bool)
  /-- RP_PERST_N_HIGH (R274). 100 ms after RP_PWR_EN rises, or after a DRIVE_SCAN pulse, RP_PERST_N is driven high and the drive may train. -/
  | rpPerstNHigh (port : Nat)
  /-- CHOPPER_CYCLE (R330). Each coil's fixed-off-time cycle passes through its blank, on, fast-decay and slow-decay phases, counting AX_TON_LIMITED when T_ON_MAX ends the on phase and measuring t_on. -/
  | chopperCycle (axis : Nat) (coil : Nat) (reach : Nat) (sensed : Int)
  deriving DecidableEq, Repr

end Sys2Proof
end

