-- ==== Sys2Proof/Decode.lean ====
section
/-!
DEFINITION. Decode.lean: the block has no command words: spec/opcode_table.json gives no row any bits. The 64 B entries of the
submission rings are data that COMMAND_FETCH reads; Machine/Commands.lean checks them.
-/
namespace Sys2Proof

/-- The command that a word of a number of bits spells: none, since no row of the table has bits (log entry 8). -/
def decodeTableWord (_nbits _w : Nat) : Option Instr := none

end Sys2Proof
end

