-- ==== Sys2Proof/Machine/Data.lean ====
section
/-!
DEFINITION. Machine/Data.lean: the plain data the machine is built from: sparse maps and memories in one canonical form,
little-endian byte strings (R3), signed and unsigned views of a word, the rounding rules, and the check values the spec names.
-/
namespace Sys2Proof.Machine

/-! ### Sparse maps: keys strictly rising, no entry equal to what an unlisted key reads as -/

/-- The value at key `k`; `d` is what an unlisted key reads as. -/
def spGet {V : Type} (d : V) (k : Nat) : List (Nat × V) → V
  | [] => d
  | (a, v) :: t => if k < a then d else if k = a then v else spGet d k t

/-- The map with `v` at key `k`; `d` is what key `k` reads as when it is not listed, and is never listed. -/
def spSet {V : Type} [DecidableEq V] (d : V) (k : Nat) (v : V) : List (Nat × V) → List (Nat × V)
  | [] => if v = d then [] else [(k, v)]
  | (a, w) :: t =>
    if k < a then (if v = d then (a, w) :: t else (k, v) :: (a, w) :: t)
    else if k = a then (if v = d then t else (k, v) :: t)
    else (a, w) :: spSet d k v t

/-- The keys are all above `lo`, strictly rising, and no value is the default of its key. -/
def spWfFrom {V : Type} [DecidableEq V] (dflt : Nat → V) : Nat → List (Nat × V) → Bool
  | _, [] => true
  | lo, (a, v) :: t => decide (lo ≤ a) && decide (v ≠ dflt a) && spWfFrom dflt (a + 1) t

/-- The canonical form of a sparse map whose unlisted key `k` reads as `dflt k`. -/
def spWf {V : Type} [DecidableEq V] (dflt : Nat → V) (m : List (Nat × V)) : Bool := spWfFrom dflt 0 m

/-! ### Byte memories -/

/-- A byte memory: address and byte, addresses rising, no listed byte 0. -/
abbrev Mem := List Host.Cell

/-- The byte at an address; a byte nothing has written reads 0 (log entry 5). -/
def Mem.read (m : Mem) (a : Nat) : Byte := spGet 0#8 a m

/-- The memory with one byte written. -/
def Mem.write (m : Mem) (a : Nat) (b : Byte) : Mem := spSet 0#8 a b m

/-- The memory with a string of bytes written from address `a` upwards. -/
def Mem.writeBytes (m : Mem) (a : Nat) : Bytes → Mem
  | [] => m
  | b :: t => Mem.writeBytes (m.write a b) (a + 1) t

/-- `n` bytes from address `a` upwards. -/
def Mem.readBytes (m : Mem) (a : Nat) : Nat → Bytes
  | 0 => []
  | n + 1 => m.read a :: Mem.readBytes m (a + 1) n

/-- Canonical form of a byte memory. -/
def Mem.wf (m : Mem) : Bool := spWf (fun _ => 0#8) m

/-! ### Little-endian values (R3) -/

/-- The number a byte string holds, the lowest address in bits [7:0] (R3). -/
def leNat : Bytes → Nat
  | [] => 0
  | b :: t => b.toNat + 256 * leNat t

/-- The `n` low bytes of a number, the lowest first (R3). -/
def leBytes : Nat → Nat → Bytes
  | 0, _ => []
  | n + 1, v => BitVec.ofNat 8 v :: leBytes n (v / 256)

/-- `n` bytes of a structure from byte `off` on, as a number; bytes beyond its end count as 0. -/
def leAt (b : Bytes) (off n : Nat) : Nat := leNat ((b.drop off).take n)

/-- Whether bytes `lo` to `hi - 1` of a structure are all 0. -/
def zeroIn (b : Bytes) (lo hi : Nat) : Bool := ((b.drop lo).take (hi - lo)).all (· == 0#8)

/-- `n` zero bytes. -/
def zeros (n : Nat) : Bytes := List.replicate n 0#8

/-- The byte string made exactly `n` bytes long, cut or padded with 0. -/
def fitBytes (n : Nat) (b : Bytes) : Bytes := b.take n ++ zeros (n - b.length)

/-- A structure with the bytes from `off` on replaced. -/
def putBytes (b : Bytes) (off : Nat) (x : Bytes) : Bytes :=
  fitBytes off b ++ x ++ b.drop (off + x.length)

/-! ### Signed views, rounding -/

/-- The signed value of a `w`-bit field. -/
def sx (w n : Nat) : Int := if n % 2 ^ w < 2 ^ (w - 1) then (n % 2 ^ w : Nat) else (n % 2 ^ w : Nat) - (2 : Int) ^ w

/-- The `w`-bit encoding of an integer, modulo 2^w. -/
def ux (w : Nat) (x : Int) : Nat := (x % (2 : Int) ^ w).toNat

/-- Floor division of integers, towards minus infinity; 0 for a divisor that is not positive. -/
def fdiv (a : Int) (b : Int) : Int := if b ≤ 0 then 0 else a / b

/-- The quotient rounded to the nearest integer, halves up. -/
def rdiv (a : Int) (b : Int) : Int := fdiv (2 * a + b) (2 * b)

/-- The nearest integer to a quotient whose divisor may be negative, halves up. -/
def rdiv2 (a b : Int) : Int := if b < 0 then rdiv (-a) (-b) else rdiv a b

/-- An integer held within two bounds. -/
def clampI (lo hi x : Int) : Int := if x < lo then lo else if hi < x then hi else x

/-- A count within a 32-bit saturating counter (R11). -/
def sat32 (n : Nat) : Nat := if 0xFFFFFFFF < n then 0xFFFFFFFF else n

/-- Integer square root by bits: the greatest `x` below `acc + 2^(n)` with `x * x` at most `v`. -/
def isqrtFrom (v : Nat) : Nat → Nat → Nat
  | 0, acc => acc
  | n + 1, acc => if (acc + 2 ^ n) * (acc + 2 ^ n) ≤ v then isqrtFrom v n (acc + 2 ^ n) else isqrtFrom v n acc

/-- The integer square root, rounded down, of a number below 2^128. -/
def isqrt (v : Nat) : Nat := isqrtFrom v 64 0

/-- Whether bit `i` of a number is 1. -/
def bitOf (v i : Nat) : Bool := v.testBit i

/-- A number with bit `i` set to `b`. -/
def putBit (v i : Nat) (b : Bool) : Nat := if v.testBit i then (if b then v else v - 2 ^ i) else (if b then v + 2 ^ i else v)

/-- The bits of a number below `n` that are 1, rising. -/
def bitsOf (v n : Nat) : List Nat := (List.range n).filter (fun i => v.testBit i)

/-- 1 for true, 0 for false: the value of a one-bit field. -/
def b2n (b : Bool) : Nat := if b then 1 else 0

/-- The sum of a list of integers. -/
def sumI (l : List Int) : Int := l.foldl (· + ·) 0

/-- The list with element `i` replaced; unchanged where there is no such element. -/
def setAt {V : Type} (l : List V) (i : Nat) (v : V) : List V := l.set i v

/-- The list with element `i` passed through `f`. -/
def modAt {V : Type} (l : List V) (i : Nat) (f : V → V) : List V :=
  match l[i]? with
  | some v => l.set i (f v)
  | none => l

/-! ### Check values -/

/-- One bit of a reflected CRC of polynomial `poly`. -/
def crcBitR (poly c : Nat) : Nat := if c % 2 = 1 then (c / 2).xor poly else c / 2

/-- One byte of a reflected CRC. -/
def crcByteR (poly c : Nat) (b : Byte) : Nat :=
  let c0 := c.xor b.toNat
  let c1 := crcBitR poly (crcBitR poly (crcBitR poly (crcBitR poly c0)))
  crcBitR poly (crcBitR poly (crcBitR poly (crcBitR poly c1)))

/-- CRC-32C: polynomial 0x1EDC6F41 reflected, initial value and final exclusive-or all ones. -/
def crc32c (b : Bytes) : Nat := (b.foldl (crcByteR 0x82F63B78) 0xFFFFFFFF).xor 0xFFFFFFFF

/-- One bit of a most-significant-bit-first CRC of width `w`. -/
def crcBitM (w poly c : Nat) : Nat :=
  if c.testBit (w - 1) then ((c * 2) % 2 ^ w).xor poly else (c * 2) % 2 ^ w

/-- One byte of a most-significant-bit-first CRC of width `w`. -/
def crcByteM (w poly c : Nat) (b : Byte) : Nat :=
  let c0 := c.xor (b.toNat * 2 ^ (w - 8))
  let c1 := crcBitM w poly (crcBitM w poly (crcBitM w poly (crcBitM w poly c0)))
  crcBitM w poly (crcBitM w poly (crcBitM w poly (crcBitM w poly c1)))

end Sys2Proof.Machine
end

