-- ==== Sys2Proof/Machine/RegMap.lean ====
section
/-!
DEFINITION. Machine/RegMap.lean: the registers of BAR0 by the manual's own names, with the address, width and fields that the
register tables of spec/ give them (R27, R35, R39, R65, R76, R83, R99, R130, R157, R192, R233, R234, R261, R289, R290, R311,
R342, R343, R362, R390, R412, R437, R439, R440, R456). A register that exists in several instances has two counts and two
strides; instance (i, j) has the flat index i * n2 + j, which for the front-end dies is the device-wide number of R12.
-/
namespace Sys2Proof.Machine

/-- The access codes of R4. -/
inductive Acc where
  | ro | rw | wo | w1c | w1s | rws | rov
  deriving DecidableEq, Repr

/-- One field of a register: where it lies, its access code, the value its table gives for reset, and the encodings that are
not reserved as ranges (an empty list: every encoding is allowed). -/
structure FieldInfo where
  fld   : Fld
  acc   : Acc
  reset : Nat
  legal : List (Nat × Nat)
  deriving DecidableEq, Repr

/-- The address pattern, width and fields of one register. -/
structure RegInfo where
  base   : Nat
  n1     : Nat
  stride1 : Nat
  n2     : Nat
  stride2 : Nat
  wide   : Bool
  fields : List FieldInfo
  deriving DecidableEq, Repr

/-- Every register of BAR0 (R21), under the name the manual gives it. -/
inductive Reg where
  | GLB_ID | GLB_STATUS | GLB_TIME | GLB_SCRATCH | GLB_TJ | GLB_TJ_MAX | GLB_TJ_CLEAR | RST_CAUSE | RST_LAST
  | RST_LAST_TIME | RST_COUNT_BLOCK | RST_COUNT_DIE | RST_COUNT_PATH | RST_COUNT_WARM | RST_ISOLATIONS | RST_CLEAR
  | RST_REACH | RST_DOMAIN_POWER | RST_DOMAIN_RESET | RST_DOMAIN_FAILED | RST_STATUS | RST_FAILED_STARTS
  | RST_IDLE_TIMEOUT | RST_CROWN_GO | RST_CROWN_STATUS | EVT_STATUS | EVT_ENABLE | EVT_WRAPPED | EVT_CTRL
  | EVT_LOG_BASE | EVT_LOG_CFG | EVT_LOG_WRITTEN | EVT_LOG_READ | EVT_LOG_DROP | EVT_RING_UNSENT | EVT_CLEAR
  | EVT_PULSE | EVT_ROUTE | EVT_COUNT | RING_SQ_BASE | RING_SQ_CFG | RING_SQ_QUOTA | RING_SQ_CTRL | RING_SQ_STATUS
  | RING_SQ_FETCHED | RING_SQ_CREDIT | RING_CQ_BASE | RING_CQ_CFG | RING_CQ_CTRL | RING_CQ_STATUS | RING_CQ_WRITTEN
  | RING_CQ_COALESCE | RING_TOTAL_IN_FLIGHT | DBELL_SQ | DBELL_CQ | LEDG_STATUS | LEDG_NVS_SEQ | LEDG_CKPT_SEQ
  | LEDG_REPLAYS | LEDG_MIRROR | LEDG_DURABLE | ESC_TRACK_POS | ESC_VELOCITY | ESC_SOURCE | ESC_RATIO
  | ESC_RATIO_NEXT | ESC_RATIO_AT | ESC_RATIO_CTRL | ESC_RATIO_STATUS | ESC_RATIO_APPLIED | ESC_MASTER | ESC_LINE
  | ESC_LINE_POS | ESC_BANK | ESC_ACT_DROP | ESC_STILL_TIME | ESC_CLEAR | ESC_EVT_LATE | ENC_CFG | ENC_COUNT
  | ENC_EDGE_TIME | ENC_INDEX_POS | ENC_STATUS | ENC_ILLEGAL | ENC_CLEAR | TTBL_IMAGE | TTBL_IMAGE_LEN | TTBL_ACT_POS
  | TTBL_STATUS | TTBL_SHADOW_CTRL | TTBL_HANDOVER_NOW | TTBL_HANDOVERS | TTBL_GEN_COMMIT | TTBL_GEN_STATUS
  | TTBL_GEN_OWNER | TTBL_GEN_INFORCE | TTBL_LOAD_ERR | FE_STATUS | FE_PHASE | PORT_STATUS | PORT_CTRL | PORT_I3C
  | PORT_SERIAL | PORT_MASKED_LINES | PORT_CLEAR | VID_CFG | VID_GAIN | VID_CLIPS | VID_CLEAR | LANE_STATUS
  | LANE_SEQ | LANE_CODE_ERR | LANE_CRC_ERR | LANE_FRAME_ERR | LANE_NOFRAME | LANE_EXTRA | LANE_SEQ_SKIP | LANE_CLEAR
  | PG_STATUS | PG_DESKEW | PG_OUT | PG_OVERRUN | PG_CLEAR | I3C_CFG | I3C_STATUS | I3C_ERRORS | I3C_HOTJOINS
  | I3C_IBIS | I3C_CLEAR | AXH_CHOP | AXH_TON_MAX | AXH_SENSE | AXH_LIM | AXH_STATUS | AXH_CURRENT | AXH_TON
  | AXH_ANGLE | PIPE_CTRL | PIPE_FILL | PIPE_TEMP_AGE | PIPE_WIN_SEL | PIPE_STORE_USED | PIPE_LINE_DONE
  | PIPE_LATENCY_MAX | PIPE_SAT | PIPE_CLIP_LO | PIPE_CLIP_HI | PIPE_LUT_CLAMP | PIPE_ALIGN_GAPS | PIPE_TEMP_STALE
  | PIPE_CLEAR | CMPR_CTRL | CMPR_BLOB_CFG | CMPR_REF_CFG | CMPR_REF_NEXT | CMPR_REF_STATUS | CMPR_REF_BOUND
  | CMPR_REF_INFORCE | CMPR_REGION_BASE | CMPR_REGION_SIZE | CMPR_WARP | CMPR_REG_CORR | CMPR_REG_APPLIED
  | CMPR_ACT_CFG | CMPR_ACT_WIDTH | CMPR_ACT_DIST | CMPR_ACT_LEAD | CMPR_ACT_TRAIL | CMPR_ACT_MIN_GAP | CMPR_ACT_ZONE
  | CMPR_ACT_MARGIN | CMPR_ACT_FIRED | CMPR_ACT_MERGED | CMPR_ACT_CLEAR | CMPR_DEFECTS | CMPR_BLOBS_SMALL
  | CMPR_REF_LATE | CMPR_MODEL_MISMATCH | CMPR_REG_SKIP | CMPR_REG_INVALID | CMPR_REG_LIMIT | CMPR_OVERFLOW
  | CMPR_PAGES_NOREF | CMPR_CLEAR | CMPR_WIN_SEL | PROD_PAGE_STATUS | PROD_PAGE_NUM | PROD_PAGE_FIRST
  | PROD_PAGE_LAST | PROD_PAGE_CTRL | PROD_EDGE_LEFT | PROD_EDGE_RIGHT | PROD_EDGE_OFFSET | PROD_EDGE_LEAD
  | PROD_EDGE_SLOPE | PROD_EDGE_SKEW | PROD_EDGE_LINE | PROD_TRIG_FIRES | PROD_TRIG_HELD | PROD_SEQ_STATE
  | PROD_SEQ_COUNT | PROD_PAGES_LATE | PROD_PAGES_SHORT | PROD_PAGES_FORCED | PROD_PAGES_OVERLAP | PROD_CLOSE_IDLE
  | PROD_EDGE_FAIL | PROD_CLEAR | PROD_CAPTURES | PROD_CTX_STATUS | PROD_CTX_PARCEL | PROD_CTX_PRODUCED
  | PROD_CTX_LINE | DMA_CH_RING_BASE | DMA_CH_RING_SIZE | DMA_CH_CFG | DMA_CH_TIMER | DMA_CH_CTRL | DMA_CH_TAIL
  | DMA_CH_HEAD | DMA_CH_STATUS | DMA_CH_CREDITS | DMA_CH_DONE_BYTES | DMA_CH_CRC | DMA_CH_CUR_DESC | DMA_CH_BAD
  | DMA_CH_CREDIT_DROP | DMA_CH_PACE_IGNORED | DMA_CH_CLEAR | DMA_WIN_SEL | QUE_CMD_LEVEL | QUE_UQ_POP | QUE_UQ_LEVEL
  | QUE_UQ_DROP | QUE_UQ_CLEAR | QUE_HBM_CAP | QUE_HBM_USED | QUE_HBM_RESERVED | QUE_DESC_USED | QUE_LEVEL
  | QUE_SPILL_CFG | QUE_SPILL_STATUS | QUE_LADDER_WM | QUE_LADDER_TIME | QUE_LADDER_STATUS | QUE_PACE_CFG
  | QUE_PACE_STATUS | QUE_STEPS_DOWN | QUE_STEPS_UP | QUE_FORCED | QUE_PACE_STOPS | QUE_STARVED_LINES | QUE_CLEAR
  | QUE_CTX_HBM | QUE_CTX_DRIVE | QUE_CTX_HELD | RP_CFG | RP_PAIRING | RP_TIMEOUT | RP_PORT_STATUS | RP_PORT_CAP
  | RP_PORT_RATE | RP_PORT_RATE_CAP | RP_PORT_WRITE_ERR | RP_PORT_READ_ERR | RP_PORT_TIMEOUTS | RP_PORT_CLEAR
  | RP_CAP | RP_HELD | RP_RESERVED | RP_FREE | RP_RATE | RP_REBUILD_LEFT | CAL_CTRL | CAL_STATUS | CAL_RUN_NUM
  | CAL_CFG | CAL_AUTO_LINES | CAL_AUTO_TIMEOUT | CAL_MIN_SAMPLES | CAL_TOL | CAL_TOL2 | CAL_LIMIT | CAL_LIMIT_OFFSET
  | CAL_TEMP_DELTA | CAL_HOLDOFF | CAL_REGION_MASK | CAL_TILE_CFG | CAL_TILE_OUT | CAL_TILE_SETTLE | CAL_TILE_TARGET
  | CAL_WIN_SEL | CAL_MARK_MASK | CAL_MARK_OPEN | CAL_DARK | CAL_SEG_TEMP | CAL_SEG_STATUS | CAL_SEG_LAST_RUN
  | CAL_RUNS_ACCEPTED | CAL_RUNS_REJECTED | CAL_RUNS_OTHER | CAL_TRIGGERS | CAL_CLEAR | CAL_BASE_DIR | CAL_BASE_LEN
  | CAL_BASE_SEQ | CAL_BASE_SEL | CAL_TEMP_REF | AX_CTRL | AX_STATUS | AX_POS | AX_POS_FRAC | AX_VEL | AX_REMAIN
  | AX_VMAX | AX_DECEL_STOP | AX_DECEL_QUICK | AX_ACCEL | AX_VRESUME | AX_SOFT_MIN | AX_SOFT_MAX | AX_SOFT_CFG
  | AX_CURRENT | AX_CURRENT2 | AX_BRAKE_CFG | AX_MSTEP_THR | AX_MSTEP_CFG | AX_GEAR | AX_GEAR_NEXT | AX_GEAR_AT
  | AX_GEAR_CTRL | AX_GEAR_STATUS | AX_GEAR_APPLIED | AX_SHEET_CFG | AX_SHEET_ACCEL | AX_BACKUP_VEL | AX_LIM_CLEAR
  | AX_LIM_TRIP_NEG | AX_LIM_TRIP_POS | AX_HOME_VEL | AX_HOME_MAXDIST | AX_HOME_BACKOFF | AX_HOME_POS
  | AX_LIM_REF_NEG | AX_LIM_REF_POS | AX_STALL_CFG | AX_STALL_CAL | AX_STALL_VMIN | AX_STALLS | AX_LIM_TRIPS
  | AX_LIM_CHATTER | AX_STARVED | AX_OVERCURRENT | AX_TON_LIMITED | AX_BLEND_SKIPPED | AX_CLEAR | AUX_CHAIN_CFG
  | AUX_CHAIN_OSR | AUX_CHAIN_STATUS | AUX_CHAIN_CTRL | AUX_URGENT | AUX_START_DROP | AUX_URGENT_DROP
  | AUX_CHAIN_CLEAR | AUX_RESULT | AUX_RESULT_TAG | AUX_RESULT_TIME | AUX_RESULT_SEQ | AUX_RAW | AUX_LEAD | AUX_GUARD
  | AUX_EXC | AUX_BRIDGE | AUX_RATIO_CFG | AUX_RATIO_SCALE | AUX_RATIO_OFFSET | AUX_RATIO_TIMEOUT | AUX_RATIO_STATE
  | AUX_RATIO_FAULT | SYNC_CFG | SYNC_STATUS | SYNC_CTRL | SYNC_FIRE_SRC | SYNC_POS_TOL | SYNC_POS_OFFSET
  | SYNC_FIRE_POS | SYNC_FIRE_LOCAL | SYNC_FIRE_INFO | SYNC_FIRE_TIME | SYNC_FIRES | SYNC_FIRE_IGNORED | SYNC_CRC_ERR
  | SYNC_BAD_FRAME | EVOUT_CONFLICT | SYNC_CLEAR | TRIG_PIN_CFG | TRIG_PIN_STATE | EVOUT_CFG | EVOUT_STATE | BTN_CFG
  | BTN_STATE | IND_CFG | SEC_STATUS | SEC_SLOT_VERSION | SEC_SLOT_BUILD | SEC_UNIT_ID_LO | SEC_UNIT_ID_HI
  | SEC_VERIFY_TIME | SEC_CKPT_NUM | SEC_SIG_FAILS | SEC_SPDM_REQUESTS | SEC_SPDM_ERRORS | SEC_CLEAR
  | SEC_OPTION_CTRL | SEC_OPTION_STATUS | MEM_STATUS | MEM_CORRECTED | MEM_UNCORRECTED | MEM_LAST_ADDR
  | MEM_SCRUB_PASSES | MEM_CLEAR | DIAG_INJECT | DIAG_ECC_COUNT | DIAG_ECC_UNCORR | DIAG_CLEAR
  deriving DecidableEq, Repr

def GLB_ID.DEVICE : Fld := ⟨0, 16⟩
def GLB_ID.REVISION : Fld := ⟨16, 8⟩
def GLB_STATUS.BOOT_COMPLETE : Fld := ⟨0, 1⟩
def GLB_STATUS.CROWN : Fld := ⟨1, 1⟩
def GLB_STATUS.REPLAYING : Fld := ⟨2, 1⟩
def GLB_STATUS.LINK_RATE : Fld := ⟨4, 3⟩
def GLB_STATUS.LINK_WIDTH : Fld := ⟨8, 5⟩
def GLB_TIME.NS : Fld := ⟨0, 64⟩
def GLB_SCRATCH.VALUE : Fld := ⟨0, 64⟩
def GLB_TJ.TEMP : Fld := ⟨0, 16⟩
def GLB_TJ.VALID : Fld := ⟨16, 1⟩
def GLB_TJ_MAX.TEMP : Fld := ⟨0, 16⟩
def GLB_TJ_CLEAR.MAX : Fld := ⟨0, 1⟩
def RST_CAUSE.CAUSE : Fld := ⟨0, 51⟩
def RST_LAST.REACH : Fld := ⟨0, 3⟩
def RST_LAST.SOURCE : Fld := ⟨8, 6⟩
def RST_LAST.DOMAINS : Fld := ⟨16, 24⟩
def RST_LAST_TIME.NS : Fld := ⟨0, 64⟩
def RST_COUNT_BLOCK.COUNT : Fld := ⟨0, 32⟩
def RST_COUNT_DIE.COUNT : Fld := ⟨0, 32⟩
def RST_COUNT_PATH.COUNT : Fld := ⟨0, 32⟩
def RST_COUNT_WARM.COUNT : Fld := ⟨0, 32⟩
def RST_ISOLATIONS.COUNT : Fld := ⟨0, 32⟩
def RST_CLEAR.COUNTERS : Fld := ⟨0, 5⟩
def RST_REACH.DEFAULT : Fld := ⟨0, 3⟩
def RST_REACH.FUSED : Fld := ⟨4, 3⟩
def RST_REACH.EFFECTIVE : Fld := ⟨8, 3⟩
def RST_DOMAIN_POWER.DOMAINS : Fld := ⟨0, 24⟩
def RST_DOMAIN_RESET.DOMAINS : Fld := ⟨0, 24⟩
def RST_DOMAIN_FAILED.DOMAINS : Fld := ⟨0, 24⟩
def RST_STATUS.BOOT_COMPLETE : Fld := ⟨0, 1⟩
def RST_STATUS.CROWN : Fld := ⟨1, 1⟩
def RST_STATUS.RELEASING : Fld := ⟨2, 1⟩
def RST_STATUS.REACH : Fld := ⟨3, 3⟩
def RST_STATUS.CROWN_REASON : Fld := ⟨8, 4⟩
def RST_STATUS.STEP : Fld := ⟨16, 5⟩
def RST_FAILED_STARTS.COUNT : Fld := ⟨0, 2⟩
def RST_IDLE_TIMEOUT.US : Fld := ⟨0, 16⟩
def RST_CROWN_GO.GO : Fld := ⟨0, 1⟩
def RST_CROWN_STATUS.BUSY : Fld := ⟨0, 1⟩
def RST_CROWN_STATUS.DONE : Fld := ⟨1, 1⟩
def EVT_STATUS.FLAGS : Fld := ⟨0, 32⟩
def EVT_ENABLE.EN : Fld := ⟨0, 32⟩
def EVT_WRAPPED.WRAPPED : Fld := ⟨0, 32⟩
def EVT_CTRL.SOURCE : Fld := ⟨0, 11⟩
def EVT_CTRL.CLEAR_COUNT : Fld := ⟨16, 1⟩
def EVT_CTRL.SW_SET : Fld := ⟨17, 1⟩
def EVT_LOG_BASE.BASE : Fld := ⟨12, 52⟩
def EVT_LOG_CFG.SIZE : Fld := ⟨0, 16⟩
def EVT_LOG_CFG.ENABLE : Fld := ⟨16, 1⟩
def EVT_LOG_WRITTEN.COUNT : Fld := ⟨0, 32⟩
def EVT_LOG_READ.COUNT : Fld := ⟨0, 32⟩
def EVT_LOG_DROP.COUNT : Fld := ⟨0, 32⟩
def EVT_RING_UNSENT.COUNT : Fld := ⟨0, 32⟩
def EVT_CLEAR.COUNTERS : Fld := ⟨0, 2⟩
def EVT_PULSE.WIDTH : Fld := ⟨0, 31⟩
def EVT_PULSE.POLARITY : Fld := ⟨31, 1⟩
def EVT_ROUTE.VECTOR : Fld := ⟨0, 11⟩
def EVT_ROUTE.VEC_EN : Fld := ⟨11, 1⟩
def EVT_ROUTE.OUT : Fld := ⟨12, 4⟩
def EVT_ROUTE.OUT_EN : Fld := ⟨16, 1⟩
def EVT_ROUTE.RING_EN : Fld := ⟨17, 1⟩
def EVT_ROUTE.LOG_EN : Fld := ⟨18, 1⟩
def EVT_ROUTE.UQ : Fld := ⟨19, 4⟩
def EVT_ROUTE.UQ_EN : Fld := ⟨23, 1⟩
def EVT_ROUTE.PROC : Fld := ⟨24, 2⟩
def EVT_COUNT.COUNT : Fld := ⟨0, 32⟩
def RING_SQ_BASE.BASE : Fld := ⟨6, 58⟩
def RING_SQ_CFG.SIZE : Fld := ⟨0, 16⟩
def RING_SQ_CFG.CQ : Fld := ⟨16, 6⟩
def RING_SQ_QUOTA.QUOTA : Fld := ⟨0, 10⟩
def RING_SQ_CTRL.ENABLE : Fld := ⟨0, 1⟩
def RING_SQ_STATUS.ENABLED : Fld := ⟨0, 1⟩
def RING_SQ_STATUS.CFG_ERR : Fld := ⟨8, 8⟩
def RING_SQ_STATUS.IN_FLIGHT : Fld := ⟨16, 10⟩
def RING_SQ_FETCHED.COUNT : Fld := ⟨0, 32⟩
def RING_SQ_CREDIT.LIMIT : Fld := ⟨0, 32⟩
def RING_CQ_BASE.BASE : Fld := ⟨5, 59⟩
def RING_CQ_CFG.SIZE : Fld := ⟨0, 16⟩
def RING_CQ_CFG.VECTOR : Fld := ⟨16, 11⟩
def RING_CQ_CFG.IRQ_EN : Fld := ⟨27, 1⟩
def RING_CQ_CTRL.ENABLE : Fld := ⟨0, 1⟩
def RING_CQ_STATUS.ENABLED : Fld := ⟨0, 1⟩
def RING_CQ_STATUS.FULL : Fld := ⟨1, 1⟩
def RING_CQ_STATUS.CFG_ERR : Fld := ⟨8, 8⟩
def RING_CQ_WRITTEN.COUNT : Fld := ⟨0, 32⟩
def RING_CQ_COALESCE.COUNT : Fld := ⟨0, 8⟩
def RING_CQ_COALESCE.HOLDOFF : Fld := ⟨16, 16⟩
def RING_TOTAL_IN_FLIGHT.IN_FLIGHT : Fld := ⟨0, 10⟩
def RING_TOTAL_IN_FLIGHT.QUOTAS : Fld := ⟨16, 10⟩
def DBELL_SQ.COUNT : Fld := ⟨0, 32⟩
def DBELL_CQ.COUNT : Fld := ⟨0, 32⟩
def LEDG_STATUS.REPLAYING : Fld := ⟨0, 1⟩
def LEDG_STATUS.CLOSED : Fld := ⟨1, 1⟩
def LEDG_STATUS.TORN : Fld := ⟨2, 1⟩
def LEDG_NVS_SEQ.SEQ : Fld := ⟨0, 56⟩
def LEDG_CKPT_SEQ.SEQ : Fld := ⟨0, 56⟩
def LEDG_REPLAYS.COUNT : Fld := ⟨0, 32⟩
def LEDG_MIRROR.ENABLE : Fld := ⟨0, 1⟩
def LEDG_MIRROR.BASE : Fld := ⟨12, 52⟩
def LEDG_DURABLE.PARCEL : Fld := ⟨0, 56⟩
def ESC_TRACK_POS.POS : Fld := ⟨0, 64⟩
def ESC_VELOCITY.VEL : Fld := ⟨0, 32⟩
def ESC_SOURCE.KIND : Fld := ⟨0, 2⟩
def ESC_SOURCE.NUM : Fld := ⟨4, 3⟩
def ESC_RATIO.N : Fld := ⟨0, 32⟩
def ESC_RATIO.D : Fld := ⟨32, 32⟩
def ESC_RATIO_NEXT.N : Fld := ⟨0, 32⟩
def ESC_RATIO_NEXT.D : Fld := ⟨32, 32⟩
def ESC_RATIO_AT.AT : Fld := ⟨0, 64⟩
def ESC_RATIO_CTRL.ARM : Fld := ⟨0, 1⟩
def ESC_RATIO_CTRL.CANCEL : Fld := ⟨1, 1⟩
def ESC_RATIO_STATUS.PENDING : Fld := ⟨0, 1⟩
def ESC_RATIO_STATUS.LATE : Fld := ⟨1, 1⟩
def ESC_RATIO_APPLIED.AT : Fld := ⟨0, 64⟩
def ESC_MASTER.COUNT : Fld := ⟨0, 64⟩
def ESC_LINE.NUM : Fld := ⟨0, 56⟩
def ESC_LINE_POS.POS : Fld := ⟨0, 64⟩
def ESC_BANK.STREAM_USED : Fld := ⟨0, 9⟩
def ESC_BANK.DYN_USED : Fld := ⟨16, 8⟩
def ESC_ACT_DROP.COUNT : Fld := ⟨0, 32⟩
def ESC_STILL_TIME.TIME : Fld := ⟨0, 24⟩
def ESC_CLEAR.ACT_DROP : Fld := ⟨0, 1⟩
def ESC_CLEAR.EVT_LATE : Fld := ⟨1, 1⟩
def ESC_EVT_LATE.COUNT : Fld := ⟨0, 32⟩
def ENC_CFG.ENABLE : Fld := ⟨0, 1⟩
def ENC_CFG.INVERT : Fld := ⟨1, 1⟩
def ENC_CFG.INDEX_EN : Fld := ⟨2, 1⟩
def ENC_CFG.FILT : Fld := ⟨4, 8⟩
def ENC_COUNT.COUNT : Fld := ⟨0, 64⟩
def ENC_EDGE_TIME.TIME : Fld := ⟨0, 64⟩
def ENC_INDEX_POS.POS : Fld := ⟨0, 64⟩
def ENC_STATUS.LOS : Fld := ⟨0, 1⟩
def ENC_STATUS.DIR : Fld := ⟨1, 1⟩
def ENC_ILLEGAL.COUNT : Fld := ⟨0, 32⟩
def ENC_CLEAR.ILLEGAL : Fld := ⟨0, 1⟩
def TTBL_IMAGE.LOADED : Fld := ⟨0, 1⟩
def TTBL_IMAGE.ACTIVE : Fld := ⟨1, 1⟩
def TTBL_IMAGE.PENDING : Fld := ⟨2, 1⟩
def TTBL_IMAGE_LEN.LENGTH : Fld := ⟨0, 32⟩
def TTBL_ACT_POS.A : Fld := ⟨0, 64⟩
def TTBL_STATUS.ACT_LATE : Fld := ⟨0, 1⟩
def TTBL_STATUS.NONE : Fld := ⟨1, 1⟩
def TTBL_STATUS.ACTIVE_NUM : Fld := ⟨2, 2⟩
def TTBL_SHADOW_CTRL.HOLD : Fld := ⟨0, 1⟩
def TTBL_HANDOVER_NOW.GO : Fld := ⟨0, 1⟩
def TTBL_HANDOVERS.COUNT : Fld := ⟨0, 64⟩
def TTBL_GEN_COMMIT.CLASS : Fld := ⟨0, 12⟩
def TTBL_GEN_STATUS.PENDING : Fld := ⟨0, 12⟩
def TTBL_GEN_STATUS.BANK_BUSY : Fld := ⟨16, 12⟩
def TTBL_GEN_OWNER.TT : Fld := ⟨0, 12⟩
def TTBL_GEN_INFORCE.GEN : Fld := ⟨0, 16⟩
def TTBL_GEN_INFORCE.BANK : Fld := ⟨16, 1⟩
def TTBL_LOAD_ERR.OFFSET : Fld := ⟨0, 32⟩
def TTBL_LOAD_ERR.STATUS : Fld := ⟨32, 8⟩
def TTBL_LOAD_ERR.ORDER : Fld := ⟨40, 4⟩
def FE_STATUS.LINK_UP : Fld := ⟨0, 1⟩
def FE_STATUS.PLL_LOCK : Fld := ⟨1, 1⟩
def FE_PHASE.PHASE : Fld := ⟨0, 16⟩
def PORT_STATUS.SEG : Fld := ⟨0, 6⟩
def PORT_STATUS.ASSIGNED : Fld := ⟨6, 1⟩
def PORT_STATUS.STATE : Fld := ⟨8, 3⟩
def PORT_STATUS.POWER : Fld := ⟨11, 1⟩
def PORT_STATUS.CLOCKS : Fld := ⟨12, 1⟩
def PORT_STATUS.CAUSE : Fld := ⟨16, 4⟩
def PORT_CTRL.RESUME : Fld := ⟨0, 1⟩
def PORT_CTRL.POWER_OFF : Fld := ⟨1, 1⟩
def PORT_I3C.ADDR : Fld := ⟨0, 7⟩
def PORT_SERIAL.SERIAL : Fld := ⟨0, 64⟩
def PORT_MASKED_LINES.COUNT : Fld := ⟨0, 32⟩
def PORT_CLEAR.MASKED_LINES : Fld := ⟨0, 1⟩
def VID_CFG.POLARITY : Fld := ⟨0, 1⟩
def VID_GAIN.GAIN : Fld := ⟨0, 10⟩
def VID_GAIN.OFFSET : Fld := ⟨16, 10⟩
def VID_CLIPS.COUNT : Fld := ⟨0, 32⟩
def VID_CLEAR.CLIPS : Fld := ⟨0, 1⟩
def LANE_STATUS.STATE : Fld := ⟨0, 2⟩
def LANE_SEQ.SEQ : Fld := ⟨0, 16⟩
def LANE_CODE_ERR.COUNT : Fld := ⟨0, 32⟩
def LANE_CRC_ERR.COUNT : Fld := ⟨0, 32⟩
def LANE_FRAME_ERR.COUNT : Fld := ⟨0, 32⟩
def LANE_NOFRAME.COUNT : Fld := ⟨0, 32⟩
def LANE_EXTRA.COUNT : Fld := ⟨0, 32⟩
def LANE_SEQ_SKIP.COUNT : Fld := ⟨0, 32⟩
def LANE_CLEAR.COUNTERS : Fld := ⟨0, 6⟩
def PG_STATUS.TABLE : Fld := ⟨0, 4⟩
def PG_STATUS.RUNNING : Fld := ⟨4, 1⟩
def PG_STATUS.OUT_EN : Fld := ⟨5, 1⟩
def PG_DESKEW.DESKEW : Fld := ⟨0, 6⟩
def PG_OUT.PAIR_DIFF : Fld := ⟨0, 3⟩
def PG_OUT.DRIVE : Fld := ⟨4, 2⟩
def PG_OVERRUN.COUNT : Fld := ⟨0, 32⟩
def PG_CLEAR.OVERRUN : Fld := ⟨0, 1⟩
def I3C_CFG.RATE : Fld := ⟨0, 3⟩
def I3C_STATUS.BOUND : Fld := ⟨0, 6⟩
def I3C_ERRORS.COUNT : Fld := ⟨0, 32⟩
def I3C_HOTJOINS.COUNT : Fld := ⟨0, 32⟩
def I3C_IBIS.COUNT : Fld := ⟨0, 32⟩
def I3C_CLEAR.COUNTERS : Fld := ⟨0, 3⟩
def AXH_CHOP.T_OFF : Fld := ⟨0, 10⟩
def AXH_CHOP.T_BLANK : Fld := ⟨16, 8⟩
def AXH_CHOP.DECAY : Fld := ⟨24, 4⟩
def AXH_TON_MAX.TON : Fld := ⟨0, 16⟩
def AXH_SENSE.I_OC : Fld := ⟨0, 12⟩
def AXH_LIM.FILT : Fld := ⟨0, 8⟩
def AXH_LIM.NEG_INV : Fld := ⟨8, 1⟩
def AXH_LIM.POS_INV : Fld := ⟨9, 1⟩
def AXH_LIM.LIM_EN : Fld := ⟨10, 1⟩
def AXH_STATUS.LIM_NEG_IN : Fld := ⟨0, 1⟩
def AXH_STATUS.LIM_POS_IN : Fld := ⟨1, 1⟩
def AXH_STATUS.FAULT_IN : Fld := ⟨2, 1⟩
def AXH_STATUS.DRIVE : Fld := ⟨3, 1⟩
def AXH_STATUS.BRAKE : Fld := ⟨4, 1⟩
def AXH_CURRENT.IA : Fld := ⟨0, 16⟩
def AXH_CURRENT.IB : Fld := ⟨16, 16⟩
def AXH_TON.TON : Fld := ⟨0, 16⟩
def AXH_TON.LA : Fld := ⟨16, 10⟩
def AXH_ANGLE.THETA : Fld := ⟨0, 10⟩
def PIPE_CTRL.AVG : Fld := ⟨0, 3⟩
def PIPE_CTRL.DARK_EN : Fld := ⟨3, 1⟩
def PIPE_CTRL.SHADE_EN : Fld := ⟨4, 1⟩
def PIPE_CTRL.DRIFT_EN : Fld := ⟨5, 1⟩
def PIPE_CTRL.TEMP_EN : Fld := ⟨6, 1⟩
def PIPE_FILL.FILL : Fld := ⟨0, 16⟩
def PIPE_TEMP_AGE.MAX_AGE : Fld := ⟨0, 16⟩
def PIPE_WIN_SEL.CLASS : Fld := ⟨0, 4⟩
def PIPE_WIN_SEL.PAGE : Fld := ⟨8, 8⟩
def PIPE_STORE_USED.SLOTS : Fld := ⟨0, 23⟩
def PIPE_LINE_DONE.LINE : Fld := ⟨0, 56⟩
def PIPE_LATENCY_MAX.NS : Fld := ⟨0, 32⟩
def PIPE_SAT.COUNT : Fld := ⟨0, 32⟩
def PIPE_CLIP_LO.COUNT : Fld := ⟨0, 32⟩
def PIPE_CLIP_HI.COUNT : Fld := ⟨0, 32⟩
def PIPE_LUT_CLAMP.COUNT : Fld := ⟨0, 32⟩
def PIPE_ALIGN_GAPS.COUNT : Fld := ⟨0, 32⟩
def PIPE_TEMP_STALE.COUNT : Fld := ⟨0, 32⟩
def PIPE_CLEAR.SAT : Fld := ⟨0, 1⟩
def PIPE_CLEAR.CLIP : Fld := ⟨1, 1⟩
def PIPE_CLEAR.LUT_CLAMP : Fld := ⟨2, 1⟩
def PIPE_CLEAR.ALIGN : Fld := ⟨3, 1⟩
def PIPE_CLEAR.TEMP : Fld := ⟨4, 1⟩
def PIPE_CLEAR.LATENCY : Fld := ⟨5, 1⟩
def CMPR_CTRL.EN : Fld := ⟨0, 1⟩
def CMPR_CTRL.REG_EN : Fld := ⟨1, 1⟩
def CMPR_CTRL.HOLD_UNREG : Fld := ⟨2, 1⟩
def CMPR_CTRL.COLOUR_EN : Fld := ⟨3, 1⟩
def CMPR_CTRL.REPORT_SMALL : Fld := ⟨4, 1⟩
def CMPR_CTRL.REG_INIT : Fld := ⟨5, 2⟩
def CMPR_CTRL.REG_WIDTH : Fld := ⟨8, 2⟩
def CMPR_CTRL.REG_PLANE : Fld := ⟨10, 2⟩
def CMPR_BLOB_CFG.MAX_BLOB_LINES : Fld := ⟨0, 16⟩
def CMPR_REF_CFG.REGION : Fld := ⟨0, 4⟩
def CMPR_REF_CFG.STEP : Fld := ⟨8, 8⟩
def CMPR_REF_NEXT.PAGE_ID : Fld := ⟨0, 32⟩
def CMPR_REF_STATUS.REGION : Fld := ⟨0, 4⟩
def CMPR_REF_STATUS.BOUND : Fld := ⟨4, 1⟩
def CMPR_REF_BOUND.PAGE_ID : Fld := ⟨0, 32⟩
def CMPR_REF_INFORCE.PAGE_ID : Fld := ⟨0, 32⟩
def CMPR_REGION_BASE.OFFSET : Fld := ⟨0, 64⟩
def CMPR_REGION_SIZE.BYTES : Fld := ⟨0, 64⟩
def CMPR_WARP.WX : Fld := ⟨0, 16⟩
def CMPR_WARP.WY : Fld := ⟨16, 16⟩
def CMPR_REG_CORR.CX : Fld := ⟨0, 10⟩
def CMPR_REG_CORR.VALID : Fld := ⟨10, 1⟩
def CMPR_REG_CORR.LIMIT : Fld := ⟨11, 1⟩
def CMPR_REG_CORR.CY : Fld := ⟨16, 10⟩
def CMPR_REG_APPLIED.LINE : Fld := ⟨0, 56⟩
def CMPR_REG_APPLIED.REGISTERED : Fld := ⟨56, 1⟩
def CMPR_ACT_CFG.OUTPUT : Fld := ⟨0, 4⟩
def CMPR_ACT_CFG.EN : Fld := ⟨4, 1⟩
def CMPR_ACT_CFG.MODE : Fld := ⟨5, 1⟩
def CMPR_ACT_CFG.POLARITY : Fld := ⟨6, 1⟩
def CMPR_ACT_WIDTH.NS : Fld := ⟨0, 32⟩
def CMPR_ACT_DIST.PQ : Fld := ⟨0, 64⟩
def CMPR_ACT_LEAD.PQ : Fld := ⟨0, 32⟩
def CMPR_ACT_TRAIL.PQ : Fld := ⟨0, 32⟩
def CMPR_ACT_MIN_GAP.PQ : Fld := ⟨0, 32⟩
def CMPR_ACT_ZONE.COL_FIRST : Fld := ⟨0, 18⟩
def CMPR_ACT_ZONE.COL_LAST : Fld := ⟨32, 18⟩
def CMPR_ACT_MARGIN.PQ : Fld := ⟨0, 64⟩
def CMPR_ACT_FIRED.COUNT : Fld := ⟨0, 32⟩
def CMPR_ACT_MERGED.COUNT : Fld := ⟨0, 32⟩
def CMPR_ACT_CLEAR.WHAT : Fld := ⟨0, 3⟩
def CMPR_DEFECTS.COUNT : Fld := ⟨0, 32⟩
def CMPR_BLOBS_SMALL.COUNT : Fld := ⟨0, 32⟩
def CMPR_REF_LATE.COUNT : Fld := ⟨0, 32⟩
def CMPR_MODEL_MISMATCH.COUNT : Fld := ⟨0, 32⟩
def CMPR_REG_SKIP.COUNT : Fld := ⟨0, 32⟩
def CMPR_REG_INVALID.COUNT : Fld := ⟨0, 32⟩
def CMPR_REG_LIMIT.COUNT : Fld := ⟨0, 32⟩
def CMPR_OVERFLOW.COUNT : Fld := ⟨0, 32⟩
def CMPR_PAGES_NOREF.COUNT : Fld := ⟨0, 32⟩
def CMPR_CLEAR.COUNTERS : Fld := ⟨0, 9⟩
def CMPR_WIN_SEL.CLASS : Fld := ⟨0, 4⟩
def CMPR_WIN_SEL.PAGE : Fld := ⟨8, 8⟩
def PROD_PAGE_STATUS.OPEN : Fld := ⟨0, 1⟩
def PROD_PAGE_STATUS.FLAGS : Fld := ⟨1, 7⟩
def PROD_PAGE_NUM.PAGE : Fld := ⟨0, 64⟩
def PROD_PAGE_FIRST.LINE : Fld := ⟨0, 56⟩
def PROD_PAGE_LAST.LINE : Fld := ⟨0, 56⟩
def PROD_PAGE_CTRL.OPEN : Fld := ⟨0, 1⟩
def PROD_PAGE_CTRL.CLOSE : Fld := ⟨1, 1⟩
def PROD_EDGE_LEFT.VALUE : Fld := ⟨0, 32⟩
def PROD_EDGE_RIGHT.VALUE : Fld := ⟨0, 32⟩
def PROD_EDGE_OFFSET.VALUE : Fld := ⟨0, 32⟩
def PROD_EDGE_LEAD.VALUE : Fld := ⟨0, 32⟩
def PROD_EDGE_SLOPE.VALUE : Fld := ⟨0, 32⟩
def PROD_EDGE_SKEW.VALUE : Fld := ⟨0, 32⟩
def PROD_EDGE_LINE.LINE : Fld := ⟨0, 56⟩
def PROD_TRIG_FIRES.COUNT : Fld := ⟨0, 32⟩
def PROD_TRIG_HELD.COUNT : Fld := ⟨0, 32⟩
def PROD_SEQ_STATE.STATE : Fld := ⟨0, 4⟩
def PROD_SEQ_STATE.DEFINED : Fld := ⟨4, 1⟩
def PROD_SEQ_COUNT.COUNT : Fld := ⟨0, 32⟩
def PROD_PAGES_LATE.COUNT : Fld := ⟨0, 32⟩
def PROD_PAGES_SHORT.COUNT : Fld := ⟨0, 32⟩
def PROD_PAGES_FORCED.COUNT : Fld := ⟨0, 32⟩
def PROD_PAGES_OVERLAP.COUNT : Fld := ⟨0, 32⟩
def PROD_CLOSE_IDLE.COUNT : Fld := ⟨0, 32⟩
def PROD_EDGE_FAIL.COUNT : Fld := ⟨0, 32⟩
def PROD_CLEAR.COUNTERS : Fld := ⟨0, 6⟩
def PROD_CLEAR.TRIG : Fld := ⟨6, 1⟩
def PROD_CAPTURES.COUNT : Fld := ⟨0, 5⟩
def PROD_CTX_STATUS.STATE : Fld := ⟨0, 2⟩
def PROD_CTX_STATUS.KIND : Fld := ⟨8, 8⟩
def PROD_CTX_PARCEL.BYTES : Fld := ⟨0, 32⟩
def PROD_CTX_PRODUCED.PARCEL : Fld := ⟨0, 56⟩
def PROD_CTX_LINE.LINE : Fld := ⟨0, 56⟩
def DMA_CH_RING_BASE.SPACE : Fld := ⟨0, 1⟩
def DMA_CH_RING_BASE.BASE : Fld := ⟨6, 58⟩
def DMA_CH_RING_SIZE.SIZE : Fld := ⟨0, 16⟩
def DMA_CH_CFG.CREDIT_SRC : Fld := ⟨0, 2⟩
def DMA_CH_CFG.CHAIN_FROM : Fld := ⟨8, 6⟩
def DMA_CH_CFG.WEIGHT : Fld := ⟨16, 4⟩
def DMA_CH_TIMER.PERIOD : Fld := ⟨0, 32⟩
def DMA_CH_CTRL.ENABLE : Fld := ⟨0, 1⟩
def DMA_CH_CTRL.PAUSE : Fld := ⟨1, 1⟩
def DMA_CH_CTRL.RESTART : Fld := ⟨2, 1⟩
def DMA_CH_TAIL.COUNT : Fld := ⟨0, 32⟩
def DMA_CH_HEAD.COUNT : Fld := ⟨0, 32⟩
def DMA_CH_STATUS.STATE : Fld := ⟨0, 3⟩
def DMA_CH_STATUS.HALT_CAUSE : Fld := ⟨8, 8⟩
def DMA_CH_CREDITS.COUNT : Fld := ⟨0, 16⟩
def DMA_CH_DONE_BYTES.BYTES : Fld := ⟨0, 32⟩
def DMA_CH_CRC.VALUE : Fld := ⟨0, 64⟩
def DMA_CH_CUR_DESC.ADDR : Fld := ⟨0, 64⟩
def DMA_CH_BAD.COUNT : Fld := ⟨0, 32⟩
def DMA_CH_CREDIT_DROP.COUNT : Fld := ⟨0, 32⟩
def DMA_CH_PACE_IGNORED.COUNT : Fld := ⟨0, 32⟩
def DMA_CH_CLEAR.COUNTERS : Fld := ⟨0, 3⟩
def DMA_WIN_SEL.PAGE : Fld := ⟨0, 3⟩
def QUE_CMD_LEVEL.ENTRIES : Fld := ⟨0, 10⟩
def QUE_UQ_POP.PAYLOAD : Fld := ⟨0, 56⟩
def QUE_UQ_POP.VALID : Fld := ⟨63, 1⟩
def QUE_UQ_LEVEL.ENTRIES : Fld := ⟨0, 6⟩
def QUE_UQ_DROP.COUNT : Fld := ⟨0, 32⟩
def QUE_UQ_CLEAR.DROP : Fld := ⟨0, 16⟩
def QUE_HBM_CAP.BYTES : Fld := ⟨0, 64⟩
def QUE_HBM_USED.BYTES : Fld := ⟨0, 64⟩
def QUE_HBM_RESERVED.BYTES : Fld := ⟨0, 64⟩
def QUE_DESC_USED.COUNT : Fld := ⟨0, 23⟩
def QUE_LEVEL.LEVEL : Fld := ⟨0, 11⟩
def QUE_SPILL_CFG.ON : Fld := ⟨0, 11⟩
def QUE_SPILL_CFG.OFF : Fld := ⟨16, 11⟩
def QUE_SPILL_STATUS.ACTIVE : Fld := ⟨0, 1⟩
def QUE_LADDER_WM.DOWN : Fld := ⟨0, 11⟩
def QUE_LADDER_WM.UP : Fld := ⟨16, 11⟩
def QUE_LADDER_TIME.STEP_LINES : Fld := ⟨0, 16⟩
def QUE_LADDER_TIME.UP_LINES : Fld := ⟨16, 16⟩
def QUE_LADDER_STATUS.RUNG : Fld := ⟨0, 2⟩
def QUE_LADDER_STATUS.MAXF : Fld := ⟨2, 2⟩
def QUE_LADDER_STATUS.FORCED : Fld := ⟨4, 1⟩
def QUE_LADDER_STATUS.UP_COUNT : Fld := ⟨16, 16⟩
def QUE_PACE_CFG.HIGH : Fld := ⟨0, 11⟩
def QUE_PACE_CFG.LOW : Fld := ⟨16, 11⟩
def QUE_PACE_STATUS.PAUSED : Fld := ⟨0, 1⟩
def QUE_STEPS_DOWN.COUNT : Fld := ⟨0, 32⟩
def QUE_STEPS_UP.COUNT : Fld := ⟨0, 32⟩
def QUE_FORCED.COUNT : Fld := ⟨0, 32⟩
def QUE_PACE_STOPS.COUNT : Fld := ⟨0, 32⟩
def QUE_STARVED_LINES.COUNT : Fld := ⟨0, 32⟩
def QUE_CLEAR.COUNTERS : Fld := ⟨0, 5⟩
def QUE_CTX_HBM.PARCELS : Fld := ⟨0, 32⟩
def QUE_CTX_DRIVE.PARCELS : Fld := ⟨0, 32⟩
def QUE_CTX_HELD.PARCELS : Fld := ⟨0, 48⟩
def RP_CFG.BIFURCATION : Fld := ⟨0, 4⟩
def RP_CFG.ENABLED : Fld := ⟨4, 1⟩
def RP_PAIRING.PAIRS : Fld := ⟨0, 2⟩
def RP_TIMEOUT.MS : Fld := ⟨0, 16⟩
def RP_PORT_STATUS.STATE : Fld := ⟨0, 3⟩
def RP_PORT_STATUS.PRESENT : Fld := ⟨3, 1⟩
def RP_PORT_STATUS.RATE : Fld := ⟨4, 3⟩
def RP_PORT_STATUS.WIDTH : Fld := ⟨7, 4⟩
def RP_PORT_STATUS.DEGRADED : Fld := ⟨11, 1⟩
def RP_PORT_STATUS.REBUILDING : Fld := ⟨12, 1⟩
def RP_PORT_STATUS.CAUSE : Fld := ⟨16, 4⟩
def RP_PORT_CAP.BYTES : Fld := ⟨0, 64⟩
def RP_PORT_RATE.MBPS : Fld := ⟨0, 32⟩
def RP_PORT_RATE_CAP.MBPS : Fld := ⟨0, 32⟩
def RP_PORT_WRITE_ERR.COUNT : Fld := ⟨0, 32⟩
def RP_PORT_READ_ERR.COUNT : Fld := ⟨0, 32⟩
def RP_PORT_TIMEOUTS.COUNT : Fld := ⟨0, 32⟩
def RP_PORT_CLEAR.COUNTERS : Fld := ⟨0, 3⟩
def RP_CAP.BYTES : Fld := ⟨0, 64⟩
def RP_HELD.BYTES : Fld := ⟨0, 64⟩
def RP_RESERVED.BYTES : Fld := ⟨0, 64⟩
def RP_FREE.BYTES : Fld := ⟨0, 64⟩
def RP_RATE.MBPS : Fld := ⟨0, 32⟩
def RP_REBUILD_LEFT.BYTES : Fld := ⟨0, 64⟩
def CAL_CTRL.AUTO_EN : Fld := ⟨0, 1⟩
def CAL_CTRL.RESTORE : Fld := ⟨1, 1⟩
def CAL_CTRL.STAGE_HOLD : Fld := ⟨2, 1⟩
def CAL_CTRL.AUTO_ANCHOR : Fld := ⟨3, 1⟩
def CAL_STATUS.BUSY : Fld := ⟨0, 1⟩
def CAL_STATUS.RUNNING : Fld := ⟨1, 1⟩
def CAL_STATUS.SET : Fld := ⟨2, 1⟩
def CAL_STATUS.RESTORE_PENDING : Fld := ⟨3, 1⟩
def CAL_STATUS.RESTORE_RESULT : Fld := ⟨8, 4⟩
def CAL_RUN_NUM.RUN : Fld := ⟨0, 32⟩
def CAL_CFG.AUTO_KIND : Fld := ⟨0, 2⟩
def CAL_CFG.MARKS_ONLY : Fld := ⟨2, 1⟩
def CAL_AUTO_LINES.LINES : Fld := ⟨0, 17⟩
def CAL_AUTO_TIMEOUT.MS : Fld := ⟨0, 32⟩
def CAL_MIN_SAMPLES.COUNT : Fld := ⟨0, 16⟩
def CAL_TOL.GAIN : Fld := ⟨0, 16⟩
def CAL_TOL.OFFSET : Fld := ⟨16, 16⟩
def CAL_TOL2.SHADE : Fld := ⟨0, 16⟩
def CAL_TOL2.SIGMA : Fld := ⟨16, 16⟩
def CAL_LIMIT.GAIN_MIN : Fld := ⟨0, 16⟩
def CAL_LIMIT.GAIN_MAX : Fld := ⟨16, 16⟩
def CAL_LIMIT_OFFSET.OFFSET : Fld := ⟨0, 16⟩
def CAL_TEMP_DELTA.DELTA : Fld := ⟨0, 16⟩
def CAL_HOLDOFF.S : Fld := ⟨0, 16⟩
def CAL_REGION_MASK.REGIONS : Fld := ⟨0, 16⟩
def CAL_TILE_CFG.AXIS : Fld := ⟨0, 3⟩
def CAL_TILE_CFG.TABLE_IN : Fld := ⟨16, 16⟩
def CAL_TILE_OUT.TABLE_OUT : Fld := ⟨0, 16⟩
def CAL_TILE_SETTLE.US : Fld := ⟨0, 32⟩
def CAL_TILE_TARGET.CODE : Fld := ⟨0, 16⟩
def CAL_WIN_SEL.VIEW : Fld := ⟨0, 1⟩
def CAL_WIN_SEL.PAGE : Fld := ⟨8, 5⟩
def CAL_MARK_MASK.SEGMENTS : Fld := ⟨0, 48⟩
def CAL_MARK_OPEN.WINDOWS : Fld := ⟨0, 16⟩
def CAL_DARK.FIRST : Fld := ⟨0, 18⟩
def CAL_DARK.COUNT : Fld := ⟨32, 19⟩
def CAL_DARK.EN : Fld := ⟨63, 1⟩
def CAL_SEG_TEMP.INPUTS : Fld := ⟨0, 32⟩
def CAL_SEG_STATUS.TRIGGERED : Fld := ⟨0, 1⟩
def CAL_SEG_STATUS.HELD_OFF : Fld := ⟨1, 1⟩
def CAL_SEG_STATUS.ANCHORED : Fld := ⟨2, 1⟩
def CAL_SEG_LAST_RUN.RUN : Fld := ⟨0, 32⟩
def CAL_RUNS_ACCEPTED.COUNT : Fld := ⟨0, 32⟩
def CAL_RUNS_REJECTED.COUNT : Fld := ⟨0, 32⟩
def CAL_RUNS_OTHER.COUNT : Fld := ⟨0, 32⟩
def CAL_TRIGGERS.COUNT : Fld := ⟨0, 32⟩
def CAL_CLEAR.COUNTERS : Fld := ⟨0, 4⟩
def CAL_BASE_DIR.KIND : Fld := ⟨0, 8⟩
def CAL_BASE_DIR.SEG : Fld := ⟨8, 8⟩
def CAL_BASE_DIR.VALID : Fld := ⟨16, 1⟩
def CAL_BASE_DIR.CURRENT : Fld := ⟨17, 1⟩
def CAL_BASE_LEN.BYTES : Fld := ⟨0, 32⟩
def CAL_BASE_SEQ.SEQ : Fld := ⟨0, 64⟩
def CAL_BASE_SEL.ENTRY : Fld := ⟨0, 8⟩
def CAL_BASE_SEL.PAGE : Fld := ⟨16, 4⟩
def CAL_TEMP_REF.TEMP : Fld := ⟨0, 32⟩
def AX_CTRL.ENABLE : Fld := ⟨0, 1⟩
def AX_CTRL.CLEAR_FAULT : Fld := ⟨1, 1⟩
def AX_STATUS.STATE : Fld := ⟨0, 4⟩
def AX_STATUS.REF : Fld := ⟨4, 2⟩
def AX_STATUS.QUEUE : Fld := ⟨6, 4⟩
def AX_STATUS.LATCH_NEG : Fld := ⟨10, 1⟩
def AX_STATUS.LATCH_POS : Fld := ⟨11, 1⟩
def AX_STATUS.LEVEL : Fld := ⟨12, 4⟩
def AX_STATUS.PACE : Fld := ⟨16, 3⟩
def AX_STATUS.FAULT_CAUSE : Fld := ⟨24, 4⟩
def AX_POS.POS : Fld := ⟨0, 64⟩
def AX_POS_FRAC.FRAC : Fld := ⟨0, 16⟩
def AX_VEL.VEL : Fld := ⟨0, 32⟩
def AX_REMAIN.DIST : Fld := ⟨0, 64⟩
def AX_VMAX.VEL : Fld := ⟨0, 32⟩
def AX_DECEL_STOP.ACC : Fld := ⟨0, 32⟩
def AX_DECEL_QUICK.ACC : Fld := ⟨0, 32⟩
def AX_ACCEL.ACC : Fld := ⟨0, 32⟩
def AX_VRESUME.VEL : Fld := ⟨0, 32⟩
def AX_SOFT_MIN.POS : Fld := ⟨0, 64⟩
def AX_SOFT_MAX.POS : Fld := ⟨0, 64⟩
def AX_SOFT_CFG.EN : Fld := ⟨0, 1⟩
def AX_CURRENT.I_RUN : Fld := ⟨0, 12⟩
def AX_CURRENT.I_HOLD : Fld := ⟨16, 12⟩
def AX_CURRENT2.I_HOME : Fld := ⟨0, 12⟩
def AX_CURRENT2.HOLD_DELAY : Fld := ⟨16, 16⟩
def AX_BRAKE_CFG.DELAY : Fld := ⟨0, 16⟩
def AX_MSTEP_THR.THR_LO : Fld := ⟨0, 16⟩
def AX_MSTEP_THR.THR_HI : Fld := ⟨16, 16⟩
def AX_MSTEP_CFG.COARSEST : Fld := ⟨0, 4⟩
def AX_MSTEP_CFG.HYST : Fld := ⟨4, 4⟩
def AX_GEAR.N : Fld := ⟨0, 32⟩
def AX_GEAR.D : Fld := ⟨32, 32⟩
def AX_GEAR_NEXT.N : Fld := ⟨0, 32⟩
def AX_GEAR_NEXT.D : Fld := ⟨32, 32⟩
def AX_GEAR_AT.AT : Fld := ⟨0, 64⟩
def AX_GEAR_CTRL.ARM : Fld := ⟨0, 1⟩
def AX_GEAR_CTRL.CANCEL : Fld := ⟨1, 1⟩
def AX_GEAR_STATUS.PENDING : Fld := ⟨0, 1⟩
def AX_GEAR_STATUS.LATE : Fld := ⟨1, 1⟩
def AX_GEAR_STATUS.ENGAGED : Fld := ⟨2, 1⟩
def AX_GEAR_APPLIED.AT : Fld := ⟨0, 64⟩
def AX_SHEET_CFG.BACKLASH : Fld := ⟨0, 16⟩
def AX_SHEET_CFG.SETTLE : Fld := ⟨16, 16⟩
def AX_SHEET_ACCEL.VALUE : Fld := ⟨0, 32⟩
def AX_BACKUP_VEL.VALUE : Fld := ⟨0, 32⟩
def AX_LIM_CLEAR.DIST : Fld := ⟨0, 32⟩
def AX_LIM_TRIP_NEG.POS : Fld := ⟨0, 64⟩
def AX_LIM_TRIP_POS.POS : Fld := ⟨0, 64⟩
def AX_HOME_VEL.VALUE : Fld := ⟨0, 32⟩
def AX_HOME_MAXDIST.VALUE : Fld := ⟨0, 32⟩
def AX_HOME_BACKOFF.VALUE : Fld := ⟨0, 32⟩
def AX_HOME_POS.POS : Fld := ⟨0, 64⟩
def AX_LIM_REF_NEG.POS : Fld := ⟨0, 64⟩
def AX_LIM_REF_POS.POS : Fld := ⟨0, 64⟩
def AX_STALL_CFG.THR : Fld := ⟨0, 10⟩
def AX_STALL_CFG.GUARD : Fld := ⟨10, 1⟩
def AX_STALL_CFG.STEPS : Fld := ⟨16, 4⟩
def AX_STALL_CFG.BLANK : Fld := ⟨24, 8⟩
def AX_STALL_CAL.T0 : Fld := ⟨0, 16⟩
def AX_STALL_CAL.SCALE : Fld := ⟨16, 16⟩
def AX_STALL_VMIN.VEL : Fld := ⟨0, 32⟩
def AX_STALLS.COUNT : Fld := ⟨0, 32⟩
def AX_LIM_TRIPS.COUNT : Fld := ⟨0, 32⟩
def AX_LIM_CHATTER.COUNT : Fld := ⟨0, 32⟩
def AX_STARVED.COUNT : Fld := ⟨0, 32⟩
def AX_OVERCURRENT.COUNT : Fld := ⟨0, 32⟩
def AX_TON_LIMITED.COUNT : Fld := ⟨0, 32⟩
def AX_BLEND_SKIPPED.COUNT : Fld := ⟨0, 32⟩
def AX_CLEAR.COUNTERS : Fld := ⟨0, 7⟩
def AUX_CHAIN_CFG.FILTER : Fld := ⟨0, 1⟩
def AUX_CHAIN_CFG.START : Fld := ⟨1, 4⟩
def AUX_CHAIN_CFG.EXC_OWN : Fld := ⟨5, 2⟩
def AUX_CHAIN_OSR.OSR : Fld := ⟨0, 19⟩
def AUX_CHAIN_STATUS.STATE : Fld := ⟨0, 2⟩
def AUX_CHAIN_STATUS.PHASE : Fld := ⟨2, 1⟩
def AUX_CHAIN_STATUS.PENDING : Fld := ⟨3, 1⟩
def AUX_CHAIN_STATUS.COMMAND : Fld := ⟨4, 1⟩
def AUX_CHAIN_STATUS.INPUT : Fld := ⟨8, 5⟩
def AUX_CHAIN_CTRL.FORCE : Fld := ⟨0, 1⟩
def AUX_URGENT.INPUT : Fld := ⟨0, 5⟩
def AUX_URGENT.QUEUE : Fld := ⟨8, 4⟩
def AUX_URGENT.PUSH : Fld := ⟨12, 1⟩
def AUX_START_DROP.COUNT : Fld := ⟨0, 32⟩
def AUX_URGENT_DROP.COUNT : Fld := ⟨0, 32⟩
def AUX_CHAIN_CLEAR.COUNTERS : Fld := ⟨0, 2⟩
def AUX_RESULT.VALUE : Fld := ⟨0, 32⟩
def AUX_RESULT_TAG.TAGS : Fld := ⟨0, 7⟩
def AUX_RESULT_TAG.GAIN : Fld := ⟨8, 3⟩
def AUX_RESULT_TIME.NS : Fld := ⟨0, 64⟩
def AUX_RESULT_SEQ.SEQ : Fld := ⟨0, 32⟩
def AUX_RAW.CODE : Fld := ⟨0, 24⟩
def AUX_LEAD.CODE : Fld := ⟨0, 24⟩
def AUX_GUARD.EN : Fld := ⟨0, 1⟩
def AUX_GUARD.SOURCE : Fld := ⟨4, 5⟩
def AUX_EXC.CODE : Fld := ⟨0, 7⟩
def AUX_EXC.OWNED : Fld := ⟨8, 1⟩
def AUX_EXC.CHAIN : Fld := ⟨9, 1⟩
def AUX_BRIDGE.MODE : Fld := ⟨0, 2⟩
def AUX_RATIO_CFG.KIND : Fld := ⟨0, 8⟩
def AUX_RATIO_CFG.NUM : Fld := ⟨8, 6⟩
def AUX_RATIO_CFG.FLAGS : Fld := ⟨16, 3⟩
def AUX_RATIO_SCALE.VALUE : Fld := ⟨0, 32⟩
def AUX_RATIO_OFFSET.VALUE : Fld := ⟨0, 32⟩
def AUX_RATIO_TIMEOUT.VALUE : Fld := ⟨0, 32⟩
def AUX_RATIO_STATE.CODE : Fld := ⟨0, 16⟩
def AUX_RATIO_STATE.CLAMPED : Fld := ⟨16, 1⟩
def AUX_RATIO_STATE.FAULT : Fld := ⟨17, 1⟩
def AUX_RATIO_FAULT.CODE : Fld := ⟨0, 16⟩
def SYNC_CFG.ENABLE : Fld := ⟨0, 1⟩
def SYNC_CFG.MASTER : Fld := ⟨1, 1⟩
def SYNC_CFG.LOCAL_FALLBACK : Fld := ⟨2, 1⟩
def SYNC_STATUS.UP : Fld := ⟨0, 1⟩
def SYNC_STATUS.ARMED : Fld := ⟨1, 1⟩
def SYNC_STATUS.NODE : Fld := ⟨2, 3⟩
def SYNC_STATUS.SIZE : Fld := ⟨5, 4⟩
def SYNC_STATUS.RULE : Fld := ⟨9, 2⟩
def SYNC_CTRL.ARM : Fld := ⟨0, 1⟩
def SYNC_CTRL.DISARM : Fld := ⟨1, 1⟩
def SYNC_CTRL.RULE : Fld := ⟨8, 2⟩
def SYNC_FIRE_SRC.KIND : Fld := ⟨0, 2⟩
def SYNC_FIRE_SRC.NUM : Fld := ⟨8, 5⟩
def SYNC_POS_TOL.PQ : Fld := ⟨0, 32⟩
def SYNC_POS_OFFSET.PQ : Fld := ⟨0, 64⟩
def SYNC_FIRE_POS.PQ : Fld := ⟨0, 64⟩
def SYNC_FIRE_LOCAL.PQ : Fld := ⟨0, 64⟩
def SYNC_FIRE_INFO.SRC : Fld := ⟨0, 3⟩
def SYNC_FIRE_INFO.SEQ : Fld := ⟨8, 8⟩
def SYNC_FIRE_TIME.NS : Fld := ⟨0, 64⟩
def SYNC_FIRES.COUNT : Fld := ⟨0, 32⟩
def SYNC_FIRE_IGNORED.COUNT : Fld := ⟨0, 32⟩
def SYNC_CRC_ERR.COUNT : Fld := ⟨0, 32⟩
def SYNC_BAD_FRAME.COUNT : Fld := ⟨0, 32⟩
def EVOUT_CONFLICT.COUNT : Fld := ⟨0, 32⟩
def SYNC_CLEAR.COUNTERS : Fld := ⟨0, 5⟩
def TRIG_PIN_CFG.INVERT : Fld := ⟨0, 1⟩
def TRIG_PIN_CFG.FILT : Fld := ⟨4, 8⟩
def TRIG_PIN_STATE.LEVEL : Fld := ⟨0, 16⟩
def EVOUT_CFG.DRIVE_EN : Fld := ⟨0, 1⟩
def EVOUT_CFG.OPEN_DRAIN : Fld := ⟨1, 1⟩
def EVOUT_CFG.IDLE : Fld := ⟨2, 1⟩
def EVOUT_STATE.LEVEL : Fld := ⟨0, 16⟩
def BTN_CFG.DEBOUNCE : Fld := ⟨0, 8⟩
def BTN_CFG.INVERT : Fld := ⟨8, 1⟩
def BTN_STATE.PRESSED : Fld := ⟨0, 8⟩
def IND_CFG.MODE : Fld := ⟨0, 3⟩
def IND_CFG.INVERT : Fld := ⟨3, 1⟩
def IND_CFG.SOURCE : Fld := ⟨16, 11⟩
def SEC_STATUS.RUNNING : Fld := ⟨0, 1⟩
def SEC_STATUS.RUNNING_SLOT : Fld := ⟨1, 1⟩
def SEC_STATUS.ACTIVE_SLOT : Fld := ⟨2, 1⟩
def SEC_STATUS.BUSY : Fld := ⟨3, 1⟩
def SEC_STATUS.SLOT0_STATE : Fld := ⟨4, 4⟩
def SEC_STATUS.SLOT1_STATE : Fld := ⟨8, 4⟩
def SEC_STATUS.FUSE_SVN : Fld := ⟨12, 7⟩
def SEC_SLOT_VERSION.VERSION : Fld := ⟨0, 16⟩
def SEC_SLOT_VERSION.SVN : Fld := ⟨16, 7⟩
def SEC_SLOT_VERSION.BURN : Fld := ⟨23, 1⟩
def SEC_SLOT_BUILD.BUILD : Fld := ⟨0, 32⟩
def SEC_UNIT_ID_LO.ID : Fld := ⟨0, 64⟩
def SEC_UNIT_ID_HI.ID : Fld := ⟨0, 64⟩
def SEC_VERIFY_TIME.US : Fld := ⟨0, 32⟩
def SEC_CKPT_NUM.NUMBER : Fld := ⟨0, 64⟩
def SEC_SIG_FAILS.COUNT : Fld := ⟨0, 32⟩
def SEC_SPDM_REQUESTS.COUNT : Fld := ⟨0, 32⟩
def SEC_SPDM_ERRORS.COUNT : Fld := ⟨0, 32⟩
def SEC_CLEAR.COUNTERS : Fld := ⟨0, 3⟩
def SEC_OPTION_CTRL.COMMIT : Fld := ⟨0, 1⟩
def SEC_OPTION_STATUS.BUSY : Fld := ⟨0, 1⟩
def SEC_OPTION_STATUS.RESULT : Fld := ⟨1, 2⟩
def SEC_OPTION_STATUS.SEQ : Fld := ⟨16, 16⟩
def MEM_STATUS.READY : Fld := ⟨0, 1⟩
def MEM_STATUS.SELF_REFRESH : Fld := ⟨1, 1⟩
def MEM_CORRECTED.COUNT : Fld := ⟨0, 32⟩
def MEM_UNCORRECTED.COUNT : Fld := ⟨0, 32⟩
def MEM_LAST_ADDR.ADDR : Fld := ⟨0, 64⟩
def MEM_SCRUB_PASSES.COUNT : Fld := ⟨0, 32⟩
def MEM_CLEAR.COUNTERS : Fld := ⟨0, 2⟩
def DIAG_INJECT.MEMORY : Fld := ⟨0, 5⟩
def DIAG_INJECT.DOUBLE : Fld := ⟨5, 1⟩
def DIAG_INJECT.ARM : Fld := ⟨6, 1⟩
def DIAG_INJECT.ARMED : Fld := ⟨7, 1⟩
def DIAG_ECC_COUNT.CORRECTED : Fld := ⟨0, 32⟩
def DIAG_ECC_UNCORR.COUNT : Fld := ⟨0, 32⟩
def DIAG_CLEAR.ECC : Fld := ⟨0, 1⟩

/-- Address, width and fields of every register, as the tables of spec/ give them. -/
def Reg.info : Reg → RegInfo
  | .GLB_ID => ⟨0x0, 1, 0x0, 1, 0x0, false,
      [⟨GLB_ID.DEVICE, .ro, 0x7200, []⟩, ⟨GLB_ID.REVISION, .ro, 0xb1, []⟩]⟩
  | .GLB_STATUS => ⟨0x4, 1, 0x0, 1, 0x0, false,
      [⟨GLB_STATUS.BOOT_COMPLETE, .rov, 0, []⟩, ⟨GLB_STATUS.CROWN, .rov, 0, []⟩, ⟨GLB_STATUS.REPLAYING, .rov, 0, []⟩, ⟨GLB_STATUS.LINK_RATE, .rov, 0, []⟩, ⟨GLB_STATUS.LINK_WIDTH, .rov, 0, []⟩]⟩
  | .GLB_TIME => ⟨0x8, 1, 0x0, 1, 0x0, true,
      [⟨GLB_TIME.NS, .rov, 0, []⟩]⟩
  | .GLB_SCRATCH => ⟨0x20, 4, 0x8, 1, 0x0, true,
      [⟨GLB_SCRATCH.VALUE, .rw, 0, []⟩]⟩
  | .GLB_TJ => ⟨0x200, 8, 0x4, 1, 0x0, false,
      [⟨GLB_TJ.TEMP, .rov, 0, []⟩, ⟨GLB_TJ.VALID, .rov, 0, []⟩]⟩
  | .GLB_TJ_MAX => ⟨0x220, 1, 0x0, 1, 0x0, false,
      [⟨GLB_TJ_MAX.TEMP, .rov, 0x8000, []⟩]⟩
  | .GLB_TJ_CLEAR => ⟨0x224, 1, 0x0, 1, 0x0, false,
      [⟨GLB_TJ_CLEAR.MAX, .wo, 0, []⟩]⟩
  | .RST_CAUSE => ⟨0x100000, 1, 0x0, 1, 0x0, true,
      [⟨RST_CAUSE.CAUSE, .w1c, 1, []⟩]⟩
  | .RST_LAST => ⟨0x100008, 1, 0x0, 1, 0x0, true,
      [⟨RST_LAST.REACH, .rov, 5, []⟩, ⟨RST_LAST.SOURCE, .rov, 0, []⟩, ⟨RST_LAST.DOMAINS, .rov, 0xffffff, []⟩]⟩
  | .RST_LAST_TIME => ⟨0x100010, 1, 0x0, 1, 0x0, true,
      [⟨RST_LAST_TIME.NS, .rov, 0, []⟩]⟩
  | .RST_COUNT_BLOCK => ⟨0x100020, 1, 0x0, 1, 0x0, false,
      [⟨RST_COUNT_BLOCK.COUNT, .rov, 0, []⟩]⟩
  | .RST_COUNT_DIE => ⟨0x100024, 1, 0x0, 1, 0x0, false,
      [⟨RST_COUNT_DIE.COUNT, .rov, 0, []⟩]⟩
  | .RST_COUNT_PATH => ⟨0x100028, 1, 0x0, 1, 0x0, false,
      [⟨RST_COUNT_PATH.COUNT, .rov, 0, []⟩]⟩
  | .RST_COUNT_WARM => ⟨0x10002c, 1, 0x0, 1, 0x0, false,
      [⟨RST_COUNT_WARM.COUNT, .rov, 0, []⟩]⟩
  | .RST_ISOLATIONS => ⟨0x100030, 1, 0x0, 1, 0x0, false,
      [⟨RST_ISOLATIONS.COUNT, .rov, 0, []⟩]⟩
  | .RST_CLEAR => ⟨0x100040, 1, 0x0, 1, 0x0, false,
      [⟨RST_CLEAR.COUNTERS, .wo, 0, []⟩]⟩
  | .RST_REACH => ⟨0x100100, 51, 0x4, 1, 0x0, false,
      [⟨RST_REACH.DEFAULT, .ro, 0, []⟩, ⟨RST_REACH.FUSED, .ro, 0, []⟩, ⟨RST_REACH.EFFECTIVE, .ro, 0, []⟩]⟩
  | .RST_DOMAIN_POWER => ⟨0x100200, 1, 0x0, 1, 0x0, false,
      [⟨RST_DOMAIN_POWER.DOMAINS, .rov, 0, []⟩]⟩
  | .RST_DOMAIN_RESET => ⟨0x100204, 1, 0x0, 1, 0x0, false,
      [⟨RST_DOMAIN_RESET.DOMAINS, .rov, 0, []⟩]⟩
  | .RST_DOMAIN_FAILED => ⟨0x100208, 1, 0x0, 1, 0x0, false,
      [⟨RST_DOMAIN_FAILED.DOMAINS, .rov, 0, []⟩]⟩
  | .RST_STATUS => ⟨0x100210, 1, 0x0, 1, 0x0, false,
      [⟨RST_STATUS.BOOT_COMPLETE, .rov, 0, []⟩, ⟨RST_STATUS.CROWN, .rov, 0, []⟩, ⟨RST_STATUS.RELEASING, .rov, 0, []⟩, ⟨RST_STATUS.REACH, .rov, 0, []⟩, ⟨RST_STATUS.CROWN_REASON, .rov, 0, []⟩, ⟨RST_STATUS.STEP, .rov, 0, []⟩]⟩
  | .RST_FAILED_STARTS => ⟨0x100214, 1, 0x0, 1, 0x0, false,
      [⟨RST_FAILED_STARTS.COUNT, .rov, 0, []⟩]⟩
  | .RST_IDLE_TIMEOUT => ⟨0x100218, 1, 0x0, 1, 0x0, false,
      [⟨RST_IDLE_TIMEOUT.US, .rw, 0x64, [(1, 0xffff)]⟩]⟩
  | .RST_CROWN_GO => ⟨0x100440, 1, 0x0, 1, 0x0, false,
      [⟨RST_CROWN_GO.GO, .wo, 0, []⟩]⟩
  | .RST_CROWN_STATUS => ⟨0x1004a0, 1, 0x0, 1, 0x0, false,
      [⟨RST_CROWN_STATUS.BUSY, .rov, 0, []⟩, ⟨RST_CROWN_STATUS.DONE, .rov, 0, []⟩]⟩
  | .EVT_STATUS => ⟨0x200000, 48, 0x4, 1, 0x0, false,
      [⟨EVT_STATUS.FLAGS, .w1c, 0, []⟩]⟩
  | .EVT_ENABLE => ⟨0x200100, 48, 0x4, 1, 0x0, false,
      [⟨EVT_ENABLE.EN, .rw, 0, []⟩]⟩
  | .EVT_WRAPPED => ⟨0x200200, 48, 0x4, 1, 0x0, false,
      [⟨EVT_WRAPPED.WRAPPED, .w1c, 0, []⟩]⟩
  | .EVT_CTRL => ⟨0x200300, 1, 0x0, 1, 0x0, false,
      [⟨EVT_CTRL.SOURCE, .wo, 0, [(0, 0x5ff)]⟩, ⟨EVT_CTRL.CLEAR_COUNT, .wo, 0, []⟩, ⟨EVT_CTRL.SW_SET, .wo, 0, []⟩]⟩
  | .EVT_LOG_BASE => ⟨0x200400, 1, 0x0, 1, 0x0, true,
      [⟨EVT_LOG_BASE.BASE, .rw, 0, []⟩]⟩
  | .EVT_LOG_CFG => ⟨0x200408, 1, 0x0, 1, 0x0, false,
      [⟨EVT_LOG_CFG.SIZE, .rw, 0, []⟩, ⟨EVT_LOG_CFG.ENABLE, .rw, 0, []⟩]⟩
  | .EVT_LOG_WRITTEN => ⟨0x20040c, 1, 0x0, 1, 0x0, false,
      [⟨EVT_LOG_WRITTEN.COUNT, .rov, 0, []⟩]⟩
  | .EVT_LOG_READ => ⟨0x200410, 1, 0x0, 1, 0x0, false,
      [⟨EVT_LOG_READ.COUNT, .wo, 0, []⟩]⟩
  | .EVT_LOG_DROP => ⟨0x200414, 1, 0x0, 1, 0x0, false,
      [⟨EVT_LOG_DROP.COUNT, .rov, 0, []⟩]⟩
  | .EVT_RING_UNSENT => ⟨0x200418, 1, 0x0, 1, 0x0, false,
      [⟨EVT_RING_UNSENT.COUNT, .rov, 0, []⟩]⟩
  | .EVT_CLEAR => ⟨0x200420, 1, 0x0, 1, 0x0, false,
      [⟨EVT_CLEAR.COUNTERS, .wo, 0, []⟩]⟩
  | .EVT_PULSE => ⟨0x200800, 16, 0x4, 1, 0x0, false,
      [⟨EVT_PULSE.WIDTH, .rw, 0x3e8, [(1, 0x7fffffff)]⟩, ⟨EVT_PULSE.POLARITY, .rw, 1, []⟩]⟩
  | .EVT_ROUTE => ⟨0x210000, 1536, 0x4, 1, 0x0, false,
      [⟨EVT_ROUTE.VECTOR, .rw, 0, []⟩, ⟨EVT_ROUTE.VEC_EN, .rw, 0, []⟩, ⟨EVT_ROUTE.OUT, .rw, 0, []⟩, ⟨EVT_ROUTE.OUT_EN, .rw, 0, []⟩, ⟨EVT_ROUTE.RING_EN, .rw, 0, []⟩, ⟨EVT_ROUTE.LOG_EN, .rw, 0, []⟩, ⟨EVT_ROUTE.UQ, .rw, 0, []⟩, ⟨EVT_ROUTE.UQ_EN, .rw, 0, []⟩, ⟨EVT_ROUTE.PROC, .rw, 0, [(0, 2)]⟩]⟩
  | .EVT_COUNT => ⟨0x220000, 1536, 0x4, 1, 0x0, false,
      [⟨EVT_COUNT.COUNT, .rov, 0, []⟩]⟩
  | .RING_SQ_BASE => ⟨0x400000, 64, 0x40, 1, 0x0, true,
      [⟨RING_SQ_BASE.BASE, .rw, 0, []⟩]⟩
  | .RING_SQ_CFG => ⟨0x400008, 64, 0x40, 1, 0x0, false,
      [⟨RING_SQ_CFG.SIZE, .rw, 0, []⟩, ⟨RING_SQ_CFG.CQ, .rw, 0, []⟩]⟩
  | .RING_SQ_QUOTA => ⟨0x40000c, 64, 0x40, 1, 0x0, false,
      [⟨RING_SQ_QUOTA.QUOTA, .rw, 0, []⟩]⟩
  | .RING_SQ_CTRL => ⟨0x400010, 64, 0x40, 1, 0x0, false,
      [⟨RING_SQ_CTRL.ENABLE, .rw, 0, []⟩]⟩
  | .RING_SQ_STATUS => ⟨0x400014, 64, 0x40, 1, 0x0, false,
      [⟨RING_SQ_STATUS.ENABLED, .rov, 0, []⟩, ⟨RING_SQ_STATUS.CFG_ERR, .rov, 0, []⟩, ⟨RING_SQ_STATUS.IN_FLIGHT, .rov, 0, []⟩]⟩
  | .RING_SQ_FETCHED => ⟨0x400018, 64, 0x40, 1, 0x0, false,
      [⟨RING_SQ_FETCHED.COUNT, .rov, 0, []⟩]⟩
  | .RING_SQ_CREDIT => ⟨0x40001c, 64, 0x40, 1, 0x0, false,
      [⟨RING_SQ_CREDIT.LIMIT, .rov, 0, []⟩]⟩
  | .RING_CQ_BASE => ⟨0x401000, 64, 0x40, 1, 0x0, true,
      [⟨RING_CQ_BASE.BASE, .rw, 0, []⟩]⟩
  | .RING_CQ_CFG => ⟨0x401008, 64, 0x40, 1, 0x0, false,
      [⟨RING_CQ_CFG.SIZE, .rw, 0, []⟩, ⟨RING_CQ_CFG.VECTOR, .rw, 0, []⟩, ⟨RING_CQ_CFG.IRQ_EN, .rw, 0, []⟩]⟩
  | .RING_CQ_CTRL => ⟨0x401010, 64, 0x40, 1, 0x0, false,
      [⟨RING_CQ_CTRL.ENABLE, .rw, 0, []⟩]⟩
  | .RING_CQ_STATUS => ⟨0x401014, 64, 0x40, 1, 0x0, false,
      [⟨RING_CQ_STATUS.ENABLED, .rov, 0, []⟩, ⟨RING_CQ_STATUS.FULL, .rov, 0, []⟩, ⟨RING_CQ_STATUS.CFG_ERR, .rov, 0, []⟩]⟩
  | .RING_CQ_WRITTEN => ⟨0x401018, 64, 0x40, 1, 0x0, false,
      [⟨RING_CQ_WRITTEN.COUNT, .rov, 0, []⟩]⟩
  | .RING_CQ_COALESCE => ⟨0x40101c, 64, 0x40, 1, 0x0, false,
      [⟨RING_CQ_COALESCE.COUNT, .rw, 1, [(1, 0xff)]⟩, ⟨RING_CQ_COALESCE.HOLDOFF, .rw, 0, []⟩]⟩
  | .RING_TOTAL_IN_FLIGHT => ⟨0x402000, 1, 0x0, 1, 0x0, false,
      [⟨RING_TOTAL_IN_FLIGHT.IN_FLIGHT, .rov, 0, []⟩, ⟨RING_TOTAL_IN_FLIGHT.QUOTAS, .rov, 0, []⟩]⟩
  | .DBELL_SQ => ⟨0x500000, 64, 0x1000, 1, 0x0, false,
      [⟨DBELL_SQ.COUNT, .wo, 0, []⟩]⟩
  | .DBELL_CQ => ⟨0x500800, 64, 0x1000, 1, 0x0, false,
      [⟨DBELL_CQ.COUNT, .wo, 0, []⟩]⟩
  | .LEDG_STATUS => ⟨0x600000, 1, 0x0, 1, 0x0, false,
      [⟨LEDG_STATUS.REPLAYING, .rov, 1, []⟩, ⟨LEDG_STATUS.CLOSED, .rov, 0, []⟩, ⟨LEDG_STATUS.TORN, .rov, 0, []⟩]⟩
  | .LEDG_NVS_SEQ => ⟨0x600008, 1, 0x0, 1, 0x0, true,
      [⟨LEDG_NVS_SEQ.SEQ, .rov, 0, []⟩]⟩
  | .LEDG_CKPT_SEQ => ⟨0x600010, 1, 0x0, 1, 0x0, true,
      [⟨LEDG_CKPT_SEQ.SEQ, .rov, 0, []⟩]⟩
  | .LEDG_REPLAYS => ⟨0x600018, 1, 0x0, 1, 0x0, false,
      [⟨LEDG_REPLAYS.COUNT, .rov, 0, []⟩]⟩
  | .LEDG_MIRROR => ⟨0x600020, 1, 0x0, 1, 0x0, true,
      [⟨LEDG_MIRROR.ENABLE, .rw, 0, []⟩, ⟨LEDG_MIRROR.BASE, .rw, 0, []⟩]⟩
  | .LEDG_DURABLE => ⟨0x601000, 2048, 0x8, 1, 0x0, true,
      [⟨LEDG_DURABLE.PARCEL, .rov, 0, []⟩]⟩
  | .ESC_TRACK_POS => ⟨0x700000, 1, 0x0, 1, 0x0, true,
      [⟨ESC_TRACK_POS.POS, .rov, 0, []⟩]⟩
  | .ESC_VELOCITY => ⟨0x700008, 1, 0x0, 1, 0x0, false,
      [⟨ESC_VELOCITY.VEL, .rov, 0, []⟩]⟩
  | .ESC_SOURCE => ⟨0x70000c, 1, 0x0, 1, 0x0, false,
      [⟨ESC_SOURCE.KIND, .rws, 0, [(0, 2)]⟩, ⟨ESC_SOURCE.NUM, .rws, 0, []⟩]⟩
  | .ESC_RATIO => ⟨0x700010, 1, 0x0, 1, 0x0, true,
      [⟨ESC_RATIO.N, .rov, 1, []⟩, ⟨ESC_RATIO.D, .rov, 1, []⟩]⟩
  | .ESC_RATIO_NEXT => ⟨0x700018, 1, 0x0, 1, 0x0, true,
      [⟨ESC_RATIO_NEXT.N, .rw, 1, []⟩, ⟨ESC_RATIO_NEXT.D, .rw, 1, []⟩]⟩
  | .ESC_RATIO_AT => ⟨0x700020, 1, 0x0, 1, 0x0, true,
      [⟨ESC_RATIO_AT.AT, .rw, 0, []⟩]⟩
  | .ESC_RATIO_CTRL => ⟨0x700028, 1, 0x0, 1, 0x0, false,
      [⟨ESC_RATIO_CTRL.ARM, .wo, 0, []⟩, ⟨ESC_RATIO_CTRL.CANCEL, .wo, 0, []⟩]⟩
  | .ESC_RATIO_STATUS => ⟨0x70002c, 1, 0x0, 1, 0x0, false,
      [⟨ESC_RATIO_STATUS.PENDING, .rov, 0, []⟩, ⟨ESC_RATIO_STATUS.LATE, .rov, 0, []⟩]⟩
  | .ESC_RATIO_APPLIED => ⟨0x700030, 1, 0x0, 1, 0x0, true,
      [⟨ESC_RATIO_APPLIED.AT, .rov, 0, []⟩]⟩
  | .ESC_MASTER => ⟨0x700038, 1, 0x0, 1, 0x0, true,
      [⟨ESC_MASTER.COUNT, .rov, 0, []⟩]⟩
  | .ESC_LINE => ⟨0x700040, 1, 0x0, 1, 0x0, true,
      [⟨ESC_LINE.NUM, .rov, 0, []⟩]⟩
  | .ESC_LINE_POS => ⟨0x700048, 1, 0x0, 1, 0x0, true,
      [⟨ESC_LINE_POS.POS, .rov, 0, []⟩]⟩
  | .ESC_BANK => ⟨0x700050, 1, 0x0, 1, 0x0, false,
      [⟨ESC_BANK.STREAM_USED, .rov, 0, []⟩, ⟨ESC_BANK.DYN_USED, .rov, 0, []⟩]⟩
  | .ESC_ACT_DROP => ⟨0x700054, 1, 0x0, 1, 0x0, false,
      [⟨ESC_ACT_DROP.COUNT, .rov, 0, []⟩]⟩
  | .ESC_STILL_TIME => ⟨0x700058, 1, 0x0, 1, 0x0, false,
      [⟨ESC_STILL_TIME.TIME, .rw, 0x2710, [(1, 0xffffff)]⟩]⟩
  | .ESC_CLEAR => ⟨0x70005c, 1, 0x0, 1, 0x0, false,
      [⟨ESC_CLEAR.ACT_DROP, .wo, 0, []⟩, ⟨ESC_CLEAR.EVT_LATE, .wo, 0, []⟩]⟩
  | .ESC_EVT_LATE => ⟨0x700060, 1, 0x0, 1, 0x0, false,
      [⟨ESC_EVT_LATE.COUNT, .rov, 0, []⟩]⟩
  | .ENC_CFG => ⟨0x701000, 8, 0x40, 1, 0x0, false,
      [⟨ENC_CFG.ENABLE, .rw, 0, []⟩, ⟨ENC_CFG.INVERT, .rw, 0, []⟩, ⟨ENC_CFG.INDEX_EN, .rw, 0, []⟩, ⟨ENC_CFG.FILT, .rw, 0, []⟩]⟩
  | .ENC_COUNT => ⟨0x701008, 8, 0x40, 1, 0x0, true,
      [⟨ENC_COUNT.COUNT, .rov, 0, []⟩]⟩
  | .ENC_EDGE_TIME => ⟨0x701010, 8, 0x40, 1, 0x0, true,
      [⟨ENC_EDGE_TIME.TIME, .rov, 0, []⟩]⟩
  | .ENC_INDEX_POS => ⟨0x701018, 8, 0x40, 1, 0x0, true,
      [⟨ENC_INDEX_POS.POS, .rov, 0, []⟩]⟩
  | .ENC_STATUS => ⟨0x701020, 8, 0x40, 1, 0x0, false,
      [⟨ENC_STATUS.LOS, .rov, 0, []⟩, ⟨ENC_STATUS.DIR, .rov, 0, []⟩]⟩
  | .ENC_ILLEGAL => ⟨0x701024, 8, 0x40, 1, 0x0, false,
      [⟨ENC_ILLEGAL.COUNT, .rov, 0, []⟩]⟩
  | .ENC_CLEAR => ⟨0x701028, 8, 0x40, 1, 0x0, false,
      [⟨ENC_CLEAR.ILLEGAL, .wo, 0, []⟩]⟩
  | .TTBL_IMAGE => ⟨0x800000, 4, 0x10, 1, 0x0, false,
      [⟨TTBL_IMAGE.LOADED, .rov, 0, []⟩, ⟨TTBL_IMAGE.ACTIVE, .rov, 0, []⟩, ⟨TTBL_IMAGE.PENDING, .rov, 0, []⟩]⟩
  | .TTBL_IMAGE_LEN => ⟨0x800004, 4, 0x10, 1, 0x0, false,
      [⟨TTBL_IMAGE_LEN.LENGTH, .rov, 0, []⟩]⟩
  | .TTBL_ACT_POS => ⟨0x800040, 1, 0x0, 1, 0x0, true,
      [⟨TTBL_ACT_POS.A, .rov, 0, []⟩]⟩
  | .TTBL_STATUS => ⟨0x800048, 1, 0x0, 1, 0x0, false,
      [⟨TTBL_STATUS.ACT_LATE, .rov, 0, []⟩, ⟨TTBL_STATUS.NONE, .rov, 1, []⟩, ⟨TTBL_STATUS.ACTIVE_NUM, .rov, 0, []⟩]⟩
  | .TTBL_SHADOW_CTRL => ⟨0x800050, 1, 0x0, 1, 0x0, false,
      [⟨TTBL_SHADOW_CTRL.HOLD, .rw, 0, []⟩]⟩
  | .TTBL_HANDOVER_NOW => ⟨0x800054, 1, 0x0, 1, 0x0, false,
      [⟨TTBL_HANDOVER_NOW.GO, .wo, 0, []⟩]⟩
  | .TTBL_HANDOVERS => ⟨0x800058, 1, 0x0, 1, 0x0, true,
      [⟨TTBL_HANDOVERS.COUNT, .rov, 0, []⟩]⟩
  | .TTBL_GEN_COMMIT => ⟨0x800060, 1, 0x0, 1, 0x0, false,
      [⟨TTBL_GEN_COMMIT.CLASS, .w1s, 0, []⟩]⟩
  | .TTBL_GEN_STATUS => ⟨0x800064, 1, 0x0, 1, 0x0, false,
      [⟨TTBL_GEN_STATUS.PENDING, .rov, 0, []⟩, ⟨TTBL_GEN_STATUS.BANK_BUSY, .rov, 0, []⟩]⟩
  | .TTBL_GEN_OWNER => ⟨0x800068, 1, 0x0, 1, 0x0, false,
      [⟨TTBL_GEN_OWNER.TT, .rov, 0x800, []⟩]⟩
  | .TTBL_GEN_INFORCE => ⟨0x800080, 12, 0x4, 1, 0x0, false,
      [⟨TTBL_GEN_INFORCE.GEN, .rov, 0, []⟩, ⟨TTBL_GEN_INFORCE.BANK, .rov, 0, []⟩]⟩
  | .TTBL_LOAD_ERR => ⟨0x8000c0, 1, 0x0, 1, 0x0, true,
      [⟨TTBL_LOAD_ERR.OFFSET, .rov, 0, []⟩, ⟨TTBL_LOAD_ERR.STATUS, .rov, 0, []⟩, ⟨TTBL_LOAD_ERR.ORDER, .rov, 0, []⟩]⟩
  | .FE_STATUS => ⟨0x900000, 4, 0x100000, 1, 0x0, false,
      [⟨FE_STATUS.LINK_UP, .rov, 0, []⟩, ⟨FE_STATUS.PLL_LOCK, .rov, 0, []⟩]⟩
  | .FE_PHASE => ⟨0x900004, 4, 0x100000, 1, 0x0, false,
      [⟨FE_PHASE.PHASE, .rov, 0, []⟩]⟩
  | .PORT_STATUS => ⟨0x901000, 4, 0x100000, 12, 0x40, false,
      [⟨PORT_STATUS.SEG, .rov, 0, []⟩, ⟨PORT_STATUS.ASSIGNED, .rov, 0, []⟩, ⟨PORT_STATUS.STATE, .rov, 0, []⟩, ⟨PORT_STATUS.POWER, .rov, 0, []⟩, ⟨PORT_STATUS.CLOCKS, .rov, 0, []⟩, ⟨PORT_STATUS.CAUSE, .rov, 0, []⟩]⟩
  | .PORT_CTRL => ⟨0x901004, 4, 0x100000, 12, 0x40, false,
      [⟨PORT_CTRL.RESUME, .wo, 0, []⟩, ⟨PORT_CTRL.POWER_OFF, .wo, 0, []⟩]⟩
  | .PORT_I3C => ⟨0x901008, 4, 0x100000, 12, 0x40, false,
      [⟨PORT_I3C.ADDR, .rov, 0, []⟩]⟩
  | .PORT_SERIAL => ⟨0x901010, 4, 0x100000, 12, 0x40, true,
      [⟨PORT_SERIAL.SERIAL, .rov, 0, []⟩]⟩
  | .PORT_MASKED_LINES => ⟨0x901018, 4, 0x100000, 12, 0x40, false,
      [⟨PORT_MASKED_LINES.COUNT, .rov, 0, []⟩]⟩
  | .PORT_CLEAR => ⟨0x90101c, 4, 0x100000, 12, 0x40, false,
      [⟨PORT_CLEAR.MASKED_LINES, .wo, 0, []⟩]⟩
  | .VID_CFG => ⟨0x902000, 4, 0x100000, 24, 0x40, false,
      [⟨VID_CFG.POLARITY, .rws, 0, []⟩]⟩
  | .VID_GAIN => ⟨0x902004, 4, 0x100000, 24, 0x40, false,
      [⟨VID_GAIN.GAIN, .rws, 0, [(0, 0x380)]⟩, ⟨VID_GAIN.OFFSET, .rws, 0, []⟩]⟩
  | .VID_CLIPS => ⟨0x902008, 4, 0x100000, 24, 0x40, false,
      [⟨VID_CLIPS.COUNT, .rov, 0, []⟩]⟩
  | .VID_CLEAR => ⟨0x90200c, 4, 0x100000, 24, 0x40, false,
      [⟨VID_CLEAR.CLIPS, .wo, 0, []⟩]⟩
  | .LANE_STATUS => ⟨0x903000, 4, 0x100000, 12, 0x40, false,
      [⟨LANE_STATUS.STATE, .rov, 0, []⟩]⟩
  | .LANE_SEQ => ⟨0x903004, 4, 0x100000, 12, 0x40, false,
      [⟨LANE_SEQ.SEQ, .rov, 0, []⟩]⟩
  | .LANE_CODE_ERR => ⟨0x903008, 4, 0x100000, 12, 0x40, false,
      [⟨LANE_CODE_ERR.COUNT, .rov, 0, []⟩]⟩
  | .LANE_CRC_ERR => ⟨0x90300c, 4, 0x100000, 12, 0x40, false,
      [⟨LANE_CRC_ERR.COUNT, .rov, 0, []⟩]⟩
  | .LANE_FRAME_ERR => ⟨0x903010, 4, 0x100000, 12, 0x40, false,
      [⟨LANE_FRAME_ERR.COUNT, .rov, 0, []⟩]⟩
  | .LANE_NOFRAME => ⟨0x903014, 4, 0x100000, 12, 0x40, false,
      [⟨LANE_NOFRAME.COUNT, .rov, 0, []⟩]⟩
  | .LANE_EXTRA => ⟨0x903018, 4, 0x100000, 12, 0x40, false,
      [⟨LANE_EXTRA.COUNT, .rov, 0, []⟩]⟩
  | .LANE_SEQ_SKIP => ⟨0x90301c, 4, 0x100000, 12, 0x40, false,
      [⟨LANE_SEQ_SKIP.COUNT, .rov, 0, []⟩]⟩
  | .LANE_CLEAR => ⟨0x903020, 4, 0x100000, 12, 0x40, false,
      [⟨LANE_CLEAR.COUNTERS, .wo, 0, []⟩]⟩
  | .PG_STATUS => ⟨0x904000, 4, 0x100000, 4, 0x100, false,
      [⟨PG_STATUS.TABLE, .rov, 0, []⟩, ⟨PG_STATUS.RUNNING, .rov, 0, []⟩, ⟨PG_STATUS.OUT_EN, .rov, 0, []⟩]⟩
  | .PG_DESKEW => ⟨0x904004, 4, 0x100000, 4, 0x100, false,
      [⟨PG_DESKEW.DESKEW, .rws, 0, []⟩]⟩
  | .PG_OUT => ⟨0x904008, 4, 0x100000, 4, 0x100, false,
      [⟨PG_OUT.PAIR_DIFF, .rw, 0, []⟩, ⟨PG_OUT.DRIVE, .rw, 0, []⟩]⟩
  | .PG_OVERRUN => ⟨0x90400c, 4, 0x100000, 4, 0x100, false,
      [⟨PG_OVERRUN.COUNT, .rov, 0, []⟩]⟩
  | .PG_CLEAR => ⟨0x904010, 4, 0x100000, 4, 0x100, false,
      [⟨PG_CLEAR.OVERRUN, .wo, 0, []⟩]⟩
  | .I3C_CFG => ⟨0x905000, 4, 0x100000, 1, 0x0, false,
      [⟨I3C_CFG.RATE, .rw, 0, [(0, 3)]⟩]⟩
  | .I3C_STATUS => ⟨0x905004, 4, 0x100000, 1, 0x0, false,
      [⟨I3C_STATUS.BOUND, .rov, 0, []⟩]⟩
  | .I3C_ERRORS => ⟨0x905008, 4, 0x100000, 1, 0x0, false,
      [⟨I3C_ERRORS.COUNT, .rov, 0, []⟩]⟩
  | .I3C_HOTJOINS => ⟨0x90500c, 4, 0x100000, 1, 0x0, false,
      [⟨I3C_HOTJOINS.COUNT, .rov, 0, []⟩]⟩
  | .I3C_IBIS => ⟨0x905010, 4, 0x100000, 1, 0x0, false,
      [⟨I3C_IBIS.COUNT, .rov, 0, []⟩]⟩
  | .I3C_CLEAR => ⟨0x905014, 4, 0x100000, 1, 0x0, false,
      [⟨I3C_CLEAR.COUNTERS, .wo, 0, []⟩]⟩
  | .AXH_CHOP => ⟨0x980000, 4, 0x100000, 2, 0x100, false,
      [⟨AXH_CHOP.T_OFF, .rw, 0xc8, [(1, 0x3ff)]⟩, ⟨AXH_CHOP.T_BLANK, .rw, 0x32, [(1, 0xff)]⟩, ⟨AXH_CHOP.DECAY, .rw, 4, []⟩]⟩
  | .AXH_TON_MAX => ⟨0x980004, 4, 0x100000, 2, 0x100, false,
      [⟨AXH_TON_MAX.TON, .rw, 0x1388, [(1, 0xffff)]⟩]⟩
  | .AXH_SENSE => ⟨0x980008, 4, 0x100000, 2, 0x100, false,
      [⟨AXH_SENSE.I_OC, .rw, 0x7ff, [(1, 0x7ff)]⟩]⟩
  | .AXH_LIM => ⟨0x98000c, 4, 0x100000, 2, 0x100, false,
      [⟨AXH_LIM.FILT, .rw, 0xa, [(1, 0xff)]⟩, ⟨AXH_LIM.NEG_INV, .rw, 0, []⟩, ⟨AXH_LIM.POS_INV, .rw, 0, []⟩, ⟨AXH_LIM.LIM_EN, .rw, 1, []⟩]⟩
  | .AXH_STATUS => ⟨0x980010, 4, 0x100000, 2, 0x100, false,
      [⟨AXH_STATUS.LIM_NEG_IN, .rov, 0, []⟩, ⟨AXH_STATUS.LIM_POS_IN, .rov, 0, []⟩, ⟨AXH_STATUS.FAULT_IN, .rov, 0, []⟩, ⟨AXH_STATUS.DRIVE, .rov, 0, []⟩, ⟨AXH_STATUS.BRAKE, .rov, 0, []⟩]⟩
  | .AXH_CURRENT => ⟨0x980014, 4, 0x100000, 2, 0x100, false,
      [⟨AXH_CURRENT.IA, .rov, 0, []⟩, ⟨AXH_CURRENT.IB, .rov, 0, []⟩]⟩
  | .AXH_TON => ⟨0x980018, 4, 0x100000, 2, 0x100, false,
      [⟨AXH_TON.TON, .rov, 0, []⟩, ⟨AXH_TON.LA, .rov, 0, []⟩]⟩
  | .AXH_ANGLE => ⟨0x98001c, 4, 0x100000, 2, 0x100, false,
      [⟨AXH_ANGLE.THETA, .rov, 0, []⟩]⟩
  | .PIPE_CTRL => ⟨0xd00000, 1, 0x0, 1, 0x0, false,
      [⟨PIPE_CTRL.AVG, .rws, 0, [(0, 5)]⟩, ⟨PIPE_CTRL.DARK_EN, .rws, 0, []⟩, ⟨PIPE_CTRL.SHADE_EN, .rws, 0, []⟩, ⟨PIPE_CTRL.DRIFT_EN, .rws, 0, []⟩, ⟨PIPE_CTRL.TEMP_EN, .rws, 0, []⟩]⟩
  | .PIPE_FILL => ⟨0xd00010, 4, 0x4, 1, 0x0, false,
      [⟨PIPE_FILL.FILL, .rws, 0, []⟩]⟩
  | .PIPE_TEMP_AGE => ⟨0xd00020, 1, 0x0, 1, 0x0, false,
      [⟨PIPE_TEMP_AGE.MAX_AGE, .rws, 0x3e8, [(1, 0xffff)]⟩]⟩
  | .PIPE_WIN_SEL => ⟨0xd00030, 1, 0x0, 1, 0x0, false,
      [⟨PIPE_WIN_SEL.CLASS, .rw, 2, [(2, 6)]⟩, ⟨PIPE_WIN_SEL.PAGE, .rw, 0, []⟩]⟩
  | .PIPE_STORE_USED => ⟨0xd00100, 2, 0x80000, 1, 0x0, false,
      [⟨PIPE_STORE_USED.SLOTS, .rov, 0, []⟩]⟩
  | .PIPE_LINE_DONE => ⟨0xd00108, 2, 0x80000, 1, 0x0, true,
      [⟨PIPE_LINE_DONE.LINE, .rov, 0, []⟩]⟩
  | .PIPE_LATENCY_MAX => ⟨0xd00110, 2, 0x80000, 1, 0x0, false,
      [⟨PIPE_LATENCY_MAX.NS, .rov, 0, []⟩]⟩
  | .PIPE_SAT => ⟨0xd00200, 2, 0x80000, 4, 0x4, false,
      [⟨PIPE_SAT.COUNT, .rov, 0, []⟩]⟩
  | .PIPE_CLIP_LO => ⟨0xd00300, 2, 0x80000, 4, 0x8, false,
      [⟨PIPE_CLIP_LO.COUNT, .rov, 0, []⟩]⟩
  | .PIPE_CLIP_HI => ⟨0xd00304, 2, 0x80000, 4, 0x8, false,
      [⟨PIPE_CLIP_HI.COUNT, .rov, 0, []⟩]⟩
  | .PIPE_LUT_CLAMP => ⟨0xd00320, 2, 0x80000, 4, 0x4, false,
      [⟨PIPE_LUT_CLAMP.COUNT, .rov, 0, []⟩]⟩
  | .PIPE_ALIGN_GAPS => ⟨0xd00340, 2, 0x80000, 1, 0x0, false,
      [⟨PIPE_ALIGN_GAPS.COUNT, .rov, 0, []⟩]⟩
  | .PIPE_TEMP_STALE => ⟨0xd00344, 2, 0x80000, 1, 0x0, false,
      [⟨PIPE_TEMP_STALE.COUNT, .rov, 0, []⟩]⟩
  | .PIPE_CLEAR => ⟨0xd00380, 2, 0x80000, 1, 0x0, false,
      [⟨PIPE_CLEAR.SAT, .wo, 0, []⟩, ⟨PIPE_CLEAR.CLIP, .wo, 0, []⟩, ⟨PIPE_CLEAR.LUT_CLAMP, .wo, 0, []⟩, ⟨PIPE_CLEAR.ALIGN, .wo, 0, []⟩, ⟨PIPE_CLEAR.TEMP, .wo, 0, []⟩, ⟨PIPE_CLEAR.LATENCY, .wo, 0, []⟩]⟩
  | .CMPR_CTRL => ⟨0xe00000, 1, 0x0, 1, 0x0, false,
      [⟨CMPR_CTRL.EN, .rws, 0, []⟩, ⟨CMPR_CTRL.REG_EN, .rws, 0, []⟩, ⟨CMPR_CTRL.HOLD_UNREG, .rws, 0, []⟩, ⟨CMPR_CTRL.COLOUR_EN, .rws, 0, []⟩, ⟨CMPR_CTRL.REPORT_SMALL, .rws, 0, []⟩, ⟨CMPR_CTRL.REG_INIT, .rws, 0, [(0, 2)]⟩, ⟨CMPR_CTRL.REG_WIDTH, .rws, 2, [(0, 2)]⟩, ⟨CMPR_CTRL.REG_PLANE, .rws, 1, []⟩]⟩
  | .CMPR_BLOB_CFG => ⟨0xe00004, 1, 0x0, 1, 0x0, false,
      [⟨CMPR_BLOB_CFG.MAX_BLOB_LINES, .rws, 0x100, [(1, 0xffff)]⟩]⟩
  | .CMPR_REF_CFG => ⟨0xe00008, 1, 0x0, 1, 0x0, false,
      [⟨CMPR_REF_CFG.REGION, .rws, 0, []⟩, ⟨CMPR_REF_CFG.STEP, .rws, 1, []⟩]⟩
  | .CMPR_REF_NEXT => ⟨0xe0000c, 1, 0x0, 1, 0x0, false,
      [⟨CMPR_REF_NEXT.PAGE_ID, .rws, 0, []⟩]⟩
  | .CMPR_REF_STATUS => ⟨0xe00010, 1, 0x0, 1, 0x0, false,
      [⟨CMPR_REF_STATUS.REGION, .rov, 0, []⟩, ⟨CMPR_REF_STATUS.BOUND, .rov, 0, []⟩]⟩
  | .CMPR_REF_BOUND => ⟨0xe00014, 1, 0x0, 1, 0x0, false,
      [⟨CMPR_REF_BOUND.PAGE_ID, .rov, 0, []⟩]⟩
  | .CMPR_REF_INFORCE => ⟨0xe00018, 1, 0x0, 1, 0x0, false,
      [⟨CMPR_REF_INFORCE.PAGE_ID, .rov, 0, []⟩]⟩
  | .CMPR_REGION_BASE => ⟨0xe00100, 16, 0x10, 1, 0x0, true,
      [⟨CMPR_REGION_BASE.OFFSET, .rov, 0, []⟩]⟩
  | .CMPR_REGION_SIZE => ⟨0xe00108, 16, 0x10, 1, 0x0, true,
      [⟨CMPR_REGION_SIZE.BYTES, .rov, 0, []⟩]⟩
  | .CMPR_WARP => ⟨0xe00200, 32, 0x4, 1, 0x0, false,
      [⟨CMPR_WARP.WX, .rov, 0, []⟩, ⟨CMPR_WARP.WY, .rov, 0, []⟩]⟩
  | .CMPR_REG_CORR => ⟨0xe00280, 32, 0x4, 1, 0x0, false,
      [⟨CMPR_REG_CORR.CX, .rov, 0, []⟩, ⟨CMPR_REG_CORR.VALID, .rov, 0, []⟩, ⟨CMPR_REG_CORR.LIMIT, .rov, 0, []⟩, ⟨CMPR_REG_CORR.CY, .rov, 0, []⟩]⟩
  | .CMPR_REG_APPLIED => ⟨0xe00300, 1, 0x0, 1, 0x0, true,
      [⟨CMPR_REG_APPLIED.LINE, .rov, 0, []⟩, ⟨CMPR_REG_APPLIED.REGISTERED, .rov, 0, []⟩]⟩
  | .CMPR_ACT_CFG => ⟨0xe01000, 16, 0x40, 1, 0x0, false,
      [⟨CMPR_ACT_CFG.OUTPUT, .rws, 0, []⟩, ⟨CMPR_ACT_CFG.EN, .rws, 0, []⟩, ⟨CMPR_ACT_CFG.MODE, .rws, 0, []⟩, ⟨CMPR_ACT_CFG.POLARITY, .rws, 0, []⟩]⟩
  | .CMPR_ACT_WIDTH => ⟨0xe01004, 16, 0x40, 1, 0x0, false,
      [⟨CMPR_ACT_WIDTH.NS, .rws, 1, [(1, 0xffffffff)]⟩]⟩
  | .CMPR_ACT_DIST => ⟨0xe01008, 16, 0x40, 1, 0x0, true,
      [⟨CMPR_ACT_DIST.PQ, .rws, 0, []⟩]⟩
  | .CMPR_ACT_LEAD => ⟨0xe01010, 16, 0x40, 1, 0x0, false,
      [⟨CMPR_ACT_LEAD.PQ, .rws, 0, []⟩]⟩
  | .CMPR_ACT_TRAIL => ⟨0xe01014, 16, 0x40, 1, 0x0, false,
      [⟨CMPR_ACT_TRAIL.PQ, .rws, 0, []⟩]⟩
  | .CMPR_ACT_MIN_GAP => ⟨0xe01018, 16, 0x40, 1, 0x0, false,
      [⟨CMPR_ACT_MIN_GAP.PQ, .rws, 0, []⟩]⟩
  | .CMPR_ACT_ZONE => ⟨0xe01020, 16, 0x40, 1, 0x0, true,
      [⟨CMPR_ACT_ZONE.COL_FIRST, .rws, 0, []⟩, ⟨CMPR_ACT_ZONE.COL_LAST, .rws, 0x3ffff, []⟩]⟩
  | .CMPR_ACT_MARGIN => ⟨0xe01028, 16, 0x40, 1, 0x0, true,
      [⟨CMPR_ACT_MARGIN.PQ, .rov, 0x7fffffffffffffff, []⟩]⟩
  | .CMPR_ACT_FIRED => ⟨0xe01030, 16, 0x40, 1, 0x0, false,
      [⟨CMPR_ACT_FIRED.COUNT, .rov, 0, []⟩]⟩
  | .CMPR_ACT_MERGED => ⟨0xe01034, 16, 0x40, 1, 0x0, false,
      [⟨CMPR_ACT_MERGED.COUNT, .rov, 0, []⟩]⟩
  | .CMPR_ACT_CLEAR => ⟨0xe01038, 16, 0x40, 1, 0x0, false,
      [⟨CMPR_ACT_CLEAR.WHAT, .wo, 0, []⟩]⟩
  | .CMPR_DEFECTS => ⟨0xe02000, 1, 0x0, 1, 0x0, false,
      [⟨CMPR_DEFECTS.COUNT, .rov, 0, []⟩]⟩
  | .CMPR_BLOBS_SMALL => ⟨0xe02004, 1, 0x0, 1, 0x0, false,
      [⟨CMPR_BLOBS_SMALL.COUNT, .rov, 0, []⟩]⟩
  | .CMPR_REF_LATE => ⟨0xe02008, 1, 0x0, 1, 0x0, false,
      [⟨CMPR_REF_LATE.COUNT, .rov, 0, []⟩]⟩
  | .CMPR_MODEL_MISMATCH => ⟨0xe0200c, 1, 0x0, 1, 0x0, false,
      [⟨CMPR_MODEL_MISMATCH.COUNT, .rov, 0, []⟩]⟩
  | .CMPR_REG_SKIP => ⟨0xe02010, 1, 0x0, 1, 0x0, false,
      [⟨CMPR_REG_SKIP.COUNT, .rov, 0, []⟩]⟩
  | .CMPR_REG_INVALID => ⟨0xe02014, 1, 0x0, 1, 0x0, false,
      [⟨CMPR_REG_INVALID.COUNT, .rov, 0, []⟩]⟩
  | .CMPR_REG_LIMIT => ⟨0xe02018, 1, 0x0, 1, 0x0, false,
      [⟨CMPR_REG_LIMIT.COUNT, .rov, 0, []⟩]⟩
  | .CMPR_OVERFLOW => ⟨0xe0201c, 1, 0x0, 1, 0x0, false,
      [⟨CMPR_OVERFLOW.COUNT, .rov, 0, []⟩]⟩
  | .CMPR_PAGES_NOREF => ⟨0xe02020, 1, 0x0, 1, 0x0, false,
      [⟨CMPR_PAGES_NOREF.COUNT, .rov, 0, []⟩]⟩
  | .CMPR_CLEAR => ⟨0xe02040, 1, 0x0, 1, 0x0, false,
      [⟨CMPR_CLEAR.COUNTERS, .wo, 0, []⟩]⟩
  | .CMPR_WIN_SEL => ⟨0xe03000, 1, 0x0, 1, 0x0, false,
      [⟨CMPR_WIN_SEL.CLASS, .rw, 7, [(7, 9)]⟩, ⟨CMPR_WIN_SEL.PAGE, .rw, 0, []⟩]⟩
  | .PROD_PAGE_STATUS => ⟨0xf00000, 1, 0x0, 1, 0x0, false,
      [⟨PROD_PAGE_STATUS.OPEN, .rov, 0, []⟩, ⟨PROD_PAGE_STATUS.FLAGS, .rov, 0, []⟩]⟩
  | .PROD_PAGE_NUM => ⟨0xf00008, 1, 0x0, 1, 0x0, true,
      [⟨PROD_PAGE_NUM.PAGE, .rov, 0, []⟩]⟩
  | .PROD_PAGE_FIRST => ⟨0xf00010, 1, 0x0, 1, 0x0, true,
      [⟨PROD_PAGE_FIRST.LINE, .rov, 0, []⟩]⟩
  | .PROD_PAGE_LAST => ⟨0xf00018, 1, 0x0, 1, 0x0, true,
      [⟨PROD_PAGE_LAST.LINE, .rov, 0, []⟩]⟩
  | .PROD_PAGE_CTRL => ⟨0xf00020, 1, 0x0, 1, 0x0, false,
      [⟨PROD_PAGE_CTRL.OPEN, .wo, 0, []⟩, ⟨PROD_PAGE_CTRL.CLOSE, .wo, 0, []⟩]⟩
  | .PROD_EDGE_LEFT => ⟨0xf00040, 1, 0x0, 1, 0x0, false,
      [⟨PROD_EDGE_LEFT.VALUE, .rov, 0, []⟩]⟩
  | .PROD_EDGE_RIGHT => ⟨0xf00044, 1, 0x0, 1, 0x0, false,
      [⟨PROD_EDGE_RIGHT.VALUE, .rov, 0, []⟩]⟩
  | .PROD_EDGE_OFFSET => ⟨0xf00048, 1, 0x0, 1, 0x0, false,
      [⟨PROD_EDGE_OFFSET.VALUE, .rov, 0, []⟩]⟩
  | .PROD_EDGE_LEAD => ⟨0xf0004c, 1, 0x0, 1, 0x0, false,
      [⟨PROD_EDGE_LEAD.VALUE, .rov, 0, []⟩]⟩
  | .PROD_EDGE_SLOPE => ⟨0xf00050, 1, 0x0, 1, 0x0, false,
      [⟨PROD_EDGE_SLOPE.VALUE, .rov, 0, []⟩]⟩
  | .PROD_EDGE_SKEW => ⟨0xf00054, 1, 0x0, 1, 0x0, false,
      [⟨PROD_EDGE_SKEW.VALUE, .rov, 0, []⟩]⟩
  | .PROD_EDGE_LINE => ⟨0xf00058, 1, 0x0, 1, 0x0, true,
      [⟨PROD_EDGE_LINE.LINE, .rov, 0, []⟩]⟩
  | .PROD_TRIG_FIRES => ⟨0xf00100, 32, 0x4, 1, 0x0, false,
      [⟨PROD_TRIG_FIRES.COUNT, .rov, 0, []⟩]⟩
  | .PROD_TRIG_HELD => ⟨0xf00180, 32, 0x4, 1, 0x0, false,
      [⟨PROD_TRIG_HELD.COUNT, .rov, 0, []⟩]⟩
  | .PROD_SEQ_STATE => ⟨0xf00200, 4, 0x4, 1, 0x0, false,
      [⟨PROD_SEQ_STATE.STATE, .rov, 0, []⟩, ⟨PROD_SEQ_STATE.DEFINED, .rov, 0, []⟩]⟩
  | .PROD_SEQ_COUNT => ⟨0xf00210, 4, 0x4, 1, 0x0, false,
      [⟨PROD_SEQ_COUNT.COUNT, .rov, 0, []⟩]⟩
  | .PROD_PAGES_LATE => ⟨0xf00300, 1, 0x0, 1, 0x0, false,
      [⟨PROD_PAGES_LATE.COUNT, .rov, 0, []⟩]⟩
  | .PROD_PAGES_SHORT => ⟨0xf00304, 1, 0x0, 1, 0x0, false,
      [⟨PROD_PAGES_SHORT.COUNT, .rov, 0, []⟩]⟩
  | .PROD_PAGES_FORCED => ⟨0xf00308, 1, 0x0, 1, 0x0, false,
      [⟨PROD_PAGES_FORCED.COUNT, .rov, 0, []⟩]⟩
  | .PROD_PAGES_OVERLAP => ⟨0xf0030c, 1, 0x0, 1, 0x0, false,
      [⟨PROD_PAGES_OVERLAP.COUNT, .rov, 0, []⟩]⟩
  | .PROD_CLOSE_IDLE => ⟨0xf00310, 1, 0x0, 1, 0x0, false,
      [⟨PROD_CLOSE_IDLE.COUNT, .rov, 0, []⟩]⟩
  | .PROD_EDGE_FAIL => ⟨0xf00314, 1, 0x0, 1, 0x0, false,
      [⟨PROD_EDGE_FAIL.COUNT, .rov, 0, []⟩]⟩
  | .PROD_CLEAR => ⟨0xf00340, 1, 0x0, 1, 0x0, false,
      [⟨PROD_CLEAR.COUNTERS, .wo, 0, []⟩, ⟨PROD_CLEAR.TRIG, .wo, 0, []⟩]⟩
  | .PROD_CAPTURES => ⟨0xf00400, 1, 0x0, 1, 0x0, false,
      [⟨PROD_CAPTURES.COUNT, .rov, 0, []⟩]⟩
  | .PROD_CTX_STATUS => ⟨0xf10000, 2048, 0x20, 1, 0x0, false,
      [⟨PROD_CTX_STATUS.STATE, .rov, 0, []⟩, ⟨PROD_CTX_STATUS.KIND, .rov, 0, []⟩]⟩
  | .PROD_CTX_PARCEL => ⟨0xf10004, 2048, 0x20, 1, 0x0, false,
      [⟨PROD_CTX_PARCEL.BYTES, .rov, 0, []⟩]⟩
  | .PROD_CTX_PRODUCED => ⟨0xf10008, 2048, 0x20, 1, 0x0, true,
      [⟨PROD_CTX_PRODUCED.PARCEL, .rov, 0, []⟩]⟩
  | .PROD_CTX_LINE => ⟨0xf10010, 2048, 0x20, 1, 0x0, true,
      [⟨PROD_CTX_LINE.LINE, .rov, 0, []⟩]⟩
  | .DMA_CH_RING_BASE => ⟨0x1000000, 64, 0x100, 1, 0x0, true,
      [⟨DMA_CH_RING_BASE.SPACE, .rw, 0, []⟩, ⟨DMA_CH_RING_BASE.BASE, .rw, 0, []⟩]⟩
  | .DMA_CH_RING_SIZE => ⟨0x1000008, 64, 0x100, 1, 0x0, false,
      [⟨DMA_CH_RING_SIZE.SIZE, .rw, 0, []⟩]⟩
  | .DMA_CH_CFG => ⟨0x100000c, 64, 0x100, 1, 0x0, false,
      [⟨DMA_CH_CFG.CREDIT_SRC, .rw, 0, []⟩, ⟨DMA_CH_CFG.CHAIN_FROM, .rw, 0, []⟩, ⟨DMA_CH_CFG.WEIGHT, .rw, 1, [(1, 0xf)]⟩]⟩
  | .DMA_CH_TIMER => ⟨0x1000010, 64, 0x100, 1, 0x0, false,
      [⟨DMA_CH_TIMER.PERIOD, .rw, 0x3e8, [(1, 0xffffffff)]⟩]⟩
  | .DMA_CH_CTRL => ⟨0x1000014, 64, 0x100, 1, 0x0, false,
      [⟨DMA_CH_CTRL.ENABLE, .rw, 0, []⟩, ⟨DMA_CH_CTRL.PAUSE, .rw, 0, []⟩, ⟨DMA_CH_CTRL.RESTART, .wo, 0, []⟩]⟩
  | .DMA_CH_TAIL => ⟨0x1000018, 64, 0x100, 1, 0x0, false,
      [⟨DMA_CH_TAIL.COUNT, .wo, 0, []⟩]⟩
  | .DMA_CH_HEAD => ⟨0x100001c, 64, 0x100, 1, 0x0, false,
      [⟨DMA_CH_HEAD.COUNT, .rov, 0, []⟩]⟩
  | .DMA_CH_STATUS => ⟨0x1000020, 64, 0x100, 1, 0x0, false,
      [⟨DMA_CH_STATUS.STATE, .rov, 0, []⟩, ⟨DMA_CH_STATUS.HALT_CAUSE, .rov, 0, []⟩]⟩
  | .DMA_CH_CREDITS => ⟨0x1000024, 64, 0x100, 1, 0x0, false,
      [⟨DMA_CH_CREDITS.COUNT, .rov, 0, []⟩]⟩
  | .DMA_CH_DONE_BYTES => ⟨0x1000028, 64, 0x100, 1, 0x0, false,
      [⟨DMA_CH_DONE_BYTES.BYTES, .rov, 0, []⟩]⟩
  | .DMA_CH_CRC => ⟨0x1000030, 64, 0x100, 1, 0x0, true,
      [⟨DMA_CH_CRC.VALUE, .rov, 0, []⟩]⟩
  | .DMA_CH_CUR_DESC => ⟨0x1000038, 64, 0x100, 1, 0x0, true,
      [⟨DMA_CH_CUR_DESC.ADDR, .rov, 0, []⟩]⟩
  | .DMA_CH_BAD => ⟨0x1000040, 64, 0x100, 1, 0x0, false,
      [⟨DMA_CH_BAD.COUNT, .rov, 0, []⟩]⟩
  | .DMA_CH_CREDIT_DROP => ⟨0x1000044, 64, 0x100, 1, 0x0, false,
      [⟨DMA_CH_CREDIT_DROP.COUNT, .rov, 0, []⟩]⟩
  | .DMA_CH_PACE_IGNORED => ⟨0x1000048, 64, 0x100, 1, 0x0, false,
      [⟨DMA_CH_PACE_IGNORED.COUNT, .rov, 0, []⟩]⟩
  | .DMA_CH_CLEAR => ⟨0x100004c, 64, 0x100, 1, 0x0, false,
      [⟨DMA_CH_CLEAR.COUNTERS, .wo, 0, []⟩]⟩
  | .DMA_WIN_SEL => ⟨0x1010000, 1, 0x0, 1, 0x0, false,
      [⟨DMA_WIN_SEL.PAGE, .rw, 0, [(0, 4)]⟩]⟩
  | .QUE_CMD_LEVEL => ⟨0x1100000, 1, 0x0, 1, 0x0, false,
      [⟨QUE_CMD_LEVEL.ENTRIES, .rov, 0, []⟩]⟩
  | .QUE_UQ_POP => ⟨0x1100100, 16, 0x8, 1, 0x0, true,
      [⟨QUE_UQ_POP.PAYLOAD, .rov, 0, []⟩, ⟨QUE_UQ_POP.VALID, .rov, 0, []⟩]⟩
  | .QUE_UQ_LEVEL => ⟨0x1100200, 16, 0x8, 1, 0x0, false,
      [⟨QUE_UQ_LEVEL.ENTRIES, .rov, 0, []⟩]⟩
  | .QUE_UQ_DROP => ⟨0x1100204, 16, 0x8, 1, 0x0, false,
      [⟨QUE_UQ_DROP.COUNT, .rov, 0, []⟩]⟩
  | .QUE_UQ_CLEAR => ⟨0x1100280, 1, 0x0, 1, 0x0, false,
      [⟨QUE_UQ_CLEAR.DROP, .wo, 0, []⟩]⟩
  | .QUE_HBM_CAP => ⟨0x1101000, 1, 0x0, 1, 0x0, true,
      [⟨QUE_HBM_CAP.BYTES, .rov, 0, []⟩]⟩
  | .QUE_HBM_USED => ⟨0x1101008, 1, 0x0, 1, 0x0, true,
      [⟨QUE_HBM_USED.BYTES, .rov, 0, []⟩]⟩
  | .QUE_HBM_RESERVED => ⟨0x1101010, 1, 0x0, 1, 0x0, true,
      [⟨QUE_HBM_RESERVED.BYTES, .rov, 0, []⟩]⟩
  | .QUE_DESC_USED => ⟨0x1101018, 1, 0x0, 1, 0x0, false,
      [⟨QUE_DESC_USED.COUNT, .rov, 0, []⟩]⟩
  | .QUE_LEVEL => ⟨0x110101c, 1, 0x0, 1, 0x0, false,
      [⟨QUE_LEVEL.LEVEL, .rov, 0, []⟩]⟩
  | .QUE_SPILL_CFG => ⟨0x1101020, 1, 0x0, 1, 0x0, false,
      [⟨QUE_SPILL_CFG.ON, .rw, 0x10, [(1, 0x400)]⟩, ⟨QUE_SPILL_CFG.OFF, .rw, 8, []⟩]⟩
  | .QUE_SPILL_STATUS => ⟨0x1101024, 1, 0x0, 1, 0x0, false,
      [⟨QUE_SPILL_STATUS.ACTIVE, .rov, 0, []⟩]⟩
  | .QUE_LADDER_WM => ⟨0x1101040, 3, 0x4, 1, 0x0, false,
      [⟨QUE_LADDER_WM.DOWN, .rw, 0x3e0, []⟩, ⟨QUE_LADDER_WM.UP, .rw, 0x300, []⟩]⟩
  | .QUE_LADDER_TIME => ⟨0x1101050, 1, 0x0, 1, 0x0, false,
      [⟨QUE_LADDER_TIME.STEP_LINES, .rw, 0x40, [(1, 0xffff)]⟩, ⟨QUE_LADDER_TIME.UP_LINES, .rw, 0x1000, [(1, 0xffff)]⟩]⟩
  | .QUE_LADDER_STATUS => ⟨0x1101054, 1, 0x0, 1, 0x0, false,
      [⟨QUE_LADDER_STATUS.RUNG, .rov, 0, []⟩, ⟨QUE_LADDER_STATUS.MAXF, .rov, 0, []⟩, ⟨QUE_LADDER_STATUS.FORCED, .rov, 0, []⟩, ⟨QUE_LADDER_STATUS.UP_COUNT, .rov, 0, []⟩]⟩
  | .QUE_PACE_CFG => ⟨0x1101058, 1, 0x0, 1, 0x0, false,
      [⟨QUE_PACE_CFG.HIGH, .rw, 0x3c0, []⟩, ⟨QUE_PACE_CFG.LOW, .rw, 0x300, []⟩]⟩
  | .QUE_PACE_STATUS => ⟨0x110105c, 1, 0x0, 1, 0x0, false,
      [⟨QUE_PACE_STATUS.PAUSED, .rov, 0, []⟩]⟩
  | .QUE_STEPS_DOWN => ⟨0x1101100, 1, 0x0, 1, 0x0, false,
      [⟨QUE_STEPS_DOWN.COUNT, .rov, 0, []⟩]⟩
  | .QUE_STEPS_UP => ⟨0x1101104, 1, 0x0, 1, 0x0, false,
      [⟨QUE_STEPS_UP.COUNT, .rov, 0, []⟩]⟩
  | .QUE_FORCED => ⟨0x1101108, 1, 0x0, 1, 0x0, false,
      [⟨QUE_FORCED.COUNT, .rov, 0, []⟩]⟩
  | .QUE_PACE_STOPS => ⟨0x110110c, 1, 0x0, 1, 0x0, false,
      [⟨QUE_PACE_STOPS.COUNT, .rov, 0, []⟩]⟩
  | .QUE_STARVED_LINES => ⟨0x1101110, 1, 0x0, 1, 0x0, false,
      [⟨QUE_STARVED_LINES.COUNT, .rov, 0, []⟩]⟩
  | .QUE_CLEAR => ⟨0x1101140, 1, 0x0, 1, 0x0, false,
      [⟨QUE_CLEAR.COUNTERS, .wo, 0, []⟩]⟩
  | .QUE_CTX_HBM => ⟨0x1110000, 2048, 0x10, 1, 0x0, false,
      [⟨QUE_CTX_HBM.PARCELS, .rov, 0, []⟩]⟩
  | .QUE_CTX_DRIVE => ⟨0x1110004, 2048, 0x10, 1, 0x0, false,
      [⟨QUE_CTX_DRIVE.PARCELS, .rov, 0, []⟩]⟩
  | .QUE_CTX_HELD => ⟨0x1110008, 2048, 0x10, 1, 0x0, true,
      [⟨QUE_CTX_HELD.PARCELS, .rov, 0, []⟩]⟩
  | .RP_CFG => ⟨0x1200000, 1, 0x0, 1, 0x0, false,
      [⟨RP_CFG.BIFURCATION, .rov, 0, []⟩, ⟨RP_CFG.ENABLED, .rov, 0, []⟩]⟩
  | .RP_PAIRING => ⟨0x1200004, 1, 0x0, 1, 0x0, false,
      [⟨RP_PAIRING.PAIRS, .rov, 0, []⟩]⟩
  | .RP_TIMEOUT => ⟨0x1200008, 1, 0x0, 1, 0x0, false,
      [⟨RP_TIMEOUT.MS, .rw, 0x7d0, [(1, 0xffff)]⟩]⟩
  | .RP_PORT_STATUS => ⟨0x1200100, 4, 0x40, 1, 0x0, false,
      [⟨RP_PORT_STATUS.STATE, .rov, 0, []⟩, ⟨RP_PORT_STATUS.PRESENT, .rov, 0, []⟩, ⟨RP_PORT_STATUS.RATE, .rov, 0, []⟩, ⟨RP_PORT_STATUS.WIDTH, .rov, 0, []⟩, ⟨RP_PORT_STATUS.DEGRADED, .rov, 0, []⟩, ⟨RP_PORT_STATUS.REBUILDING, .rov, 0, []⟩, ⟨RP_PORT_STATUS.CAUSE, .rov, 0, []⟩]⟩
  | .RP_PORT_CAP => ⟨0x1200108, 4, 0x40, 1, 0x0, true,
      [⟨RP_PORT_CAP.BYTES, .rov, 0, []⟩]⟩
  | .RP_PORT_RATE => ⟨0x1200110, 4, 0x40, 1, 0x0, false,
      [⟨RP_PORT_RATE.MBPS, .rov, 0, []⟩]⟩
  | .RP_PORT_RATE_CAP => ⟨0x1200114, 4, 0x40, 1, 0x0, false,
      [⟨RP_PORT_RATE_CAP.MBPS, .rw, 0, []⟩]⟩
  | .RP_PORT_WRITE_ERR => ⟨0x1200118, 4, 0x40, 1, 0x0, false,
      [⟨RP_PORT_WRITE_ERR.COUNT, .rov, 0, []⟩]⟩
  | .RP_PORT_READ_ERR => ⟨0x120011c, 4, 0x40, 1, 0x0, false,
      [⟨RP_PORT_READ_ERR.COUNT, .rov, 0, []⟩]⟩
  | .RP_PORT_TIMEOUTS => ⟨0x1200120, 4, 0x40, 1, 0x0, false,
      [⟨RP_PORT_TIMEOUTS.COUNT, .rov, 0, []⟩]⟩
  | .RP_PORT_CLEAR => ⟨0x1200124, 4, 0x40, 1, 0x0, false,
      [⟨RP_PORT_CLEAR.COUNTERS, .wo, 0, []⟩]⟩
  | .RP_CAP => ⟨0x1201000, 1, 0x0, 1, 0x0, true,
      [⟨RP_CAP.BYTES, .rov, 0, []⟩]⟩
  | .RP_HELD => ⟨0x1201008, 1, 0x0, 1, 0x0, true,
      [⟨RP_HELD.BYTES, .rov, 0, []⟩]⟩
  | .RP_RESERVED => ⟨0x1201010, 1, 0x0, 1, 0x0, true,
      [⟨RP_RESERVED.BYTES, .rov, 0, []⟩]⟩
  | .RP_FREE => ⟨0x1201018, 1, 0x0, 1, 0x0, true,
      [⟨RP_FREE.BYTES, .rov, 0, []⟩]⟩
  | .RP_RATE => ⟨0x1201020, 1, 0x0, 1, 0x0, false,
      [⟨RP_RATE.MBPS, .rov, 0, []⟩]⟩
  | .RP_REBUILD_LEFT => ⟨0x1201028, 1, 0x0, 1, 0x0, true,
      [⟨RP_REBUILD_LEFT.BYTES, .rov, 0, []⟩]⟩
  | .CAL_CTRL => ⟨0x1300000, 1, 0x0, 1, 0x0, false,
      [⟨CAL_CTRL.AUTO_EN, .rw, 0, []⟩, ⟨CAL_CTRL.RESTORE, .wo, 0, []⟩, ⟨CAL_CTRL.STAGE_HOLD, .rw, 0, []⟩, ⟨CAL_CTRL.AUTO_ANCHOR, .rw, 1, []⟩]⟩
  | .CAL_STATUS => ⟨0x1300004, 1, 0x0, 1, 0x0, false,
      [⟨CAL_STATUS.BUSY, .rov, 0, []⟩, ⟨CAL_STATUS.RUNNING, .rov, 0, []⟩, ⟨CAL_STATUS.SET, .rov, 0, []⟩, ⟨CAL_STATUS.RESTORE_PENDING, .rov, 0, []⟩, ⟨CAL_STATUS.RESTORE_RESULT, .rov, 0, []⟩]⟩
  | .CAL_RUN_NUM => ⟨0x1300008, 1, 0x0, 1, 0x0, false,
      [⟨CAL_RUN_NUM.RUN, .rov, 0, []⟩]⟩
  | .CAL_CFG => ⟨0x1300010, 1, 0x0, 1, 0x0, false,
      [⟨CAL_CFG.AUTO_KIND, .rw, 0, []⟩, ⟨CAL_CFG.MARKS_ONLY, .rw, 0, []⟩]⟩
  | .CAL_AUTO_LINES => ⟨0x1300014, 1, 0x0, 1, 0x0, false,
      [⟨CAL_AUTO_LINES.LINES, .rw, 0x1000, [(1, 0x10000)]⟩]⟩
  | .CAL_AUTO_TIMEOUT => ⟨0x1300018, 1, 0x0, 1, 0x0, false,
      [⟨CAL_AUTO_TIMEOUT.MS, .rw, 0x2710, [(1, 0x36ee80)]⟩]⟩
  | .CAL_MIN_SAMPLES => ⟨0x130001c, 1, 0x0, 1, 0x0, false,
      [⟨CAL_MIN_SAMPLES.COUNT, .rw, 0x40, [(2, 0xffff)]⟩]⟩
  | .CAL_TOL => ⟨0x1300020, 1, 0x0, 1, 0x0, false,
      [⟨CAL_TOL.GAIN, .rw, 0x21, []⟩, ⟨CAL_TOL.OFFSET, .rw, 8, []⟩]⟩
  | .CAL_TOL2 => ⟨0x1300024, 1, 0x0, 1, 0x0, false,
      [⟨CAL_TOL2.SHADE, .rw, 8, []⟩, ⟨CAL_TOL2.SIGMA, .rw, 0x640, []⟩]⟩
  | .CAL_LIMIT => ⟨0x1300028, 1, 0x0, 1, 0x0, false,
      [⟨CAL_LIMIT.GAIN_MIN, .rw, 0x6666, []⟩, ⟨CAL_LIMIT.GAIN_MAX, .rw, 0x999a, []⟩]⟩
  | .CAL_LIMIT_OFFSET => ⟨0x130002c, 1, 0x0, 1, 0x0, false,
      [⟨CAL_LIMIT_OFFSET.OFFSET, .rw, 0x640, []⟩]⟩
  | .CAL_TEMP_DELTA => ⟨0x1300030, 1, 0x0, 1, 0x0, false,
      [⟨CAL_TEMP_DELTA.DELTA, .rw, 0x180, [(1, 0xffff)]⟩]⟩
  | .CAL_HOLDOFF => ⟨0x1300034, 1, 0x0, 1, 0x0, false,
      [⟨CAL_HOLDOFF.S, .rw, 0x3c, []⟩]⟩
  | .CAL_REGION_MASK => ⟨0x1300038, 1, 0x0, 1, 0x0, false,
      [⟨CAL_REGION_MASK.REGIONS, .rw, 0xfffe, []⟩]⟩
  | .CAL_TILE_CFG => ⟨0x1300040, 1, 0x0, 1, 0x0, false,
      [⟨CAL_TILE_CFG.AXIS, .rw, 0, []⟩, ⟨CAL_TILE_CFG.TABLE_IN, .rw, 0, []⟩]⟩
  | .CAL_TILE_OUT => ⟨0x1300044, 1, 0x0, 1, 0x0, false,
      [⟨CAL_TILE_OUT.TABLE_OUT, .rw, 0, []⟩]⟩
  | .CAL_TILE_SETTLE => ⟨0x1300048, 1, 0x0, 1, 0x0, false,
      [⟨CAL_TILE_SETTLE.US, .rw, 0x186a0, [(1, 0xffffffff)]⟩]⟩
  | .CAL_TILE_TARGET => ⟨0x1300050, 4, 0x4, 1, 0x0, false,
      [⟨CAL_TILE_TARGET.CODE, .rw, 0xdac0, []⟩]⟩
  | .CAL_WIN_SEL => ⟨0x1300060, 1, 0x0, 1, 0x0, false,
      [⟨CAL_WIN_SEL.VIEW, .rw, 0, []⟩, ⟨CAL_WIN_SEL.PAGE, .rw, 0, [(0, 0x1c)]⟩]⟩
  | .CAL_MARK_MASK => ⟨0x1300100, 16, 0x8, 1, 0x0, true,
      [⟨CAL_MARK_MASK.SEGMENTS, .rw, 0, []⟩]⟩
  | .CAL_MARK_OPEN => ⟨0x1300180, 1, 0x0, 1, 0x0, false,
      [⟨CAL_MARK_OPEN.WINDOWS, .rov, 0, []⟩]⟩
  | .CAL_DARK => ⟨0x1300200, 48, 0x8, 1, 0x0, true,
      [⟨CAL_DARK.FIRST, .rw, 0, []⟩, ⟨CAL_DARK.COUNT, .rw, 1, [(1, 0x40000)]⟩, ⟨CAL_DARK.EN, .rw, 0, []⟩]⟩
  | .CAL_SEG_TEMP => ⟨0x1300400, 48, 0x4, 1, 0x0, false,
      [⟨CAL_SEG_TEMP.INPUTS, .rw, 0, []⟩]⟩
  | .CAL_SEG_STATUS => ⟨0x1300500, 48, 0x8, 1, 0x0, false,
      [⟨CAL_SEG_STATUS.TRIGGERED, .rov, 0, []⟩, ⟨CAL_SEG_STATUS.HELD_OFF, .rov, 0, []⟩, ⟨CAL_SEG_STATUS.ANCHORED, .rov, 0, []⟩]⟩
  | .CAL_SEG_LAST_RUN => ⟨0x1300504, 48, 0x8, 1, 0x0, false,
      [⟨CAL_SEG_LAST_RUN.RUN, .rov, 0, []⟩]⟩
  | .CAL_RUNS_ACCEPTED => ⟨0x1300800, 1, 0x0, 1, 0x0, false,
      [⟨CAL_RUNS_ACCEPTED.COUNT, .rov, 0, []⟩]⟩
  | .CAL_RUNS_REJECTED => ⟨0x1300804, 1, 0x0, 1, 0x0, false,
      [⟨CAL_RUNS_REJECTED.COUNT, .rov, 0, []⟩]⟩
  | .CAL_RUNS_OTHER => ⟨0x1300808, 1, 0x0, 1, 0x0, false,
      [⟨CAL_RUNS_OTHER.COUNT, .rov, 0, []⟩]⟩
  | .CAL_TRIGGERS => ⟨0x130080c, 1, 0x0, 1, 0x0, false,
      [⟨CAL_TRIGGERS.COUNT, .rov, 0, []⟩]⟩
  | .CAL_CLEAR => ⟨0x1300820, 1, 0x0, 1, 0x0, false,
      [⟨CAL_CLEAR.COUNTERS, .wo, 0, []⟩]⟩
  | .CAL_BASE_DIR => ⟨0x1303000, 256, 0x10, 1, 0x0, false,
      [⟨CAL_BASE_DIR.KIND, .rov, 0, []⟩, ⟨CAL_BASE_DIR.SEG, .rov, 0, []⟩, ⟨CAL_BASE_DIR.VALID, .rov, 0, []⟩, ⟨CAL_BASE_DIR.CURRENT, .rov, 0, []⟩]⟩
  | .CAL_BASE_LEN => ⟨0x1303004, 256, 0x10, 1, 0x0, false,
      [⟨CAL_BASE_LEN.BYTES, .rov, 0, []⟩]⟩
  | .CAL_BASE_SEQ => ⟨0x1303008, 256, 0x10, 1, 0x0, true,
      [⟨CAL_BASE_SEQ.SEQ, .rov, 0, []⟩]⟩
  | .CAL_BASE_SEL => ⟨0x1304000, 1, 0x0, 1, 0x0, false,
      [⟨CAL_BASE_SEL.ENTRY, .rw, 0, []⟩, ⟨CAL_BASE_SEL.PAGE, .rw, 0, []⟩]⟩
  | .CAL_TEMP_REF => ⟨0x1310000, 48, 0x80, 32, 0x4, false,
      [⟨CAL_TEMP_REF.TEMP, .rov, 0, []⟩]⟩
  | .AX_CTRL => ⟨0x1400000, 8, 0x200, 1, 0x0, false,
      [⟨AX_CTRL.ENABLE, .rw, 0, []⟩, ⟨AX_CTRL.CLEAR_FAULT, .wo, 0, []⟩]⟩
  | .AX_STATUS => ⟨0x1400004, 8, 0x200, 1, 0x0, false,
      [⟨AX_STATUS.STATE, .rov, 0, []⟩, ⟨AX_STATUS.REF, .rov, 0, []⟩, ⟨AX_STATUS.QUEUE, .rov, 0, []⟩, ⟨AX_STATUS.LATCH_NEG, .rov, 0, []⟩, ⟨AX_STATUS.LATCH_POS, .rov, 0, []⟩, ⟨AX_STATUS.LEVEL, .rov, 0, []⟩, ⟨AX_STATUS.PACE, .rov, 0, []⟩, ⟨AX_STATUS.FAULT_CAUSE, .rov, 0, []⟩]⟩
  | .AX_POS => ⟨0x1400008, 8, 0x200, 1, 0x0, true,
      [⟨AX_POS.POS, .rov, 0, []⟩]⟩
  | .AX_POS_FRAC => ⟨0x1400010, 8, 0x200, 1, 0x0, false,
      [⟨AX_POS_FRAC.FRAC, .rov, 0, []⟩]⟩
  | .AX_VEL => ⟨0x1400014, 8, 0x200, 1, 0x0, false,
      [⟨AX_VEL.VEL, .rov, 0, []⟩]⟩
  | .AX_REMAIN => ⟨0x1400018, 8, 0x200, 1, 0x0, true,
      [⟨AX_REMAIN.DIST, .rov, 0, []⟩]⟩
  | .AX_VMAX => ⟨0x1400020, 8, 0x200, 1, 0x0, false,
      [⟨AX_VMAX.VEL, .rw, 0x10000, [(1, 0x7fffffff)]⟩]⟩
  | .AX_DECEL_STOP => ⟨0x1400024, 8, 0x200, 1, 0x0, false,
      [⟨AX_DECEL_STOP.ACC, .rw, 0x40, [(1, 0xffffffff)]⟩]⟩
  | .AX_DECEL_QUICK => ⟨0x1400028, 8, 0x200, 1, 0x0, false,
      [⟨AX_DECEL_QUICK.ACC, .rw, 0x100, [(1, 0xffffffff)]⟩]⟩
  | .AX_ACCEL => ⟨0x140002c, 8, 0x200, 1, 0x0, false,
      [⟨AX_ACCEL.ACC, .rw, 0x40, [(1, 0xffffffff)]⟩]⟩
  | .AX_VRESUME => ⟨0x1400030, 8, 0x200, 1, 0x0, false,
      [⟨AX_VRESUME.VEL, .rw, 0x10000, [(1, 0x7fffffff)]⟩]⟩
  | .AX_SOFT_MIN => ⟨0x1400038, 8, 0x200, 1, 0x0, true,
      [⟨AX_SOFT_MIN.POS, .rw, 0x8000000000000000, []⟩]⟩
  | .AX_SOFT_MAX => ⟨0x1400040, 8, 0x200, 1, 0x0, true,
      [⟨AX_SOFT_MAX.POS, .rw, 0x7fffffffffffffff, []⟩]⟩
  | .AX_SOFT_CFG => ⟨0x1400048, 8, 0x200, 1, 0x0, false,
      [⟨AX_SOFT_CFG.EN, .rw, 0, []⟩]⟩
  | .AX_CURRENT => ⟨0x1400050, 8, 0x200, 1, 0x0, false,
      [⟨AX_CURRENT.I_RUN, .rw, 0, [(0, 0x7d0)]⟩, ⟨AX_CURRENT.I_HOLD, .rw, 0, [(0, 0x7d0)]⟩]⟩
  | .AX_CURRENT2 => ⟨0x1400054, 8, 0x200, 1, 0x0, false,
      [⟨AX_CURRENT2.I_HOME, .rw, 0, [(0, 0x7d0)]⟩, ⟨AX_CURRENT2.HOLD_DELAY, .rw, 0x64, []⟩]⟩
  | .AX_BRAKE_CFG => ⟨0x1400058, 8, 0x200, 1, 0x0, false,
      [⟨AX_BRAKE_CFG.DELAY, .rw, 0x32, [(1, 0xffff)]⟩]⟩
  | .AX_MSTEP_THR => ⟨0x1400060, 8, 0x200, 4, 0x4, false,
      [⟨AX_MSTEP_THR.THR_LO, .rw, 0xffff, []⟩, ⟨AX_MSTEP_THR.THR_HI, .rw, 0xffff, []⟩]⟩
  | .AX_MSTEP_CFG => ⟨0x1400070, 8, 0x200, 1, 0x0, false,
      [⟨AX_MSTEP_CFG.COARSEST, .rw, 8, [(0, 8)]⟩, ⟨AX_MSTEP_CFG.HYST, .rw, 2, []⟩]⟩
  | .AX_GEAR => ⟨0x1400080, 8, 0x200, 1, 0x0, true,
      [⟨AX_GEAR.N, .rov, 0, []⟩, ⟨AX_GEAR.D, .rov, 0, []⟩]⟩
  | .AX_GEAR_NEXT => ⟨0x1400088, 8, 0x200, 1, 0x0, true,
      [⟨AX_GEAR_NEXT.N, .rw, 1, []⟩, ⟨AX_GEAR_NEXT.D, .rw, 1, []⟩]⟩
  | .AX_GEAR_AT => ⟨0x1400090, 8, 0x200, 1, 0x0, true,
      [⟨AX_GEAR_AT.AT, .rw, 0, []⟩]⟩
  | .AX_GEAR_CTRL => ⟨0x1400098, 8, 0x200, 1, 0x0, false,
      [⟨AX_GEAR_CTRL.ARM, .wo, 0, []⟩, ⟨AX_GEAR_CTRL.CANCEL, .wo, 0, []⟩]⟩
  | .AX_GEAR_STATUS => ⟨0x140009c, 8, 0x200, 1, 0x0, false,
      [⟨AX_GEAR_STATUS.PENDING, .rov, 0, []⟩, ⟨AX_GEAR_STATUS.LATE, .rov, 0, []⟩, ⟨AX_GEAR_STATUS.ENGAGED, .rov, 0, []⟩]⟩
  | .AX_GEAR_APPLIED => ⟨0x14000a0, 8, 0x200, 1, 0x0, true,
      [⟨AX_GEAR_APPLIED.AT, .rov, 0, []⟩]⟩
  | .AX_SHEET_CFG => ⟨0x14000a8, 8, 0x200, 1, 0x0, false,
      [⟨AX_SHEET_CFG.BACKLASH, .rw, 0, []⟩, ⟨AX_SHEET_CFG.SETTLE, .rw, 0, []⟩]⟩
  | .AX_SHEET_ACCEL => ⟨0x14000ac, 8, 0x200, 1, 0x0, false,
      [⟨AX_SHEET_ACCEL.VALUE, .rw, 0x40, [(1, 0xffffffff)]⟩]⟩
  | .AX_BACKUP_VEL => ⟨0x14000b0, 8, 0x200, 1, 0x0, false,
      [⟨AX_BACKUP_VEL.VALUE, .rw, 0x10000, [(1, 0xffffffff)]⟩]⟩
  | .AX_LIM_CLEAR => ⟨0x14000b8, 8, 0x200, 1, 0x0, false,
      [⟨AX_LIM_CLEAR.DIST, .rw, 0x100, []⟩]⟩
  | .AX_LIM_TRIP_NEG => ⟨0x14000c0, 8, 0x200, 1, 0x0, true,
      [⟨AX_LIM_TRIP_NEG.POS, .rov, 0, []⟩]⟩
  | .AX_LIM_TRIP_POS => ⟨0x14000c8, 8, 0x200, 1, 0x0, true,
      [⟨AX_LIM_TRIP_POS.POS, .rov, 0, []⟩]⟩
  | .AX_HOME_VEL => ⟨0x14000d0, 8, 0x200, 1, 0x0, false,
      [⟨AX_HOME_VEL.VALUE, .rw, 0x4000, [(1, 0xffffffff)]⟩]⟩
  | .AX_HOME_MAXDIST => ⟨0x14000d4, 8, 0x200, 1, 0x0, false,
      [⟨AX_HOME_MAXDIST.VALUE, .rw, 0xffffffff, [(1, 0xffffffff)]⟩]⟩
  | .AX_HOME_BACKOFF => ⟨0x14000d8, 8, 0x200, 1, 0x0, false,
      [⟨AX_HOME_BACKOFF.VALUE, .rw, 0x100, [(1, 0xffffffff)]⟩]⟩
  | .AX_HOME_POS => ⟨0x14000e0, 8, 0x200, 1, 0x0, true,
      [⟨AX_HOME_POS.POS, .rw, 0, []⟩]⟩
  | .AX_LIM_REF_NEG => ⟨0x14000e8, 8, 0x200, 1, 0x0, true,
      [⟨AX_LIM_REF_NEG.POS, .rw, 0, []⟩]⟩
  | .AX_LIM_REF_POS => ⟨0x14000f0, 8, 0x200, 1, 0x0, true,
      [⟨AX_LIM_REF_POS.POS, .rw, 0, []⟩]⟩
  | .AX_STALL_CFG => ⟨0x14000f8, 8, 0x200, 1, 0x0, false,
      [⟨AX_STALL_CFG.THR, .rw, 0, []⟩, ⟨AX_STALL_CFG.GUARD, .rw, 0, []⟩, ⟨AX_STALL_CFG.STEPS, .rw, 2, [(1, 0xf)]⟩, ⟨AX_STALL_CFG.BLANK, .rw, 8, []⟩]⟩
  | .AX_STALL_CAL => ⟨0x14000fc, 8, 0x200, 1, 0x0, false,
      [⟨AX_STALL_CAL.T0, .rw, 0, []⟩, ⟨AX_STALL_CAL.SCALE, .rw, 0x100, []⟩]⟩
  | .AX_STALL_VMIN => ⟨0x1400100, 8, 0x200, 1, 0x0, false,
      [⟨AX_STALL_VMIN.VEL, .rw, 0x10000, [(1, 0x7fffffff)]⟩]⟩
  | .AX_STALLS => ⟨0x1400140, 8, 0x200, 1, 0x0, false,
      [⟨AX_STALLS.COUNT, .rov, 0, []⟩]⟩
  | .AX_LIM_TRIPS => ⟨0x1400144, 8, 0x200, 1, 0x0, false,
      [⟨AX_LIM_TRIPS.COUNT, .rov, 0, []⟩]⟩
  | .AX_LIM_CHATTER => ⟨0x1400148, 8, 0x200, 1, 0x0, false,
      [⟨AX_LIM_CHATTER.COUNT, .rov, 0, []⟩]⟩
  | .AX_STARVED => ⟨0x140014c, 8, 0x200, 1, 0x0, false,
      [⟨AX_STARVED.COUNT, .rov, 0, []⟩]⟩
  | .AX_OVERCURRENT => ⟨0x1400150, 8, 0x200, 1, 0x0, false,
      [⟨AX_OVERCURRENT.COUNT, .rov, 0, []⟩]⟩
  | .AX_TON_LIMITED => ⟨0x1400154, 8, 0x200, 1, 0x0, false,
      [⟨AX_TON_LIMITED.COUNT, .rov, 0, []⟩]⟩
  | .AX_BLEND_SKIPPED => ⟨0x1400158, 8, 0x200, 1, 0x0, false,
      [⟨AX_BLEND_SKIPPED.COUNT, .rov, 0, []⟩]⟩
  | .AX_CLEAR => ⟨0x1400160, 8, 0x200, 1, 0x0, false,
      [⟨AX_CLEAR.COUNTERS, .wo, 0, []⟩]⟩
  | .AUX_CHAIN_CFG => ⟨0x1500000, 2, 0x80000, 2, 0x40, false,
      [⟨AUX_CHAIN_CFG.FILTER, .rov, 0, []⟩, ⟨AUX_CHAIN_CFG.START, .rov, 0, []⟩, ⟨AUX_CHAIN_CFG.EXC_OWN, .rov, 0, []⟩]⟩
  | .AUX_CHAIN_OSR => ⟨0x1500004, 2, 0x80000, 2, 0x40, false,
      [⟨AUX_CHAIN_OSR.OSR, .rov, 0x1000, []⟩]⟩
  | .AUX_CHAIN_STATUS => ⟨0x1500008, 2, 0x80000, 2, 0x40, false,
      [⟨AUX_CHAIN_STATUS.STATE, .rov, 0, []⟩, ⟨AUX_CHAIN_STATUS.PHASE, .rov, 0, []⟩, ⟨AUX_CHAIN_STATUS.PENDING, .rov, 0, []⟩, ⟨AUX_CHAIN_STATUS.COMMAND, .rov, 0, []⟩, ⟨AUX_CHAIN_STATUS.INPUT, .rov, 0, []⟩]⟩
  | .AUX_CHAIN_CTRL => ⟨0x150000c, 2, 0x80000, 2, 0x40, false,
      [⟨AUX_CHAIN_CTRL.FORCE, .wo, 0, []⟩]⟩
  | .AUX_URGENT => ⟨0x1500010, 2, 0x80000, 2, 0x40, false,
      [⟨AUX_URGENT.INPUT, .wo, 0, []⟩, ⟨AUX_URGENT.QUEUE, .wo, 0, []⟩, ⟨AUX_URGENT.PUSH, .wo, 0, []⟩]⟩
  | .AUX_START_DROP => ⟨0x1500014, 2, 0x80000, 2, 0x40, false,
      [⟨AUX_START_DROP.COUNT, .rov, 0, []⟩]⟩
  | .AUX_URGENT_DROP => ⟨0x1500018, 2, 0x80000, 2, 0x40, false,
      [⟨AUX_URGENT_DROP.COUNT, .rov, 0, []⟩]⟩
  | .AUX_CHAIN_CLEAR => ⟨0x150001c, 2, 0x80000, 2, 0x40, false,
      [⟨AUX_CHAIN_CLEAR.COUNTERS, .wo, 0, []⟩]⟩
  | .AUX_RESULT => ⟨0x1501020, 2, 0x80000, 16, 0x40, false,
      [⟨AUX_RESULT.VALUE, .rov, 0, []⟩]⟩
  | .AUX_RESULT_TAG => ⟨0x1501024, 2, 0x80000, 16, 0x40, false,
      [⟨AUX_RESULT_TAG.TAGS, .rov, 0, []⟩, ⟨AUX_RESULT_TAG.GAIN, .rov, 0, []⟩]⟩
  | .AUX_RESULT_TIME => ⟨0x1501028, 2, 0x80000, 16, 0x40, true,
      [⟨AUX_RESULT_TIME.NS, .rov, 0, []⟩]⟩
  | .AUX_RESULT_SEQ => ⟨0x1501030, 2, 0x80000, 16, 0x40, false,
      [⟨AUX_RESULT_SEQ.SEQ, .rov, 0, []⟩]⟩
  | .AUX_RAW => ⟨0x1501034, 2, 0x80000, 16, 0x40, false,
      [⟨AUX_RAW.CODE, .rov, 0, []⟩]⟩
  | .AUX_LEAD => ⟨0x1501038, 2, 0x80000, 16, 0x40, false,
      [⟨AUX_LEAD.CODE, .rov, 0, []⟩]⟩
  | .AUX_GUARD => ⟨0x1502000, 2, 0x80000, 4, 0x4, false,
      [⟨AUX_GUARD.EN, .rov, 0, []⟩, ⟨AUX_GUARD.SOURCE, .rov, 0, []⟩]⟩
  | .AUX_EXC => ⟨0x1502010, 2, 0x80000, 2, 0x4, false,
      [⟨AUX_EXC.CODE, .rov, 0, []⟩, ⟨AUX_EXC.OWNED, .rov, 0, []⟩, ⟨AUX_EXC.CHAIN, .rov, 0, []⟩]⟩
  | .AUX_BRIDGE => ⟨0x1502020, 2, 0x80000, 1, 0x0, false,
      [⟨AUX_BRIDGE.MODE, .rov, 0, []⟩]⟩
  | .AUX_RATIO_CFG => ⟨0x1503000, 2, 0x80000, 4, 0x20, false,
      [⟨AUX_RATIO_CFG.KIND, .rov, 0, []⟩, ⟨AUX_RATIO_CFG.NUM, .rov, 0, []⟩, ⟨AUX_RATIO_CFG.FLAGS, .rov, 0, []⟩]⟩
  | .AUX_RATIO_SCALE => ⟨0x1503004, 2, 0x80000, 4, 0x20, false,
      [⟨AUX_RATIO_SCALE.VALUE, .rov, 0, []⟩]⟩
  | .AUX_RATIO_OFFSET => ⟨0x1503008, 2, 0x80000, 4, 0x20, false,
      [⟨AUX_RATIO_OFFSET.VALUE, .rov, 0, []⟩]⟩
  | .AUX_RATIO_TIMEOUT => ⟨0x150300c, 2, 0x80000, 4, 0x20, false,
      [⟨AUX_RATIO_TIMEOUT.VALUE, .rov, 0, []⟩]⟩
  | .AUX_RATIO_STATE => ⟨0x1503010, 2, 0x80000, 4, 0x20, false,
      [⟨AUX_RATIO_STATE.CODE, .rov, 0, []⟩, ⟨AUX_RATIO_STATE.CLAMPED, .rov, 1, []⟩, ⟨AUX_RATIO_STATE.FAULT, .rov, 0, []⟩]⟩
  | .AUX_RATIO_FAULT => ⟨0x1503014, 2, 0x80000, 4, 0x20, false,
      [⟨AUX_RATIO_FAULT.CODE, .rov, 0, []⟩]⟩
  | .SYNC_CFG => ⟨0x1600000, 1, 0x0, 1, 0x0, false,
      [⟨SYNC_CFG.ENABLE, .rw, 0, []⟩, ⟨SYNC_CFG.MASTER, .rw, 0, []⟩, ⟨SYNC_CFG.LOCAL_FALLBACK, .rw, 0, []⟩]⟩
  | .SYNC_STATUS => ⟨0x1600004, 1, 0x0, 1, 0x0, false,
      [⟨SYNC_STATUS.UP, .rov, 0, []⟩, ⟨SYNC_STATUS.ARMED, .rov, 0, []⟩, ⟨SYNC_STATUS.NODE, .rov, 0, []⟩, ⟨SYNC_STATUS.SIZE, .rov, 0, []⟩, ⟨SYNC_STATUS.RULE, .rov, 0, []⟩]⟩
  | .SYNC_CTRL => ⟨0x1600008, 1, 0x0, 1, 0x0, false,
      [⟨SYNC_CTRL.ARM, .wo, 0, []⟩, ⟨SYNC_CTRL.DISARM, .wo, 0, []⟩, ⟨SYNC_CTRL.RULE, .wo, 0, []⟩]⟩
  | .SYNC_FIRE_SRC => ⟨0x160000c, 1, 0x0, 1, 0x0, false,
      [⟨SYNC_FIRE_SRC.KIND, .rw, 2, [(0, 2)]⟩, ⟨SYNC_FIRE_SRC.NUM, .rw, 0, []⟩]⟩
  | .SYNC_POS_TOL => ⟨0x1600010, 1, 0x0, 1, 0x0, false,
      [⟨SYNC_POS_TOL.PQ, .rw, 0x6400, [(1, 0xffffffff)]⟩]⟩
  | .SYNC_POS_OFFSET => ⟨0x1600018, 1, 0x0, 1, 0x0, true,
      [⟨SYNC_POS_OFFSET.PQ, .rov, 0, []⟩]⟩
  | .SYNC_FIRE_POS => ⟨0x1600020, 1, 0x0, 1, 0x0, true,
      [⟨SYNC_FIRE_POS.PQ, .rov, 0, []⟩]⟩
  | .SYNC_FIRE_LOCAL => ⟨0x1600028, 1, 0x0, 1, 0x0, true,
      [⟨SYNC_FIRE_LOCAL.PQ, .rov, 0, []⟩]⟩
  | .SYNC_FIRE_INFO => ⟨0x1600030, 1, 0x0, 1, 0x0, false,
      [⟨SYNC_FIRE_INFO.SRC, .rov, 0, []⟩, ⟨SYNC_FIRE_INFO.SEQ, .rov, 0, []⟩]⟩
  | .SYNC_FIRE_TIME => ⟨0x1600038, 1, 0x0, 1, 0x0, true,
      [⟨SYNC_FIRE_TIME.NS, .rov, 0, []⟩]⟩
  | .SYNC_FIRES => ⟨0x1600040, 1, 0x0, 1, 0x0, false,
      [⟨SYNC_FIRES.COUNT, .rov, 0, []⟩]⟩
  | .SYNC_FIRE_IGNORED => ⟨0x1600044, 1, 0x0, 1, 0x0, false,
      [⟨SYNC_FIRE_IGNORED.COUNT, .rov, 0, []⟩]⟩
  | .SYNC_CRC_ERR => ⟨0x1600048, 1, 0x0, 1, 0x0, false,
      [⟨SYNC_CRC_ERR.COUNT, .rov, 0, []⟩]⟩
  | .SYNC_BAD_FRAME => ⟨0x160004c, 1, 0x0, 1, 0x0, false,
      [⟨SYNC_BAD_FRAME.COUNT, .rov, 0, []⟩]⟩
  | .EVOUT_CONFLICT => ⟨0x1600050, 1, 0x0, 1, 0x0, false,
      [⟨EVOUT_CONFLICT.COUNT, .rov, 0, []⟩]⟩
  | .SYNC_CLEAR => ⟨0x1600060, 1, 0x0, 1, 0x0, false,
      [⟨SYNC_CLEAR.COUNTERS, .wo, 0, []⟩]⟩
  | .TRIG_PIN_CFG => ⟨0x1601000, 16, 0x10, 1, 0x0, false,
      [⟨TRIG_PIN_CFG.INVERT, .rw, 0, []⟩, ⟨TRIG_PIN_CFG.FILT, .rw, 0, []⟩]⟩
  | .TRIG_PIN_STATE => ⟨0x1601100, 1, 0x0, 1, 0x0, false,
      [⟨TRIG_PIN_STATE.LEVEL, .rov, 0, []⟩]⟩
  | .EVOUT_CFG => ⟨0x1602000, 16, 0x10, 1, 0x0, false,
      [⟨EVOUT_CFG.DRIVE_EN, .rw, 0, []⟩, ⟨EVOUT_CFG.OPEN_DRAIN, .rw, 0, []⟩, ⟨EVOUT_CFG.IDLE, .rw, 0, []⟩]⟩
  | .EVOUT_STATE => ⟨0x1602100, 1, 0x0, 1, 0x0, false,
      [⟨EVOUT_STATE.LEVEL, .rov, 0, []⟩]⟩
  | .BTN_CFG => ⟨0x1603000, 8, 0x10, 1, 0x0, false,
      [⟨BTN_CFG.DEBOUNCE, .rw, 0x14, [(1, 0xff)]⟩, ⟨BTN_CFG.INVERT, .rw, 0, []⟩]⟩
  | .BTN_STATE => ⟨0x1603100, 1, 0x0, 1, 0x0, false,
      [⟨BTN_STATE.PRESSED, .rov, 0, []⟩]⟩
  | .IND_CFG => ⟨0x1604000, 8, 0x10, 1, 0x0, false,
      [⟨IND_CFG.MODE, .rw, 0, [(0, 5)]⟩, ⟨IND_CFG.INVERT, .rw, 0, []⟩, ⟨IND_CFG.SOURCE, .rw, 0, [(0, 0x5ff)]⟩]⟩
  | .SEC_STATUS => ⟨0x1700000, 1, 0x0, 1, 0x0, false,
      [⟨SEC_STATUS.RUNNING, .rov, 0, []⟩, ⟨SEC_STATUS.RUNNING_SLOT, .rov, 0, []⟩, ⟨SEC_STATUS.ACTIVE_SLOT, .rov, 0, []⟩, ⟨SEC_STATUS.BUSY, .rov, 0, []⟩, ⟨SEC_STATUS.SLOT0_STATE, .rov, 0, []⟩, ⟨SEC_STATUS.SLOT1_STATE, .rov, 0, []⟩, ⟨SEC_STATUS.FUSE_SVN, .rov, 0, []⟩]⟩
  | .SEC_SLOT_VERSION => ⟨0x1700010, 2, 0x8, 1, 0x0, false,
      [⟨SEC_SLOT_VERSION.VERSION, .rov, 0, []⟩, ⟨SEC_SLOT_VERSION.SVN, .rov, 0, []⟩, ⟨SEC_SLOT_VERSION.BURN, .rov, 0, []⟩]⟩
  | .SEC_SLOT_BUILD => ⟨0x1700014, 2, 0x8, 1, 0x0, false,
      [⟨SEC_SLOT_BUILD.BUILD, .rov, 0, []⟩]⟩
  | .SEC_UNIT_ID_LO => ⟨0x1700020, 1, 0x0, 1, 0x0, true,
      [⟨SEC_UNIT_ID_LO.ID, .rov, 0, []⟩]⟩
  | .SEC_UNIT_ID_HI => ⟨0x1700028, 1, 0x0, 1, 0x0, true,
      [⟨SEC_UNIT_ID_HI.ID, .rov, 0, []⟩]⟩
  | .SEC_VERIFY_TIME => ⟨0x1700030, 1, 0x0, 1, 0x0, false,
      [⟨SEC_VERIFY_TIME.US, .rov, 0, []⟩]⟩
  | .SEC_CKPT_NUM => ⟨0x1700038, 1, 0x0, 1, 0x0, true,
      [⟨SEC_CKPT_NUM.NUMBER, .rov, 0, []⟩]⟩
  | .SEC_SIG_FAILS => ⟨0x1700040, 1, 0x0, 1, 0x0, false,
      [⟨SEC_SIG_FAILS.COUNT, .rov, 0, []⟩]⟩
  | .SEC_SPDM_REQUESTS => ⟨0x1700044, 1, 0x0, 1, 0x0, false,
      [⟨SEC_SPDM_REQUESTS.COUNT, .rov, 0, []⟩]⟩
  | .SEC_SPDM_ERRORS => ⟨0x1700048, 1, 0x0, 1, 0x0, false,
      [⟨SEC_SPDM_ERRORS.COUNT, .rov, 0, []⟩]⟩
  | .SEC_CLEAR => ⟨0x170004c, 1, 0x0, 1, 0x0, false,
      [⟨SEC_CLEAR.COUNTERS, .wo, 0, []⟩]⟩
  | .SEC_OPTION_CTRL => ⟨0x1700100, 1, 0x0, 1, 0x0, false,
      [⟨SEC_OPTION_CTRL.COMMIT, .wo, 0, []⟩]⟩
  | .SEC_OPTION_STATUS => ⟨0x1700104, 1, 0x0, 1, 0x0, false,
      [⟨SEC_OPTION_STATUS.BUSY, .rov, 0, []⟩, ⟨SEC_OPTION_STATUS.RESULT, .rov, 0, []⟩, ⟨SEC_OPTION_STATUS.SEQ, .rov, 0, []⟩]⟩
  | .MEM_STATUS => ⟨0x1800000, 2, 0x80000, 1, 0x0, false,
      [⟨MEM_STATUS.READY, .rov, 0, []⟩, ⟨MEM_STATUS.SELF_REFRESH, .rov, 0, []⟩]⟩
  | .MEM_CORRECTED => ⟨0x1800008, 2, 0x80000, 1, 0x0, false,
      [⟨MEM_CORRECTED.COUNT, .rov, 0, []⟩]⟩
  | .MEM_UNCORRECTED => ⟨0x180000c, 2, 0x80000, 1, 0x0, false,
      [⟨MEM_UNCORRECTED.COUNT, .rov, 0, []⟩]⟩
  | .MEM_LAST_ADDR => ⟨0x1800010, 2, 0x80000, 1, 0x0, true,
      [⟨MEM_LAST_ADDR.ADDR, .rov, 0, []⟩]⟩
  | .MEM_SCRUB_PASSES => ⟨0x1800018, 2, 0x80000, 1, 0x0, false,
      [⟨MEM_SCRUB_PASSES.COUNT, .rov, 0, []⟩]⟩
  | .MEM_CLEAR => ⟨0x1800020, 2, 0x80000, 1, 0x0, false,
      [⟨MEM_CLEAR.COUNTERS, .wo, 0, []⟩]⟩
  | .DIAG_INJECT => ⟨0x1900000, 1, 0x0, 1, 0x0, false,
      [⟨DIAG_INJECT.MEMORY, .rw, 0, [(0, 0x11)]⟩, ⟨DIAG_INJECT.DOUBLE, .rw, 0, []⟩, ⟨DIAG_INJECT.ARM, .wo, 0, []⟩, ⟨DIAG_INJECT.ARMED, .rov, 0, []⟩]⟩
  | .DIAG_ECC_COUNT => ⟨0x1900100, 18, 0x8, 1, 0x0, false,
      [⟨DIAG_ECC_COUNT.CORRECTED, .rov, 0, []⟩]⟩
  | .DIAG_ECC_UNCORR => ⟨0x1900104, 18, 0x8, 1, 0x0, false,
      [⟨DIAG_ECC_UNCORR.COUNT, .rov, 0, []⟩]⟩
  | .DIAG_CLEAR => ⟨0x1900200, 1, 0x0, 1, 0x0, false,
      [⟨DIAG_CLEAR.ECC, .wo, 0, []⟩]⟩

/-- The registers of each block of R21, by the first MiB number the block occupies. -/
def blockRegs : Nat → List Reg
  | 0 => [.GLB_ID, .GLB_STATUS, .GLB_TIME, .GLB_SCRATCH, .GLB_TJ, .GLB_TJ_MAX, .GLB_TJ_CLEAR]
  | 1 => [.RST_CAUSE, .RST_LAST, .RST_LAST_TIME, .RST_COUNT_BLOCK, .RST_COUNT_DIE, .RST_COUNT_PATH, .RST_COUNT_WARM,
      .RST_ISOLATIONS, .RST_CLEAR, .RST_REACH, .RST_DOMAIN_POWER, .RST_DOMAIN_RESET, .RST_DOMAIN_FAILED, .RST_STATUS,
      .RST_FAILED_STARTS, .RST_IDLE_TIMEOUT, .RST_CROWN_GO, .RST_CROWN_STATUS]
  | 2 => [.EVT_STATUS, .EVT_ENABLE, .EVT_WRAPPED, .EVT_CTRL, .EVT_LOG_BASE, .EVT_LOG_CFG, .EVT_LOG_WRITTEN,
      .EVT_LOG_READ, .EVT_LOG_DROP, .EVT_RING_UNSENT, .EVT_CLEAR, .EVT_PULSE, .EVT_ROUTE, .EVT_COUNT]
  | 4 => [.RING_SQ_BASE, .RING_SQ_CFG, .RING_SQ_QUOTA, .RING_SQ_CTRL, .RING_SQ_STATUS, .RING_SQ_FETCHED,
      .RING_SQ_CREDIT, .RING_CQ_BASE, .RING_CQ_CFG, .RING_CQ_CTRL, .RING_CQ_STATUS, .RING_CQ_WRITTEN,
      .RING_CQ_COALESCE, .RING_TOTAL_IN_FLIGHT]
  | 5 => [.DBELL_SQ, .DBELL_CQ]
  | 6 => [.LEDG_STATUS, .LEDG_NVS_SEQ, .LEDG_CKPT_SEQ, .LEDG_REPLAYS, .LEDG_MIRROR, .LEDG_DURABLE]
  | 7 => [.ESC_TRACK_POS, .ESC_VELOCITY, .ESC_SOURCE, .ESC_RATIO, .ESC_RATIO_NEXT, .ESC_RATIO_AT, .ESC_RATIO_CTRL,
      .ESC_RATIO_STATUS, .ESC_RATIO_APPLIED, .ESC_MASTER, .ESC_LINE, .ESC_LINE_POS, .ESC_BANK, .ESC_ACT_DROP,
      .ESC_STILL_TIME, .ESC_CLEAR, .ESC_EVT_LATE, .ENC_CFG, .ENC_COUNT, .ENC_EDGE_TIME, .ENC_INDEX_POS, .ENC_STATUS,
      .ENC_ILLEGAL, .ENC_CLEAR]
  | 8 => [.TTBL_IMAGE, .TTBL_IMAGE_LEN, .TTBL_ACT_POS, .TTBL_STATUS, .TTBL_SHADOW_CTRL, .TTBL_HANDOVER_NOW,
      .TTBL_HANDOVERS, .TTBL_GEN_COMMIT, .TTBL_GEN_STATUS, .TTBL_GEN_OWNER, .TTBL_GEN_INFORCE, .TTBL_LOAD_ERR]
  | 9 => [.FE_STATUS, .FE_PHASE, .PORT_STATUS, .PORT_CTRL, .PORT_I3C, .PORT_SERIAL, .PORT_MASKED_LINES, .PORT_CLEAR,
      .VID_CFG, .VID_GAIN, .VID_CLIPS, .VID_CLEAR, .LANE_STATUS, .LANE_SEQ, .LANE_CODE_ERR, .LANE_CRC_ERR,
      .LANE_FRAME_ERR, .LANE_NOFRAME, .LANE_EXTRA, .LANE_SEQ_SKIP, .LANE_CLEAR, .PG_STATUS, .PG_DESKEW, .PG_OUT,
      .PG_OVERRUN, .PG_CLEAR, .I3C_CFG, .I3C_STATUS, .I3C_ERRORS, .I3C_HOTJOINS, .I3C_IBIS, .I3C_CLEAR, .AXH_CHOP,
      .AXH_TON_MAX, .AXH_SENSE, .AXH_LIM, .AXH_STATUS, .AXH_CURRENT, .AXH_TON, .AXH_ANGLE]
  | 13 => [.PIPE_CTRL, .PIPE_FILL, .PIPE_TEMP_AGE, .PIPE_WIN_SEL, .PIPE_STORE_USED, .PIPE_LINE_DONE,
      .PIPE_LATENCY_MAX, .PIPE_SAT, .PIPE_CLIP_LO, .PIPE_CLIP_HI, .PIPE_LUT_CLAMP, .PIPE_ALIGN_GAPS,
      .PIPE_TEMP_STALE, .PIPE_CLEAR]
  | 14 => [.CMPR_CTRL, .CMPR_BLOB_CFG, .CMPR_REF_CFG, .CMPR_REF_NEXT, .CMPR_REF_STATUS, .CMPR_REF_BOUND,
      .CMPR_REF_INFORCE, .CMPR_REGION_BASE, .CMPR_REGION_SIZE, .CMPR_WARP, .CMPR_REG_CORR, .CMPR_REG_APPLIED,
      .CMPR_ACT_CFG, .CMPR_ACT_WIDTH, .CMPR_ACT_DIST, .CMPR_ACT_LEAD, .CMPR_ACT_TRAIL, .CMPR_ACT_MIN_GAP,
      .CMPR_ACT_ZONE, .CMPR_ACT_MARGIN, .CMPR_ACT_FIRED, .CMPR_ACT_MERGED, .CMPR_ACT_CLEAR, .CMPR_DEFECTS,
      .CMPR_BLOBS_SMALL, .CMPR_REF_LATE, .CMPR_MODEL_MISMATCH, .CMPR_REG_SKIP, .CMPR_REG_INVALID, .CMPR_REG_LIMIT,
      .CMPR_OVERFLOW, .CMPR_PAGES_NOREF, .CMPR_CLEAR, .CMPR_WIN_SEL]
  | 15 => [.PROD_PAGE_STATUS, .PROD_PAGE_NUM, .PROD_PAGE_FIRST, .PROD_PAGE_LAST, .PROD_PAGE_CTRL, .PROD_EDGE_LEFT,
      .PROD_EDGE_RIGHT, .PROD_EDGE_OFFSET, .PROD_EDGE_LEAD, .PROD_EDGE_SLOPE, .PROD_EDGE_SKEW, .PROD_EDGE_LINE,
      .PROD_TRIG_FIRES, .PROD_TRIG_HELD, .PROD_SEQ_STATE, .PROD_SEQ_COUNT, .PROD_PAGES_LATE, .PROD_PAGES_SHORT,
      .PROD_PAGES_FORCED, .PROD_PAGES_OVERLAP, .PROD_CLOSE_IDLE, .PROD_EDGE_FAIL, .PROD_CLEAR, .PROD_CAPTURES,
      .PROD_CTX_STATUS, .PROD_CTX_PARCEL, .PROD_CTX_PRODUCED, .PROD_CTX_LINE]
  | 16 => [.DMA_CH_RING_BASE, .DMA_CH_RING_SIZE, .DMA_CH_CFG, .DMA_CH_TIMER, .DMA_CH_CTRL, .DMA_CH_TAIL,
      .DMA_CH_HEAD, .DMA_CH_STATUS, .DMA_CH_CREDITS, .DMA_CH_DONE_BYTES, .DMA_CH_CRC, .DMA_CH_CUR_DESC, .DMA_CH_BAD,
      .DMA_CH_CREDIT_DROP, .DMA_CH_PACE_IGNORED, .DMA_CH_CLEAR, .DMA_WIN_SEL]
  | 17 => [.QUE_CMD_LEVEL, .QUE_UQ_POP, .QUE_UQ_LEVEL, .QUE_UQ_DROP, .QUE_UQ_CLEAR, .QUE_HBM_CAP, .QUE_HBM_USED,
      .QUE_HBM_RESERVED, .QUE_DESC_USED, .QUE_LEVEL, .QUE_SPILL_CFG, .QUE_SPILL_STATUS, .QUE_LADDER_WM,
      .QUE_LADDER_TIME, .QUE_LADDER_STATUS, .QUE_PACE_CFG, .QUE_PACE_STATUS, .QUE_STEPS_DOWN, .QUE_STEPS_UP,
      .QUE_FORCED, .QUE_PACE_STOPS, .QUE_STARVED_LINES, .QUE_CLEAR, .QUE_CTX_HBM, .QUE_CTX_DRIVE, .QUE_CTX_HELD]
  | 18 => [.RP_CFG, .RP_PAIRING, .RP_TIMEOUT, .RP_PORT_STATUS, .RP_PORT_CAP, .RP_PORT_RATE, .RP_PORT_RATE_CAP,
      .RP_PORT_WRITE_ERR, .RP_PORT_READ_ERR, .RP_PORT_TIMEOUTS, .RP_PORT_CLEAR, .RP_CAP, .RP_HELD, .RP_RESERVED,
      .RP_FREE, .RP_RATE, .RP_REBUILD_LEFT]
  | 19 => [.CAL_CTRL, .CAL_STATUS, .CAL_RUN_NUM, .CAL_CFG, .CAL_AUTO_LINES, .CAL_AUTO_TIMEOUT, .CAL_MIN_SAMPLES,
      .CAL_TOL, .CAL_TOL2, .CAL_LIMIT, .CAL_LIMIT_OFFSET, .CAL_TEMP_DELTA, .CAL_HOLDOFF, .CAL_REGION_MASK,
      .CAL_TILE_CFG, .CAL_TILE_OUT, .CAL_TILE_SETTLE, .CAL_TILE_TARGET, .CAL_WIN_SEL, .CAL_MARK_MASK, .CAL_MARK_OPEN,
      .CAL_DARK, .CAL_SEG_TEMP, .CAL_SEG_STATUS, .CAL_SEG_LAST_RUN, .CAL_RUNS_ACCEPTED, .CAL_RUNS_REJECTED,
      .CAL_RUNS_OTHER, .CAL_TRIGGERS, .CAL_CLEAR, .CAL_BASE_DIR, .CAL_BASE_LEN, .CAL_BASE_SEQ, .CAL_BASE_SEL,
      .CAL_TEMP_REF]
  | 20 => [.AX_CTRL, .AX_STATUS, .AX_POS, .AX_POS_FRAC, .AX_VEL, .AX_REMAIN, .AX_VMAX, .AX_DECEL_STOP,
      .AX_DECEL_QUICK, .AX_ACCEL, .AX_VRESUME, .AX_SOFT_MIN, .AX_SOFT_MAX, .AX_SOFT_CFG, .AX_CURRENT, .AX_CURRENT2,
      .AX_BRAKE_CFG, .AX_MSTEP_THR, .AX_MSTEP_CFG, .AX_GEAR, .AX_GEAR_NEXT, .AX_GEAR_AT, .AX_GEAR_CTRL,
      .AX_GEAR_STATUS, .AX_GEAR_APPLIED, .AX_SHEET_CFG, .AX_SHEET_ACCEL, .AX_BACKUP_VEL, .AX_LIM_CLEAR,
      .AX_LIM_TRIP_NEG, .AX_LIM_TRIP_POS, .AX_HOME_VEL, .AX_HOME_MAXDIST, .AX_HOME_BACKOFF, .AX_HOME_POS,
      .AX_LIM_REF_NEG, .AX_LIM_REF_POS, .AX_STALL_CFG, .AX_STALL_CAL, .AX_STALL_VMIN, .AX_STALLS, .AX_LIM_TRIPS,
      .AX_LIM_CHATTER, .AX_STARVED, .AX_OVERCURRENT, .AX_TON_LIMITED, .AX_BLEND_SKIPPED, .AX_CLEAR]
  | 21 => [.AUX_CHAIN_CFG, .AUX_CHAIN_OSR, .AUX_CHAIN_STATUS, .AUX_CHAIN_CTRL, .AUX_URGENT, .AUX_START_DROP,
      .AUX_URGENT_DROP, .AUX_CHAIN_CLEAR, .AUX_RESULT, .AUX_RESULT_TAG, .AUX_RESULT_TIME, .AUX_RESULT_SEQ, .AUX_RAW,
      .AUX_LEAD, .AUX_GUARD, .AUX_EXC, .AUX_BRIDGE, .AUX_RATIO_CFG, .AUX_RATIO_SCALE, .AUX_RATIO_OFFSET,
      .AUX_RATIO_TIMEOUT, .AUX_RATIO_STATE, .AUX_RATIO_FAULT]
  | 22 => [.SYNC_CFG, .SYNC_STATUS, .SYNC_CTRL, .SYNC_FIRE_SRC, .SYNC_POS_TOL, .SYNC_POS_OFFSET, .SYNC_FIRE_POS,
      .SYNC_FIRE_LOCAL, .SYNC_FIRE_INFO, .SYNC_FIRE_TIME, .SYNC_FIRES, .SYNC_FIRE_IGNORED, .SYNC_CRC_ERR,
      .SYNC_BAD_FRAME, .EVOUT_CONFLICT, .SYNC_CLEAR, .TRIG_PIN_CFG, .TRIG_PIN_STATE, .EVOUT_CFG, .EVOUT_STATE,
      .BTN_CFG, .BTN_STATE, .IND_CFG]
  | 23 => [.SEC_STATUS, .SEC_SLOT_VERSION, .SEC_SLOT_BUILD, .SEC_UNIT_ID_LO, .SEC_UNIT_ID_HI, .SEC_VERIFY_TIME,
      .SEC_CKPT_NUM, .SEC_SIG_FAILS, .SEC_SPDM_REQUESTS, .SEC_SPDM_ERRORS, .SEC_CLEAR, .SEC_OPTION_CTRL,
      .SEC_OPTION_STATUS]
  | 24 => [.MEM_STATUS, .MEM_CORRECTED, .MEM_UNCORRECTED, .MEM_LAST_ADDR, .MEM_SCRUB_PASSES, .MEM_CLEAR]
  | 25 => [.DIAG_INJECT, .DIAG_ECC_COUNT, .DIAG_ECC_UNCORR, .DIAG_CLEAR]
  | _ => []

end Sys2Proof.Machine
end

