-- ==== Sys2Proof/Machine/State.lean ====
section
/-!
DEFINITION. Machine/State.lean: the state of the block as plain data, its faults and refusals, and the state after reset.
Registers live in one sparse map by register and instance (`Dev.regs`); state the spec gives no register is held in one
structure for each unit.
-/
namespace Sys2Proof.Machine

/-- Why the machine stops. -/
inductive Fault where
  /-- Raised by a command whose operands name a unit, ring, context or register instance that the device does not have, or a
  value outside the range its operand has; no sender of the spec can send such a command. Safe: the machine stops. -/
  | noSuchUnit
  deriving DecidableEq, Repr

/-- Why a command has no meaning. -/
inductive Refusal where
  /-- Raised by the arm of a command that has not been given its meaning. Safe: nothing is claimed of it. -/
  | notModelled (mnemonic : String)
  deriving DecidableEq, Repr

/-- What has left the device: answers to reads, messages, frames. The newest stands first in `Dev.outbox`. -/
inductive Out where
  /-- Data returned for a read through BAR0 or BAR2 (R22, R24). -/
  | readData (v : Nat)
  /-- An MSI-X message for a vector (R418, R438). -/
  | msix (vector : Nat)
  /-- A frame sent on the Nalny sync ring (R225). -/
  | ringFrame (frame : Bytes)
  /-- Something sent to another part: an I3C, drive or SPDM transfer, by the name of its kind. -/
  | sent (kind : String) (n : Nat) (data : Bytes)
  deriving DecidableEq, Repr

/-- Work one unit asks of another within a step. -/
inductive Req where
  /-- An event route asks the Regulator to trigger every LIVE segment (R422 PROC 1). -/
  | regulTrigger
  /-- An event route asks the Remontoire to stop every moving axis (R422 PROC 2). -/
  | remonStop
  deriving DecidableEq, Repr

/-! ### Events (R413 to R430) -/

/-- One event record (R423) as formed, before PHASE and LOST are known. -/
structure EvRec where
  source : Nat
  count  : Nat
  merged : Bool
  time   : Nat
  pos    : Int
  arg0   : Int
  arg1   : Int
  arg2   : Int
  deriving DecidableEq, Repr

/-- State of the event matrix that no register shows. -/
structure EvtSt where
  /-- Device time of each source's previous record, plus 1; 0: none (R424). -/
  lastRec : List (Nat × Nat)
  /-- Device times of the last records formed, newest first, at most 4 (R424). -/
  recent : List Nat
  /-- Sources with occurrences since their previous record that made none (R424 MERGED). -/
  skipped : List Nat
  /-- Event history, newest first (R426). -/
  history : List EvRec
  /-- Records of the three integrity sources, newest first (R436 LOG 1). -/
  eccLog : List EvRec
  /-- Records Franking writes to NVS, newest first (R436 LOG 2). -/
  nvsLog : List EvRec
  /-- Records host software has consumed (R425). -/
  logRead : Nat
  /-- Records were discarded since the last one written (R425 LOST). -/
  lost : Bool
  /-- The last log action discarded a record (R425: the first discard after a write occurs EVT_LOG_OVERFLOW). -/
  dropping : Bool
  /-- The 16 urgent queues, oldest entry first (R263). -/
  uq : List (List Nat)
  deriving DecidableEq, Repr

/-! ### The Escapement (R72 to R99) -/

/-- A timetable event: the fields of its 32 B record (R86) and its position on the track. -/
structure TEvent where
  pos    : Int
  kind   : Nat
  target : Nat
  args   : Bytes
  /-- It comes from ONCE_EVENTS (R86). -/
  once   : Bool
  deriving DecidableEq, Repr

/-- An actuation waiting in the bank (R184, R93). -/
structure Actuation where
  pos    : Int
  /-- The actuator it belongs to, and whether it is a gate's release (R184, R185). -/
  act    : Nat
  isEnd  : Bool
  output : Nat
  gate   : Bool
  level  : Bool
  width  : Nat
  deriving DecidableEq, Repr

/-- A GEN event released and not yet swapped (R88). -/
structure GenPend where
  cls    : Nat
  gen    : Nat
  /-- The image it is a generation of. -/
  image  : Nat
  /-- The copy into the bank not in force has started. -/
  started : Bool
  /-- The copy is complete. -/
  copied : Bool
  /-- A hand-over has found the copy not complete (R88). -/
  waited : Bool
  /-- A hand-over has begun since its release (R88). -/
  seen : Bool
  deriving DecidableEq, Repr

/-- An activation waiting for its hand-over (R90). -/
structure ActPend where
  image : Nat
  pos   : Int
  /-- Its position had passed when it was asked for (R90). -/
  late  : Bool
  /-- The command that asked for it: submission ring and TAG. -/
  sq    : Nat
  tag   : Nat
  deriving DecidableEq, Repr

/-- A captured line from its hand-over until it has left every stage (R95 to R97, R154, R183). -/
structure LineRec where
  num     : Nat
  k       : Nat
  /-- P(k), the interpolated position at the committed start, and the start in units of 1/16 ns (R79, R80). -/
  place   : Int
  pos     : Int
  start   : Nat
  /-- Lines skipped since the captured line before (R30). -/
  skipped : Nat
  /-- Generation and bank in force of each class at its hand-over (R96). -/
  gens    : List Nat
  banks   : List Nat
  /-- RWS values in force at its hand-over (R96). -/
  shadow  : List (Nat × Word)
  /-- Ports masked for the line, bit p (R129). -/
  masked  : Nat
  /-- Generators whose run for this line has not ended, bit g (R108). -/
  runs    : Nat
  /-- It has left stage 9, and its verdict path has ended. -/
  complete : Bool
  verdict : Bool
  /-- The page it belongs to, and its line in the page; 0 lines where there is none. -/
  page    : Nat
  inPage  : Bool
  pageLine : Nat
  /-- The rung in force (R285). -/
  rung    : Nat
  /-- REVERSED and RATIO_CHANGED of its header (R156). -/
  reversed : Bool
  ratioChanged : Bool
  /-- Ports that are suspect, bit p (R128). -/
  suspect : Nat
  /-- Latched temperature of each segment that has one, whether it is stale or missing (R142): segment, 1/256 °C, stale. -/
  temps   : List (Nat × Int × Bool)
  /-- Segments whose alignment history is discarded at its hand-over (R140). -/
  discard : List Nat
  /-- Warp of the 32 patches in force, and whether its page was not yet registered (R165, R174). -/
  warp : List (Int × Int)
  unreg : Bool
  /-- Segments that open CAL_MARK windows cover, bit s (R256). -/
  marks : Nat
  /-- The image in force for it (R90, R96). -/
  img : Bytes
  deriving DecidableEq, Repr

structure Esc where
  /-- The integer track position T (R73). -/
  track : Int
  /-- The remainder r (R73). -/
  rem : Nat
  /-- Time and track position of the counted edges, newest first, at most 64 (R77). -/
  edges : List (Nat × Int)
  /-- The last count was in the reverse direction (R81). -/
  reverse : Bool
  /-- Source kind and number in force (R72, R74). -/
  srcKind : Nat
  srcNum : Nat
  /-- A and B of each encoder as filtered (R75), Z likewise: bit e. -/
  chanA : Nat
  chanB : Nat
  chanZ : Nat
  /-- The stored images, by number (R89). -/
  images : List (Option Bytes)
  /-- The pending activation (R90). -/
  actPend : Option ActPend
  /-- A of the active image (R79). -/
  actPos : Int
  /-- k of the next line of the active image (R79). -/
  lineK : Nat
  /-- ONCE_EVENTS records taken into slots so far (R92). -/
  onceNext : Nat
  /-- The line whose LINE_EVENTS are taken next, and the record of it (R92). -/
  lineEvK : Nat
  lineEvNext : Nat
  /-- Timetable events in the bank, in order of release (R92). -/
  slots : List TEvent
  /-- Actuations in the bank (R92, R93). -/
  acts : List Actuation
  /-- GEN events released and not yet swapped (R88). -/
  genPend : List GenPend
  /-- Lines of each class's former bank still in its stages: class and last line (R97). -/
  bankBusy : List (Nat × Nat)
  /-- Some RWS register has been written since the last hand-over that brought values into force (R95). -/
  rwsDirty : Bool
  /-- N, D and AT of a pending host-armed ratio change (R82). -/
  ratioPend : Option (Nat × Nat × Int)
  /-- Captured lines that have not left every stage, oldest first. -/
  lines : List LineRec
  /-- Reverse motion, and a ratio or source change, since the previous captured line's hand-over (R156). -/
  revSince : Bool
  ratioSince : Bool
  /-- Lines skipped since the last captured line (R30). -/
  skippedLines : Nat
  /-- Segments whose alignment history is discarded at the next captured line (R140). -/
  discard : List Nat
  /-- The active image cannot be read: it ends at the next hand-over (R432). -/
  imageBad : Bool
  deriving DecidableEq, Repr

/-! ### The Postmaster (R31 to R71) -/

/-- A command fetched and not yet completed (R55). -/
structure Cmd where
  sq      : Nat
  /-- Its entry number in the ring (R32). -/
  num     : Nat
  tag     : Nat
  ctx     : Nat
  op      : Nat
  fence   : Bool
  entry   : Bytes
  block   : Bytes
  /-- Its place in the order of all fetches. -/
  order   : Nat
  /-- It has started (R51). -/
  started : Bool
  /-- What the command keeps while it runs, by opcode. -/
  data    : List Nat
  deriving DecidableEq, Repr

/-- A completion formed (R46). -/
structure Cpl where
  sq     : Nat
  /-- Entry number of the command, and whether it names a context (R56). -/
  num    : Nat
  order  : Nat
  cq     : Nat
  tag    : Nat
  ctx    : Nat
  op     : Nat
  status : Nat
  detail : Nat
  time   : Nat
  result : Bytes
  /-- Its command had FENCE 1 (R44). -/
  fence  : Bool
  deriving DecidableEq, Repr

/-- A completion written: its ring's count and its 32 bytes, kept in staging for replay (R63, R68). -/
structure CplDone where
  cq    : Nat
  count : Nat
  bytes : Bytes
  deriving DecidableEq, Repr

/-- A Ledger record (R61). -/
structure LRec where
  kind : Nat
  seq  : Nat
  time : Nat
  body : Bytes
  deriving DecidableEq, Repr

/-- An unused part of an admitted reservation (R58, R60). -/
structure Reservation where
  num      : Nat
  ctx      : Nat
  restante : Bool
  bytes    : Nat
  f        : Nat
  w        : Nat
  /-- First line, plus 1, and lines it covers; whether its capture has ended (R60). -/
  first    : Nat
  lines    : Nat
  ended    : Bool
  deriving DecidableEq, Repr

structure Post where
  /-- Doorbell values in force (R39). -/
  dbSq : List (Nat × Nat)
  dbCq : List (Nat × Nat)
  /-- Completions formed for each submission ring since its enable (R33). -/
  sqDone : List (Nat × Nat)
  /-- Doorbell writes held until step 2 of a replay: ring number, plus 64 for a completion ring, and the count (R39). -/
  heldDb : List (Nat × Nat)
  /-- Submission rings that drain after ENABLE 0 (R37). -/
  draining : List Nat
  /-- Commands fetched since COLD, which orders them (R56). -/
  fetches : Nat
  /-- Commands in flight, in fetch order. -/
  cmds : List Cmd
  /-- Completions formed and not yet written, oldest first. -/
  formed : List Cpl
  /-- Completions of each completion ring since its last signal, and device time of the first (R40). -/
  cqSince : List (Nat × Nat)
  cqFirst : List (Nat × Nat)
  /-- Completions written, newest first, as staging holds them (R63). -/
  written : List CplDone
  /-- The last record sequence number formed (R61). -/
  seq : Nat
  /-- Records not yet in NVS, oldest first (R64). -/
  backlog : List LRec
  /-- The journal in NVS, newest first (R61). -/
  journal : List LRec
  /-- Sequence numbers of records whose two copies in staging both failed: they fail CHECK (R432). -/
  stageBad : List Nat
  /-- Records since the last CHECKPOINT (R64). -/
  sinceCkpt : Nat
  /-- Records formed by work that could not wait for the backlog, oldest first: kind and body; they are staged as NVS writes make room (R64). -/
  waiting : List (Nat × Bytes)
  /-- LEDG_DURABLE as NVS gives it, by context: a CONTEXT_OPEN since has set it to 0 (R66, R69). -/
  durNvs : List (Nat × Nat)
  /-- Unused reservations (R58, R60). -/
  reserve : List Reservation
  /-- The last reservation number (R49). -/
  lastReserve : Nat
  /-- POWER_FAIL is asserted: no fetch, no admission, no parcel DMA (R67). -/
  closing : Bool
  /-- Steps of R68 done since the Postmaster's release: 0 to 7. -/
  replayStep : Nat
  /-- Reach of the reset being replayed (R68). -/
  replayReach : Nat
  /-- Bus Master Enable, BAR0 assigned, MSI-X Enable of the function (R68, R418). -/
  busMaster : Bool
  msixEnable : Bool
  deriving DecidableEq, Repr

/-! ### The Nalny sync ring, event outputs, trigger pins and buttons (R222 to R234) -/

/-- One event output: its kept level, whether a LEVEL action has set it, and the pulse in progress with its end time and level
(R224). -/
structure EvOut where
  kept  : Bool
  set   : Bool
  pulse : Option (Nat × Bool)
  deriving DecidableEq, Repr

/-- A fire collected from a FIRE frame sent or received (R230). -/
structure Fire where
  src : Nat
  seq : Nat
  pos : Int
  deriving DecidableEq, Repr

structure SyncSt where
  /-- SEQ of the next frame this device sends (R225). -/
  seq : Nat
  /-- The last diff values of R227, newest first, at most 16. -/
  diffs : List Int
  /-- SYNC_POS_DIVERGE has set its flag and the difference has not returned within tolerance (R227). -/
  diverged : Bool
  /-- Device times of the last CRC failures, newest first, at most 4 (R232). -/
  crcTimes : List Nat
  /-- The last FIRE of each node, to ignore repeats: node and SEQ + 1 (R230). -/
  lastFire : List (Nat × Nat)
  /-- Fires collected in the 250 ns wait (R230). -/
  collected : List Fire
  /-- The 16 event outputs (R224). -/
  outs : List EvOut
  /-- Filtered levels at the trigger pins, bit t, and accepted levels at the buttons, bit 16 + b, before INVERT (R194, R222). -/
  pins : Nat
  deriving DecidableEq, Repr

/-! ### Sensor ports (R100 to R131) -/

/-- A sensor head on an I3C bus (R118 to R121). -/
structure Head where
  bus  : Nat
  /-- Its dynamic address; 0 while it has none. -/
  addr : Nat
  /-- The segment it is bound to, plus 1; 0 while unbound. -/
  seg  : Nat
  /-- Its descriptor (R119). -/
  desc : Bytes
  deriving DecidableEq, Repr

/-- The states of a segment, as PORT_STATUS.STATE codes them (R122, R130). -/
inductive SegState where
  | absent | powering | ready | live | relock | fault | off
  deriving DecidableEq, Repr

/-- A segment (R101, R122, R124). -/
structure Seg where
  st : SegState
  /-- Its columns are delivered: LIVE as of the last hand-over (R122). -/
  delivers : Bool
  /-- Steps of R124 done: 1 clocks, 2 power, 3 lanes in ACQUIRE. -/
  step : Nat
  powered : Bool
  /-- Last masking cause (R130 PORT_STATUS.CAUSE). -/
  cause : Nat
  /-- The last poll of its head failed (R121). -/
  pollFailed : Bool
  /-- First line whose hand-over followed the last successful poll, plus 1; 0: none yet (R128). -/
  sincePoll : Nat
  /-- Last line for which it was not masked, plus 1 (R128). -/
  lastLine : Nat
  /-- Generators that served it when it was last powered down, bit g: their drivers turn off PWR_TO_CLKOFF later (R125). -/
  offGens : Nat
  deriving DecidableEq, Repr

/-- A segment with no head, masked with cause 1 (R130). -/
def Seg.none_ : Seg := ⟨.absent, false, 0, false, 1, false, 0, 0, 0⟩

/-- Samples of one source of one port for one line: source 0 A, 1 B, 2 L (R100). -/
structure Samples where
  line : Nat
  port : Nat
  src  : Nat
  vals : List Nat
  deriving DecidableEq, Repr

structure Fe where
  heads : List Head
  /-- The 48 segments. -/
  segs : List Seg
  /-- Samples that wait for their line to be complete. -/
  samples : List Samples
  /-- The line whose T0 started the run in progress of generator g, plus 1 (R107). -/
  runLine : List (Nat × Nat)
  /-- The line whose T0 has been committed while that run is in progress, plus 1, and the end of the latest run of generator g in units
  of 1/16 ns (R107). -/
  runNext : List (Nat × Nat)
  runEnd : List (Nat × Nat)
  /-- By generator: when its drivers turned on, from which the periods of its FREE pattern count; when its latest run began; and the PGEN
  bank of that run; times in units of 1/16 ns, plus 1 (R107, R109). -/
  genOn : List (Nat × Nat)
  runAt : List (Nat × Nat)
  runBank : List (Nat × Nat)
  /-- The line of the lane window that is open, and of the next one, plus 1, by port; a first window opens at a time in units of 1/16 ns
  (R116). -/
  winLine : List (Nat × Nat)
  winNext : List (Nat × Nat)
  winAt : List (Nat × Nat)
  /-- Lanes whose open window has had its frame (R116), and whose next frame is not compared (R116): bit p. -/
  winGot : Nat
  seqFresh : Nat
  /-- Resends of each die link, 32-bit saturating, and failed resends of the flit in hand (R14). -/
  resends : List (Nat × Nat)
  flitFails : List (Nat × Nat)
  /-- SERIAL named by the current shading baseline of a segment, plus 1; 0: none (R122, R236). -/
  shadeSerial : List (Nat × Nat)
  /-- Segments whose phase table in force is not valid: bit s (R106). -/
  badTable : Nat
  deriving DecidableEq, Repr

/-! ### The line pipeline (R132 to R157) -/

/-- A captured line of a segment kept for alignment: its number, POS and stage 2 values, plane by plane (R138). -/
structure HistLine where
  seg  : Nat
  line : Nat
  pos  : Int
  vals : List Int
  /-- The rows whose history holds it: bit r (R139). -/
  rows : Nat
  deriving DecidableEq, Repr

structure Pipe where
  /-- Alignment history, newest first (R139). -/
  hist : List HistLine
  /-- The first lines of the COLOUR and SEAM tables that came into force, where no line of fewer than 3 planes has set PIPE_TABLE_INVALID's
  flag under that table or a later one (R148). -/
  planeMarks : List Nat
  /-- The OFFGAIN segments and the SEAM table in force that do not fit the active image: bit s, and bit 48 for SEAM (R152). -/
  badTable : Nat
  /-- Classes whose bank in force waits to be restored from its HBM copy (R431). -/
  restoring : List Nat
  deriving DecidableEq, Repr

/-! ### Stream contexts, parcels and captures (R49, R50, R57 to R60, R201 to R221) -/

/-- A buffer posted to a context (R50). -/
structure Buf where
  /-- Place in the order of all fetches of the BUFFER_POST that listed it. -/
  cmd  : Nat
  addr : Nat
  len  : Nat
  used : Nat
  /-- Its place in the list of its command. -/
  idx  : Nat
  /-- The last parcel written into it. -/
  last : Nat
  deriving DecidableEq, Repr

/-- A closed parcel (R220, R265). -/
structure Parcel where
  ctx   : Nat
  num   : Nat
  /-- PARCEL_BYTES of its context. -/
  size  : Nat
  /-- Header and used payload; the rest of it is 0. -/
  data  : Bytes
  /-- Reservation number of its capture (R49). -/
  res   : Nat
  /-- The lowest line number of a record with bytes in it, plus 1; 0: none. -/
  low   : Nat
  /-- Its data stands in HBM parcel space (R265). -/
  resident : Bool
  /-- A spill write is in flight, and to which write unit, plus 1 (R268, R269). -/
  spilling : Nat
  /-- The write unit that holds it on the restante, plus 1; 0: none (R269). -/
  unit  : Nat
  /-- The drives, bit by port, that hold a copy. -/
  held  : Nat
  /-- It is in the return area (R270). -/
  back  : Bool
  /-- It has been written to a buffer; it has reached the host (R66). -/
  sent  : Bool
  host  : Bool
  /-- Its capture is reserved on the restante, so that it may be spilled (R268). -/
  rest  : Bool
  /-- What its copy in the return area holds where no stored copy passed its CHECK; no bytes: what is stored (R270). -/
  ret   : Bytes
  deriving DecidableEq, Repr

/-- A stream context that is not CLOSED: what its registers do not show (R215, R220, R221). -/
structure Ctx where
  num  : Nat
  flushUs : Nat
  /-- Payload bytes not yet in a closed parcel, and the device time of the first of them. -/
  pend : Bytes
  since : Nat
  /-- FIRST_REC of the parcel being filled, plus 1; lowest and highest line number of its records, plus 1; its RUNG_STEP. -/
  firstRec : Nat
  lowLine : Nat
  highLine : Nat
  rungStep : Bool
  /-- Lowest line number of a record with bytes in the parcel being filled, plus 1. -/
  low : Nat
  /-- Rung of the last record, plus 1. -/
  rung : Nat
  bufs : List Buf
  /-- An uncorrectable error has struck the bytes not yet in a closed parcel (R71, R432). -/
  err  : Bool
  deriving DecidableEq, Repr

/-- One line as a product sees it: header, samples plane by plane, and which columns are masked. -/
structure Row where
  line   : Nat
  /-- Its page; 0: none. -/
  page   : Nat
  header : Bytes
  planes : List (List Nat)
  mask   : List Bool
  /-- By plane, the samples that the tap's clip limited (R150). -/
  clips  : List Nat
  deriving DecidableEq, Repr

/-- A crop that waits for its last margin line (R214). -/
structure CropReq where
  blob : Nat
  pageId : Nat
  page : Nat
  pageEnd : Bool
  firstLine : Nat
  lastLine : Nat
  colFirst : Nat
  colLast : Nat
  deriving DecidableEq, Repr

/-- An armed or running capture (R49, R204, R205). -/
structure Capture where
  lead  : Nat
  res   : Nat
  /-- Its product set of 512 B (R209) and its F values by rung (R284). -/
  set   : Bytes
  fs    : List Nat
  floor : Nat
  maxLines : Nat
  atPos : Bool
  startPos : Int
  /-- The page that was open when it was armed: it does not begin in that one with AT_POS 0. -/
  armedPage : Nat
  /-- Its first and last line, plus 1; 0 while not known. -/
  first : Nat
  last  : Nat
  /-- CAPTURE_STOP: 1 at the next page close, 2 at the next hand-over (R205). -/
  stop  : Nat
  /-- The page it joined at its first line; 0 if none (R204). -/
  joined : Nat
  /-- Lines at which its grouping starts anew, newest first: its first line, and each line whose rung or page differs (R211). -/
  bases : List Nat
  /-- Lines at which its pages change, newest first (R213). -/
  pageBases : List Nat
  /-- Present lines of the group or window in progress, by entry (R211, R213). -/
  acc   : List (List Row)
  /-- Crops that wait, by entry, oldest first. -/
  crops : List (List CropReq)
  /-- Rung and page of the line number before, plus 1. -/
  prevRung : Nat
  prevPage : Nat
  /-- Position and page of the last line of it handed over (R212). -/
  lastPos : Int
  lastPage : Nat
  /-- Its rungs, newest first: the line number from which each holds (R212). -/
  rungs : List (Nat × Nat)
  deriving DecidableEq, Repr

/-- A page mark that waits for its place in the streams (R212). -/
structure Mark where
  isOpen : Bool
  page   : Nat
  flags  : Nat
  line   : Nat
  pos    : Int
  deriving DecidableEq, Repr

structure Strm where
  ctxs : List Ctx
  parcels : List Parcel
  captures : List Capture
  marks : List Mark
  /-- Lines kept for crops, newest first: linear and rendered (R214). -/
  cropLin : List Row
  cropRen : List Row
  /-- The highest line number that has gone from that history, plus 1; 0 if none (R214). -/
  cropGone : Nat
  /-- Captures that end lines before their reservation's end: CAPTURE_STOP results by command (R205). -/
  ended : List (Nat × Nat)
  deriving DecidableEq, Repr

/-! ### Pages, triggers and sequencers (R193 to R208) -/

/-- The stamp of a sample or a fire: device time, track position, line number (R194, R196). -/
structure Stamp where
  time : Nat
  pos  : Int
  line : Nat
  deriving DecidableEq, Repr

/-- A page open or close decided and not yet resolved to a line (R201). -/
structure PageReq where
  isOpen : Bool
  target : Int
  host   : Bool
  fixed  : Bool
  /-- For a close: the page that was open when it was decided. -/
  page   : Nat
  deriving DecidableEq, Repr

/-- A trigger unit (R196). -/
structure TrigUnit where
  unit  : Nat
  level : Option Bool
  /-- Whether the last sample lay in a region, and above. -/
  home  : Option Bool
  /-- Start of the pulse, excursion, transition or watch in progress. -/
  start : Option Stamp
  /-- The excursion has reached the opposite region. -/
  opp   : Bool
  /-- The watch has fired (it then counts MAX). -/
  again : Bool
  lastFire : Option Stamp
  deriving DecidableEq, Repr

/-- A sequencer: the stamp that caused the entry of its state (R199). -/
structure SeqSt where
  seq   : Nat
  entry : Stamp
  /-- The state its timer has left, with its counter and the stamp of its entry: a fire no later than the timer may still count there. -/
  left : Option (Nat × Nat × Stamp)
  deriving DecidableEq, Repr

/-- A page as a unit that follows its lines needs it (R201). -/
structure PageRec where
  num   : Nat
  first : Nat
  /-- Its last line, plus 1; 0 while it is open. -/
  last  : Nat
  flags : Nat
  /-- POS of its first line (R212). -/
  pos   : Int
  /-- What captures add to its flags in PROD_PAGE_STATUS: JOINED and CUT (R202). -/
  extra : Nat
  deriving DecidableEq, Repr

/-- What the edge fit keeps of a page (R207): its lines' edges and patch means. -/
structure EdgeAcc where
  page  : Nat
  first : Nat
  /-- By line: its number in the page, LEFT and RIGHT if it has edges, and by patch the sum and count of its unmasked codes. -/
  lines : List (Nat × Option (Int × Int) × List (Nat × Nat))
  /-- The image of its latest line, and the comparator columns of that line. -/
  img   : Bytes
  cols  : Nat
  deriving DecidableEq, Repr

/-- A formed fit, before it comes into force: page, and the fields of the EDGE record (R207, R213). -/
structure EdgeFit where
  page  : Nat
  first : Nat
  sides : Bool
  lead  : Bool
  vals  : List Int
  patches : Nat
  /-- Slope as a fraction: numerator and denominator, lines per column. -/
  slopeN : Int
  slopeD : Int
  /-- The comparator columns it was formed on. -/
  cols : Nat
  deriving DecidableEq, Repr

structure Pages where
  /-- Page number last opened (R201). -/
  num   : Nat
  /-- The open page, and pages whose lines have not all been judged, oldest first. -/
  cur   : Option PageRec
  past  : List PageRec
  reqs  : List PageReq
  units : List TrigUnit
  seqs  : List SeqSt
  /-- Edges of the pages whose fit is not formed, and the fit that waits for a hand-over. -/
  edges : List EdgeAcc
  fit   : Option EdgeFit
  /-- LEFT and RIGHT in force for crop to edges, with their page and the line at which they came into force (R208). -/
  sides : Option (Nat × Nat × Int × Int)
  /-- POS of the line handed over last (R212). -/
  prevPos : Int
  deriving DecidableEq, Repr

/-! ### Reference comparison (R158 to R192) -/

/-- A loaded reference page: its place and the fields of its header (R159, R162). -/
structure RefPage where
  region : Nat
  offset : Nat
  id     : Nat
  length : Nat
  chans  : Nat
  bits   : Nat
  width  : Nat
  rows   : Nat
  rowStride : Nat
  mapStride : Nat
  deriving DecidableEq, Repr

/-- A run of defect pixels of one line (R177). -/
structure Run where
  a : Nat
  b : Nat
  area : Nat
  maxD : Nat
  regions : Nat
  /-- It stands for the 65,536th run and all after it (R179). -/
  joined : Bool
  deriving DecidableEq, Repr

/-- An open blob, or the successor of a SPLIT blob that has no run yet: number 0 (R177 to R179). -/
structure Blob where
  num : Nat
  firstLine : Nat
  lastLine : Nat
  colFirst : Nat
  colLast : Nat
  area : Nat
  /-- The area of the parts before it. -/
  before : Nat
  maxD : Nat
  regions : Nat
  posFirst : Int
  posLast : Int
  unreg : Bool
  overflow : Bool
  continued : Bool
  /-- It is the overflow blob. -/
  spill : Bool
  /-- Its runs of the last two judged lines: place of the line among the judged lines, first and last column. -/
  runs : List (Nat × Nat × Nat)
  deriving DecidableEq, Repr

/-- A colour window's sums (R188). -/
structure ColWin where
  count : Nat
  sumM  : List Nat
  sumE  : List Int
  done  : Bool
  deriving DecidableEq, Repr

/-- The comparator's page: from its open until the verdict path of its last line (R164, R177, R182). -/
structure Track where
  page  : Nat
  first : Nat
  ref   : Option RefPage
  nextBlob : Nat
  /-- Judged lines so far; lines with UNREG; DEFECT and SMALL counts. -/
  judged : Nat
  unreg : Nat
  defects : Nat
  small : Nat
  blobs : List Blob
  wins  : List ColWin
  deriving DecidableEq, Repr

/-- A line the comparator has seen, until its verdict path (R169, R183). -/
structure JLine where
  line : Nat
  page : Nat
  judged : Bool
  pos  : Int
  unreg : Bool
  runs : List Run
  deriving DecidableEq, Repr

/-- A registration band (R170, R171): by patch, the 33 × 33 sums, row by row of dy, and the pixels that contributed. -/
structure Band where
  page  : Nat
  first : Nat
  sums  : List (List Nat)
  seen  : List Nat
  /-- By patch, the pixels of its window on the band's latest line. -/
  want  : List Nat
  deriving DecidableEq, Repr

/-- A band's result: by patch, cx, cy and whether it is valid (R172). -/
structure BandResult where
  page  : Nat
  first : Nat
  patches : List (Int × Int × Bool)
  deriving DecidableEq, Repr

structure Cmpr where
  refs   : List RefPage
  tracks : List Track
  /-- The band in progress, a complete one, and a result that waits for a hand-over. -/
  band   : Option Band
  full   : Option Band
  result : Option BandResult
  /-- Device time at which the registration engine is free (R171). -/
  busy   : Nat
  jlines : List JLine
  /-- CMPR_REF_NEXT has been written since it last came into force (R164). -/
  nextDirty : Bool
  /-- The previous page was registered when it closed, and its warp then, by patch (R174). -/
  wasReg : Bool
  lastWarp : List (Int × Int)
  /-- The open page has become registered; the page whose edge fit came into force last (R174). -/
  ownReg : Bool
  fitPage : Nat
  deriving DecidableEq, Repr

/-! ### Motion (R312 to R343) -/

/-- A piece of a motion curve: the cubic from (p0, v0) to (p1, v1) over `t` servo periods (R318), used from tick lo + 1 to tick hi.
Positions are in units of 2^-16 microstep over `den`, from the curve's origin; velocities in 2^-16 microstep per period over `den`. -/
structure MSeg where
  den : Nat
  t   : Nat
  p0  : Int
  v0  : Int
  p1  : Int
  v1  : Int
  lo  : Nat
  hi  : Nat
  deriving DecidableEq, Repr

/-- A move of an axis queue (R320, R321). -/
structure Move where
  /-- Place of its command in fetch order, plus 1; 0 for a MOTION event. -/
  cmd   : Nat
  gear  : Bool
  /-- The curve of a table; its duration and end (2^-16 microstep), from its origin. -/
  segs  : List MSeg
  total : Nat
  len   : Int
  /-- BLEND periods with the move before, and whether the two are joined (R322). -/
  blend : Nat
  joined : Bool
  /-- End position once it has started (2^-16 microstep). -/
  endPos : Int
  /-- A gear's encoder, N, D, ENGAGE, LENGTH and UNTIL_STOP (R320). -/
  enc : Nat
  n : Nat
  d : Nat
  engage : Nat
  length : Nat
  untilStop : Bool
  deriving DecidableEq, Repr

/-- A set-point: position and velocity in 2^-16 microstep (per period), and what is done once it is applied. -/
structure SetPt where
  p : Int
  v : Int
  ends : List Nat
  deriving DecidableEq, Repr

/-- What computes an axis's next set-points. -/
inductive Prog where
  /-- At rest. -/
  | hold
  /-- Along curves from an origin: purpose 0 moves, 1 a RESUME profile, 2 a homing back-off, 3 pacing phase 2; the ticks done; and
  the shift of the ticks, as a fraction, that a pacing stop leaves (R336 phase 5). -/
  | path (purpose : Nat) (origin : Int) (tick : Nat) (shN : Int) (shD : Nat) (chain : List Move)
  /-- Gearing: M0 and the last master position, and the position and g from which the ratio in force counts (R325, R326). -/
  | gear (m0 last pa ga : Int) (n d : Nat)
  /-- A ramp to rest at a deceleration (R332). -/
  | ramp (a : Nat)
  /-- Homing approach (R338): direction, and distance travelled. -/
  | home (neg : Bool) (dist : Int)
  /-- Pacing phase 4: ticks since it began (R336). -/
  | reapproach (tick : Nat)
  deriving DecidableEq, Repr

/-- A pacing sequence (R336): phase; X(k + 1) in microsteps; vs and T1; pr; the suspended curve and the tick before X; whether the
advance is released. -/
structure Pace where
  phase : Nat
  x  : Int
  vs : Int
  t1 : Nat
  pr : Int
  origin : Int
  ix : Nat
  shN : Int
  shD : Nat
  chain : List Move
  go : Bool
  deriving DecidableEq, Repr

/-- A HOME in progress (R338, R340): its command, METHOD, the status and reference it will end with, and the shift. -/
structure HomeSt where
  cmd : Nat
  method : Nat
  /-- 0 approach, 1 stopping after it, 2 backing off, 3 stopping without a reference, 4 stopping with the one found. -/
  phase : Nat
  status : Nat
  ref : Nat
  delta : Int
  deriving DecidableEq, Repr

/-- A fixed-off-time cycle of a coil: its target current, the device time of its start, and the ns of its on phase, blank included, and
of its fast decay (R330). -/
structure Coil where
  target : Int
  start  : Nat
  on     : Nat
  fast   : Nat
  deriving DecidableEq, Repr

/-- I_RUN, I_HOLD and I_HOME of an axis in force (R329, R342). -/
structure Amps where
  run  : Nat
  hold : Nat
  home : Nat
  deriving DecidableEq, Repr

/-- An axis: what its registers do not show. -/
structure Axis where
  /-- The commanded position, 2^-16 microstep (R315). -/
  pos  : Int
  /-- p(j), p(j + 1) and p(j + 2) of the period in progress, and updates done in it. -/
  cur  : SetPt
  next : SetPt
  comp : SetPt
  upd  : Nat
  /-- What the set-points are computed from: rest, a path, a gear or homing (R315, R318, R325, R340). -/
  prog : Prog
  /-- The queue of moves, its head the one in progress (R320). -/
  queue : List Move
  /-- Moves at the head of the queue whose set-points are all computed. -/
  ahead : Nat
  /-- Distance left of a suspended move, 2^-16 microstep. -/
  remain : Int
  /-- At rest every move ends (FLUSH); the move with this fetch order, less 1, is ABORTED; STOP commands that wait; RESUME, plus 1. -/
  flush : Bool
  abort : Nat
  stops : List Nat
  resume : Nat
  home : Option HomeSt
  /-- AX_VMAX and the soft limits a move started with. -/
  vmax : Nat
  soft : Option (Int × Int)
  /-- ENABLE was written 0 while it moved (R335). -/
  disable : Bool
  /-- It stops by itself for want of set-points (R316). -/
  starving : Bool
  /-- HOLD_DELAY has passed: the coils carry I_HOLD (R329). -/
  held : Bool
  /-- Full steps of this move or approach; consecutive full steps with LA at or below THR; on-times of this full step (R339). -/
  steps : Nat
  low   : Nat
  onSum : Nat
  onNum : Nat
  /-- A stall or a limit trip of this servo period while homing (R340): the position. -/
  stallAt : Option Int
  limAt : Option Int
  /-- The move ended because of a gear overspeed, soft limit or fault: it does not end OK (R321). -/
  bad : Bool
  /-- The pacing of a move to a withheld advance (R328). -/
  pace : Option Pace
  /-- An armed gear ratio and its count (R326). -/
  gearPend : Option (Nat × Nat × Int)
  /-- The chopper cycles in progress of coils A and B (R313, R330). -/
  coils : List Coil
  /-- A reset or a retraining link has lost a set-point: the next servo tick finds none (R316, R341). -/
  cut : Bool
  /-- The currents of the move in progress: those at its start; else those of the last servo tick (R342). -/
  amps : Amps
  deriving DecidableEq, Repr

/-- An axis after reset: at rest at position 0, its coils at I_HOLD. -/
def Axis.rest : Axis :=
  ⟨0, ⟨0, 0, []⟩, ⟨0, 0, []⟩, ⟨0, 0, []⟩, 0, .hold, [], 0, 0, false, 0, [], 0, none, 65536, none, false, false, true, 0, 0, 0, 0,
    none, none, false, none, none, [⟨0, 0, 0, 0⟩, ⟨0, 0, 0, 0⟩], false, ⟨0, 0, 0⟩⟩

structure Mot where
  axes : List Axis
  /-- Time and count of the last edges of each encoder, newest first, at most 64 (R325). -/
  encEdges : List (Nat × List (Nat × Int))
  /-- The axis registers as they were at the last servo tick, where a write takes effect (R342). -/
  regs : List (Nat × Word)
  deriving DecidableEq, Repr

/-! ### Calibration (R235 to R261) -/

/-- The sums of one entry or source in one set (R248). -/
structure CalAcc where
  c  : Nat
  s  : Int
  s2 : Nat
  deriving DecidableEq, Repr

/-- A covered segment of a run, its eligible lines so far (R250), and whether it has been LIVE since its collection began, so that
leaving LIVE makes it drop out (R260; log entry 99). -/
structure CalSeg where
  seg   : Nat
  lines : Nat
  was   : Bool
  deriving DecidableEq, Repr

/-- A calibration run (R245 to R260). -/
structure CalRun where
  num    : Nat
  /-- KIND of R255; 0x10 for a tile run. -/
  kind   : Nat
  /-- 0 CAL_RUN, 1 temperature trigger, 2 CAL_TILE_RUN (R254). -/
  origin : Nat
  cmd    : Nat
  marksOnly : Bool
  store  : Bool
  lines  : Nat
  timeout : Nat
  hostStamp : Nat
  /-- SEGMENTS as covered at its start, and those still covered. -/
  mask   : Nat
  segs   : List CalSeg
  /-- First line after its start, plus 1 (0: it restarts at the next hand-over), and the generations of that line (R245). -/
  first  : Nat
  gens   : List Nat
  /-- Tile runs: 1 the tile moves in and settles, 0 collecting (R259). -/
  tile   : Nat
  lineA  : Nat
  lineB  : Nat
  /-- Sums by entry, or source + 2^20, of the two sets. -/
  setA   : List (Nat × CalAcc)
  setB   : List (Nat × CalAcc)
  deriving DecidableEq, Repr

/-- An accepted result that waits for its hand-over (R252). -/
structure CalPend where
  run    : CalRun
  applied : Nat
  /-- Entries of SHADING that a tile run changes, with their new S (R259). -/
  shade  : List (Nat × Nat)
  deriving DecidableEq, Repr

/-- A baseline record in NVS (R236, R237). -/
structure Baseline where
  entry : Nat
  seq   : Nat
  bytes : Bytes
  /-- VALID: it passed its checks when they were last made (R238). -/
  valid : Bool
  deriving DecidableEq, Repr

structure Cal where
  run    : Option CalRun
  /-- The accepted result of a run that waits for its hand-over. -/
  pend   : Option CalPend
  /-- The content that comes into force at the next hand-over with the DRIFT bank free, by class byte (R242, R244, R252). -/
  next   : Option Mem
  /-- It includes the content that CAL_CTRL.RESTORE accepted (R244). -/
  restore : Bool
  /-- The records of the baseline area (R237). -/
  base   : List Baseline
  /-- References set: 32 × segment + input; and the latest usable result of each input, plus 2^31 (R257). -/
  refSet : List Nat
  latest : List (Nat × Nat)
  /-- Triggers that arose while a run covering the segment was in progress (R258). -/
  again  : List Nat
  /-- The DRIFT result last brought into force was a run's: BUSY lasts until the former bank is free (R243). -/
  after  : Bool
  deriving DecidableEq, Repr

/-! ### Franking (R391 to R412) -/

structure Sec where
  /-- The two firmware slots of NVS: state, as SEC_STATUS codes it, and image (R395). -/
  slots  : List (Nat × Bytes)
  /-- The two copies of the option record in NVS; no bytes: never written (R377, R401). -/
  copies : List Bytes
  /-- The option record being written: place of its FW_ACTIVATE in fetch order, plus 1; 0 for a commit (R401, R403). -/
  optPend : Option (Nat × Bytes)
  /-- Checkpoint blocks in NVS, newest first, at most 256, and the last Ledger record they cover (R407). -/
  ckpts  : List Bytes
  ckptSeq : Nat
  /-- Last record that the block being signed covers, plus 1; 0: none is being signed (R407). -/
  signing : Nat
  /-- A FW_ACTIVATE with RESTART 1 has completed; SOFTWARE follows with reach WARM (R401). -/
  restart : Bool
  /-- Device time of FRANK's release, and the failed slot and its state while FW_FALLBACK waits for FABRIC (R396, R412). -/
  frankAt : Nat
  fallback : Option (Nat × Nat)
  /-- SPDM: version in force (0: none), whether CAPABILITIES and ALGORITHMS have been answered, the requester's transfer size, the
  transcripts of the connection, of challenges and of measurements, and a large response being fetched with its handle and the next
  chunk (R409, R410). -/
  spdmVer : Nat
  spdmStep : Nat
  spdmDts : Nat
  spdmLog : Bytes
  chalLog : Bytes
  measLog : Bytes
  large  : Bytes
  chunk  : Nat
  handle : Nat
  /-- Pieces of NVS that hold an uncorrectable line: 1 and the directory entry of a baseline, 2 and a firmware slot, 3 and a copy of the
  option record (R431). -/
  nvsBad : List (Nat × Nat)
  /-- The copy of the running slot's body in the internal HBM region, the SHAKE256 digest that Franking keeps of it, and whether a word
  of the copy is uncorrectable (R373, R396, R432). -/
  fwCopy : Bytes
  fwDigest : Bytes
  fwBad  : Bool
  deriving DecidableEq, Repr

/-! ### Resets and the Winder (R363 to R386) -/

/-- A source that has asserted: its number, effective reach and set of domains. -/
structure Asserted where
  src   : Nat
  reach : Nat
  doms  : Nat
  /-- The RESET command that asserts SOFTWARE, by place in fetch order, plus 1; 0: none. -/
  cmd   : Nat
  /-- It deasserted while it waited for a release to complete (R371). -/
  gone  : Bool
  deriving DecidableEq, Repr

structure Rst where
  /-- The fuse counts as copied into the reset table, by source (R369). -/
  table : List (Nat × Nat)
  /-- Sources asserted now, and those that wait for the release in progress to complete (R370, R371). -/
  now_  : List Asserted
  later : List Asserted
  /-- The reset in progress: its acting reach (0: none), its set, and RST_CAUSE at its first assertion (R370, R374). -/
  reach : Nat
  doms  : Nat
  cause : Nat
  /-- Domains asked to go idle whose wrapper has not closed (R375). -/
  quiet : Nat
  /-- Domains still to be released in this release, in the order of R379; whether the option record has been read in it. -/
  left  : List Nat
  read_ : Bool
  /-- Franking has reported firmware verified in this start (R379, R396). -/
  verified : Bool
  /-- Boot-complete is awaited and START_TIMEOUT is armed (R381). -/
  armed : Bool
  /-- The failed-start counter in NVS (R381). -/
  starts : Nat
  /-- The next start enters Crown mode (R386). -/
  crown : Bool
  /-- The RESET command that asserts SOFTWARE last, by place in fetch order, plus 1; and those of the reset in progress, each with its
  effective reach (R386). -/
  cmd   : Nat
  cmds  : List (Nat × Nat)
  /-- Supplies and other level sources hold the device: POWER_FAIL is asserted (R67). -/
  fail  : Bool
  /-- Domains whose copy in the internal HBM region cannot be restored: bit n (R432). -/
  badCopy : Nat
  /-- The firmware that POST, ESC, REGUL and REMON have loaded, by domain number (R373). -/
  fw    : List (Nat × Bytes)
  deriving DecidableEq, Repr

/-! ### Queues, drives and the ladder (R262 to R290) -/

/-- The header of a drive's index (R273). -/
structure IndexHead where
  magic  : Nat
  format : Nat
  unit   : Bytes
  pairs  : Nat
  crc    : Nat
  deriving DecidableEq, Repr

/-- The index entry of a block in use (R273). -/
structure IndexEntry where
  block : Nat
  ctx   : Nat
  res   : Nat
  size  : Nat
  first : Nat
  count : Nat
  seq   : Nat
  deriving DecidableEq, Repr

/-- The drive of a root port: the index that it holds, which no reset changes, and what the device has found of it (R272 to R278). -/
structure Drive where
  head  : Option IndexHead
  index : List IndexEntry
  /-- It may lack blocks that its partner holds: its pair is degraded (R275, R277). -/
  stale : Bool
  /-- 0 not counted since COLD, 1 counted as a MEMBER, 2 it has left MEMBER and not returned (R274, R275). -/
  seen  : Nat
  /-- Trained rate code and width, as last trained; parcel capacity; the namespace in use; base of its BARs, 0: none assigned. -/
  code  : Nat
  width : Nat
  cap   : Nat
  nsid  : Nat
  bar   : Nat
  deriving DecidableEq, Repr

/-- A port that has had no drive. -/
def Drive.none_ : Drive := ⟨none, [], false, 0, 0, 0, 0, 0, 0⟩

structure Que where
  /-- Line of the last change of RD, plus 1 (R286). -/
  lastStep : Nat
  /-- While an advance is withheld: the line it leads to, and its place (R288, R336). -/
  withheld : Option (Nat × Int)
  /-- RESTANTE_FULL has set its flag, and blocks have not been freed since (R279). -/
  full : Bool
  /-- RP_PWR_EN and RP_PERST_N, bit by port; ports pulsed by DRIVE_SCAN (R274). -/
  pwr   : Nat
  perst : Nat
  pulse : Nat
  /-- The drives of the four ports. -/
  drives : List Drive
  /-- Bytes left to copy in the rebuild of each pair (R277). -/
  rebuild : List Nat
  deriving DecidableEq, Repr

/-! ### DMA channels (R291 to R308) -/

/-- A host channel: what its registers do not show. -/
structure Chan where
  tail : Nat
  /-- The descriptor in progress and its address; no bytes: none. -/
  desc : Bytes
  addr : Nat
  /-- What its index table and its source, where in host memory, read as: the source's bytes in stream order. -/
  idx  : Bytes
  src  : Bytes
  /-- Stream bytes written, and groups paid for with credits (R301). -/
  wrote : Nat
  paid : Nat
  /-- Running check value at its start; CRC setting of the descriptor before, plus 1; 0: none, or it ended BAD (R302). -/
  crc0 : Nat
  lastCrc : Nat
  /-- State in which PAUSE was written (R303). -/
  from_ : Nat
  /-- It runs as a re-issue; addresses of descriptors still to re-issue (R307). -/
  reissue : Bool
  again : List Nat
  /-- DMA_PACE releases held while the domain is in reset (R308). -/
  held : Nat
  deriving DecidableEq, Repr

/-- A channel that is DISABLED. -/
def Chan.none_ : Chan := ⟨0, [], 0, [], [], 0, 0, 0, 0, 0, false, [], 0⟩

/-! ### The auxiliary front end (R344 to R362) -/

/-- A conversion chain: what its registers do not show (R348, R356 to R358). -/
structure AuxChain where
  /-- 0 idle, 1 a scan, 2 an urgent visit, 3 a visit for AUX_CONVERT. -/
  job   : Nat
  /-- Place of that command in fetch order. -/
  cmd   : Nat
  /-- A scan is in progress, and the inputs it has still to visit. -/
  scan  : Bool
  left  : List Nat
  /-- Where an urgent result goes. -/
  queue : Nat
  push  : Bool
  /-- Gain of the amplifier; the main code of the visit with its gain, whether it overloaded, and its sampling instant. -/
  gain  : Nat
  main  : Int
  mainGain : Nat
  mainOver : Bool
  at_   : Nat
  /-- Level at AUX_CONV after its filter. -/
  pin   : Bool
  /-- Autoranging has set another gain after the main code of this visit (R352). -/
  step  : Bool
  /-- Device time of the last start taken, of the last one that found the chain idle, and of the last delivered result, plus 1; 0: none. -/
  startAt : Nat
  begunAt : Nat
  endAt   : Nat
  deriving DecidableEq, Repr

/-- A chain that holds no visit. -/
def AuxChain.idle : AuxChain := ⟨0, 0, false, [], 0, false, 0, 0, 0, false, 0, false, false, 0, 0, 0⟩

structure Aux where
  chains : List AuxChain
  /-- Inputs whose next result is the first after a gain change, bit i (R347). -/
  stepped : Nat
  /-- Consecutive main codes below 3/8 of full scale, by input (R352). -/
  low   : List (Nat × Nat)
  /-- Results until the lead measurement is due again, by input; 0: due (R348). -/
  lead  : List (Nat × Nat)
  /-- The lead code held, at gain 128, plus 2^31, by input; 0: none. -/
  leadN : List (Nat × Nat)
  /-- The latest result of each input that is neither OPEN nor UNSETTLED, plus 2^32, and when it was delivered (R142). -/
  latest : List (Nat × Nat)
  since : List (Nat × Nat)
  /-- GAIN as AUX_CONFIG last set it, by input (R352, R361). -/
  gains : List (Nat × Nat)
  deriving DecidableEq, Repr

/-- What counted in the present cycle, one ns of device time, for the writes that meet it (R416, R417, R429; log entry 122). -/
structure Cyc where
  /-- The cycle the rest belongs to: its device time plus 1; 0 before the first. -/
  at_ : Nat
  /-- Increments by register instance: of a counter, of the bit of an EVT_WRAPPED or RST_CAUSE source, or, under EVT_ROUTE, of the
  signals of a source's vector. -/
  ups : List (Nat × Nat)
  /-- Routes written in the cycle: source and former route (R417). -/
  routes : List (Nat × Word)
  deriving DecidableEq, Repr

/-- Everything of the device but its fuses and the queue of commands. -/
structure Dev where
  /-- Device time in ns, as the domains that stamp time interpolate it (R18). -/
  now : Nat
  /-- The model's own counter of free values used (log entry 3). -/
  fresh : Nat
  /-- Occurrences, increments and route writes of the present cycle (R416, R417, R429). -/
  cyc : Cyc
  /-- Register contents by register and instance; RWS fields hold the value most recently written (R4). -/
  regs : List (Nat × Word)
  /-- RWS registers: the value in force (R95). -/
  inforce : List (Nat × Word)
  /-- High-word holding latches of 64-bit registers (R8, R9). -/
  hiLatch : List (Nat × Option Nat)
  /-- Held low words of 64-bit registers (R8, R9). -/
  loHeld : List (Nat × Option Nat)
  /-- Byte-addressed registers and windows that are not table banks. -/
  wins : List (Nat × Byte)
  /-- The two banks of every table class (R94, R97). -/
  tables : Mem
  /-- Host-visible HBM by offset (R24, R25). -/
  hbm : Mem
  /-- What the device has written to host memory. -/
  host : Mem
  /-- What has left the device, newest first. -/
  outbox : List Out
  /-- Work asked within the step, empty between steps (R422). -/
  rq : List Req
  evt : EvtSt
  esc : Esc
  post : Post
  sync : SyncSt
  fe : Fe
  pipe : Pipe
  strm : Strm
  pages : Pages
  cmpr : Cmpr
  mot : Mot
  cal : Cal
  sec : Sec
  que : Que
  chans : List Chan
  aux : Aux
  rst : Rst
  deriving DecidableEq, Repr

/-- The fuse fields that can still be programmed after manufacture (R391). -/
structure Fuses where
  /-- SVN, the count of bits set (R391, R398). -/
  svn : Nat
  /-- REACH counts that are not 0, by reset source (R369, R405). -/
  reach : List (Nat × Nat)
  deriving DecidableEq, Repr

/-- The machine. -/
structure State where
  /-- Commands that are waiting, first in, first out. -/
  pending : List Instr
  fuses : Fuses
  dev : Dev
  deriving DecidableEq, Repr

/-- The device with every register at the value its table gives for reset, nothing in NVS and nothing connected. Registers are listed
where they differ from their reset value, so the list is empty. -/
def Dev.blank : Dev where
  now := 0
  fresh := 0
  cyc := ⟨0, [], []⟩
  regs := []
  inforce := []
  hiLatch := []
  loHeld := []
  wins := []
  tables := []
  hbm := []
  host := []
  outbox := []
  rq := []
  evt := { lastRec := [], recent := [], skipped := [], history := [], eccLog := [], nvsLog := [], logRead := 0, lost := false,
           dropping := false, uq := List.replicate 16 [] }
  esc := { track := 0, rem := 0, edges := [], reverse := false, srcKind := 0, srcNum := 0, chanA := 0, chanB := 0, chanZ := 0,
           images := List.replicate 4 none, actPend := none, actPos := 0, lineK := 0, onceNext := 0, lineEvK := 0, lineEvNext := 0,
           slots := [], acts := [], genPend := [], bankBusy := [], rwsDirty := false, ratioPend := none, lines := [],
           revSince := false, ratioSince := false, skippedLines := 0, discard := [], imageBad := false }
  post := { dbSq := [], dbCq := [], sqDone := [], heldDb := [], draining := [], fetches := 0, cmds := [], formed := [], cqSince := [],
            cqFirst := [], written := [], seq := 0, backlog := [], journal := [], stageBad := [], sinceCkpt := 0, waiting := [], durNvs := [], reserve := [], lastReserve := 0,
            closing := false, replayStep := 0, replayReach := 0, busMaster := false, msixEnable := false }
  sync := { seq := 0, diffs := [], diverged := false, crcTimes := [], lastFire := [], collected := [],
            outs := List.replicate 16 ⟨false, false, none⟩, pins := 0 }
  fe := { heads := [], segs := List.replicate 48 Seg.none_, samples := [], runLine := [], runNext := [], runEnd := [], genOn := [], runAt := [], runBank := [], winLine := [],
          winNext := [], winAt := [], winGot := 0, seqFresh := 0, resends := [], flitFails := [], shadeSerial := [], badTable := 0 }
  pipe := { hist := [], planeMarks := [], badTable := 0, restoring := [] }
  strm := { ctxs := [], parcels := [], captures := [], marks := [], cropLin := [], cropRen := [], cropGone := 0, ended := [] }
  pages := { num := 0, cur := none, past := [], reqs := [], units := [], seqs := [], edges := [], fit := none, sides := none, prevPos := 0 }
  cmpr := { refs := [], tracks := [], band := none, full := none, result := none, busy := 0, jlines := [], nextDirty := false,
            wasReg := false, lastWarp := List.replicate 32 (0, 0), ownReg := false, fitPage := 0 }
  mot := { axes := List.replicate 8 Axis.rest, encEdges := [], regs := [] }
  cal := { run := none, pend := none, next := none, restore := false, base := [], refSet := [], latest := [], again := [], after := false }
  sec := { slots := [(0, []), (0, [])], copies := [[], []], optPend := none, ckpts := [], ckptSeq := 0, signing := 0, restart := false,
           frankAt := 0, fallback := none, spdmVer := 0, spdmStep := 0, spdmDts := 0, spdmLog := [], chalLog := [], measLog := [],
           large := [], chunk := 0, handle := 0, nvsBad := [], fwCopy := [], fwDigest := [], fwBad := false }
  que := { lastStep := 0, withheld := none, full := false, pwr := 0, perst := 0, pulse := 0, drives := List.replicate 4 Drive.none_, rebuild := [0, 0] }
  chans := List.replicate 48 Chan.none_
  aux := { chains := List.replicate 4 AuxChain.idle, stepped := 0, low := [], lead := [], leadN := [], latest := [], since := [], gains := [] }
  rst := { table := [], now_ := [], later := [], reach := 0, doms := 0, cause := 0, quiet := 0, left := [], read_ := false,
           verified := false, armed := false, starts := 0, crown := false, cmd := 0, cmds := [], fail := false, badCopy := 0, fw := [] }

/-- POWER_ON asserted, as power finds the device: it resets every domain with reach COLD (R366, R368). -/
def powerOn : Rst := { Dev.blank.rst with now_ := [⟨0, 5, 0xFFFFFF, 0, false⟩], reach := 5, doms := 0xFFFFFF, cause := 1 }

/-- The machine right after reset: every register at its reset value, POWER_ON asserted, no domain released yet, nothing written to NVS
but what manufacture puts there, no command waiting (R368, R372, R391; log entries 2 and 20). -/
def State.reset : State where
  pending := []
  fuses := ⟨0, []⟩
  dev := { Dev.blank with rst := powerOn }

/-- Canonical key of instance `i` of register `r`. -/
def rkey (r : Reg) (i : Nat) : Nat := i * 1024 + r.ctorIdx

end Sys2Proof.Machine
end

