-- ==== Sys2Proof/Machine/Operands.lean ====
section
/-!
DEFINITION. Machine/Operands.lean: the ranges of the operands of commands: which numbers name a ring, a context, a unit or a register of
the device.
-/
namespace Sys2Proof.Machine

/-- A submission or completion ring with a number (R31). -/
def isSq (n : Nat) : Bool := decide (n < 64)
/-- A source of commands: a submission ring, or 64 for the Crown command register (R31, R384). -/
def isRing (n : Nat) : Bool := decide (n ≤ 64)
/-- A TAG (R44). -/
def isTag (n : Nat) : Bool := decide (n < 65536)
/-- An offset within the 256 MiB of BAR0 (R20). -/
def inBar0 (a : Nat) : Bool := decide (a < 0x10000000)
/-- A 32-bit value. -/
def isWord (n : Nat) : Bool := decide (n < 4294967296)
/-- A stream context (R49). -/
def isCtx (n : Nat) : Bool := decide (n < 2048)
/-- A sensor port, with its lane (R21). -/
def isPort (n : Nat) : Bool := decide (n < 48)
/-- A segment of the segment map. -/
def isSegment (n : Nat) : Bool := decide (n < 48)
/-- A pattern generator: four on each FE die. -/
def isGen (n : Nat) : Bool := decide (n < 16)
/-- One of the four FE dies. -/
def isDie (n : Nat) : Bool := decide (n < 4)
/-- One of the four I3C buses, one on each FE die (R118). -/
def isBus (n : Nat) : Bool := decide (n < 4)
/-- A drive port of the root port, or the write unit a port is or leads (R271, R276). -/
def isDrive (n : Nat) : Bool := decide (n < 4)
/-- One of the four sequencers (R199). -/
def isSequencer (n : Nat) : Bool := decide (n < 4)
/-- One of the eight buttons (R222). -/
def isButton (n : Nat) : Bool := decide (n < 8)
/-- One of the eight motion axes. -/
def isAxis (n : Nat) : Bool := decide (n < 8)
/-- One of the eight encoders. -/
def isEncoder (n : Nat) : Bool := decide (n < 8)
/-- One of the four auxiliary chains. -/
def isChain (n : Nat) : Bool := decide (n < 4)
/-- A DMA channel; 48 to 63 are the device's own (R291). -/
def isChan (n : Nat) : Bool := decide (n < 64)
/-- One of the 16 urgent queues. -/
def isQueue (n : Nat) : Bool := decide (n < 16)
/-- One of the 16 event outputs. -/
def isOutput (n : Nat) : Bool := decide (n < 16)
/-- One of the 16 trigger inputs. -/
def isPin (n : Nat) : Bool := decide (n < 16)
/-- One of the 32 trigger units. -/
def isTrigger (n : Nat) : Bool := decide (n < 32)
/-- A table class (R94). -/
def isClass (n : Nat) : Bool := decide (n < 12)
/-- One of the 1,536 event sources. -/
def isSource (n : Nat) : Bool := decide (n < 1536)
/-- A word of the event source registers: 32 sources each. -/
def isFlagWord (n : Nat) : Bool := decide (n < 48)

end Sys2Proof.Machine
end

