-- ==== Sys2Proof/Config.lean ====
section
/-!
DEFINITION. Config.lean: what one device fixes and the spec leaves open. Each constant is a free value: it has no body that a
proof can see, so a statement holds for every value of it. `Nat` arguments called `k` are the model's own counter `Dev.fresh`,
which advances at each use, so that two uses need not agree (log entry 3).
-/
namespace Sys2Proof.Config

/-- R77 does not say how the quotient is brought to units of 2^-16 pq/ns: the rounding of one estimate, 0 down, else up. -/
opaque velocityRound : Nat → Nat

/-- R77 gives no velocity where the oldest and newest edge carry one time stamp: the estimate then. -/
opaque velocityNoTime : Nat → Int

/-- R77 does not say what ESC_VELOCITY holds of an estimate that its 32 bits cannot: the value then. -/
opaque velocityWide : Nat → Int

/-- The phase in ps that a release of an FE die measures of its pattern-generator PLL (R109). -/
opaque pllPhase : Nat → Int

/-- R54 does not say how K is brought to whole MB/s: the rounding of one answer, 0 down, else up. -/
opaque kRound : Nat → Nat

/-- The bytes of an index header that its CRC-32C covers, by UNIT_ID and pairing; R273 gives no layout (log entry 105). -/
opaque indexBytes : Bytes → Nat → Bytes

/-- Bytes of a rebuild copied since the last level computation; R277 gives no rate (log entry 106). -/
opaque rebuilt : Nat → Nat

/-- R213 gives no mean, least or greatest sample of a plane that has no unmasked column: the value then. -/
opaque emptyStat : Nat → Nat

/-- R172 gives an invalid patch result no correction: the value its record and register show (R175). -/
opaque invalidCorr : Nat → Int

/-- R223 gives a blinking indicator a frequency and no phase: where its period starts, in ns of device time. -/
opaque blinkPhase : Nat

/-- R188 gives the sums of a colour window 48 bits, and R189 its count 32, and no value beyond them: the value of one that passes its width. -/
opaque windowWide : Nat → Nat

/-- R249 gives no quotient where the sum of a set, or the second set's anchor, is 0: the value of that set then. -/
opaque noQuotient : Nat → Int

/-- The PCI-SIG vendor identifier assigned to Llyndom Microsystems, which R1 does not give as a number. -/
opaque vendorId : Nat

/-- The unique device secret and the vendor root's digest, programmed at manufacture (R391). -/
opaque uds : Bytes
opaque rootDigest : Bytes

/-- ML-DSA.KeyGen_internal of FIPS 204: the public key of a seed (R392). -/
opaque mldsaPublic : Bytes → Bytes

/-- ML-DSA.Verify of FIPS 204 with an empty context string: public key, message, signature (R395, R406). -/
opaque mldsaVerify : Bytes → Bytes → Bytes → Bool

/-- A hedged signature by the identity key of one message, at one use (R392): its bytes. -/
opaque mldsaSign : Nat → Bytes → Bytes

/-- The Franking ROM, whose digest GET_MEASUREMENTS reports (R411), and the identity certificate chain written at manufacture (R393). -/
opaque frankingRom : Bytes
opaque certChain : Bytes

/-- R351 takes the filter's present output, an analogue quantity: the raw code of one forced read. -/
opaque filterOutput : Nat → Int

/-- Whether the modulator overloaded during the filter window of one forced read (R347, R351). -/
opaque filterOver : Nat → Bool

/-- R346 solves the RTD relation to within 1 unit of 1/256 °C: which of the values within 1 unit one result takes. -/
opaque rtdError : Nat → Nat

/-- The nonce of one SPDM response: 32 random bytes (R410). -/
opaque spdmNonce : Nat → Bytes

/-- R435 gives the walking one no word and PRBS-31 no seed or bit order: byte `i` of the pattern. -/
opaque loopPattern : Nat → Nat → Byte

/-- The spec does not say which of several free numbers or places the device takes: the number of one choice (R89, R161, R237). -/
opaque anyOf : Nat → Nat

end Sys2Proof.Config
end

