-- ==== Sys2Proof/Machine/Crypto.lean ====
section
/-!
DEFINITION. Machine/Crypto.lean: SHAKE256 as FIPS 202 defines it, and the ML-DSA-65 operations of FIPS 204 as the device uses them
(R391 to R411).
-/
namespace Sys2Proof.Machine

/-- A lane of the Keccak state. -/
abbrev Lane := BitVec 64

/-- Round constants of Keccak-f[1600]. -/
def keccakRC : List Lane := [
  0x0000000000000001#64, 0x0000000000008082#64, 0x800000000000808A#64, 0x8000000080008000#64,
  0x000000000000808B#64, 0x0000000080000001#64, 0x8000000080008081#64, 0x8000000000008009#64,
  0x000000000000008A#64, 0x0000000000000088#64, 0x0000000080008009#64, 0x000000008000000A#64,
  0x000000008000808B#64, 0x800000000000008B#64, 0x8000000000008089#64, 0x8000000000008003#64,
  0x8000000000008002#64, 0x8000000000000080#64, 0x000000000000800A#64, 0x800000008000000A#64,
  0x8000000080008081#64, 0x8000000000008080#64, 0x0000000080000001#64, 0x8000000080008008#64]

/-- Rotation of lane x + 5 y. -/
def keccakRot : List Nat := [0, 1, 62, 28, 27, 36, 44, 6, 55, 20, 3, 10, 43, 25, 39, 41, 45, 15, 21, 8, 18, 2, 61, 56, 14]

/-- θ of a state. -/
def keccakTheta (a : List Lane) : List Lane :=
  let l (i : Nat) : Lane := a.getD i 0
  let c (x : Nat) : Lane := l x ^^^ l (x + 5) ^^^ l (x + 10) ^^^ l (x + 15) ^^^ l (x + 20)
  let cs := [c 0, c 1, c 2, c 3, c 4]
  let dd (x : Nat) : Lane := cs.getD ((x + 4) % 5) 0 ^^^ (cs.getD ((x + 1) % 5) 0).rotateLeft 1
  let ds := [dd 0, dd 1, dd 2, dd 3, dd 4]
  a.zipIdx.map (fun v => v.1 ^^^ ds.getD (v.2 % 5) 0)

/-- ρ and π: lane (x, y) of the result is lane (x + 3 y, x) rotated. -/
def keccakRhoPi (a : List Lane) : List Lane :=
  let r := (a.zip keccakRot).map (fun v => v.1.rotateLeft v.2)
  (List.range 25).map (fun i => r.getD ((i % 5 + 3 * (i / 5)) % 5 + 5 * (i % 5)) 0)

/-- χ and ι. -/
def keccakChi (rc : Lane) (a : List Lane) : List Lane :=
  (a.zipIdx.map (fun v =>
    let y := v.2 / 5 * 5
    let w := v.1 ^^^ (~~~ (a.getD (y + (v.2 + 1) % 5) 0) &&& a.getD (y + (v.2 + 2) % 5) 0)
    if v.2 = 0 then w ^^^ rc else w))

def keccakF (a : List Lane) : List Lane := keccakRC.foldl (fun a rc => keccakChi rc (keccakRhoPi (keccakTheta a))) a

/-- A block of 136 bytes absorbed into a state. -/
def keccakAbsorb (a : List Lane) (b : Bytes) : List Lane :=
  keccakF (a.zipIdx.map (fun v => v.1 ^^^ BitVec.ofNat 64 (leAt b (8 * v.2) 8)))

def keccakAll : Nat → List Lane → Bytes → List Lane
  | 0, a, _ => a
  | n + 1, a, b => keccakAll n (keccakAbsorb a (b.take 136)) (b.drop 136)

/-- The first `n` bytes, at most 136, of SHAKE256 of a message. -/
def shake256 (n : Nat) (m : Bytes) : Bytes :=
  let k := 135 - m.length % 136
  -- the suffix 1111, then the padding 10*1
  let pad : Bytes := if k = 0 then [0x9F#8] else 0x1F#8 :: zeros (k - 1) ++ [0x80#8]
  let a := keccakAll ((m.length + k + 1) / 136) (List.replicate 25 0) (m ++ pad)
  (a.flatMap (fun l => leBytes 8 l.toNat)).take n

/-- The digest of 64 bytes that the device takes unless a field states a shorter one. -/
def digest (m : Bytes) : Bytes := shake256 64 m

/-- The identity key's public half (R392, R393). -/
def identityKey : Bytes :=
  Config.mldsaPublic (shake256 32 (Config.uds ++
    [0x44#8, 0x56#8, 0x46#8, 0x37#8, 0x32#8, 0x30#8, 0x30#8, 0x20#8, 0x49#8, 0x44#8, 0x45#8, 0x4E#8, 0x54#8, 0x49#8, 0x54#8, 0x59#8]))

/-- UNIT_ID (R393). -/
def unitId : Bytes := shake256 16 identityKey

/-! ### Errors of NVS (R431) -/

/-- Whether an NVS line of a piece is uncorrectable (R431). -/
def nvsFails (d : Dev) (kind n : Nat) : Bool := d.sec.nvsBad.contains (kind, n)

/-- A piece of NVS has been written anew. -/
def nvsFresh (kind n : Nat) (d : Dev) : Dev :=
  { d with sec := { d.sec with nvsBad := d.sec.nvsBad.filter (· ≠ (kind, n)) } }

end Sys2Proof.Machine
end

