-- ==== Sys2Proof/Machine/Src.lean ====
section
/-!
DEFINITION. Machine/Src.lean: the numbers of the 1,536 event sources (R413). A source that exists once per encoder, die, half,
axis or chain takes its instance as an argument.
-/
namespace Sys2Proof.Machine.Src

def REG_RESERVED_WRITE : Nat := 0
def BAR0_ACCESS_SIZE : Nat := 1
def BAR0_UNMAPPED : Nat := 2
def BAR0_DOMAIN_OFF : Nat := 3
def RING_CFG_LOCKED : Nat := 4
def DOORBELL_INVALID : Nat := 5
def CQ_FULL : Nat := 6
def LEDGER_TORN : Nat := 7
def REPLAY_DONE : Nat := 8
def EVT_LOG_OVERFLOW : Nat := 9
def EVT_CFG_INVALID : Nat := 10
def BLOCK_ISOLATED : Nat := 11
def DOMAIN_POWER_FAIL : Nat := 12
def BOOT_COMPLETE : Nat := 13
def START_FAILED : Nat := 14
def RESET_DONE : Nat := 15
def CROWN_GO_DENIED : Nat := 16
def FW_FALLBACK : Nat := 17
def SVN_RAISED : Nat := 18
def SEC_BUSY : Nat := 19
def ECC_CORRECTED : Nat := 20
def ECC_UNCORRECTED : Nat := 21
def PARITY_ERROR : Nat := 22
def SCRUB_PASS : Nat := 23
def TRACK_STILL : Nat := 24
def TRACK_REVERSE : Nat := 25
def RATIO_INVALID : Nat := 26
def RATIO_LATE : Nat := 27
def ACT_DROP : Nat := 28
def ACT_LATE : Nat := 29
def OVERSPEED : Nat := 30
def TTBL_LATE : Nat := 31
def TT_MARK : Nat := 32
def SHADOW_BANK_BUSY : Nat := 33
def GEN_OWNER : Nat := 34
def HANDOVER_NOW_DENIED : Nat := 35
def ENC_ILLEGAL (i : Nat) : Nat := 36 + 3 * i
def ENC_INDEX (i : Nat) : Nat := 37 + 3 * i
def ENC_LOS (i : Nat) : Nat := 38 + 3 * i
def PGEN_INVALID (i : Nat) : Nat := 60 + 14 * i
def VIDEO_CLIP (i : Nat) : Nat := 61 + 14 * i
def LANE_LOS (i : Nat) : Nat := 62 + 14 * i
def LANE_FRAME (i : Nat) : Nat := 63 + 14 * i
def LANE_SEQ (i : Nat) : Nat := 64 + 14 * i
def HEAD_JOINED (i : Nat) : Nat := 65 + 14 * i
def HEAD_MISMATCH (i : Nat) : Nat := 66 + 14 * i
def HEAD_SERIAL_CHANGED (i : Nat) : Nat := 67 + 14 * i
def HEAD_REMOVED (i : Nat) : Nat := 68 + 14 * i
def HEAD_FAULT (i : Nat) : Nat := 69 + 14 * i
def CLK_FAULT (i : Nat) : Nat := 70 + 14 * i
def PG_CFG_LOCKED (i : Nat) : Nat := 71 + 14 * i
def I3C_ERROR (i : Nat) : Nat := 72 + 14 * i
def DIE_LINK_RETRAIN (i : Nat) : Nat := 73 + 14 * i
def PIPE_SAT (i : Nat) : Nat := 116 + 4 * i
def PIPE_CLIP (i : Nat) : Nat := 117 + 4 * i
def ALIGN_GAP (i : Nat) : Nat := 118 + 4 * i
def DARK_TEMP_STALE (i : Nat) : Nat := 119 + 4 * i
def PIPE_TABLE_INVALID : Nat := 124
def REF_MISSING : Nat := 125
def REF_LATE : Nat := 126
def MODEL_MISMATCH : Nat := 127
def REG_INVALID : Nat := 128
def REG_LIMIT : Nat := 129
def BLOB_OVERFLOW : Nat := 130
def DEFECT : Nat := 131
def PAGE_FAIL : Nat := 132
def CMPR_TABLE_INVALID : Nat := 133
def TRIGGER : Nat := 134
def SEQ_FIRE : Nat := 135
def PAGE_OPEN : Nat := 136
def PAGE_CLOSE : Nat := 137
def PAGE_LATE : Nat := 138
def PAGE_SHORT : Nat := 139
def EDGE_FAIL : Nat := 140
def BUTTON : Nat := 141
def EVOUT_CONFLICT : Nat := 142
def EVOUT_CFG_LOCKED : Nat := 143
def SYNC_RING_FAULT : Nat := 144
def SYNC_RING_DOWN : Nat := 145
def SYNC_RING_UP : Nat := 146
def SYNC_POS_DIVERGE : Nat := 147
def SYNC_ARM_INVALID : Nat := 148
def SYNC_FIRE : Nat := 149
def RING_EVENT : Nat := 150
def CAL_DONE : Nat := 151
def CAL_REJECTED : Nat := 152
def CAL_TRIGGER : Nat := 153
def CAL_RESTORE_FAIL : Nat := 154
def CAL_WIN_BUSY : Nat := 155
def ANCHOR_INVALIDATED : Nat := 156
def BASELINE_INVALID : Nat := 157
def UQ_OVERFLOW : Nat := 158
def SPILL_ON : Nat := 159
def SPILL_OFF : Nat := 160
def LADDER_STEP : Nat := 161
def LADDER_FORCED : Nat := 162
def QUE_STARVED : Nat := 163
def QUE_CFG_INVALID : Nat := 164
def PACE_STOP : Nat := 165
def PACE_RESUME : Nat := 166
def DRIVE_ADDED : Nat := 167
def DRIVE_FOREIGN : Nat := 168
def DRIVE_REMOVED : Nat := 169
def DRIVE_FAILED : Nat := 170
def MIRROR_DEGRADED : Nat := 171
def MIRROR_REBUILT : Nat := 172
def RESERVE_BROKEN : Nat := 173
def RESTANTE_FULL : Nat := 174
def RESTANTE_LOSS : Nat := 175
def DMA_DONE : Nat := 176
def DMA_BAD : Nat := 177
def DMA_HALT : Nat := 178
def DMA_PAUSED : Nat := 179
def DMA_CREDIT_DROP : Nat := 180
def DMA_PACE_IGNORED : Nat := 181
def DMA_TAIL_INVALID : Nat := 182
def DMA_CFG_LOCKED : Nat := 183
def DMA_TABLE_INVALID : Nat := 184
def AX_FAULT (i : Nat) : Nat := 185 + 12 * i
def AX_STALL (i : Nat) : Nat := 186 + 12 * i
def AX_LIMIT (i : Nat) : Nat := 187 + 12 * i
def AX_SOFT_LIMIT (i : Nat) : Nat := 188 + 12 * i
def AX_OVERSPEED (i : Nat) : Nat := 189 + 12 * i
def AX_STARVED (i : Nat) : Nat := 190 + 12 * i
def AX_CFG_INVALID (i : Nat) : Nat := 191 + 12 * i
def AX_CFG_LOCKED (i : Nat) : Nat := 192 + 12 * i
def BLEND_SKIPPED (i : Nat) : Nat := 193 + 12 * i
def MOVE_REJECTED (i : Nat) : Nat := 194 + 12 * i
def GEAR_INVALID (i : Nat) : Nat := 195 + 12 * i
def GEAR_LATE (i : Nat) : Nat := 196 + 12 * i
def AUX_OPEN (i : Nat) : Nat := 281 + 3 * i
def AUX_START_DROP (i : Nat) : Nat := 282 + 3 * i
def AUX_URGENT_DROP (i : Nat) : Nat := 283 + 3 * i
def RATIO_FAULT (i : Nat) : Nat := 293 + 1 * i
def SW_EVENT (i : Nat) : Nat := 295 + i

end Sys2Proof.Machine.Src
end

