-- ==== Sys2Proof/Machine/Ops.lean ====
section
/-!
DEFINITION. Machine/Ops.lean: the operations every unit shares: registers and their fields, domains, host memory, the
interpolated track position, event outputs, frames of the sync ring, and the occurrence of an event source.
-/
namespace Sys2Proof.Machine

/-! ### Registers -/

/-- The reset value of instance `i` of a register: the reset values of its fields (the tables of spec/). QUE_LADDER_WM.DOWN has
one for each instance (R289). -/
def Reg.reset (r : Reg) (i : Nat) : Word :=
  match r, i with
  | .QUE_LADDER_WM, 1 => (Fld.put QUE_LADDER_WM.DOWN 1000 (Fld.put QUE_LADDER_WM.UP 768 0))
  | .QUE_LADDER_WM, 2 => (Fld.put QUE_LADDER_WM.DOWN 1008 (Fld.put QUE_LADDER_WM.UP 768 0))
  | r, _ => r.info.fields.foldl (fun w f => f.fld.put f.reset w) 0

/-- The word a register instance holds. -/
def rd (d : Dev) (r : Reg) (i : Nat) : Word := spGet (r.reset i) (rkey r i) d.regs

/-- The device with a word placed in a register instance. -/
def wr (r : Reg) (i : Nat) (v : Word) (d : Dev) : Dev :=
  { d with regs := spSet (r.reset i) (rkey r i) v d.regs }

/-- A field of a register instance. -/
def rf (d : Dev) (r : Reg) (i : Nat) (f : Fld) : Nat := f.get (rd d r i)

/-- Whether a one-bit field is 1. -/
def rb (d : Dev) (r : Reg) (i : Nat) (f : Fld) : Bool := rf d r i f == 1

/-- The whole register as a number. -/
def rn (d : Dev) (r : Reg) (i : Nat) : Nat := (rd d r i).toNat

/-- The device with one field of a register instance replaced. -/
def sf (r : Reg) (i : Nat) (f : Fld) (x : Nat) (d : Dev) : Dev := wr r i (f.put x (rd d r i)) d

/-- The device with a whole register set from a number. -/
def wn (r : Reg) (i : Nat) (x : Nat) (d : Dev) : Dev := wr r i (BitVec.ofNat 64 x) d

/-- The value in force of an RWS register (R4, R95). -/
def rdIn (d : Dev) (r : Reg) (i : Nat) : Word := spGet (r.reset i) (rkey r i) d.inforce

/-- A field of an RWS register, in force. -/
def rfIn (d : Dev) (r : Reg) (i : Nat) (f : Fld) : Nat := f.get (rdIn d r i)

/-- A field of an RWS register placed in force (R95). -/
def sfIn (r : Reg) (i : Nat) (f : Fld) (x : Nat) (d : Dev) : Dev :=
  { d with inforce := spSet (r.reset i) (rkey r i) (f.put x (rdIn d r i)) d.inforce }

/-- The record of the present cycle; that of an earlier one is spent (log entry 122). -/
def cycNow (d : Dev) : Cyc := if d.cyc.at_ = d.now + 1 then d.cyc else ⟨d.now + 1, [], []⟩

/-- `n` increments under a register instance in the present cycle. -/
def mark (r : Reg) (i n : Nat) (d : Dev) : Dev :=
  { d with cyc := { cycNow d with ups := (rkey r i, n) :: (cycNow d).ups } }

/-- The increments under a register instance in the present cycle (R429). -/
def ups (d : Dev) (r : Reg) (i : Nat) : Nat := (((cycNow d).ups.filter (·.1 = rkey r i)).map (·.2)).sum

/-- A counter cleared: it keeps the increments of the cycle of the clear (R429). -/
def zeroed (r : Reg) (i : Nat) (d : Dev) : Dev := wn r i (sat32 (ups d r i)) d

/-- A 32-bit saturating counter advanced by `n` (R11, R429). -/
def addSat (r : Reg) (i n : Nat) (d : Dev) : Dev := mark r i n (wn r i (sat32 (rn d r i + n)) d)

/-- A 32-bit saturating counter advanced by 1. -/
def incSat (r : Reg) (i : Nat) (d : Dev) : Dev := addSat r i 1 d

/-- A 32-bit wrapping counter advanced by 1 (R429). -/
def incWrap (r : Reg) (i : Nat) (d : Dev) : Dev := mark r i 1 (wn r i ((rn d r i + 1) % 2 ^ 32) d)

/-- Every instance of a register set to one number. -/
def wnAll (r : Reg) (n x : Nat) (d : Dev) : Dev := (List.range n).foldl (fun d i => wn r i x d) d

/-- Every instance of a counter cleared. -/
def zeroAll (r : Reg) (n : Nat) (d : Dev) : Dev := (List.range n).foldl (fun d i => zeroed r i d) d

/-- A register that is not wide as a signed 32-bit number; a wide one as signed 64-bit. -/
def rs32 (d : Dev) (r : Reg) (i : Nat) : Int := sx 32 (rn d r i)
def rs64 (d : Dev) (r : Reg) (i : Nat) : Int := sx 64 (rn d r i)

/-- A register set from an integer, 32 or 64 bits wide. -/
def ws32 (r : Reg) (i : Nat) (x : Int) (d : Dev) : Dev := wn r i (ux 32 x) d
def ws64 (r : Reg) (i : Nat) (x : Int) (d : Dev) : Dev := wn r i (ux 64 x) d

/-! ### Sparse maps of numbers, default 0 -/

def mget (m : List (Nat × Nat)) (k : Nat) : Nat := spGet 0 k m
def mset (k v : Nat) (m : List (Nat × Nat)) : List (Nat × Nat) := spSet 0 k v m

/-! ### Power domains (R363) -/

def dAON : Nat := 0
def dNVS : Nat := 1
def dFRANK : Nat := 2
def dFABRIC : Nat := 3
def dPOST : Nat := 4
def dESC : Nat := 5
def dREGUL : Nat := 6
def dREMON : Nat := 7
def dPIPE (h : Nat) : Nat := 8 + h
def dCOMPARE : Nat := 10
def dDMA : Nat := 11
def dEP : Nat := 12
def dRP : Nat := 13
def dMEM (s : Nat) : Nat := 14 + s
def dANA (n : Nat) : Nat := 16 + 2 * n
def dDIG (n : Nat) : Nat := 17 + 2 * n

/-- A domain whose switch is closed and that is not held in reset (R22, R390). -/
def domUp (d : Dev) (n : Nat) : Bool :=
  bitOf (rn d .RST_DOMAIN_POWER 0) n && !bitOf (rn d .RST_DOMAIN_RESET 0) n

/-- Whether the retained island of the ESC domain runs: through every reset short of COLD (R365). -/
def islandUp (d : Dev) : Bool := domUp d dAON

/-- A change that only a running domain makes. -/
def whenUp (n : Nat) (f : Dev → Dev) (d : Dev) : Dev := if domUp d n then f d else d

/-- Whether the device is in Crown mode (R383). -/
def crown (d : Dev) : Bool := rb d .RST_STATUS 0 RST_STATUS.CROWN

/-! ### Free values, host memory, what leaves the device -/

/-- The device after one free value has been used. -/
def useFresh (d : Dev) : Dev := { d with fresh := d.fresh + 1 }

/-- One of several free numbers, where the spec does not say which: none only if there is none (log entry 15). -/
def pickFree (d : Dev) (l : List Nat) : Option Nat := l[Config.anyOf d.fresh % l.length]?

/-- Bytes written to host memory. -/
def hostWrite (a : Nat) (b : Bytes) (d : Dev) : Dev := { d with host := d.host.writeBytes a b }

/-- Something that leaves the device. -/
def emit (o : Out) (d : Dev) : Dev := { d with outbox := o :: d.outbox }

/-- One unit asks another to act within the step. -/
def ask (q : Req) (d : Dev) : Dev := { d with rq := d.rq ++ [q] }

/-- The latch of a register is not used again once another access has come (R8). -/
def dropLatch (r : Reg) (i : Nat) (d : Dev) : Dev := { d with hiLatch := spSet none (rkey r i) none d.hiLatch }

/-! ### Byte windows -/

/-- Byte-addressed registers that are not table banks. -/
inductive Win where
  | option | optionStage | crownCmd | crownCpl | calLog | auxIn | msixTable | msixPba
  deriving DecidableEq, Repr

/-- The byte an unwritten place of a window reads as: the option stage holds the record SEC_OPTION_STAGE's reset names (R412),
and every MSI-X vector starts masked, as the PCI Express Base Specification has it (R438). -/
def Win.dflt (w : Win) (off : Nat) : Byte :=
  match w with
  | .optionStage =>
    match off with
    | 0 => 0x4F#8
    | 1 => 0x50#8
    | 2 => 0x54#8
    | 3 => 0x4E#8
    | 4 => 1#8
    | 10 => 6#8
    | 11 => 0xF#8
    | 12 => 100#8
    | 14 => 110#8
    | 16 => 10#8
    | _ => 0#8
  | .msixTable => if off % 16 = 12 then 1#8 else 0#8
  | _ => 0#8

def wkey (w : Win) (off : Nat) : Nat := w.ctorIdx * 2 ^ 32 + off

def winGet (d : Dev) (w : Win) (off : Nat) : Byte := spGet (w.dflt off) (wkey w off) d.wins
def winPut (w : Win) (off : Nat) (b : Byte) (d : Dev) : Dev :=
  { d with wins := spSet (w.dflt off) (wkey w off) b d.wins }

def winRead (d : Dev) (w : Win) (off n : Nat) : Bytes := (List.range n).map (fun i => winGet d w (off + i))
def winWrite (w : Win) (off : Nat) (b : Bytes) (d : Dev) : Dev :=
  (b.zipIdx).foldl (fun d x => winPut w (off + x.2) x.1 d) d

/-! ### Track position (R73, R77, R78) -/

/-- The gearing ratio in force. -/
def ratioN (d : Dev) : Nat := rf d .ESC_RATIO 0 ESC_RATIO.N
def ratioD (d : Dev) : Nat := rf d .ESC_RATIO 0 ESC_RATIO.D

/-- The velocity in force, in units of 2^-16 pq/ns (R77). -/
def velocity (d : Dev) : Int := rs32 d .ESC_VELOCITY 0

/-- The whole quanta the next forward count would add: G of R78. -/
def nextQuanta (d : Dev) : Int := fdiv ((d.esc.rem : Int) + ratioN d) (ratioD d)

/-- The interpolated track position at a device time in units of 1/16 ns (R78, R80). -/
def interp16 (d : Dev) (t : Nat) : Int :=
  match d.esc.edges with
  | [] => d.esc.track
  | (te, _) :: _ =>
    d.esc.track + clampI 0 (max 0 (nextQuanta d - 1)) (fdiv (velocity d * ((t : Int) - 16 * te)) 1048576)

/-- The interpolated track position at device time `t` (R78). -/
def interpAt (d : Dev) (t : Nat) : Int := interp16 d (16 * t)

/-- The position predicted for an exposure start in units of 1/16 ns (R80): with device time as the source, the counts until then are
known beforehand (R72). -/
def startPos (d : Dev) (t : Nat) : Int :=
  let j := t / 16 - d.now
  if d.esc.srcKind = 2 && 0 < j then
    let acc := d.esc.rem + ratioN d * j
    let p := d.esc.track + (acc / ratioD d : Nat)
    interp16 { d with esc := { d.esc with track := p, rem := acc % ratioD d, edges := [(d.now + j, p)] } } t
  else interp16 d t

/-- The track position at a past time: interpolated from the last counted edge at or before it, and not past the edge after it
(R78; log entry 18). With device time as the source every ns is an edge (R72). -/
def pastPos (d : Dev) (t : Nat) : Int :=
  if d.esc.srcKind = 2 && decide (t ≤ d.now) then
    d.esc.track + fdiv ((d.esc.rem : Int) - ratioN d * (d.now - t : Nat)) (ratioD d)
  else match d.esc.edges.find? (fun e => decide (e.1 ≤ t)) with
  | none => match d.esc.edges.getLast? with
    | some e => e.2
    | none => d.esc.track
  | some e =>
    match ((d.esc.edges.takeWhile (fun x => decide (t < x.1))).getLast?) with
    | none => interpAt d t
    | some x => clampI (min e.2 x.2) (max e.2 x.2) (e.2 + fdiv (velocity d * ((t : Int) - e.1)) 65536)

/-- The interpolated track position now. -/
def trackPos (d : Dev) : Int := interpAt d d.now

/-! ### MSI-X (R418, R438) -/

/-- Whether a vector's mask bit is set. -/
def msixMasked (d : Dev) (v : Nat) : Bool := (winGet d .msixTable (16 * v + 12)).toNat % 2 == 1

/-- A vector's pending bit set or cleared. -/
def setPending (v : Nat) (b : Bool) (d : Dev) : Dev :=
  winPut .msixPba (v / 8) (BitVec.ofNat 8 (putBit (winGet d .msixPba (v / 8)).toNat (v % 8) b)) d

/-- One signal of a vector: nothing leaves while MSI-X Enable is 0; a masked vector becomes pending (R418). -/
def signal (v : Nat) (d : Dev) : Dev :=
  if d.post.msixEnable then (if msixMasked d v then setPending v true d else emit (.msix v) d) else d

/-! ### Event outputs (R224) -/

/-- The level an output drives at device time `t`. -/
def evOutLevel (o : EvOut) (t : Nat) : Bool :=
  match o.pulse with
  | some (e, l) => if t < e then l else o.kept
  | none => o.kept

/-- The output with a pulse in progress ended once its end has come. -/
def evOutSettle (t : Nat) (o : EvOut) : EvOut :=
  match o.pulse with
  | some (e, _) => if t < e then o else { o with pulse := none }
  | none => o

/-- EVOUT_STATE shows the levels being driven, or that would be (R234). -/
def showOuts (d : Dev) : Dev :=
  wn .EVOUT_STATE 0 ((d.sync.outs.zipIdx).foldl (fun a x => if evOutLevel x.1 d.now then a + 2 ^ x.2 else a) 0) d

/-- A LEVEL action: the kept level changes, and shows at a pulse's end (R224). -/
def outLevel (o : Nat) (l : Bool) (d : Dev) : Dev :=
  showOuts { d with sync := { d.sync with outs := modAt d.sync.outs o (fun x => { evOutSettle d.now x with kept := l, set := true }) } }

/-- What a PULSE does to an output: the new output, and whether it is an opposite pulse that is discarded (R224). -/
def pulseOn (t width : Nat) (lvl : Bool) (o : EvOut) : EvOut × Bool :=
  match (evOutSettle t o).pulse with
  | none => ({ evOutSettle t o with pulse := some (t + width, lvl) }, false)
  | some (e, l) => if l = lvl then ({ o with pulse := some (max e (t + width), l) }, false) else (o, true)

/-! ### Frames of the sync ring (R225) -/

/-- CRC-16 of R225: polynomial 0x1021, initial value 0xFFFF. -/
def crc16 (b : Bytes) : Nat := b.foldl (crcByteM 16 0x1021) 0xFFFF

/-- The 16 symbols of a frame as data bytes, K28.1 (0x3C) first (R225). -/
def frameBytes (type src hops seq arg : Nat) (pos : Int) : Bytes :=
  let body := leBytes 1 type ++ leBytes 1 (src % 8 + 16 * (hops % 8)) ++ leBytes 1 seq ++ leBytes 1 arg ++ leBytes 8 (ux 64 pos)
    ++ [0#8]
  [0x3C#8] ++ body ++ leBytes 1 (crc16 body / 256) ++ leBytes 1 (crc16 body % 256)

/-- The node number this device places in SRC: the master is always node 0 (R226). -/
def ownNode (d : Dev) : Nat :=
  if rb d .SYNC_CFG 0 SYNC_CFG.MASTER then 0 else rf d .SYNC_STATUS 0 SYNC_STATUS.NODE

/-- A frame of this device's own with its next SEQ. -/
def sendFrame (type arg : Nat) (pos : Int) (d : Dev) : Dev :=
  emit (.ringFrame (frameBytes type (ownNode d) 0 d.sync.seq arg pos))
    { d with sync := { d.sync with seq := (d.sync.seq + 1) % 256 } }

/-! ### The occurrence of an event source (R415 to R430) -/

/-- What a record of an occurrence carries beside its source and count (R423). -/
structure EvArgs where
  time : Nat
  pos  : Int
  a0   : Int
  a1   : Int
  a2   : Int

/-- The flag is set and the counter advanced, wrapping into EVT_WRAPPED (R415, R427). -/
def flagCount (s : Nat) (d : Dev) : Dev :=
  let d := wn .EVT_STATUS (s / 32) (putBit (rn d .EVT_STATUS (s / 32)) (s % 32) true) d
  let d := if rn d .EVT_COUNT s = 0xFFFFFFFF
    then mark .EVT_WRAPPED s 1 (wn .EVT_WRAPPED (s / 32) (putBit (rn d .EVT_WRAPPED (s / 32)) (s % 32) true) d) else d
  incWrap .EVT_COUNT s d

/-- The route of a source that an occurrence follows: in the cycle of a write of it, the former one (R417). -/
def routeWord (d : Dev) (s : Nat) : Word :=
  match (cycNow d).routes.find? (·.1 = s) with
  | some x => x.2
  | none => rd d .EVT_ROUTE s

/-- A source's vector signalled, where its route has one (R418). -/
def signalRoute (s : Nat) (w : Word) (d : Dev) : Dev :=
  if EVT_ROUTE.VEC_EN.get w = 1 then mark .EVT_ROUTE s 1 (signal (EVT_ROUTE.VECTOR.get w) d) else d

/-- A source's status bit and enable bit. -/
def evFlag (d : Dev) (s : Nat) : Bool := bitOf (rn d .EVT_STATUS (s / 32)) (s % 32)
def evEnabled (d : Dev) (s : Nat) : Bool := bitOf (rn d .EVT_ENABLE (s / 32)) (s % 32)

/-- Whether an occurrence of `s` now makes a record: at least 1 µs since the source's previous one, and no span of 1 µs with
more than 4 (R424). -/
def mayRecord (d : Dev) (s : Nat) : Bool :=
  (mget d.evt.lastRec s == 0 || mget d.evt.lastRec s - 1 + 1000 ≤ d.now) &&
  (match d.evt.recent[3]? with
   | some t => decide (t + 1000 ≤ d.now)
   | none => true)

/-- L(N) of R32. -/
def ringL (n : Nat) : Nat := 2 * n * (2 ^ 31 / n)

/-- The difference of two counts of a ring of size `n`, modulo L(n) (R32). -/
def ringDiff (n a b : Nat) : Nat := (a + ringL n - b % ringL n) % ringL n

/-- Whether count `a` is not behind count `b` (R32). -/
def notBehind (n a b : Nat) : Bool := decide (ringDiff n a b < ringL n / 2)

/-- The 64 bytes of an event record (R423). -/
def evRecBytes (r : EvRec) (lost phase : Bool) : Bytes :=
  leBytes 2 r.source ++ leBytes 1 (b2n r.merged + 2 * b2n lost + 128 * b2n phase) ++ [0#8] ++ leBytes 4 r.count ++
  leBytes 8 r.time ++ leBytes 8 (ux 64 r.pos) ++ leBytes 8 (ux 64 r.arg0) ++ leBytes 8 (ux 64 r.arg1) ++
  leBytes 8 (ux 64 r.arg2) ++ zeros 16

/-- A record written into the log ring, or discarded while no slot is free; the flag says that EVT_LOG_OVERFLOW occurs (R425). -/
def logRecord (r : EvRec) (d : Dev) : Dev × Bool :=
  let n := rf d .EVT_LOG_CFG 0 EVT_LOG_CFG.SIZE
  let w := rn d .EVT_LOG_WRITTEN 0
  if !rb d .EVT_LOG_CFG 0 EVT_LOG_CFG.ENABLE then (d, false)
  else if ringDiff n w d.evt.logRead < n then
    let d1 := hostWrite (rf d .EVT_LOG_BASE 0 EVT_LOG_BASE.BASE * 4096 + 64 * (w % n))
      (evRecBytes r d.evt.lost (decide (w / n % 2 = 0))) d
    (wn .EVT_LOG_WRITTEN 0 ((w + 1) % ringL n) { d1 with evt := { d1.evt with lost := false, dropping := false } }, false)
  else
    (incSat .EVT_LOG_DROP 0 { d with evt := { d.evt with lost := true, dropping := true } }, !d.evt.dropping)

/-- An entry pushed into urgent queue `q`, or dropped while it holds 32; the flag says that UQ_OVERFLOW occurs (R263, R264). -/
def uqPush (q payload : Nat) (d : Dev) : Dev × Bool :=
  let e := d.evt.uq.getD q []
  if e.length < 32 then
    (sf .QUE_UQ_LEVEL q QUE_UQ_LEVEL.ENTRIES (e.length + 1)
      { d with evt := { d.evt with uq := setAt d.evt.uq q (e ++ [payload % 2 ^ 56]) } }, false)
  else (incSat .QUE_UQ_DROP q d, true)

/-- The history and the two integrity logs after a record is formed (R426, R436). -/
def keepRecord (r : EvRec) (e : EvtSt) : EvtSt :=
  { e with
    history := (r :: e.history).take 65536
    eccLog := if r.source = Src.ECC_CORRECTED || r.source = Src.ECC_UNCORRECTED || r.source = Src.PARITY_ERROR
      then (r :: e.eccLog).take 1024 else e.eccLog
    nvsLog := if r.source = Src.ECC_UNCORRECTED || r.source = Src.DOMAIN_POWER_FAIL || r.source = Src.START_FAILED
      then (r :: e.nvsLog).take 64 else e.nvsLog }

/-- An occurrence of source `s` (R415). The first argument bounds the occurrences that an occurrence itself causes
(EVT_LOG_OVERFLOW, UQ_OVERFLOW, EVOUT_CONFLICT): beyond it such an occurrence only sets its flag and counts (log entry 12). -/
def occurN : Nat → Nat → EvArgs → Dev → Dev
  | 0, s, _, d => flagCount s d
  | n + 1, s, a, d0 =>
    let was := evFlag d0 s
    let d := flagCount s d0
    if !domUp d dFABRIC || !evEnabled d s then d
    else
      let route (f : Fld) : Nat := f.get (routeWord d0 s)
      let d := if was then d else signalRoute s (routeWord d0 s) d
      let d :=
        if route EVT_ROUTE.OUT_EN = 1 then
          let o := route EVT_ROUTE.OUT
          let r := pulseOn d.now (rf d .EVT_PULSE o EVT_PULSE.WIDTH) (rf d .EVT_PULSE o EVT_PULSE.POLARITY == 1)
            (d.sync.outs.getD o ⟨false, false, none⟩)
          let d := showOuts { d with sync := { d.sync with outs := setAt d.sync.outs o r.1 } }
          if r.2 then occurN n Src.EVOUT_CONFLICT ⟨d.now, a.pos, o, 0, 0⟩ (incSat .EVOUT_CONFLICT 0 d) else d
        else d
      let d :=
        if mayRecord d s then
          let rec_ : EvRec := ⟨s, rn d .EVT_COUNT s, d.evt.skipped.contains s, a.time, a.pos, a.a0, a.a1, a.a2⟩
          let d := { d with evt := keepRecord rec_ { d.evt with
            lastRec := mset s (d.now + 1) d.evt.lastRec
            recent := (d.now :: d.evt.recent).take 4
            skipped := d.evt.skipped.filter (· ≠ s) } }
          let d :=
            if route EVT_ROUTE.LOG_EN = 1 then
              let r := logRecord rec_ d
              if r.2 then occurN n Src.EVT_LOG_OVERFLOW ⟨d.now, a.pos, 0, 0, 0⟩ r.1 else r.1
            else d
          let d :=
            if route EVT_ROUTE.RING_EN = 1 then
              (if rb d .SYNC_STATUS 0 SYNC_STATUS.UP then sendFrame 6 0 s d else incSat .EVT_RING_UNSENT 0 d)
            else d
          if route EVT_ROUTE.UQ_EN = 1 then
            let q := route EVT_ROUTE.UQ
            let r := uqPush q (s + 2 ^ 16 * rn d .EVT_COUNT s + 2 ^ 48 * (ux 6 a.a0)) d
            if r.2 then occurN n Src.UQ_OVERFLOW ⟨d.now, a.pos, q, 0, 0⟩ r.1 else r.1
          else d
        else
          { d with evt := { d.evt with skipped := if d.evt.skipped.contains s then d.evt.skipped else s :: d.evt.skipped } }
      if route EVT_ROUTE.PROC = 1 then ask .regulTrigger d
      else if route EVT_ROUTE.PROC = 2 then ask .remonStop d
      else d

/-- An occurrence of `s` with its own time and position stamp. -/
def occurAt (s t : Nat) (p : Int) (a0 a1 a2 : Int) (d : Dev) : Dev := occurN 4 s ⟨t, p, a0, a1, a2⟩ d

/-- An occurrence of `s` now, at the interpolated track position. -/
def occur (s : Nat) (a0 a1 a2 : Int) (d : Dev) : Dev := occurAt s d.now (trackPos d) a0 a1 a2 d

/-- An occurrence of a source whose record names nothing. -/
def occur0 (s : Nat) (d : Dev) : Dev := occur s 0 0 0 d

/-- A PULSE of an output by a timetable event or an actuation (R224). -/
def outPulse (o width : Nat) (lvl : Bool) (d : Dev) : Dev :=
  let r := pulseOn d.now width lvl (d.sync.outs.getD o ⟨false, false, none⟩)
  let d := showOuts { d with sync := { d.sync with outs := setAt d.sync.outs o r.1 } }
  if r.2 then occur Src.EVOUT_CONFLICT o 0 0 (incSat .EVOUT_CONFLICT 0 d) else d

/-- An urgent message by a producer other than an event route (R263, R264); the queues of a FABRIC domain in reset take none (R262). -/
def uqSend (q payload : Nat) (d : Dev) : Dev :=
  if !domUp d dFABRIC then d
  else
    let r := uqPush q payload d
    if r.2 then occur Src.UQ_OVERFLOW q 0 0 r.1 else r.1

end Sys2Proof.Machine
end

