-- ==== Sys2Proof/Machine/Rings.lean ====
section
/-!
DEFINITION. Machine/Rings.lean: submission and completion rings, doorbells, the Ledger's staging, and how a command ends: the
Postmaster's shared operations (R31 to R47, R55 to R64).
-/
namespace Sys2Proof.Machine

/-! ### Status codes (R47) -/

def stOK : Nat := 0x00
def stOPCODE : Nat := 0x01
def stPARAM : Nat := 0x02
def stBOUND : Nat := 0x03
def stBUDGET : Nat := 0x04
def stNO_RESERVE : Nat := 0x05
def stTAG_BUSY : Nat := 0x06
def stCONTEXT : Nat := 0x07
def stSTATE : Nat := 0x08
def stABORTED : Nat := 0x09
def stDMA_ERR : Nat := 0x0A
def stSIGNATURE : Nat := 0x0B
def stINTEGRITY : Nat := 0x0C
def stINTERRUPTED : Nat := 0x0D
def stTIMEOUT : Nat := 0x0E

/-- The number the Crown mailbox has among the submission rings in this model (R384). -/
def crownSq : Nat := 64

/-! ### Rings (R31 to R37) -/

def sqSize (d : Dev) (n : Nat) : Nat := rf d .RING_SQ_CFG n RING_SQ_CFG.SIZE
def cqSize (d : Dev) (n : Nat) : Nat := rf d .RING_CQ_CFG n RING_CQ_CFG.SIZE
def sqEnabled (d : Dev) (n : Nat) : Bool := rb d .RING_SQ_STATUS n RING_SQ_STATUS.ENABLED
def cqEnabled (d : Dev) (n : Nat) : Bool := rb d .RING_CQ_STATUS n RING_CQ_STATUS.ENABLED
def sqQuota (d : Dev) (n : Nat) : Nat := rf d .RING_SQ_QUOTA n RING_SQ_QUOTA.QUOTA

/-- Commands of ring `n` fetched and not yet completed: RING_SQ_STATUS.IN_FLIGHT (R35, R55). -/
def sqInFlight (d : Dev) (n : Nat) : Nat :=
  (d.post.cmds.filter (fun c => c.sq == n)).length + (d.post.formed.filter (fun c => c.sq == n)).length

/-- The sum of the quotas of enabled rings (R34). -/
def quotaSum (d : Dev) : Nat := ((List.range 64).map (fun n => if sqEnabled d n then sqQuota d n else 0)).foldl (· + ·) 0

/-- The credit limit of ring `n` (R33); a ring that is not enabled shows 0 (DESIGN CHOICE, log entry 75). -/
def sqCredit (d : Dev) (n : Nat) : Nat :=
  if sqEnabled d n then (mget d.post.sqDone n + sqQuota d n) % ringL (sqSize d n) else 0

/-- The first failing check of R36 for a submission ring. -/
def sqEnableCheck (d : Dev) (n : Nat) : Nat :=
  if sqSize d n = 0 || sqQuota d n = 0 then stPARAM
  else if !cqEnabled d (rf d .RING_SQ_CFG n RING_SQ_CFG.CQ) then stSTATE
  else if sqSize d n < sqQuota d n || 512 < quotaSum d + sqQuota d n then stBOUND
  else stOK

/-- A disabled submission ring is checked and enabled, its counts set to 0 (R36). -/
def sqTryEnable (n : Nat) (d : Dev) : Dev :=
  let st := sqEnableCheck d n
  if st = stOK then
    { (sf .RING_SQ_STATUS n RING_SQ_STATUS.ENABLED 1 (sf .RING_SQ_STATUS n RING_SQ_STATUS.CFG_ERR 0
        (wn .RING_SQ_FETCHED n 0 d))) with
      post := { d.post with dbSq := mset n 0 d.post.dbSq, sqDone := mset n 0 d.post.sqDone } }
  else sf .RING_SQ_STATUS n RING_SQ_STATUS.CFG_ERR st d

/-- A drained ring is disabled, and enabled again where ENABLE reads 1 (R37). -/
def sqDrainDone (n : Nat) (d : Dev) : Dev :=
  if d.post.draining.contains n && sqInFlight d n == 0 then
    let d := sf .RING_SQ_STATUS n RING_SQ_STATUS.ENABLED 0
      { d with post := { d.post with draining := d.post.draining.filter (· ≠ n) } }
    if rb d .RING_SQ_CTRL n RING_SQ_CTRL.ENABLE then sqTryEnable n d else d
  else d

/-- A write of RING_SQ_CTRL.ENABLE 1 (R36, R37). -/
def sqEnableWrite (n : Nat) (d : Dev) : Dev :=
  let d := sf .RING_SQ_CTRL n RING_SQ_CTRL.ENABLE 1 d
  if sqEnabled d n then d else sqTryEnable n d

/-- A write of RING_SQ_CTRL.ENABLE 0 (R37). -/
def sqDisableWrite (n : Nat) (d : Dev) : Dev :=
  let d := sf .RING_SQ_CTRL n RING_SQ_CTRL.ENABLE 0 d
  if sqEnabled d n then
    sqDrainDone n { d with post := { d.post with
      draining := if d.post.draining.contains n then d.post.draining else n :: d.post.draining } }
  else d

/-- The completions of a ring that staging keeps for replay are forgotten: the ring they were written to is no more (R37, R68). -/
def dropWritten (n : Nat) (d : Dev) : Dev := { d with post := { d.post with written := d.post.written.filter (fun x => x.cq ≠ n) } }

/-- A write of RING_CQ_CTRL.ENABLE 1 (R36): the ring's counts start at 0, and no completion of an earlier enabling is kept for replay. -/
def cqEnableWrite (n : Nat) (d : Dev) : Dev :=
  let d := sf .RING_CQ_CTRL n RING_CQ_CTRL.ENABLE 1 d
  if cqEnabled d n then d
  else if cqSize d n = 0 then sf .RING_CQ_STATUS n RING_CQ_STATUS.CFG_ERR stPARAM d
  else
    dropWritten n { (sf .RING_CQ_STATUS n RING_CQ_STATUS.ENABLED 1 (sf .RING_CQ_STATUS n RING_CQ_STATUS.CFG_ERR 0
        (sf .RING_CQ_STATUS n RING_CQ_STATUS.FULL 0 (wn .RING_CQ_WRITTEN n 0 d)))) with
      post := { d.post with dbCq := mset n 0 d.post.dbCq, cqSince := mset n 0 d.post.cqSince } }

/-- A write of RING_CQ_CTRL.ENABLE 0: refused while an enabled submission ring names the ring (R37). -/
def cqDisableWrite (n : Nat) (d : Dev) : Dev :=
  if (List.range 64).any (fun q => sqEnabled d q && rf d .RING_SQ_CFG q RING_SQ_CFG.CQ == n) then
    occur0 Src.RING_CFG_LOCKED d
  else dropWritten n (sf .RING_CQ_STATUS n RING_CQ_STATUS.ENABLED 0 (sf .RING_CQ_CTRL n RING_CQ_CTRL.ENABLE 0 d))

/-! ### Doorbells (R39) -/

/-- A doorbell write of a submission ring, checked against the counts. -/
def dbellSqCheck (n c : Nat) (d : Dev) : Dev :=
  let sz := sqSize d n
  if sqEnabled d n && decide (c < ringL sz) && notBehind sz c (mget d.post.dbSq n) && notBehind sz (sqCredit d n) c then
    { d with post := { d.post with dbSq := mset n c d.post.dbSq } }
  else occur0 Src.DOORBELL_INVALID d

/-- The number of completion slots in use: written and not consumed (R39, R40). -/
def cqInUse (d : Dev) (cq : Nat) : Nat := ringDiff (cqSize d cq) (rn d .RING_CQ_WRITTEN cq) (mget d.post.dbCq cq)

/-- FULL reads 1 only while no slot is free (R40). -/
def cqFreed (cq : Nat) (d : Dev) : Dev := if cqInUse d cq < cqSize d cq then sf .RING_CQ_STATUS cq RING_CQ_STATUS.FULL 0 d else d

/-- A doorbell write of a completion ring, checked against the counts. -/
def dbellCqCheck (n c : Nat) (d : Dev) : Dev :=
  let sz := cqSize d n
  if cqEnabled d n && decide (c < ringL sz) && notBehind sz c (mget d.post.dbCq n) &&
      notBehind sz (rn d .RING_CQ_WRITTEN n) c then
    cqFreed n { d with post := { d.post with dbCq := mset n c d.post.dbCq } }
  else occur0 Src.DOORBELL_INVALID d

/-- Whether the device replays (R68). -/
def replaying (d : Dev) : Bool := rb d .LEDG_STATUS 0 LEDG_STATUS.REPLAYING

def dbellSqWrite (n c : Nat) (d : Dev) : Dev :=
  if replaying d && decide (d.post.replayStep < 2) then { d with post := { d.post with heldDb := d.post.heldDb ++ [(n, c)] } }
  else dbellSqCheck n c d

def dbellCqWrite (n c : Nat) (d : Dev) : Dev :=
  if replaying d && decide (d.post.replayStep < 2) then
    { d with post := { d.post with heldDb := d.post.heldDb ++ [(n + 64, c)] } }
  else dbellCqCheck n c d

/-- The doorbell writes held during steps 1 and 2 of a replay are checked, in the order in which they came (R39). -/
def releaseHeldDb (d : Dev) : Dev :=
  d.post.heldDb.foldl (fun d x => if x.1 < 64 then dbellSqCheck x.1 x.2 d else dbellCqCheck (x.1 - 64) x.2 d)
    { d with post := { d.post with heldDb := [] } }

/-! ### The Ledger (R61 to R64) -/

def kADMIT : Nat := 0x01
def kCOMPLETE : Nat := 0x02
def kDELIVER : Nat := 0x03
def kSPILL : Nat := 0x04
def kRESERVE : Nat := 0x05
def kRELEASE : Nat := 0x06
def kDMA_BAD : Nat := 0x07
def kRESET : Nat := 0x08
def kREPLAY_DONE : Nat := 0x09
def kPOWER_CLOSE : Nat := 0x0A
def kCHECKPOINT : Nat := 0x0B
def kLOSS : Nat := 0x0C

/-- The 64 bytes of a record (R61). -/
def lrecBytes (r : LRec) : Bytes :=
  let b := leBytes 1 r.kind ++ leBytes 7 r.seq ++ leBytes 8 r.time ++ fitBytes 40 r.body ++ zeros 4
  b ++ leBytes 4 (crc32c b)

/-- A DELIVER or SPILL pair for context `c` and parcel number `p` (R62). -/
def pairBytes (c p : Nat) : Bytes := leBytes 2 (c + 2 ^ 15) ++ leBytes 7 p ++ [0#8]

/-- The pair number of a DELIVER or SPILL body that is for context `c`, or free; 4 where there is none (R64). -/
def pairFor (body : Bytes) (c : Nat) : Nat :=
  match (List.range 4).find? (fun i => leAt body (10 * i) 2 == c + 2 ^ 15) with
  | some i => i
  | none => ((List.range 4).find? (fun i => leAt body (10 * i) 2 == 0)).getD 4

/-- Whether a record of the backlog takes the new record in (R64): same kind, and the same ring or a pair for the context. -/
def mergesWith (kind : Nat) (body : Bytes) (r : LRec) : Bool :=
  r.kind == kind &&
  (if kind = kADMIT || kind = kCOMPLETE then leAt r.body 0 1 == leAt body 0 1
   else if kind = kDELIVER || kind = kSPILL then decide (pairFor r.body (leAt body 0 2 - 2 ^ 15) < 4)
   else false)

/-- The body of a backlog record after the new record is merged into it (R64). -/
def mergedBody (kind : Nat) (old body : Bytes) : Bytes :=
  if kind = kADMIT || kind = kCOMPLETE then body
  else putBytes old (10 * pairFor old (leAt body 0 2 - 2 ^ 15)) (body.take 10)

/-- The first record of the backlog that takes the new one in, with the new body. -/
def mergeBacklog (kind : Nat) (body : Bytes) : List LRec → Option (List LRec)
  | [] => none
  | r :: t =>
    if mergesWith kind body r then some ({ r with body := mergedBody kind (fitBytes 40 r.body) body } :: t)
    else (mergeBacklog kind body t).map (r :: ·)

/-- Whether a record of this kind and body can be staged now (R64). -/
def canStage (kind : Nat) (body : Bytes) (d : Dev) : Bool :=
  decide (d.post.backlog.length < 256) || (mergeBacklog kind body d.post.backlog).isSome

/-- A record is formed and staged: merged into the backlog where R64 merges it, else a record of its own. -/
def stage (kind : Nat) (body : Bytes) (d : Dev) : Dev :=
  match mergeBacklog kind body d.post.backlog with
  | some l => { d with post := { d.post with backlog := l } }
  | none =>
    { d with post := { d.post with
        seq := d.post.seq + 1
        sinceCkpt := if kind = kCHECKPOINT then 0 else d.post.sinceCkpt + 1
        backlog := d.post.backlog ++ [⟨kind, d.post.seq + 1, d.now, fitBytes 40 body⟩] } }

/-- A record whose work cannot wait: staged, or first in line for the room that NVS writes make (R64, R71). -/
def stageOrWait (kind : Nat) (body : Bytes) (d : Dev) : Dev :=
  if d.post.waiting.isEmpty && canStage kind body d then stage kind body d
  else { d with post := { d.post with waiting := d.post.waiting ++ [(kind, body)] } }

/-- The record first in line is staged once it can be (R64). -/
def stageWaiting (d : Dev) : Dev :=
  match d.post.waiting with
  | [] => d
  | (k, b) :: t => if canStage k b d then stage k b { d with post := { d.post with waiting := t } } else d

/-! ### Commands in flight and completions (R46, R51, R55, R56) -/

/-- Opcodes that name a context (R48). -/
def opHasCtx (op : Nat) : Bool :=
  op == 0x05 || op == 0x40 || op == 0x41 || op == 0x42 || op == 0x43 || op == 0x44 || op == 0x91 || op == 0x92

/-- The command in flight of a ring with a TAG. -/
def findCmd (d : Dev) (sq tag : Nat) : Option Cmd := d.post.cmds.find? (fun c => c.sq == sq && c.tag == tag)

/-- The command replaced by a changed one. -/
def updCmd (c : Cmd) (d : Dev) : Dev :=
  { d with post := { d.post with cmds := d.post.cmds.map (fun x => if x.order = c.order then c else x) } }

/-- Whether a fetched command may start (R44 FENCE, R56): after every earlier command of its ring has completed where it has
FENCE 1, a BUFFER_POST among them (log entry 74), and in fetch order among the commands of its ring and context. -/
def mayStart (d : Dev) (c : Cmd) : Bool :=
  (!c.fence ||
    (d.post.cmds.all (fun x => !(x.sq == c.sq && decide (x.order < c.order))) &&
     d.post.formed.all (fun x => !(x.sq == c.sq && decide (x.order < c.order))))) &&
  (!opHasCtx c.op ||
    d.post.cmds.all (fun x => !(x.sq == c.sq && x.ctx == c.ctx && opHasCtx x.op && decide (x.order < c.order) && !x.started)))

/-- The 16 result bytes of a completion. -/
def resultBytes (b : Bytes) : Bytes := fitBytes 16 b

/-- A command ends: its completion is formed (R46). The Crown mailbox takes its completion at once (R384). -/
def complete (c : Cmd) (status detail : Nat) (result : Bytes) (d : Dev) : Dev :=
  let d := { d with post := { d.post with cmds := d.post.cmds.filter (fun x => x.order ≠ c.order) } }
  if c.sq = crownSq then
    let b := [1#8] ++ leBytes 1 status ++ leBytes 2 c.tag ++ leBytes 2 c.ctx ++ leBytes 1 c.op ++ leBytes 1 detail ++
      zeros 4 ++ leBytes 4 d.now ++ resultBytes result
    sf .RST_CROWN_STATUS 0 RST_CROWN_STATUS.BUSY 0 (sf .RST_CROWN_STATUS 0 RST_CROWN_STATUS.DONE 1
      (winWrite .crownCpl 0 b d))
  else
    { d with post := { d.post with formed := d.post.formed ++
      [⟨c.sq, c.num, c.order, rf d .RING_SQ_CFG c.sq RING_SQ_CFG.CQ, c.tag, c.ctx, c.op, status, detail, d.now,
        resultBytes result, c.fence⟩] } }

/-- A command that ends with status OK. -/
def completeOk (c : Cmd) (result : Bytes) (d : Dev) : Dev := complete c stOK 0 result d

/-- What the row of an opcode does first: the command must be in flight, not started, and may start now (R51, R56). -/
def withCmd (sq tag op : Nat) (f : Cmd → Dev → Dev) (d : Dev) : Dev :=
  if !(domUp d dPOST || crown d) || d.post.closing then d
  else match findCmd d sq tag with
    | some c => if c.op = op && !c.started && mayStart d c then f { c with started := true } (updCmd { c with started := true } d) else d
    | none => d

/-- A command that needs a domain: status STATE with its number while it does not run (R45 order 8, R47). -/
def needDom (n : Nat) (c : Cmd) (f : Dev → Dev) (d : Dev) : Dev :=
  if domUp d n then f d else complete c stSTATE n [] d

/-- The completion whose turn it is on a ring: the first formed whose earlier companions of ring and context have been written
(R56); a BUFFER_POST neither waits nor is waited for. One of a command with FENCE 1 follows those of every earlier command of its
submission ring, also where the command never started. -/
def nextCpl (d : Dev) (cq : Nat) : Option Cpl :=
  d.post.formed.find? (fun c => c.cq == cq &&
    (!c.fence ||
      (d.post.cmds.all (fun x => !(x.sq == c.sq && decide (x.order < c.order))) &&
       d.post.formed.all (fun x => !(x.sq == c.sq && decide (x.order < c.order))))) &&
    (!(opHasCtx c.op) || c.op == 0x42 ||
      (d.post.cmds.all (fun x => !(x.sq == c.sq && x.ctx == c.ctx && opHasCtx x.op && x.op != 0x42 && decide (x.order < c.order))) &&
       d.post.formed.all (fun x => !(x.sq == c.sq && x.ctx == c.ctx && opHasCtx x.op && x.op != 0x42 && decide (x.order < c.order))))))

/-- The 32 bytes of a completion entry (R46). -/
def cplBytes (c : Cpl) (phase : Bool) (credit : Nat) : Bytes :=
  leBytes 1 (b2n phase + 2 * c.sq) ++ leBytes 1 c.status ++ leBytes 2 c.tag ++ leBytes 2 c.ctx ++ leBytes 1 c.op ++
  leBytes 1 c.detail ++ leBytes 4 credit ++ leBytes 4 c.time ++ resultBytes c.result

/-- The vector of a completion ring is signalled, and its conditions are counted afresh (R40). -/
def cqSignal (cq : Nat) (d : Dev) : Dev :=
  signal (rf d .RING_CQ_CFG cq RING_CQ_CFG.VECTOR) { d with post := { d.post with cqSince := mset cq 0 d.post.cqSince } }

/-- One more completion counts towards the signal (R40). -/
def cqCount (cq : Nat) (d : Dev) : Dev :=
  let n := mget d.post.cqSince cq + 1
  let d := { d with post := { d.post with
    cqSince := mset cq n d.post.cqSince
    cqFirst := if n = 1 then mset cq d.now d.post.cqFirst else d.post.cqFirst } }
  if rb d .RING_CQ_CFG cq RING_CQ_CFG.IRQ_EN &&
      (decide (rf d .RING_CQ_COALESCE cq RING_CQ_COALESCE.COUNT ≤ n) || rf d .RING_CQ_COALESCE cq RING_CQ_COALESCE.HOLDOFF == 0) then
    cqSignal cq d
  else d

/-- COMPLETION_WRITE: the next completion of a ring is staged and written into a released slot, or waits (R40, R46, R63). The COMPLETE
record that covers the slot's previous occupant covers every completion of the ring written so far, and the replay keeps none of them
(R62, R68). -/
def completionWrite (cq : Nat) (d : Dev) : Dev :=
  if !domUp d dPOST || !d.post.busMaster || !cqEnabled d cq then d
  else match nextCpl d cq with
    | none => d
    | some c =>
      let n := cqSize d cq
      let w := rn d .RING_CQ_WRITTEN cq
      if n ≤ cqInUse d cq then
        (if rb d .RING_CQ_STATUS cq RING_CQ_STATUS.FULL then d
         else occur Src.CQ_FULL cq 0 0 (sf .RING_CQ_STATUS cq RING_CQ_STATUS.FULL 1 d))
      else
        let prev := (w + ringL n - n) % ringL n
        let covers := d.post.written.any (fun x => x.cq == cq && x.count == prev)
        let body := leBytes 4 cq ++ leBytes 4 w
        let other := d.post.written.filter (fun x => x.cq ≠ cq || !covers)
        if covers && !canStage kCOMPLETE body d then d
        else
          let d := if covers then stage kCOMPLETE body d else d
          let done := (mget d.post.sqDone c.sq + 1) % ringL (sqSize d c.sq)
          let d := { d with post := { d.post with
            formed := d.post.formed.filter (fun x => x.order ≠ c.order)
            sqDone := mset c.sq done d.post.sqDone } }
          let b := cplBytes c (decide (w / n % 2 = 0)) (sqCredit d c.sq)
          let d := { d with post := { d.post with
            written := ⟨cq, w, b⟩ :: other } }
          let d := hostWrite (rf d .RING_CQ_BASE cq RING_CQ_BASE.BASE * 32 + 32 * (w % n)) b d
          let d := wn .RING_CQ_WRITTEN cq ((w + 1) % ringL n) (sf .RING_CQ_STATUS cq RING_CQ_STATUS.FULL 0 d)
          cqCount cq d

/-- Whether a condition of R40 holds: COUNT completions since the last signal, or one and HOLDOFF since the first of them. -/
def cqDue (d : Dev) (cq : Nat) : Bool :=
  let n := mget d.post.cqSince cq
  rb d .RING_CQ_CFG cq RING_CQ_CFG.IRQ_EN && decide (0 < n) &&
    (decide (rf d .RING_CQ_COALESCE cq RING_CQ_COALESCE.COUNT ≤ n) ||
     decide (mget d.post.cqFirst cq + 1000 * rf d .RING_CQ_COALESCE cq RING_CQ_COALESCE.HOLDOFF ≤ d.now))

/-- After a write of RING_CQ_COALESCE the vector is signalled as soon as a condition holds (R40). -/
def cqCoalesce (cq : Nat) (d : Dev) : Dev := if domUp d dPOST && cqEnabled d cq && cqDue d cq then cqSignal cq d else d

/-- CQ_HOLDOFF_EXPIRY: HOLDOFF has passed since the first completion after the last signal (R40). -/
def cqHoldoffExpiry (cq : Nat) (d : Dev) : Dev :=
  if domUp d dPOST && cqEnabled d cq && rb d .RING_CQ_CFG cq RING_CQ_CFG.IRQ_EN && decide (0 < mget d.post.cqSince cq) then
    cqSignal cq d
  else d

end Sys2Proof.Machine
end

