-- ==== Sys2Proof/Machine/Escapement.lean ====
section
/-!
DEFINITION. Machine/Escapement.lean: the track position, encoders, gearing, the comparator bank, the stored timetable images and
what a hand-over does to shadowed state (R72 to R99).
-/
namespace Sys2Proof.Machine

/-- The device with its Escapement state changed. -/
def esc (f : Esc → Esc) (d : Dev) : Dev := { d with esc := f d.esc }

/-! ### Velocity and the source count (R73, R74, R77, R81, R82) -/

/-- The edges velocity is taken from, newest first: those of the last 8 µs, at least 2 and at most 64 (R77). -/
def velocityEdges (t : Nat) (l : List (Nat × Int)) : List (Nat × Int) :=
  let recent := (l.take 64).takeWhile (fun e => decide (t ≤ e.1 + 8000))
  if recent.length < 2 then l.take 2 else recent

/-- The velocity estimate of R77 from the edges counted; the units of 2^-16 pq/ns leave a rounding open, and two edges of one
time stamp leave the value open (log entry 4). -/
def estimate (k t : Nat) (l : List (Nat × Int)) : Option Int :=
  match velocityEdges t l, (velocityEdges t l).getLast? with
  | (tn, pn) :: _ :: _, some (tgt, po) =>
    if tn ≤ tgt then some (Config.velocityNoTime k)
    else
      let q := (pn - po) * 65536
      let dt : Int := (tn : Int) - tgt
      some (if q % dt = 0 || Config.velocityRound k = 0 then q / dt else q / dt + 1)
  | _, _ => none

/-- ESC_VELOCITY has 32 bits: what it holds of an estimate outside their range is open (log entry 78). -/
def velocityHeld (k : Nat) (v : Int) : Int :=
  if -2147483648 ≤ v ∧ v ≤ 2147483647 then v else sx 32 (ux 32 (Config.velocityWide k))

/-- A ratio takes effect: the remainder is rounded to the nearest quantum, halves up, and APPLIED holds the source count (R74, R83). -/
def applyRatio (n m : Nat) (d : Dev) : Dev :=
  let t := d.esc.track + rdiv d.esc.rem (ratioD d)
  let d := esc (fun e => { e with track := t, rem := 0, ratioSince := true }) d
  wn .ESC_RATIO_APPLIED 0 (rn d .ESC_MASTER 0) (sf .ESC_RATIO 0 ESC_RATIO.N n (sf .ESC_RATIO 0 ESC_RATIO.D m d))

/-- A ratio within the bounds of R73. -/
def ratioOk (n m : Nat) : Bool := decide (0 < n) && decide (0 < m) && decide (n ≤ 16777216 * m)

/-- The source changes: the remainder is rounded, and counts are taken from the new source's value (R74). A host-armed change that is
pending stays so, also one for the count 0 that the change sets (DESIGN CHOICE, log entry 77). -/
def changeSource (kind num : Nat) (d : Dev) : Dev :=
  if d.esc.srcKind = kind && d.esc.srcNum = num then d
  else
    let t := d.esc.track + rdiv d.esc.rem (ratioD d)
    wn .ESC_MASTER 0 0 (esc (fun e => { e with track := t, rem := 0, srcKind := kind, srcNum := num, ratioSince := true }) d)

/-- Whether the bank holds a RATIO event that releases now: the timetable's change applies first, and a change of host software stays
pending (R83). -/
def ratioEventDue (d : Dev) : Bool :=
  !d.esc.reverse && d.esc.slots.any (fun e => e.kind == 4 && decide (e.pos ≤ trackPos d) && (match d.que.withheld with
    | some (_, q) => decide (e.pos < q)
    | none => true))

/-- One source count, forward or reverse (R73), with what follows from it: velocity (R77), TRACK_REVERSE (R81) and a pending ratio
change that its count reaches (R82). `t0` is the device time of the edge. -/
def sourceCountAt (t0 : Nat) (fwd : Bool) (d0 : Dev) : Dev :=
  let acc : Int := if fwd then (d0.esc.rem : Int) + ratioN d0 else (d0.esc.rem : Int) - ratioN d0
  let t := d0.esc.track + fdiv acc (ratioD d0)
  let r := (acc - ratioD d0 * fdiv acc (ratioD d0)).toNat
  let d := esc (fun e =>
    { e with
      track := t
      rem := r
      edges := ((t0, t) :: e.edges).take 64
      reverse := !fwd
      revSince := e.revSince || !fwd }) d0
  let d := ws64 .ESC_MASTER 0 (rs64 d .ESC_MASTER 0 + (if fwd then 1 else -1)) d
  let d := match estimate d.fresh d.now d.esc.edges with
    | some v => ws32 .ESC_VELOCITY 0 (velocityHeld d.fresh v) (useFresh d)
    | none => d
  let d := if !fwd && !d0.esc.reverse then occur0 Src.TRACK_REVERSE d else d
  match d.esc.ratioPend with
  | some (n, m, at_) =>
    if rs64 d .ESC_MASTER 0 = at_ && !ratioEventDue d then
      sf .ESC_RATIO_STATUS 0 ESC_RATIO_STATUS.PENDING 0 (esc (fun e => { e with ratioPend := none }) (applyRatio n m d))
    else d
  | none => d

/-- One source count whose edge is now. -/
def sourceCount (fwd : Bool) (d : Dev) : Dev := sourceCountAt d.now fwd d

/-! ### Encoders (R75, R76) -/

/-- The step of a quadrature pair of levels: A leads B forward (log entry 13); 0 where neither or both change. -/
def quadStep (a0 b0 a b : Bool) : Int :=
  if a0 ≠ a && b0 = b then (if a = b0 then -1 else 1)
  else if a0 = a && b0 ≠ b then (if a = b then 1 else -1)
  else 0

/-- Whether encoder `e` decodes: ENABLE 1 and no loss of signal (R75). -/
def encDecodes (d : Dev) (e : Nat) : Bool := rb d .ENC_CFG e ENC_CFG.ENABLE && !rb d .ENC_STATUS e ENC_STATUS.LOS

/-- The device time at which an edge of encoder `e` that is counted now was at the ball: the synchroniser and filter delay of R80
before (R76; log entry 9). -/
def ballTime (d : Dev) (e : Nat) : Nat := d.now - (4 + rf d .ENC_CFG e ENC_CFG.FILT)

/-- A counted edge of encoder `e` (R75, R76). -/
def encCount (e : Nat) (step : Int) (d : Dev) : Dev :=
  let fwd := decide (0 < step) != rb d .ENC_CFG e ENC_CFG.INVERT
  let d := ws64 .ENC_COUNT e (rs64 d .ENC_COUNT e + (if fwd then 1 else -1)) d
  let d := wn .ENC_EDGE_TIME e (ballTime d e) (sf .ENC_STATUS e ENC_STATUS.DIR (b2n (!fwd)) d)
  let d := { d with mot := { d.mot with
    encEdges := spSet [] e (((ballTime d e, rs64 d .ENC_COUNT e) :: spGet [] e d.mot.encEdges).take 64) d.mot.encEdges } }
  if d.esc.srcKind = 0 && d.esc.srcNum = e then sourceCountAt (ballTime d e) fwd d else d

/-- ENCODER_EDGE: filtered levels of A and B of encoder `e` in one sample (R75). -/
def encoderEdge (e : Nat) (a b : Bool) (d : Dev) : Dev :=
  if !islandUp d then d
  else
    let a0 := bitOf d.esc.chanA e
    let b0 := bitOf d.esc.chanB e
    let d := esc (fun x => { x with chanA := putBit x.chanA e a, chanB := putBit x.chanB e b }) d
    if !encDecodes d e then d
    else if a0 ≠ a && b0 ≠ b then occur (Src.ENC_ILLEGAL e) e 0 0 (incSat .ENC_ILLEGAL e d)
    else if quadStep a0 b0 a b = 0 then d
    else encCount e (quadStep a0 b0 a b) d

/-- ENC_INDEX: Z of encoder `e` rises in a sample whose A and B levels are given (R75). -/
def encIndex (e : Nat) (a b : Bool) (d : Dev) : Dev :=
  if !islandUp d then d
  else
    let d := encoderEdge e a b d
    if encDecodes d e && rb d .ENC_CFG e ENC_CFG.INDEX_EN then
      occur (Src.ENC_INDEX e) e 0 0 (ws64 .ENC_INDEX_POS e (trackPos d) d)
    else d

/-- ENC_LOS: a receiver of encoder `e` detects an open or shorted pair (R76). -/
def encLos (e : Nat) (d : Dev) : Dev :=
  if islandUp d && !rb d .ENC_STATUS e ENC_STATUS.LOS then
    occur (Src.ENC_LOS e) e 0 0 (sf .ENC_STATUS e ENC_STATUS.LOS 1 d)
  else d

/-- ENC_FAULT_CLEARS: the fault of encoder `e` clears (R76). -/
def encFaultClears (e : Nat) (d : Dev) : Dev := whenUp dAON (sf .ENC_STATUS e ENC_STATUS.LOS 0) d

/-- TRACK_STILL: no count has come for ESC_STILL_TIME (R77). -/
def trackStill (d : Dev) : Dev :=
  if islandUp d then occur0 Src.TRACK_STILL (wn .ESC_VELOCITY 0 0 d) else d

/-! ### Host-armed ratio changes (R82) -/

/-- A write of ESC_RATIO_CTRL: CANCEL first, then ARM (R82). Every ARM clears LATE, one that is discarded too (R83; log entry 42). -/
def ratioCtrl (arm cancel : Bool) (d : Dev) : Dev :=
  let d := if cancel then sf .ESC_RATIO_STATUS 0 ESC_RATIO_STATUS.PENDING 0 (esc (fun e => { e with ratioPend := none }) d) else d
  if !arm then d
  else
    let n := rf d .ESC_RATIO_NEXT 0 ESC_RATIO_NEXT.N
    let m := rf d .ESC_RATIO_NEXT 0 ESC_RATIO_NEXT.D
    let at_ := rs64 d .ESC_RATIO_AT 0
    let c := rs64 d .ESC_MASTER 0
    let v := velocity d
    let d := sf .ESC_RATIO_STATUS 0 ESC_RATIO_STATUS.LATE 0 d
    if !ratioOk n m then occur0 Src.RATIO_INVALID d
    else
      let done (d : Dev) : Dev :=
        sf .ESC_RATIO_STATUS 0 ESC_RATIO_STATUS.PENDING 0 (esc (fun e => { e with ratioPend := none }) (applyRatio n m d))
      if c = at_ then done d
      else if (decide (0 < v) && decide (at_ < c)) || (decide (v < 0) && decide (c < at_)) then
        occur0 Src.RATIO_LATE (sf .ESC_RATIO_STATUS 0 ESC_RATIO_STATUS.LATE 1 (done d))
      else sf .ESC_RATIO_STATUS 0 ESC_RATIO_STATUS.PENDING 1 (esc (fun e => { e with ratioPend := some (n, m, at_) }) d)

/-! ### Stored images (R84, R85) -/

def imgLineRate (i : Bytes) : Nat := leAt i 16 4
def imgSrcKind (i : Bytes) : Nat := leAt i 20 1
def imgSrcNum (i : Bytes) : Nat := leAt i 21 1
def imgOwner (i : Bytes) : Nat := leAt i 22 2
def imgRatioN (i : Bytes) : Nat := leAt i 24 4
def imgRatioD (i : Bytes) : Nat := leAt i 28 4
def imgPitchN (i : Bytes) : Nat := leAt i 32 4
def imgPitchD (i : Bytes) : Nat := leAt i 36 4
def imgOrigin (i : Bytes) : Int := sx 64 (leAt i 40 8)
def imgJob (i : Bytes) : Nat := leAt i 48 8

/-- A section of an image: its bytes and its COUNT (R84); no bytes where the image has none. -/
def section_ (i : Bytes) (kind : Nat) : Bytes × Nat :=
  match (List.range (min 12 (leAt i 6 2))).find? (fun e => leAt i (64 + 16 * e) 2 == kind) with
  | some e => ((i.drop (leAt i (64 + 16 * e + 4) 4)).take (leAt i (64 + 16 * e + 8) 4), leAt i (64 + 16 * e + 12) 4)
  | none => ([], 0)

/-- Record `r` of a section of fixed-size records. -/
def record (i : Bytes) (kind size r : Nat) : Bytes := ((section_ i kind).1.drop (size * r)).take size

/-- Whether an image is active, and its bytes. -/
def activeNone (d : Dev) : Bool := rb d .TTBL_STATUS 0 TTBL_STATUS.NONE
def activeNum (d : Dev) : Nat := rf d .TTBL_STATUS 0 TTBL_STATUS.ACTIVE_NUM
def activeImage (d : Dev) : Option Bytes :=
  if activeNone d then none else (d.esc.images.getD (activeNum d) none)

/-- P(k) of the active image (R79). -/
def linePlace (d : Dev) (i : Bytes) (k : Nat) : Int :=
  d.esc.actPos + imgOrigin i + fdiv ((k : Int) * imgPitchN i) (imgPitchD i)

/-- The first k with P(k) > A (R90). -/
def firstLine (i : Bytes) : Nat :=
  let need := 1 - imgOrigin i
  if need ≤ 0 then 0 else ((need.toNat * imgPitchD i) + imgPitchN i - 1) / imgPitchN i

/-- ESC_LINE_POS shows P(k) of the next line (R83). -/
def showNextLine (d : Dev) : Dev :=
  match activeImage d with
  | some i => ws64 .ESC_LINE_POS 0 (linePlace d i d.esc.lineK) d
  | none => d

/-! ### The comparator bank (R92, R93) -/

/-- The next timetable event that is not yet in a slot, in position order, ONCE_EVENTS first at equal positions (R86, R92); the flag
says it comes from ONCE_EVENTS. -/
def nextEvent (d : Dev) (i : Bytes) : Option (TEvent × Bool) :=
  let mk (r : Bytes) (base : Int) (once : Bool) : TEvent :=
    ⟨base + sx 64 (leAt r 0 8), leAt r 8 1, leAt r 10 2, (r.drop 16).take 16, once⟩
  let once := if d.esc.onceNext < (section_ i 1).2 then some (mk (record i 1 32 d.esc.onceNext) d.esc.actPos true) else none
  let line := if (section_ i 2).2 = 0 then none
    else some (mk (record i 2 32 d.esc.lineEvNext) (linePlace d i d.esc.lineEvK) false)
  match once, line with
  | some a, some b => if a.pos ≤ b.pos then some (a, true) else some (b, false)
  | some a, none => some (a, true)
  | none, some b => some (b, false)
  | none, none => none

/-- The cursors after an event has been taken (R92). -/
def advanceCursor (i : Bytes) (once : Bool) (e : Esc) : Esc :=
  if once then { e with onceNext := e.onceNext + 1 }
  else if e.lineEvNext + 1 < (section_ i 2).2 then { e with lineEvNext := e.lineEvNext + 1 }
  else { e with lineEvNext := 0, lineEvK := e.lineEvK + 1 }

/-- ESC_BANK shows the slots in use (R83, R92). -/
def showBank (d : Dev) : Dev :=
  sf .ESC_BANK 0 ESC_BANK.STREAM_USED d.esc.slots.length (sf .ESC_BANK 0 ESC_BANK.DYN_USED d.esc.acts.length d)

/-! ### Table banks (R94, R97) -/

/-- Byte `off` of bank `bank` of class `c` in the table memory. -/
def bankAddr (c bank off : Nat) : Nat := c * 2 ^ 32 + bank * 2 ^ 28 + off

/-- Size of each class in bytes (R88, R309). -/
def classSize (c : Nat) : Nat :=
  if c = 1 then 65536 else if c = 2 || c = 5 || c = 6 || c = 9 then 262144 else if c = 3 then 4456448
  else if c = 4 then 2097152 else if c = 7 then 9699328 else if c = 8 then 524288 else if c = 10 then 1310720
  else if c = 11 then 7602176 else 0

/-- The bank in force of class `c`, and the other one. -/
def bankIn (d : Dev) (c : Nat) : Nat := rf d .TTBL_GEN_INFORCE c TTBL_GEN_INFORCE.BANK
def bankOut (d : Dev) (c : Nat) : Nat := 1 - bankIn d c

/-- Whether the former bank of class `c` is busy (R97). -/
def bankIsBusy (d : Dev) (c : Nat) : Bool := d.esc.bankBusy.any (fun x => x.1 == c)

/-- TTBL_GEN_STATUS.BANK_BUSY shows the busy banks. -/
def showBusy (d : Dev) : Dev :=
  sf .TTBL_GEN_STATUS 0 TTBL_GEN_STATUS.BANK_BUSY
    ((List.range 12).foldl (fun a c => if bankIsBusy d c then a + 2 ^ c else a) 0) d

/-- A memory without the bytes of a range. -/
def Mem.clear (m : Mem) (lo n : Nat) : Mem := m.filter (fun c => decide (c.1 < lo) || decide (lo + n ≤ c.1))

/-- The content of a generation of a class in an image: TABLE_GENERATIONS for classes 1 to 9 (R88). -/
def findGen (cls gen : Nat) : Nat → Bytes → Option Bytes
  | 0, _ => none
  | n + 1, b =>
    if leAt b 0 1 = cls && leAt b 2 2 = gen then some ((b.drop 64).take (leAt b 8 4))
    else findGen cls gen n (b.drop (leAt b 4 4))

/-- A generation of INDEX_TABLES laid out as class bytes (R309, R310): COLS and ROW0, then u_nom from page 1 on. -/
def findIndex (gen : Nat) : Nat → Bytes → Option Bytes
  | 0, _ => none
  | n + 1, b =>
    if leAt b 0 2 = gen then some (fitBytes 262144 ((b.drop 4).take 8) ++ (b.drop 64).take (4 * leAt b 4 4))
    else findIndex gen n (b.drop (leAt b 12 4))

/-- The class bytes of a generation of an image (R88, R310). -/
def genContent (i : Bytes) (cls gen : Nat) : Option Bytes :=
  if cls = 10 then
    let s := section_ i 4
    findIndex gen s.2 s.1
  else
    let s := section_ i 3
    findGen cls gen s.2 s.1

/-- Copies that wait for a bank start once it is free (R88). -/
def startCopies (d : Dev) : Dev :=
  esc (fun e => { e with genPend := e.genPend.map (fun g => if bankIsBusy d g.cls then g else { g with started := true }) }) d

/-- A GEN event is released: an earlier one of the class that has not swapped is replaced (R88). -/
def genRelease (cls gen : Nat) (d : Dev) : Dev :=
  let had := d.esc.genPend.any (fun g => g.cls == cls)
  let d := startCopies (esc (fun e =>
    { e with genPend := e.genPend.filter (fun g => g.cls ≠ cls) ++ [⟨cls, gen, activeNum d, false, false, false, false⟩] }) d)
  if had then occur Src.SHADOW_BANK_BUSY cls 0 0 d else d

/-- GEN_COPY_DONE: the copy of the class's released generation into its bank not in force is complete (R88). Of a generation whose image
is no longer loaded the bank receives nothing but zeros (DESIGN CHOICE, log entry 79). -/
def genCopyDone (cls : Nat) (d : Dev) : Dev :=
  match d.esc.genPend.find? (fun g => g.cls == cls && g.started && !g.copied) with
  | some g =>
    let i := (d.esc.images.getD g.image none).getD []
    let base := bankAddr cls (bankOut d cls) 0
    let c := (genContent i cls g.gen).getD []
    esc (fun e => { e with genPend := e.genPend.map (fun x => if x.cls = cls then { x with copied := true } else x) })
      { d with tables := Mem.writeBytes (Mem.clear d.tables base (2 ^ 28)) base c }
  | none => d

/-- Whether a captured line has not left the stages that use class `c` (R97). -/
def usesClass (c : Nat) (l : LineRec) : Bool :=
  if c = 1 then l.runs != 0 else if 7 ≤ c && c ≤ 10 then !l.verdict else !l.complete

/-- The last captured line that has not left the stages that use class `c` (R97). -/
def lastUsing (d : Dev) (c : Nat) : Option Nat := ((d.esc.lines.filter (usesClass c)).getLast?).map (·.num)

/-- Banks are free once no line up to their last one is in a stage that uses the class, also where a reset took the lines away (R97). -/
def freeUnused (d : Dev) : Dev :=
  startCopies (showBusy (esc (fun e =>
    { e with bankBusy := e.bankBusy.filter (fun x => e.lines.any (fun l => decide (l.num ≤ x.2) && usesClass x.1 l) ||
        (x.1 == 1 && d.fe.runLine.any (fun y => decide (y.2 ≠ 0 ∧ y.2 ≤ x.2 + 1)))) }) d))

/-- The banks of class `c` are swapped at a hand-over: its generation advances, its former bank is busy while lines use it (R95, R97). -/
def swapClass (c : Nat) (d : Dev) : Dev :=
  let busy := lastUsing d c
  let d := sf .TTBL_GEN_INFORCE c TTBL_GEN_INFORCE.BANK (bankOut d c)
    (sf .TTBL_GEN_INFORCE c TTBL_GEN_INFORCE.GEN ((rf d .TTBL_GEN_INFORCE c TTBL_GEN_INFORCE.GEN + 1) % 65536) d)
  let add := match busy with
    | some l => [(c, l)]
    | none => []
  showBusy (esc (fun e => { e with bankBusy := e.bankBusy.filter (fun x => x.1 ≠ c) ++ add }) d)

/-- Banks whose last line is `l` or earlier become free for the classes named, and copies that waited start (R97). -/
def freeBanks (classes : List Nat) (l : Nat) (d : Dev) : Dev :=
  startCopies (showBusy (esc (fun e =>
    { e with bankBusy := e.bankBusy.filter (fun x => !(classes.contains x.1 && decide (x.2 ≤ l))) }) d))

/-- Lines that have left every stage are forgotten. -/
def dropLines (d : Dev) : Dev :=
  esc (fun e => { e with lines := e.lines.filter (fun l => !(l.complete && l.verdict && l.runs == 0)) }) d

/-- Whether the host owns class `c` (R94, R97). -/
def hostOwns (d : Dev) (c : Nat) : Bool := !bitOf (rf d .TTBL_GEN_OWNER 0 TTBL_GEN_OWNER.TT) c

/-- One bit of a TTBL_GEN_COMMIT write (R97). -/
def commitClass (c : Nat) (d : Dev) : Dev :=
  if c = 0 then d
  else if !hostOwns d c || c = 11 then occur Src.GEN_OWNER c 0 0 d
  else if bankIsBusy d c then occur Src.SHADOW_BANK_BUSY c 0 0 d
  else
    let m := putBit (rf d .TTBL_GEN_STATUS 0 TTBL_GEN_STATUS.PENDING) c true
    sf .TTBL_GEN_STATUS 0 TTBL_GEN_STATUS.PENDING m (sf .TTBL_GEN_COMMIT 0 TTBL_GEN_COMMIT.CLASS m d)

/-- TTBL_GEN_COMMIT: a write of a mask of classes (R97). -/
def genCommit (mask : Nat) (d : Dev) : Dev := (bitsOf mask 12).foldl (fun d c => commitClass c d) d

/-- A pending host commit is cleared. -/
def clearCommit (c : Nat) (d : Dev) : Dev :=
  let m := putBit (rf d .TTBL_GEN_STATUS 0 TTBL_GEN_STATUS.PENDING) c false
  sf .TTBL_GEN_STATUS 0 TTBL_GEN_STATUS.PENDING m (sf .TTBL_GEN_COMMIT 0 TTBL_GEN_COMMIT.CLASS m d)

/-! ### Shadowed registers (R4, R95) -/

/-- The registers with RWS fields. -/
def rwsRegs : List Reg :=
  [.ESC_SOURCE, .VID_CFG, .VID_GAIN, .PG_DESKEW, .PIPE_CTRL, .PIPE_FILL, .PIPE_TEMP_AGE, .CMPR_CTRL, .CMPR_BLOB_CFG, .CMPR_REF_CFG,
   .CMPR_REF_NEXT, .CMPR_ACT_CFG, .CMPR_ACT_WIDTH, .CMPR_ACT_DIST, .CMPR_ACT_LEAD, .CMPR_ACT_TRAIL, .CMPR_ACT_MIN_GAP,
   .CMPR_ACT_ZONE]

def rwsKey (k : Nat) : Bool := rwsRegs.any (fun r => r.ctorIdx == k % 1024)

/-- CMPR_REF_NEXT in force, which its bindings advance, is replaced only by a value written since it last came into force (R164). -/
def nextInForce (old : Nat) (d : Dev) : Dev :=
  if d.cmpr.nextDirty then
    sf .CMPR_REF_INFORCE 0 CMPR_REF_INFORCE.PAGE_ID (rfIn d .CMPR_REF_NEXT 0 CMPR_REF_NEXT.PAGE_ID)
      { d with cmpr := { d.cmpr with nextDirty := false } }
  else sfIn .CMPR_REF_NEXT 0 CMPR_REF_NEXT.PAGE_ID old d

/-- Every RWS value most recently written comes into force (R95). -/
def rwsInForce (d : Dev) : Dev :=
  if d.esc.rwsDirty && !rb d .TTBL_SHADOW_CTRL 0 TTBL_SHADOW_CTRL.HOLD then
    sf .TTBL_GEN_INFORCE 0 TTBL_GEN_INFORCE.GEN ((rf d .TTBL_GEN_INFORCE 0 TTBL_GEN_INFORCE.GEN + 1) % 65536)
      (nextInForce (rfIn d .CMPR_REF_NEXT 0 CMPR_REF_NEXT.PAGE_ID)
        (esc (fun e => { e with rwsDirty := false }) { d with inforce := d.regs.filter (fun x => rwsKey x.1) }))
  else d

/-- A hand-over begins: the GEN events released until now are those it looks at; one that its own activation releases waits for the
hand-over after it (R88). -/
def handoverBegins (d : Dev) : Dev := esc (fun e => { e with genPend := e.genPend.map (fun g => { g with seen := true }) }) d

/-- What one class does at a hand-over: a copied GEN event or a pending host commit swaps it (R88, R95). -/
def classHandover (d : Dev) (c : Nat) : Dev :=
  match d.esc.genPend.find? (fun g => g.cls == c) with
  | some g =>
    if !g.seen then d
    else if g.copied && !bankIsBusy d c then
      swapClass c (esc (fun e => { e with genPend := e.genPend.filter (fun x => x.cls ≠ c) }) d)
    else if g.waited then d
    else occur Src.SHADOW_BANK_BUSY c 0 0
      (esc (fun e => { e with genPend := e.genPend.map (fun x => if x.cls = c then { x with waited := true } else x) }) d)
  | none =>
    if bitOf (rf d .TTBL_GEN_STATUS 0 TTBL_GEN_STATUS.PENDING) c && !rb d .TTBL_SHADOW_CTRL 0 TTBL_SHADOW_CTRL.HOLD then
      swapClass c (clearCommit c d)
    else d

/-- What every hand-over brings into force of the shadowed state: RWS values, commits and GEN events (R95); DRIFT is the
Regulator's. A hand-over that activates an image takes that image's source (R90). -/
def shadowHandover (activates : Bool) (d : Dev) : Dev :=
  let d := rwsInForce d
  let d := if activates then d else
    changeSource (rfIn d .ESC_SOURCE 0 ESC_SOURCE.KIND) (rfIn d .ESC_SOURCE 0 ESC_SOURCE.NUM) d
  (List.range' 1 10).foldl classHandover d

/-- Ownership changes to that of the image activated: pending host commits of classes it owns are ignored (R97). -/
def takeOwnership (owner : Nat) (d : Dev) : Dev :=
  let d := sf .TTBL_GEN_OWNER 0 TTBL_GEN_OWNER.TT ((owner &&& 0x7FE) + 0x800) d
  (List.range' 1 10).foldl (fun d c =>
    if bitOf owner c && bitOf (rf d .TTBL_GEN_STATUS 0 TTBL_GEN_STATUS.PENDING) c then
      occur Src.GEN_OWNER c 0 0 (clearCommit c d) else d) d

end Sys2Proof.Machine
end

