-- ==== Sys2Proof/Machine/Ports.lean ====
section
/-!
DEFINITION. Machine/Ports.lean: sensor ports, segments, pattern generators, video channels, digital lanes, I3C heads and die links
(R14, R100 to R131).
-/
namespace Sys2Proof.Machine

/-- The device with its front-end state changed. -/
def fe (f : Fe → Fe) (d : Dev) : Dev := { d with fe := f d.fe }

/-! ### The segment map (R103) -/

/-- The record of segment `s` in an image. -/
def segRecOf (i : Bytes) (s : Nat) : Option Bytes :=
  ((List.range (section_ i 9).2).map (record i 9 64)).find? (fun r => leAt r 0 1 == s)

/-- The record of segment `s` in the active image. -/
def segRec (d : Dev) (s : Nat) : Option Bytes := (activeImage d).bind (fun i => segRecOf i s)

def rTable (r : Bytes) : Nat := leAt r 1 1
def rPlanes (r : Bytes) : Nat := leAt r 2 1
def rSrc (r : Bytes) (src : Nat) : Bool := bitOf (leAt r 3 1) src
def rAutoResume (r : Bytes) : Bool := bitOf (leAt r 3 1) 3
def rSlot (r : Bytes) : Nat := leAt r 4 1
def rBus (r : Bytes) : Nat := leAt r 5 1
def rHeadType (r : Bytes) : Nat := leAt r 6 2
def rPorts (r : Bytes) : List Nat := bitsOf (leAt r 8 8) 48
def rColumns (r : Bytes) : Nat := leAt r 24 4
def rSamples (r : Bytes) (src : Nat) : Nat := leAt r (28 + 4 * src) 4
def rLaneBits (r : Bytes) : Nat := 10 + 2 * leAt r 40 1
def rVideoMode (r : Bytes) : Nat := leAt r 42 1
def rLag (r : Bytes) : Nat := leAt r 43 1

/-- The die, generator of a port (R12, R100). -/
def portDie (p : Nat) : Nat := p / 12
def portGen (p : Nat) : Nat := p / 3

/-- The generators that serve a segment. -/
def rGens (r : Bytes) : List Nat := (List.range 16).filter (fun g => (rPorts r).any (fun p => portGen p == g))

/-- The segment of port `p` in the active image. -/
def segOfPort (d : Dev) (p : Nat) : Option (Nat × Bytes) :=
  match activeImage d with
  | none => none
  | some i => ((List.range (section_ i 9).2).map (record i 9 64)).findSome?
      (fun r => if (rPorts r).contains p then some (leAt r 0 1, r) else none)

/-- Segment `s`, and the device with it changed. -/
def noSeg : Seg := Seg.none_
def seg (d : Dev) (s : Nat) : Seg := d.fe.segs.getD s noSeg
def setSeg (s : Nat) (f : Seg → Seg) (d : Dev) : Dev := fe (fun x => { x with segs := modAt x.segs s f }) d
/-- A segment enters LIVE: its temperature references are set afresh (R122, R257). -/
def enterLive (s : Nat) (d : Dev) : Dev :=
  setSeg s (fun x => { x with st := .live })
    { d with cal := { d.cal with refSet := d.cal.refSet.filter (fun k => k / 32 ≠ s) } }

/-- PORT_STATUS.STATE (R130). -/
def segCode (s : SegState) : Nat := s.ctorIdx

/-! ### Lanes (R115) -/

def laneState (d : Dev) (p : Nat) : Nat := rf d .LANE_STATUS p LANE_STATUS.STATE
def setLane (p st : Nat) (d : Dev) : Dev :=
  fe (fun x => { x with seqFresh := putBit x.seqFresh p true }) (sf .LANE_STATUS p LANE_STATUS.STATE st d)

/-! ### Powering and masking (R124, R125, R129) -/

/-- PORT_MASKED_LINES counts a line for each port whose segment is masked in it (R129). -/
def countMasked (m : Nat) (d : Dev) : Dev := (bitsOf m 48).foldl (fun d p => incSat .PORT_MASKED_LINES p d) d

/-- The ports of a segment deliver nothing for a line, and PORT_MASKED_LINES counts it once for each (R116, R129). -/
def maskLine (s : Bytes) (line : Nat) (d : Dev) : Dev :=
  match d.esc.lines.find? (fun l => l.num = line) with
  | none => d
  | some l =>
    let new := ((rPorts s).filter (fun p => !bitOf l.masked p)).foldl (fun m p => putBit m p true) 0
    countMasked new (esc (fun e => { e with lines := e.lines.map (fun l =>
      if l.num = line then { l with masked := (rPorts s).foldl (fun m p => putBit m p true) l.masked } else l) }) d)

/-- The line that run or window `n` reads: line n, or line n - 1 with LAG 1; run 0 with LAG 1 reads none (R108). -/
def lagLine (n lag : Nat) : Option Nat := if n < lag then none else some (n - lag)

/-- A segment is masked for the line a window reads, where it reads one. -/
def maskRead (r : Bytes) (line : Option Nat) (d : Dev) : Dev :=
  match line with
  | some n => maskLine r n d
  | none => d

/-- Every sample of an unmasked port of a segment that a line waits for has come (R154). -/
def hasSamples (d : Dev) (num : Nat) (r : Bytes) : Bool :=
  (rPorts r).all (fun p => [0, 1, 2].all (fun src => !rSrc r src ||
    d.fe.samples.any (fun s => s.line == num && s.port == p && s.src == src)))

/-- A segment that can deliver no more samples is masked for every captured line that still waits for some of it (R102, R122). -/
def maskWaiting (r : Bytes) (d : Dev) : Dev :=
  d.esc.lines.foldl (fun d l => if l.complete || hasSamples d l.num r then d else maskLine r l.num d) d

/-- The drivers of a generator turn on; the periods of its FREE pattern count from here (R107, R124). -/
def genDrive (g : Nat) (d : Dev) : Dev :=
  if rb d .PG_STATUS g PG_STATUS.OUT_EN then d
  else sf .PG_STATUS g PG_STATUS.OUT_EN 1 (fe (fun x => { x with genOn := mset g (16 * d.now + 1) x.genOn }) d)

/-- A run of generator `g` ends without reading any further: no line and no bank waits for it (R97). -/
def dropRun (g : Nat) (d : Dev) : Dev :=
  let d := fe (fun x => { x with runLine := mset g 0 x.runLine, runNext := mset g 0 x.runNext }) d
  let d := esc (fun e => { e with lines := e.lines.map (fun l => { l with runs := putBit l.runs g false }) }) d
  dropLines (freeUnused d)

/-- The drivers of a generator turn off, and a run in progress is cut (R125, R127). -/
def genOff (g : Nat) (d : Dev) : Dev := dropRun g (sf .PG_STATUS g PG_STATUS.OUT_EN 0 (sf .PG_STATUS g PG_STATUS.RUNNING 0 d))

/-- Power-up starts: every generator that serves the segment drives its outputs (R124 step 1). -/
def segPowerUp (s : Nat) (d : Dev) : Dev :=
  match segRec d s with
  | none => d
  | some r =>
    setSeg s (fun x => { x with st := .powering, step := 1 })
      ((rGens r).foldl (fun d g => genDrive g d) d)

/-- The generators of a segment as bits. -/
def genMask (r : Bytes) : Nat := (rGens r).foldl (fun m g => putBit m g true) 0

/-- A segment is powered down: SPWR_EN low, lanes DOWN, so that lines that wait for a frame get none (R102, R125). -/
def segPowerDown (s : Nat) (st : SegState) (cause : Nat) (d : Dev) : Dev :=
  let d := setSeg s (fun x =>
    { x with st := st, step := 0, powered := false, cause := if cause = 0 then x.cause else cause }) d
  match segRec d s with
  | none => d
  | some r =>
    let d := setSeg s (fun x => { x with offGens := genMask r }) d
    let d := if rSrc r 2 then maskWaiting r d else d
    (rPorts r).foldl (fun d p => setLane p 0 d) d

/-- Whether some port that generator `g` serves is powered. -/
def genNeeded (d : Dev) (g : Nat) : Bool :=
  (List.range 3).any (fun i => match segOfPort d (3 * g + i) with
    | some (s, _) => (seg d s).powered || (seg d s).st == .powering
    | none => false)

/-- SEG_CLOCKS_OFF: of the generators that served the segment when it was powered down, the drivers of those that serve no powered port
turn off (R125). -/
def segClocksOff (s : Nat) (d : Dev) : Dev :=
  let m := (seg d s).offGens
  (bitsOf m 16).foldl (fun d g => if genNeeded d g then d else genOff g d) (setSeg s (fun x => { x with offGens := 0 }) d)

/-- The SERIAL of the head bound to segment `s`; 0 if none. -/
def boundSerial (d : Dev) (s : Nat) : Nat :=
  match d.fe.heads.find? (fun h => h.seg == s + 1) with
  | some h => leAt h.desc 8 8
  | none => 0

/-- Every lane of the segment is LOCKED, or it uses none. -/
def lanesLocked (d : Dev) (r : Bytes) : Bool := !rSrc r 2 || (rPorts r).all (fun p => laneState d p == 2)

/-- The power-up sequence is complete (R122, R124 step 4). The sources of a head's events are those of the die whose bus found it (DEDUCED,
log entry 83). -/
def segSequenceDone (s : Nat) (r : Bytes) (d : Dev) : Dev :=
  let named := mget d.fe.shadeSerial s
  let same := named == 0 || named == boundSerial d s + 1
  let n := rBus r
  let d := setSeg s (fun x => { x with step := 4, cause := if same then x.cause else 8, st := .ready }) d
  let d := if same && rAutoResume r then enterLive s d else d
  let d := occur (Src.HEAD_JOINED n) n s 0 d
  if same then d else occur (Src.HEAD_SERIAL_CHANGED n) n s 0 d

/-- SEG_POWER_ENABLE: SPWR_EN of every port of the segment goes high (R124 step 2). -/
def segPowerEnable (s : Nat) (d : Dev) : Dev :=
  if (seg d s).st == .powering && (seg d s).step == 1 then setSeg s (fun x => { x with step := 2, powered := true }) d else d

/-- SEG_LANES_ACQUIRE: the segment's lanes enter ACQUIRE; without lanes the sequence is complete (R124 steps 3 and 4). -/
def segLanesAcquire (s : Nat) (d : Dev) : Dev :=
  match segRec d s with
  | none => d
  | some r =>
    if (seg d s).st == .powering && (seg d s).step == 2 then
      let d := setSeg s (fun x => { x with step := 3 }) d
      if rSrc r 2 then (rPorts r).foldl (fun d p => setLane p 1 d) d else segSequenceDone s r d
    else d

/-- A segment faults: power-down and HEAD_FAULT (R122). -/
def segFault (s : Nat) (r : Bytes) (d : Dev) : Dev :=
  occur (Src.HEAD_FAULT (rBus r)) (rBus r) s 0 (segPowerDown s .fault 4 d)

/-- SEG_LOCK_TIMEOUT: lanes not LOCKED within READY_TIME + 10 ms (R122). -/
def segLockTimeout (s : Nat) (d : Dev) : Dev :=
  match segRec d s with
  | some r => if (seg d s).st == .powering && (seg d s).step == 3 && !lanesLocked d r then segFault s r d else d
  | none => d

/-- SEG_RELOCK_TIMEOUT: a segment in RELOCK not LOCKED within 10 ms (R122). -/
def segRelockTimeout (s : Nat) (d : Dev) : Dev :=
  match segRec d s with
  | some r => if (seg d s).st == .relock && !lanesLocked d r then segFault s r d else d
  | none => d

/-- LANE_LOCK: 64 idle ordered sets have come without error on lane `p` (R115). -/
def laneLock (p : Nat) (d : Dev) : Dev :=
  if !domUp d (dDIG (portDie p)) || laneState d p ≠ 1 then d
  else
    let d := setLane p 2 d
    match segOfPort d p with
    | none => d
    | some (s, r) =>
      if !lanesLocked d r then d
      else if (seg d s).st == .powering && (seg d s).step == 3 then segSequenceDone s r d
      else if (seg d s).st == .relock then enterLive s d
      else d

/-- LANE_LOS: lane `p` leaves LOCKED (R115, R122). -/
def laneLos (p : Nat) (d : Dev) : Dev :=
  if !domUp d (dDIG (portDie p)) || laneState d p ≠ 2 then d
  else
    let n := portDie p
    let d := occur (Src.LANE_LOS n) n p 0 (setLane p 1 d)
    match segOfPort d p with
    | none => d
    | some (s, r) =>
      let d := if mget d.fe.winLine p = 0 || bitOf d.fe.winGot p then d
        else maskRead r (lagLine (mget d.fe.winLine p - 1) (rLag r)) d
      if (seg d s).st == .live then setSeg s (fun x => { x with st := .relock, cause := 3 }) d else d

/-- A write of PORT_CTRL (R122, R123): POWER_OFF alone where both are set. -/
def portCtrl (p : Nat) (resume powerOff : Bool) (d : Dev) : Dev :=
  match segOfPort d p with
  | none => d
  | some (s, _) =>
    let st := (seg d s).st
    if powerOff then (if st == .absent then d else segPowerDown s .off 10 d)
    else if !resume then d
    else if st == .ready then enterLive s d
    else if st == .fault || st == .off then segPowerUp s d
    else d

/-! ### Heads (R118 to R121, R128) -/

/-- Addresses the device does not assign: those I3C Basic reserves (log entry 14). -/
def i3cReserved (a : Nat) : Bool := [0x3E, 0x5E, 0x6E, 0x76, 0x7A, 0x7C, 0x7E, 0x7F].contains a || decide (a < 8)

/-- The lowest address free on a bus; 0 where there is none. -/
def freeAddr (hs : List Head) (bus : Nat) : Nat :=
  ((List.range 128).find? (fun a => !i3cReserved a && !hs.any (fun h => h.bus == bus && h.addr == a))).getD 0

/-- ENTDAA: every head of the bus without an address gets one. -/
def entdaa (bus : Nat) : List Head → List Head → List Head
  | done, [] => done
  | done, h :: t =>
    if h.bus = bus && h.addr = 0 then entdaa bus (done ++ [{ h with addr := freeAddr (done ++ t) bus }]) t
    else entdaa bus (done ++ [h]) t

/-- MAGIC, VERSION and CHECK of a descriptor (R119). -/
def descOk (b : Bytes) : Bool :=
  leAt b 0 2 == 0x4844 && leAt b 2 1 == 1 && leAt b 60 4 == crc32c (fitBytes 60 b)

/-- A head's HEAD_TYPE, COLUMNS and PLANES equal those of a segment (R120). -/
def headFits (desc r : Bytes) : Bool := rHeadType r == leAt desc 4 2 && rColumns r == leAt desc 16 4 && rPlanes r == leAt desc 20 1

/-- Every die that holds a port of the segment is powered, released and has its link up (R120). -/
def diesUp (d : Dev) (r : Bytes) : Bool :=
  (rPorts r).all (fun p => domUp d (dDIG (portDie p)) && domUp d (dANA (portDie p)) &&
    rb d .FE_STATUS (portDie p) FE_STATUS.LINK_UP)

/-- The device reads the descriptor of one addressed, unbound head and binds it, or leaves it (R120): of the free segments of its bus and
SLOT the lowest that it fits, one whose dies are up before one that must wait. HEAD_MISMATCH names the head's address and, where only
its kind failed, the segment (DESIGN CHOICE, log entry 83). -/
def tryBind (n : Nat) (d : Dev) : Dev :=
  match d.fe.heads[n]? with
  | none => d
  | some h =>
    let b := h.bus
    let slotSegs := (List.range 48).filter (fun s => match segRec d s with
      | some r => rBus r == b && rSlot r == leAt h.desc 3 1 % 64 && !d.fe.heads.any (fun x => x.seg == s + 1)
      | none => false)
    let fits := slotSegs.filter (fun s => match segRec d s with
      | some r => headFits h.desc r
      | none => false)
    let ready := fits.filter (fun s => match segRec d s with
      | some r => diesUp d r
      | none => false)
    match (if descOk h.desc then (ready ++ fits ++ slotSegs).head? else none) with
    | none => occur (Src.HEAD_MISMATCH b) b h.addr 0 d
    | some s =>
      match segRec d s with
      | none => d
      | some r =>
        if !headFits h.desc r then occur (Src.HEAD_MISMATCH b) b h.addr s (setSeg s (fun x => { x with cause := 7 }) d)
        else if !diesUp d r then setSeg s (fun x => { x with cause := 1 }) d
        else
          let d := fe (fun x => { x with heads := modAt x.heads n (fun h => { h with seg := s + 1 }) }) d
          segPowerUp s (setSeg s (fun x => { x with pollFailed := false, sincePoll := 0 }) d)

/-- Discovery on a bus: ENTDAA, then every addressed and unbound head is read (R120). -/
def discover (bus : Nat) (d : Dev) : Dev :=
  if !domUp d (dDIG bus) then d
  else
    let d := fe (fun x => { x with heads := entdaa bus [] x.heads }) d
    (List.range d.fe.heads.length).foldl (fun d n =>
      match d.fe.heads[n]? with
      | some h => if h.bus = bus && h.addr ≠ 0 && h.seg = 0 then tryBind n d else d
      | none => d) d

/-- I3C_HOT_JOIN: heads with these descriptors ask to join a bus; unbound heads at the addresses `gone` answer no more (R120; log
entry 14). -/
def i3cHotJoin (bus : Nat) (gone : List Nat) (descs : List Bytes) (d : Dev) : Dev :=
  if !domUp d (dDIG bus) then d
  else
    let left (h : Head) : Bool := h.bus == bus && h.seg == 0 && gone.contains h.addr
    discover bus (incSat .I3C_HOTJOINS bus
      (fe (fun x => { x with heads := x.heads.filter (fun h => !left h) ++ descs.map (fun b => ⟨bus, 0, 0, b⟩) }) d))

/-- I3C_IBI: an in-band interrupt (R118). -/
def i3cIbi (bus : Nat) (d : Dev) : Dev := whenUp (dDIG bus) (incSat .I3C_IBIS bus) d

/-- A bus error other than a NACK (R121). -/
def i3cError (bus : Nat) (d : Dev) : Dev := occur (Src.I3C_ERROR bus) bus 0 0 (incSat .I3C_ERRORS bus d)

/-- The outcome of a poll of the head of segment `s` that answered. -/
def pollOk (s : Nat) (d : Dev) : Dev := setSeg s (fun x => { x with pollFailed := false, sincePoll := 0 }) d

/-- I3C_POLL: GETSTATUS to every bound head of a bus; the segments named did not answer, and so many other bus errors arose (R121). -/
def i3cPoll (bus : Nat) (failed : List Nat) (errors : Nat) (d : Dev) : Dev :=
  if !domUp d (dDIG bus) then d
  else
    let d := (List.range errors).foldl (fun d _ => i3cError bus d) d
    d.fe.heads.foldl (fun d h =>
      if h.bus = bus && h.seg ≠ 0 then
        (if failed.contains (h.seg - 1) then setSeg (h.seg - 1) (fun x => { x with pollFailed := true }) d
         else pollOk (h.seg - 1) d)
      else d) d

/-- Removal of the head of segment `s` (R128). -/
def removeHead (s : Nat) (r : Bytes) (d : Dev) : Dev :=
  let n := rBus r
  let x := seg d s
  let d := segPowerDown s .absent 2 (fe (fun f => { f with heads := f.heads.filter (fun h => h.seg ≠ s + 1) }) d)
  occur (Src.HEAD_REMOVED n) n ((x.sincePoll : Int) - 1) ((x.lastLine : Int) - 1) d

/-- I3C_POLL_RETRY: the repeated poll of the head of segment `s`; a second failure establishes removal (R121). -/
def i3cPollRetry (s : Nat) (answered : Bool) (d : Dev) : Dev :=
  match segRec d s with
  | none => d
  | some r =>
    if !(seg d s).pollFailed || !domUp d (dDIG (rBus r)) || !d.fe.heads.any (fun h => h.seg == s + 1) then d
    else if answered then pollOk s d
    else removeHead s r d

/-! ### Generators (R107, R110, R127) -/

/-- CLK_FAULT of generator `g` (R127). -/
def clkFault (g : Nat) (d : Dev) : Dev :=
  let n := g / 4
  if !domUp d (dDIG n) || !rb d .PG_STATUS g PG_STATUS.RUNNING then d
  else
    let d := (List.range 48).foldl (fun d s => match segRec d s with
      | some r => if (rGens r).contains g then segPowerDown s .fault 9 (maskWaiting r d) else d
      | none => d) (genOff g d)
    occur (Src.CLK_FAULT n) n g 0 d

/-- clamp_code, and whether it limited its argument (R110, R111). -/
def clampCode (x : Int) : Nat × Bool := if x < 0 then (0, true) else if 65535 < x then (65535, true) else (x.toNat, false)

/-- One sample of a video channel from the voltages at SHR and SHS and the clamp level in microvolts (R110); the flag says that some
clamp_code limited its argument. -/
def videoSample (mode gain : Nat) (offset : Int) (neg : Bool) (vr vs vc : Int) : Nat × Bool :=
  let s : Int := if neg then -1 else 1
  let g : Int := 128 + gain
  if mode = 1 then
    let cr := clampCode (rdiv ((g * (vr - vc) + 128 * 1000000) * 32768) (128 * 1000000))
    let cs := clampCode (rdiv ((g * (vs - vc) + 128 * 1000000) * 32768) (128 * 1000000))
    let c := clampCode (s * ((cr.1 : Int) - cs.1) + rdiv (offset * 500 * 32768) 1000000)
    (c.1, cr.2 || cs.2 || c.2)
  else
    let r := if mode = 2 then vc else vr
    clampCode (rdiv ((g * s * (r - vs) + offset * 500 * 128) * 32768) (128 * 1000000))

/-- The samples of one channel for a line, with the values of VID_GAIN and VID_CFG in force for that line (R110, R112). -/
def convert (d : Dev) (line : LineRec) (c mode n : Nat) (clamp : Int) (v : List (Int × Int)) : List Nat × Nat :=
  let gw := spGet (Reg.reset .VID_GAIN c) (rkey .VID_GAIN c) line.shadow
  let cw := spGet (Reg.reset .VID_CFG c) (rkey .VID_CFG c) line.shadow
  let out := (v.take n).map (fun x =>
    videoSample mode (VID_GAIN.GAIN.get gw) (sx 10 (VID_GAIN.OFFSET.get gw)) (VID_CFG.POLARITY.get cw == 1) x.1 x.2 clamp)
  let _ := d
  (out.map (·.1), (out.filter (·.2)).length)

/-- The record of a captured line that has not left every stage. -/
def findLine (d : Dev) (num : Nat) : Option LineRec := d.esc.lines.find? (fun l => l.num == num)

/-- Whether port `p` is masked for a line. -/
def portMasked (l : LineRec) (p : Nat) : Bool := bitOf l.masked p

/-- The samples of one source of a port for the line they belong to are kept, where the port is not masked for it. -/
def keepSamples (num p src : Nat) (v : List Nat) (d : Dev) : Dev :=
  match findLine d num with
  | some l => if portMasked l p then d else fe (fun x => { x with samples := x.samples ++ [⟨num, p, src, v⟩] }) d
  | none => d

/-- The channel of a generator's run that ends: its samples go to line k, or to line k - 1 with LAG 1; each that was clipped counts and is an
occurrence, also where no line is read and the samples are discarded (R108, R110, R111; log entry 84). -/
def channelEnd (g run : Nat) (clamp : Int) (x : List (Int × Int) × Nat) (d : Dev) : Dev :=
  let c := 6 * g + x.2
  let p := c / 2
  match segOfPort d p with
  | none => d
  | some (_, r) =>
    if !rSrc r (c % 2) then d
    else
      let read := (lagLine run (rLag r)).bind (findLine d)
      match (match read with
        | some l => some l
        | none => findLine d run) with
      | none => d
      | some l =>
        let v := convert d l c (rVideoMode r) (rSamples r (c % 2)) clamp x.1
        let d := Nat.repeat (fun d => occur (Src.VIDEO_CLIP (p / 12)) (p / 12 : Nat) c 0 (incSat .VID_CLIPS c d)) v.2 d
        match read with
        | some l => keepSamples l.num p (c % 2) v.1 d
        | none => d

/-- PG_RUN_END: the run of generator `g` ends; the voltages its six channels saw at the strobes are given, by channel, with the
clamp level, in microvolts (R107, R110). -/
def pgRunEnd (g : Nat) (clamp : Int) (volts : List (List (Int × Int))) (d : Dev) : Dev :=
  if !domUp d (dDIG (g / 4)) || mget d.fe.runLine g = 0 then d
  else
    let run := mget d.fe.runLine g - 1
    let d := if rb d .FE_STATUS (g / 4) FE_STATUS.LINK_UP then (volts.take 6).zipIdx.foldl (fun d x => channelEnd g run clamp x d) d else d
    let next := mget d.fe.runNext g
    let d := sf .PG_STATUS g PG_STATUS.RUNNING (b2n (next != 0))
      (fe (fun x => { x with runLine := mset g next x.runLine, runNext := mset g 0 x.runNext }) d)
    let d := esc (fun e => { e with lines := e.lines.map (fun l =>
      if l.num ≤ run then { l with runs := putBit l.runs g false } else l) }) d
    let still := d.esc.lines.find? (fun l => l.runs ≠ 0)
    dropLines (freeBanks [1] (match still with | some l => l.num - 1 | none => run) d)

/-! ### The levels a generator drives (R107, R109) -/

/-- A field of the phase table that generator `g` runs, from a bank. -/
def pgField (d : Dev) (bank g off n : Nat) : Nat :=
  leNat (Mem.readBytes d.tables (bankAddr 1 bank (4096 * rf d .PG_STATUS g PG_STATUS.TABLE + off)) n)

/-- The level that the pixel pattern gives output `o` at time `x` of a pixel period; before the first step stands the level of the last. -/
def pixLevel (d : Dev) (bank g o x : Nat) : Bool :=
  let n := pgField d bank g 21 1
  let past := (List.range n).filter (fun k => decide (pgField d bank g (1952 + 8 * k) 2 ≤ x))
  bitOf (pgField d bank g (1952 + 8 * past.getLast?.getD (n - 1) + 2) 1) o

/-- The level of output `o` that the line steps of a run have set by time `x` from its start; IDLE until a step names the output. -/
def lineLevel (d : Dev) (bank g o x : Nat) : Bool :=
  let past := (List.range (pgField d bank g 20 1)).filter (fun k =>
    decide (pgField d bank g (32 + 8 * k) 4 ≤ x) && bitOf (pgField d bank g (32 + 8 * k + 5) 1) o)
  match past.getLast? with
  | some k => bitOf (pgField d bank g (32 + 8 * k + 4) 1) o
  | none => bitOf (pgField d bank g 22 1) o

/-- The level that generator `g` drives on its output `o` at time `t`, in units of 1/16 ns; none while its drivers are off (R107, R125): FREE
outputs repeat the pixel pattern, shifted by PG_DESKEW; in a run PIX_OUT outputs follow it inside the pixel window, and line steps
set the others; outside runs they hold IDLE. -/
def pgOutput (d : Dev) (g o t : Nat) : Option Bool :=
  if !rb d .PG_STATUS g PG_STATUS.OUT_EN then none
  else
    let now := bankIn d 1
    let x := t + 1 - mget d.fe.runAt g
    let run := decide (mget d.fe.runAt g ≠ 0 ∧ mget d.fe.runAt g ≤ t + 1) && rb d .PG_STATUS g PG_STATUS.RUNNING
    let bank := if run then mget d.fe.runBank g - 1 else now
    if bitOf (pgField d bank g 23 1) o then
      let per := pgField d bank g 4 2
      let phase := ((t : Int) + 1 - mget d.fe.genOn g - sx 6 (rfIn d .PG_DESKEW g PG_DESKEW.DESKEW)) % (max 1 per : Nat)
      some (pixLevel d bank g o phase.toNat)
    else if !run || decide (pgField d bank g 0 4 ≤ x) then some (bitOf (pgField d bank g 22 1) o)
    else
      let s := pgField d bank g 12 4
      let per := max 1 (pgField d bank g 4 2)
      if bitOf (pgField d bank g 24 1) o && decide (s ≤ x) && decide (x < s + pgField d bank g 16 4 * per) then
        some (pixLevel d bank g o ((x - s) % per))
      else some (lineLevel d bank g o x)

/-! ### Lane frames (R114, R116) -/

/-- Sample `i` of a payload of `w`-bit samples, shifted to 16 bits (R114). -/
def laneSample (payload : Bytes) (w i : Nat) : Nat := ((leNat payload / 2 ^ (i * w)) % 2 ^ w) * 2 ^ (16 - w)

/-- A lane error: its counter and LANE_FRAME. -/
def laneError (r : Reg) (p : Nat) (d : Dev) : Dev :=
  occur (Src.LANE_FRAME (portDie p)) (portDie p) p 0 (incSat r p d)

/-- LANE_FRAME_RX: a frame starts in a window of lane `p`: whether a code or disparity error lies in it, whether K29.7 stands where
the length asks, its SEQ, its two ignored symbols, its payload and its CRC-32C (R114, R116). -/
def laneFrameRx (p : Nat) (codeErr lengthOk : Bool) (seq : Nat) (ignored payload : Bytes) (crc : Nat) (d : Dev) : Dev :=
  let n := portDie p
  if !domUp d (dDIG n) || laneState d p ≠ 2 then d
  else match segOfPort d p with
    | none => d
    | some (_, r) =>
      if mget d.fe.winLine p = 0 || bitOf d.fe.winGot p || decide (16 * d.now < mget d.fe.winAt p) then laneError .LANE_EXTRA p d
      else
        let line := lagLine (mget d.fe.winLine p - 1) (rLag r)
        let d := fe (fun x => { x with winGot := putBit x.winGot p true }) d
        let want := (rSamples r 2 * rLaneBits r + 7) / 8
        if codeErr then maskRead r line (laneError .LANE_CODE_ERR p d)
        else if !lengthOk || payload.length ≠ want then maskRead r line (laneError .LANE_FRAME_ERR p d)
        else if crc ≠ crc32c (leBytes 2 seq ++ fitBytes 2 ignored ++ payload) then maskRead r line (laneError .LANE_CRC_ERR p d)
        else
          let skip := !bitOf d.fe.seqFresh p && seq ≠ (rf d .LANE_SEQ p LANE_SEQ.SEQ + 1) % 65536
          let d := fe (fun x => { x with seqFresh := putBit x.seqFresh p false }) (sf .LANE_SEQ p LANE_SEQ.SEQ seq d)
          let d := if skip then occur (Src.LANE_SEQ n) n p 0 (incSat .LANE_SEQ_SKIP p d) else d
          match line with
          | some n => keepSamples n p 2 ((List.range (rSamples r 2)).map (laneSample payload (rLaneBits r))) d
          | none => d

/-- LANE_WINDOW_CLOSE: the open window of lane `p` closes, and the next one opens (R116). -/
def laneWindowClose (p : Nat) (d : Dev) : Dev :=
  if !domUp d (dDIG (portDie p)) || mget d.fe.winLine p = 0 then d
  else match segOfPort d p with
    | none => d
    | some (_, r) =>
      let line := lagLine (mget d.fe.winLine p - 1) (rLag r)
      let d := if bitOf d.fe.winGot p then d
        else if laneState d p = 2 then maskRead r line (laneError .LANE_NOFRAME p d)
        else maskRead r line d
      let next := mget d.fe.winNext p
      let d := if next ≠ 0 && laneState d p ≠ 2 then maskRead r (lagLine (next - 1) (rLag r)) d else d
      fe (fun x => { x with winAt := mset p 0 x.winAt, winLine := mset p next x.winLine, winNext := mset p 0 x.winNext, winGot := putBit x.winGot p false }) d

/-! ### Die links (R14) -/

/-- A die's ports deliver nothing: every segment with a port on it, or found through its bus when the bus is lost, enters ABSENT and is
masked at once, in captured lines that wait for its samples too (R14, R122). -/
def dieSegsAbsent (n : Nat) (bus : Bool) (cause : Nat) (d : Dev) : Dev :=
  (List.range 48).foldl (fun d s => match segRec d s with
    | some r =>
      if (rPorts r).any (fun p => portDie p == n) || (bus && rBus r == n) then
        let d := fe (fun x => { x with heads := x.heads.map (fun h => if h.seg = s + 1 then { h with seg := 0 } else h) }) d
        setSeg s (fun x => { x with delivers := false }) (segPowerDown s .absent cause (maskWaiting r d))
      else d
    | none => d) d

/-- The failed resends in a row of the flit on die `n`'s link, this one with them (R14). -/
def flitFails (n : Nat) (ok : Bool) (d : Dev) : Nat := if ok then 0 else mget d.fe.flitFails n + 1

/-- FLIT_RESEND: a flit of die `n`'s link is requested again; eight failed resends of one flit retrain the link (R14). -/
def flitResend (n : Nat) (ok : Bool) (d : Dev) : Dev :=
  if !domUp d (dDIG n) || !rb d .FE_STATUS n FE_STATUS.LINK_UP then d
  else
    let fails := flitFails n ok d
    let d := fe (fun x => { x with
      resends := mset n (sat32 (mget x.resends n + 1)) x.resends, flitFails := mset n (if fails < 8 then fails else 0) x.flitFails }) d
    if fails < 8 then d
    else occur (Src.DIE_LINK_RETRAIN n) n 0 0 (dieSegsAbsent n false 5 (sf .FE_STATUS n FE_STATUS.LINK_UP 0 d))

/-- DIE_LINK_UP: the link of die `n` delivers again, and its segments are rediscovered (R14, R120, R122). -/
def dieLinkUp (n : Nat) (d : Dev) : Dev :=
  if !domUp d (dDIG n) || rb d .FE_STATUS n FE_STATUS.LINK_UP then d
  else (List.range 4).foldl (fun d b => discover b d) (sf .FE_STATUS n FE_STATUS.LINK_UP 1 d)

/-! ### The ports at a hand-over (R30, R102, R107, R120, R128) -/

/-- The generators that a line of the active image would start and whose run has not ended at its T0, in units of 1/16 ns (R30, R107). -/
def overrunGens (start : Nat) (d : Dev) : List Nat :=
  (List.range 16).filter (fun g => decide (mget d.fe.runLine g ≠ 0) && decide (start < mget d.fe.runEnd g) &&
    (List.range 3).any (fun i => (segOfPort d (3 * g + i)).isSome))

/-- State changes into and out of LIVE take effect (R122, R123). The alignment history of a segment that enters LIVE starts with the lines
from here on (R140, log entry 86). -/
def segsHandover (d : Dev) : Dev :=
  (List.range 48).foldl (fun d s =>
    let l := (seg d s).st == .live && !bitOf d.fe.badTable s
    if l && !(seg d s).delivers then
      match segRec d s with
      | some r => setSeg s (fun x => { x with delivers := true })
          (fe (fun x => { x with seqFresh := (rPorts r).foldl (fun m p => putBit m p true) x.seqFresh })
            (esc (fun e => { e with discard := if e.discard.contains s then e.discard else e.discard ++ [s] }) d))
      | none => d
    else if l = (seg d s).delivers then d
    else setSeg s (fun x => { x with delivers := l }) d) d

/-- The ports of segments that are masked for a line formed now. -/
def maskedNow (d : Dev) : Nat :=
  (List.range 48).foldl (fun m s => match segRec d s with
    | some r => if (seg d s).delivers then m else (rPorts r).foldl (fun m p => putBit m p true) m
    | none => m) 0

/-- At T0 of a captured line every driven generator starts its run, of RUN_LEN steps from T0 + PG_DESKEW, and a window of each lane in
use opens (R107, R109, R116). A run still in progress as T0 is committed ends before it. The generators whose runs read the line are returned; one whose phase table is not valid starts none (R106). -/
def startRuns (line start : Nat) (d : Dev) : Dev × Nat :=
  let gens := (List.range 16).filter (fun g => rb d .PG_STATUS g PG_STATUS.OUT_EN &&
    (List.range 3).any (fun i => match segOfPort d (3 * g + i) with
      | some x => !bitOf d.fe.badTable x.1
      | none => false))
  let d1 := gens.foldl (fun d g =>
    let t := ((List.range 3).findSome? (fun i => (segOfPort d (3 * g + i)).map (fun x => rTable x.2))).getD 0
    let end_ := (start : Int) + leNat (Mem.readBytes d.tables (bankAddr 1 (bankIn d 1) (4096 * t)) 4) + sx 6 (rfIn d .PG_DESKEW g PG_DESKEW.DESKEW)
    let busy := decide (mget d.fe.runLine g ≠ 0)
    let begin_ := (start : Int) + sx 6 (rfIn d .PG_DESKEW g PG_DESKEW.DESKEW)
    sf .PG_STATUS g PG_STATUS.TABLE t (sf .PG_STATUS g PG_STATUS.RUNNING 1
      (fe (fun x => { x with
        runLine := if busy then x.runLine else mset g (line + 1) x.runLine
        runNext := if busy then mset g (line + 1) x.runNext else x.runNext
        runEnd := mset g end_.toNat x.runEnd
        runAt := mset g (begin_.toNat + 1) x.runAt, runBank := mset g (bankIn d 1 + 1) x.runBank }) d))) d
  let d2 := (List.range 48).foldl (fun d p => match segOfPort d p with
    | some (_, r) =>
      if !rSrc r 2 || laneState d p = 0 then d
      else if mget d.fe.winLine p = 0 then
        (let d := if laneState d p = 2 then d else maskRead r (lagLine line (rLag r)) d
         fe (fun x => { x with winLine := mset p (line + 1) x.winLine, winGot := putBit x.winGot p false
                               winAt := mset p (start + 16 * leAt r 44 4) x.winAt }) d)
      else fe (fun x => { x with winNext := mset p (line + 1) x.winNext }) d
    | none => d) d1
  (d2, gens.foldl (fun m g => m + 2 ^ g) 0)

/-- The segments with LAG 1 are masked in the last captured line, which no run reads any more (R108). -/
def maskLagged (only : Nat → Bool) (d : Dev) : Dev :=
  match d.esc.lines.getLast? with
  | none => d
  | some l => (List.range 48).foldl (fun d s => match segRec d s with
    | some r => if rLag r = 1 && only s then maskLine r l.num d else d
    | none => d) d

/-- What the polls of a line's hand-over keep for HEAD_REMOVED (R128). -/
def notePolls (line masked : Nat) (d : Dev) : Dev :=
  (List.range 48).foldl (fun d s => match segRec d s with
    | some r => setSeg s (fun x => { x with
        sincePoll := if x.sincePoll = 0 then line + 1 else x.sincePoll
        lastLine := if (rPorts r).any (fun p => bitOf masked p) then x.lastLine else line + 1 }) d
    | none => d) d

/-- The ports of segments whose head's last poll failed and that are not masked for a line formed now: its header marks them suspect (R128,
R156). -/
def suspectNow (masked : Nat) (d : Dev) : Nat :=
  (List.range 48).foldl (fun m s => match segRec d s with
    | some r =>
      if (seg d s).pollFailed && d.fe.heads.any (fun h => h.seg == s + 1) && !(rPorts r).any (fun p => bitOf masked p) then
        (rPorts r).foldl (fun m p => putBit m p true) m else m
    | none => m) 0

/-- An image activation, or its end: segments whose record changed are powered down, their heads unbound, and every released bus is
discovered; the drivers of generators that serve no port any more turn off PWR_TO_CLKOFF later (R120, R125). -/
def segsActivate (old new : Option Bytes) (d : Dev) : Dev :=
  let rec_ (i : Option Bytes) (s : Nat) : Option Bytes := i.bind (fun b => segRecOf b s)
  let changed := (List.range 48).filter (fun s => rec_ old s ≠ rec_ new s)
  let d := changed.foldl (fun d s =>
    let d := fe (fun x => { x with heads := x.heads.map (fun h => if h.seg = s + 1 then { h with seg := 0 } else h) }) d
    match rec_ old s with
    | some r => setSeg s (fun _ => { noSeg with offGens := genMask r })
        ((rPorts r).foldl (fun d p => setLane p 0 d) (maskWaiting r d))
    | none => setSeg s (fun x => { noSeg with offGens := x.offGens }) d) d
  (List.range 4).foldl (fun d b => discover b d) d

end Sys2Proof.Machine
end

