-- ==== Sys2Proof/Machine/Pipeline.lean ====
section
/-!
DEFINITION. Machine/Pipeline.lean: the nine stages of the line pipeline, its tables' validity and the line header (R132 to R157).
-/
namespace Sys2Proof.Machine

/-- The device with its pipeline state changed. -/
def pipe (f : Pipe → Pipe) (d : Dev) : Dev := { d with pipe := f d.pipe }

/-- `n` bytes of class `c`, bank `b`, from class byte `off`, as a number (R3, R151). -/
def tget (d : Dev) (c b off n : Nat) : Nat := leNat (Mem.readBytes d.tables (bankAddr c b off) n)

/-- round_nearest of a quotient (R132). -/
def rn2 (a b : Int) : Int := rdiv a b

/-- sat_w (R132), and whether it limited. -/
def satW (x : Int) : Int := clampI (-2097152) 2097151 x
def satHit (x : Int) : Nat := if x < -2097152 || 2097151 < x then 1 else 0

/-- The segments of an image in ascending order with their records. -/
def segList (i : Bytes) : List (Nat × Bytes) := (List.range 48).filterMap (fun s => (segRecOf i s).map (fun r => (s, r)))

/-- base(s) of R134. -/
def segBase (i : Bytes) (s : Nat) : Nat :=
  ((segList i).filter (fun x => decide (x.1 < s))).foldl (fun a x => a + rColumns x.2) 0

/-- The half that processes a segment: the half of its lowest-numbered port (R135). -/
def segHalf (r : Bytes) : Nat := (rPorts r).headD 0 / 24

/-- The per-pixel entry number (R134). -/
def entryNo (pl x : Nat) : Nat := pl * 262144 + x

/-- The number of a sample source: video channel or lane (R136). -/
def sourceNo (p src : Nat) : Nat := if src = 2 then 96 + p else 2 * p + src

/-! ### DRIFT values (R136, R143, R240) -/

/-- drift_offset of a source. -/
def driftOffset (d : Dev) (bank src : Nat) : Int := sx 16 (tget d 11 bank (0x100 + 2 * src) 2)

/-- drift_gain of an entry; the class memory holds it against 1.0 so that an unwritten entry is 1.0 (R143, R242). -/
def driftGain (d : Dev) (bank e : Nat) : Nat := (tget d 11 bank (262144 + 2 * e) 2).xor 32768

/-! ### Stages 1 and 2 (R136, R137) -/

/-- One code through stage 1. -/
def stage1 (offset odrift : Int) (gain c : Nat) : Int := rn2 ((16 * (c : Int) - offset - odrift) * gain) 16384

/-- Run record `m` of a source: COUNT, PLANE, ROW, START, STEP (R151). -/
def runRec (d : Dev) (bank src m : Nat) : Nat × Nat × Nat × Nat × Int :=
  let v := tget d 2 bank (0x1000 + 64 * src + 8 * m) 8
  (v % 2 ^ 20, v / 2 ^ 20 % 4, v / 2 ^ 22 % 8, v / 2 ^ 28 % 2 ^ 18, sx 4 (v / 2 ^ 46))

/-- RUNS of a source. -/
def srcRuns (d : Dev) (bank src : Nat) : Nat := tget d 2 bank (8 * src) 8 / 2 ^ 32 % 16

/-- D_r of a row of a segment. -/
def rowD (d : Dev) (bank s r : Nat) : Int := sx 32 (tget d 2 bank (0x4000 + 64 * s + 8 * r) 4)

/-- Places of the samples of one source, in arrival order: plane, row, segment column (R137). -/
def placesOf (d : Dev) (bank src : Nat) : List (Nat × Nat × Int) :=
  (List.range (srcRuns d bank src)).flatMap (fun m =>
    let r := runRec d bank src m
    (List.range r.1).map (fun (i : Nat) => (r.2.1, r.2.2.1, (r.2.2.2.1 : Int) + r.2.2.2.2 * (i : Int))))

/-- The values of a segment after stage 2, plane by plane and column by column, and how many saturated in stage 1. -/
def stage12 (d : Dev) (l : LineRec) (r : Bytes) (drift : Bool) : List Int × Nat :=
  let cols := rColumns r
  let b2 := l.banks.getD 2 0
  let b11 := l.banks.getD 11 0
  let placed : List (Nat × Int) := (rPorts r).flatMap (fun p => [0, 1, 2].flatMap (fun src =>
    if !rSrc r src then []
    else
      let no := sourceNo p src
      let rec_ := tget d 2 b2 (8 * no) 8
      let off := sx 16 rec_
      let gain := rec_ / 65536 % 65536
      let od := if drift then driftOffset d b11 no else 0
      let vals := (d.fe.samples.filter (fun s => s.line == l.num && s.port == p && s.src == src)).flatMap (·.vals)
      (List.zip (placesOf d b2 no) vals).map (fun x => (x.1.1 * cols + x.1.2.2.toNat, stage1 off od gain x.2))))
  let m := placed.foldl (fun m x => spSet 0 x.1 x.2 m) ([] : List (Nat × Int))
  ((List.range (rPlanes r * cols)).map (fun k => satW (spGet 0 k m)), placed.foldl (fun a x => a + satHit x.2) 0)

/-- The row of each (plane, column) of a segment (R137). -/
def rowsOf (d : Dev) (bank : Nat) (r : Bytes) : List (Nat × Nat) :=
  let cols := rColumns r
  (rPorts r).foldl (fun m p => [0, 1, 2].foldl (fun m src =>
    if rSrc r src then (placesOf d bank (sourceNo p src)).foldl (fun m x => mset (x.1 * cols + x.2.2.toNat) x.2.1 m) m else m) m) []

/-! ### Stage 3 (R138 to R140) -/

/-- H_r of a row (R139). -/
def histDepth (dr : Int) (pn pd : Nat) : Nat := ((-dr).toNat * pd + pn - 1) / pn + 2

/-- The two lines that bracket a target position: the latest at or before it, and the next after that. The history stands newest first. -/
def bracket (h : List HistLine) (target : Int) : Option (HistLine × Option HistLine) :=
  match h.find? (fun x => decide (x.pos ≤ target)) with
  | none => none
  | some j => some (j, (h.filter (fun x => decide (j.line < x.line))).getLast?)

/-- One aligned value. -/
def alignVal (j : HistLine) (j2 : Option HistLine) (target : Int) (k : Nat) : Int :=
  let v := j.vals.getD k 0
  match j2 with
  | none => v
  | some x =>
    let a := rn2 (256 * (target - j.pos)) (x.pos - j.pos)
    rn2 (v * 256 + (x.vals.getD k 0 - v) * a) 256

/-- The rows of a segment that hold a pixel (R137). -/
def usedRows (rows : List (Nat × Nat)) (r : Bytes) : List Nat :=
  (List.range 8).filter (fun q => rows.any (fun x => x.2 == q) || (q == 0 && decide (rows.length < rPlanes r * rColumns r)))

/-- A row of the history keeps its newest `n` lines (R139). -/
def keepRow (q : Nat) : Nat → List HistLine → List HistLine
  | _, [] => []
  | n, x :: t =>
    if !bitOf x.rows q then x :: keepRow q n t
    else match n with
      | 0 => { x with rows := putBit x.rows q false } :: keepRow q 0 t
      | m + 1 => x :: keepRow q m t

/-- The alignment history of a segment once line `l` of stage 2 values `v` has joined it: each used row keeps H_r lines (R139). -/
def joinHist (d : Dev) (l : LineRec) (i : Bytes) (s : Nat) (r : Bytes) (v : List Int) : List HistLine :=
  let b2 := l.banks.getD 2 0
  let used := usedRows (rowsOf d b2 r) r
  let all := ⟨s, l.num, l.pos, v, used.foldl (fun m q => putBit m q true) 0⟩ :: d.pipe.hist.filter (fun h => h.seg == s)
  (used.foldl (fun h q => keepRow q (histDepth (rowD d b2 s q) (max 1 (imgPitchN i)) (imgPitchD i)) h) all).filter
    (fun x => decide (x.rows ≠ 0))

/-- Stage 3 of a segment: the aligned values, or none where a row holds no line at its target; the flag says that a gap was bridged. -/
def stage3 (d : Dev) (l : LineRec) (s : Nat) (r : Bytes) (h : List HistLine) : Option (List Int) × Bool :=
  let b2 := l.banks.getD 2 0
  let rows := rowsOf d b2 r
  let used := usedRows rows r
  let br := (List.range 8).map (fun q =>
    if used.contains q then bracket (h.filter (fun x => bitOf x.rows q)) (l.pos + rowD d b2 s q) else none)
  if used.any (fun q => (br.getD q none).isNone) then (none, false)
  else
    let gap := used.any (fun q => match br.getD q none with
      | some (j, some j2) => decide (j.line + 1 < j2.line)
      | _ => false)
    (some ((List.range (rPlanes r * rColumns r)).map (fun k =>
      let q := mget rows k
      match br.getD q none with
      | some (j, j2) => alignVal j j2 (l.pos + rowD d b2 s q) k
      | none => 0)), gap)

/-! ### Stages 4 and 5 (R141 to R143) -/

def stage4 (dk : Nat) (coef dt v : Int) : Int := v - dk - rn2 (coef * dt) 16384
def stage5 (sh gd : Nat) (v : Int) : Int := rn2 (v * sh * gd) 134217728

/-- The temperature difference of a segment for a line: 0 where its DARK record has TEMP_NONE, TEMP_EN is 0 or no result is held. -/
def darkDt (d : Dev) (l : LineRec) (s : Nat) (tempEn : Bool) : Int :=
  let rec_ := tget d 3 (l.banks.getD 3 0) (16 * 262144 + 8 * s) 8
  if !tempEn || bitOf rec_ 21 then 0
  else match l.temps.find? (fun x => x.1 == s) with
    | some (_, t, _) => clampI (-32768) 32767 (t - sx 16 rec_)
    | none => 0

/-- Stages 4 and 5 of a segment's values, and the counts that saturated in each. -/
def stage45 (d : Dev) (l : LineRec) (i : Bytes) (s : Nat) (r : Bytes) (ctl : Word) (v : List Int) : List Int × Nat × Nat :=
  let dark := PIPE_CTRL.DARK_EN.get ctl == 1
  let shade := PIPE_CTRL.SHADE_EN.get ctl == 1
  let drift := PIPE_CTRL.DRIFT_EN.get ctl == 1
  let dt := darkDt d l s (PIPE_CTRL.TEMP_EN.get ctl == 1)
  let cols := rColumns r
  let base := segBase i s
  let o := v.zipIdx.map (fun x =>
    let e := entryNo (x.2 / cols) (base + x.2 % cols)
    let w := tget d 3 (l.banks.getD 3 0) (4 * e) 4
    let v4 := if dark then stage4 (w % 65536) (sx 16 (w / 65536)) dt x.1 else x.1
    let v5 := if shade then
        stage5 (tget d 4 (l.banks.getD 4 0) (2 * e) 2) (if drift then driftGain d (l.banks.getD 11 0) e else 32768) (satW v4)
      else satW v4
    (satW v5, if dark then satHit v4 else 0, if shade then satHit v5 else 0))
  (o.map (·.1), o.foldl (fun a x => a + x.2.1) 0, o.foldl (fun a x => a + x.2.2) 0)

/-! ### Stage 6 (R144 to R146) -/

/-- A seam record: X_START, IMG_FIRST, IMG_COUNT, SHIFT, PLACED (R151). -/
structure Seam where
  xStart : Nat
  imgFirst : Nat
  imgCount : Nat
  shift : Int
  placed : Bool

def seamRec (d : Dev) (bank s : Nat) : Seam :=
  let g (o n : Nat) := tget d 5 bank (32 * s + o) n
  ⟨g 0 4 % 2 ^ 18, g 4 4 % 2 ^ 18, g 8 4 % 2 ^ 19, sx 6 (g 12 1), bitOf (g 13 1) 0⟩

/-- The shifted value of image column `i`. -/
def seamShift (m : Seam) (img : List Int) (i : Nat) : Int :=
  let v := img.getD i 0
  if 0 ≤ m.shift then
    let n := img.getD (if i + 1 < m.imgCount then i + 1 else i) 0
    rn2 (v * 64 + (n - v) * m.shift) 64
  else
    let n := img.getD (if i = 0 then 0 else i - 1) 0
    rn2 (v * 64 + (v - n) * m.shift) 64

/-- A segment as stage 6 sees it: its seam record, whether it is masked, and its image columns plane by plane. -/
structure Placed where
  seam : Seam
  masked : Bool
  /-- The half that processes it (R135). -/
  half : Nat
  img : List (List Int)

/-- The placed segments that cover an assembly column, the one of lower X_START first. -/
def coverOf (ps : List Placed) (x : Nat) : List Placed :=
  match ps.filter (fun p => decide (p.seam.xStart ≤ x) && decide (x < p.seam.xStart + p.seam.imgCount)) with
  | p :: q :: t => if p.seam.xStart ≤ q.seam.xStart then p :: q :: t else q :: p :: t
  | t => t

/-- The half that counts an assembly column from stage 8 on: the half of the segment that covers it, in an overlap that of segment A (log
entry 85). -/
def colHalf (ps : List Placed) (x : Nat) : Nat :=
  match coverOf ps x with
  | p :: _ => p.half
  | [] => (ps.map (·.half)).foldl min 1

/-- One assembly column of one plane (R145, R146). -/
def seamCol (ps : List Placed) (fill : Int) (pl x : Nat) : Int :=
  let cover := coverOf ps x
  let u (p : Placed) : Int := seamShift p.seam (p.img.getD pl []) (x - p.seam.xStart)
  if cover.all (·.masked) then fill
  else match cover with
    | [] => fill
    | [p] => u p
    | a :: b :: _ =>
      let w : Int := (a.seam.xStart : Int) + a.seam.imgCount - b.seam.xStart
      let wb := if a.masked then 256 else if b.masked then 0 else rn2 (256 * (2 * ((x : Int) - b.seam.xStart) + 1)) (2 * w)
      rn2 ((if a.masked then 0 else u a) * (256 - wb) + (if b.masked then 0 else u b) * wb) 256

/-! ### Stages 7 to 9 (R147 to R150) -/

/-- The factor of PIPE_CTRL.AVG (R147). -/
def avgFactor (a : Nat) : Nat := [1, 2, 3, 4, 6, 8].getD a 1

/-- Stage 7 of one plane: groups of `f` columns, the last with what is left. -/
def stage7 (f : Nat) (v : List Int) : List Int :=
  (List.range ((v.length + f - 1) / f)).map (fun n =>
    let g := (v.drop (n * f)).take f
    rn2 (sumI g) g.length)

/-- One LUT (R149); the flag says that clamp limited the value. -/
def lutVal (d : Dev) (bank pl : Nat) (v : Int) : Int × Bool :=
  let x := clampI 0 1048575 v
  let i := (x / 1024).toNat
  let fr := x % 1024
  let t (k : Nat) : Int := tget d 6 bank (0x1000 * (pl + 1) + 2 * k) 2
  (rn2 (t i * 1024 + (t (i + 1) - t i) * fr) 1024, decide (x ≠ v))

/-- The clip of a tap (R150): the sample, and -1, 0 or 1 where it was limited below, not, or above. -/
def clipTap (v : Int) : Nat × Int :=
  let q := rn2 v 16
  if q < 0 then (0, -1) else if 65535 < q then (65535, 1) else (q.toNat, 0)

/-- Stage 8 of one column: the planes' values after the matrix, and how many saturated. -/
def stage8 (d : Dev) (bank : Nat) (on : Bool) (v : List Int) : List Int × Nat :=
  if !on || v.length < 3 then (v, 0)
  else
    let m (i j : Nat) : Int := sx 18 (tget d 6 bank (4 * (4 * i + j)) 4)
    let out := [0, 1, 2].map (fun i => rn2 (sumI ([0, 1, 2, 3].map (fun j => m i j * v.getD j 0))) 16384)
    (out.map satW ++ v.drop 3, out.foldl (fun a x => a + satHit x) 0)

/-- A corrected line: its header bytes, its two taps plane by plane, and which segments were masked. -/
structure Corrected where
  num    : Nat
  header : Bytes
  linear : List (List Nat)
  rendered : List (List Nat)
  /-- Whether a clip limited each sample of the linear tap, and of the rendered tap (R150). -/
  linClip : List (List Bool)
  renClip : List (List Bool)
  masked : Nat
  /-- Whether each column holds nothing but masked segments (R146). -/
  mask : List Bool

/-- The 64 bytes of a line header (R156). -/
def headerBytes (l : LineRec) (flags avg planes : Nat) : Bytes :=
  leBytes 7 l.num ++ leBytes 1 flags ++ leBytes 8 (ux 64 l.pos) ++ leBytes 8 (l.start / 16) ++
  (l.gens.flatMap (fun g => leBytes 2 g)) ++ leBytes 6 l.masked ++ leBytes 6 l.suspect ++
  leBytes 2 (min l.skipped 65535) ++ leBytes 1 (l.rung + 4 * avg + 32 * planes) ++ [0#8]

/-- The transpose of planes into columns. -/
def columnsOf (v : List (List Int)) (n : Nat) : List (List Int) := (List.range n).map (fun k => v.map (fun p => p.getD k 0))
def planesOf (v : List (List Int)) (n : Nat) : List (List Int) := (List.range n).map (fun p => v.map (fun c => c.getD p 0))

/-- Everything the samples of a line that is not masked must be there for (R154). -/
def lineReady (d : Dev) (l : LineRec) (i : Bytes) : Bool :=
  (segList i).all (fun x => (rPorts x.2).any (fun p => portMasked l p) ||
    hasSamples d l.num x.2)

/-- Saturations of stages 1, 4, 5 and 8 of a half (R133, R157). -/
def countSat (h i n : Nat) (d : Dev) : Dev := if n = 0 then d else addSat .PIPE_SAT (4 * h + i) n d

/-- The state a line needs of the registers in force at its hand-over. -/
def shadowOf (l : LineRec) (r : Reg) (i : Nat) : Word := spGet (r.reset i) (rkey r i) l.shadow

/-- Stages 1 to 5 of one segment: the device with its history and counters, the line's masked ports, whether a gap was bridged, the
saturations by stage, and the image columns. -/
def segStages (l : LineRec) (i : Bytes) (x : Nat × Bytes) (d : Dev) : Dev × Option (List Int) × Bool × List Nat :=
  let ctl := shadowOf l .PIPE_CTRL 0
  let s := x.1
  let r := x.2
  if (rPorts r).any (fun p => portMasked l p) then (d, none, false, [0, 0, 0])
  else
    let v2 := stage12 d l r (PIPE_CTRL.DRIFT_EN.get ctl == 1)
    let mine := joinHist d l i s r v2.1
    let d := pipe (fun p => { p with hist := mine ++ p.hist.filter (fun h => h.seg ≠ s) }) d
    let v3 := stage3 d l s r mine
    match v3.1 with
    | none => (d, none, false, [v2.2, 0, 0])
    | some v =>
      let v5 := stage45 d l i s r ctl v
      (d, some v5.1, v3.2, [v2.2, v5.2.1, v5.2.2])

/-- The nine stages of a line (R133): the device with its counters, and the corrected line. -/
def correctLine (l0 : LineRec) (i : Bytes) (d0 : Dev) : Dev × Corrected :=
  let ctl := shadowOf l0 .PIPE_CTRL 0
  let d := pipe (fun p => { p with hist := p.hist.filter (fun h => !l0.discard.contains h.seg) }) d0
  let segs := segList i
  -- stages 1 to 5, segment by segment
  let res := segs.foldl (fun (a : Dev × List (Nat × Bytes × Option (List Int) × Bool × List Nat)) x =>
    let o := segStages l0 i x a.1
    (o.1, a.2 ++ [(x.1, x.2, o.2.1, o.2.2.1, o.2.2.2)])) (d, [])
  let d := res.1
  let out := res.2
  let masked := out.foldl (fun m x => if x.2.2.1.isNone then (rPorts x.2.1).foldl (fun m p => putBit m p true) m else m) l0.masked
  let l := { l0 with masked := masked }
  let gap := out.any (fun x => x.2.2.2.1)
  let d := [0, 1].foldl (fun d h => [0, 1, 2].foldl (fun d k =>
    countSat h k ((out.filter (fun x => segHalf x.2.1 == h)).foldl (fun a x => a + x.2.2.2.2.getD k 0) 0) d) d) d
  -- stage 6
  let b5 := l.banks.getD 5 0
  let placed := out.filterMap (fun x =>
    let m := seamRec d b5 x.1
    if !m.placed then none
    else
      let cols := rColumns x.2.1
      let v := x.2.2.1.getD []
      some (⟨m, x.2.2.1.isNone, segHalf x.2.1, (List.range (rPlanes x.2.1)).map (fun pl => ((v.drop (pl * cols + m.imgFirst)).take m.imgCount))⟩,
        rPlanes x.2.1))
  let planes := ((placed.map (·.2)).headD ((segs.map (fun x => rPlanes x.2)).headD 1))
  let ps := placed.map (·.1)
  let first := tget d 5 b5 0x600 4 % 2 ^ 18
  let count := tget d 5 b5 0x604 4 % 2 ^ 19
  let v6 := (List.range planes).map (fun pl =>
    let fill : Int := 16 * (PIPE_FILL.FILL.get (shadowOf l .PIPE_FILL pl) : Nat)
    (List.range count).map (fun n => seamCol ps fill pl (first + n)))
  let dead := (List.range count).map (fun n => (coverOf ps (first + n)).all (·.masked))
  -- stage 7
  let avg := PIPE_CTRL.AVG.get ctl
  let f := avgFactor avg
  let v7 := v6.map (stage7 f)
  let n7 := (count + f - 1) / f
  -- stage 8
  let b6 := l.banks.getD 6 0
  let cctl := tget d 6 b6 0x30 4
  let o8 := (columnsOf v7 n7).map (stage8 d b6 (bitOf cctl 0))
  let v8 := planesOf (o8.map (·.1)) planes
  -- the taps; an output column counts in the half of its first line column
  let halves := (List.range n7).map (fun n => colHalf ps (first + n * f))
  let sat8 (h : Nat) : Nat := (List.zip halves o8).foldl (fun a x => if x.1 = h then a + x.2.2 else a) 0
  let lin := v7.map (·.map clipTap)
  let lut := bitOf cctl 1
  let ren : List (List (Nat × Int × Bool)) := v8.zipIdx.map (fun x => x.1.map (fun v =>
    if lut then (let y := lutVal d b6 x.2 v; (y.1.toNat, 0, y.2)) else (let y := clipTap v; (y.1, y.2, false))))
  let inHalf {α : Type} (h : Nat) (p : α → Bool) (c : List α) : Nat := ((List.zip halves c).filter (fun x => x.1 == h && p x.2)).length
  let d := [0, 1].foldl (fun d h =>
    let d := countSat h 3 (sat8 h) d
    (List.range planes).foldl (fun d pl =>
      let lp := lin.getD pl []
      let rp := ren.getD pl []
      let lo := inHalf h (fun x => x.2 == -1) lp + inHalf h (fun x => x.2.1 == -1) rp
      let hi := inHalf h (fun x => x.2 == 1) lp + inHalf h (fun x => x.2.1 == 1) rp
      let cl := inHalf h (fun x => x.2.2) rp
      let d := if lo = 0 then d else addSat .PIPE_CLIP_LO (4 * h + pl) lo d
      let d := if hi = 0 then d else addSat .PIPE_CLIP_HI (4 * h + pl) hi d
      if cl = 0 then d else addSat .PIPE_LUT_CLAMP (4 * h + pl) cl d) d) d
  let clip := lin.any (·.any (fun x => x.2 != 0)) || ren.any (·.any (fun x => x.2.1 != 0 || x.2.2))
  let clipIn (h : Nat) : Bool := lin.any (fun c => inHalf h (fun x => x.2 != 0) c != 0) ||
    ren.any (fun c => inHalf h (fun x => x.2.1 != 0) c != 0)
  let satIn (h : Nat) : Bool := decide (0 < sat8 h) ||
    out.any (fun x => segHalf x.2.1 == h && x.2.2.2.2.any (fun n => decide (0 < n)))
  let sat := satIn 0 || satIn 1
  let stale := l.temps.any (fun x => x.2.2)
  let d := [0, 1].foldl (fun d h => if satIn h then occur (Src.PIPE_SAT h) h l.num 0 d else d) d
  let d := [0, 1].foldl (fun d h => if clipIn h then occur (Src.PIPE_CLIP h) h l.num 0 d else d) d
  let d := if gap then
      let hs := [0, 1].filter (fun h => out.any (fun x => x.2.2.2.1 && segHalf x.2.1 == h))
      hs.foldl (fun d h => occur (Src.ALIGN_GAP h) h l.num 0 (incSat .PIPE_ALIGN_GAPS h d)) d
    else d
  let d := if bitOf cctl 0 && decide (planes < 3) && d.pipe.planeMarks.any (fun n => decide (n ≤ l.num)) then
      occur Src.PIPE_TABLE_INVALID 6 l.num 0 (pipe (fun p => { p with planeMarks := p.planeMarks.filter (fun n => decide (l.num < n)) }) d)
    else d
  let flags := b2n sat + 2 * b2n clip + 4 * b2n stale + 8 * b2n gap + 16 * b2n l.reversed + 32 * b2n l.ratioChanged
  let d := [0, 1].foldl (fun d h => wn .PIPE_LINE_DONE h l.num d) d
  (d, ⟨l.num, headerBytes l flags avg planes, lin.map (·.map (·.1)), ren.map (·.map (·.1)),
    lin.map (·.map (fun x => x.2 != 0)), ren.map (·.map (fun x => x.2.1 != 0)), masked,
    (List.range n7).map (fun n => ((dead.drop (n * f)).take f).all id)⟩)

/-! ### Validity of tables (R152) -/

/-- Whether the OFFGAIN table of a bank fits one segment (R152). -/
def offgainSegOk (d : Dev) (bank : Nat) (s : Nat) (r : Bytes) : Bool :=
  let cols := rColumns r
  let places := (rPorts r).flatMap (fun p => [0, 1, 2].flatMap (fun src =>
    if rSrc r src then placesOf d bank (sourceNo p src) else []))
  (rPorts r).all (fun p => [0, 1, 2].all (fun src => !rSrc r src ||
    (let no := sourceNo p src
     let h := tget d 2 bank (8 * no) 8
     let n := h / 2 ^ 32 % 16
     decide (h / 2 ^ 36 = 0) && decide (1 ≤ n) && decide (n ≤ 8) &&
     (List.range 8).all (fun m =>
       let v := tget d 2 bank (0x1000 + 64 * no + 8 * m) 8
       if m < n then decide (1 ≤ v % 2 ^ 20) && decide (v / 2 ^ 25 % 8 = 0) && decide (v / 2 ^ 50 = 0) && decide (v / 2 ^ 46 % 16 ≠ 0)
       else decide (v = 0)) &&
     decide ((placesOf d bank no).length = rSamples r src)))) &&
  places.all (fun x => decide (x.1 < rPlanes r) && decide (0 ≤ x.2.2) && decide (x.2.2 < cols)) &&
  (List.range (rPlanes r * cols)).all (fun k => (places.filter (fun x => x.1 * cols + x.2.2.toNat == k)).length == 1) &&
  (List.range 8).all (fun q => !places.any (fun x => x.2.1 == q) ||
    (decide (rowD d bank s q ≤ 0) && decide (tget d 2 bank (0x4000 + 64 * s + 8 * q) 8 / 2 ^ 32 = 0)))

/-- The alignment store use of a half for an OFFGAIN bank (R139). -/
def storeUse (d : Dev) (bank : Nat) (i : Bytes) (h : Nat) : Nat :=
  ((segList i).filter (fun x => segHalf x.2 == h)).foldl (fun a x =>
    let places := (rPorts x.2).flatMap (fun p => [0, 1, 2].flatMap (fun src =>
      if rSrc x.2 src then placesOf d bank (sourceNo p src) else []))
    (List.range 8).foldl (fun a q =>
      a + (places.filter (fun y => y.2.1 == q)).length * histDepth (rowD d bank x.1 q) (max 1 (imgPitchN i)) (imgPitchD i)) a) 0

/-- Whether LINE_FIRST and LINE_COLUMNS of a SEAM table are in their bounds and the reserved bytes beside them 0 (R151). -/
def seamCropOk (d : Dev) (bank : Nat) : Bool :=
  let first := tget d 5 bank 0x600 4
  let count := tget d 5 bank 0x604 4
  decide (first < 2 ^ 18) && decide (1 ≤ count) && decide (first + count ≤ 262144) && decide (tget d 5 bank 0x608 8 = 0) &&
    decide (tget d 5 bank 0x610 8 = 0) && decide (tget d 5 bank 0x618 8 = 0)

/-- Whether the SEAM table of a bank is valid against an image (R152). -/
def seamOk (d : Dev) (bank : Nat) (i : Bytes) : Bool :=
  let recs := (segList i).map (fun x => (x.2, seamRec d bank x.1, x.1))
  let placed := recs.filter (fun x => x.2.1.placed)
  let first := tget d 5 bank 0x600 4
  let count := tget d 5 bank 0x604 4
  let cov (x : Nat) : Nat := (placed.filter (fun p => decide (p.2.1.xStart ≤ x) && decide (x < p.2.1.xStart + p.2.1.imgCount))).length
  recs.all (fun x =>
    let g (o n : Nat) := tget d 5 bank (32 * x.2.2 + o) n
    decide (g 0 4 < 2 ^ 18) && decide (g 4 4 < 2 ^ 18) && decide (g 8 4 < 2 ^ 19) && decide (g 12 1 < 64) && decide (g 13 1 < 2) &&
    decide (g 14 2 = 0) && decide (g 16 8 = 0) && decide (g 24 8 = 0) &&
    (if x.2.1.placed then
       decide (1 ≤ x.2.1.imgCount) && decide (x.2.1.imgFirst + x.2.1.imgCount ≤ rColumns x.1) &&
       decide (x.2.1.xStart + x.2.1.imgCount ≤ 262144)
     else decide (g 0 4 = 0) && decide (g 4 4 = 0) && decide (g 8 4 = 0) && decide (g 12 1 = 0))) &&
  seamCropOk d bank &&
  placed.all (fun a => placed.all (fun b => decide (rPlanes a.1 = rPlanes b.1) &&
    (a.2.2 == b.2.2 ||
      (let a0 := a.2.1.xStart; let a1 := a0 + a.2.1.imgCount; let b0 := b.2.1.xStart; let b1 := b0 + b.2.1.imgCount
       decide (min a1 b1 - max a0 b0 ≤ 256) && !(decide (b0 ≤ a0) && decide (a1 ≤ b1)))))) &&
  (List.range count).all (fun n => decide (1 ≤ cov (first + n)) && decide (cov (first + n) ≤ 2)) &&
  placed.all (fun p => decide (cov p.2.1.xStart ≤ 2) && decide (cov (p.2.1.xStart + p.2.1.imgCount - 1) ≤ 2))

/-- Whether the COLOUR table of a bank has its reserved fields 0 (R152). -/
def colourOk (d : Dev) (bank : Nat) : Bool :=
  (List.range 12).all (fun k => decide (tget d 6 bank (4 * k) 4 < 2 ^ 18)) && decide (tget d 6 bank 0x30 4 < 4)

/-- Whether the DARK segment records of a bank have their reserved fields 0 (R152). -/
def darkOk (d : Dev) (bank : Nat) (i : Bytes) : Bool :=
  (segList i).all (fun x => decide (tget d 3 bank (16 * 262144 + 8 * x.1) 8 < 2 ^ 22))

/-- Whether a pipeline class's bank is valid against an image (R152). -/
def pipeTableOk (d : Dev) (c bank : Nat) (i : Bytes) : Bool :=
  if c = 2 then (segList i).all (fun x => offgainSegOk d bank x.1 x.2) && decide (storeUse d bank i 0 ≤ 4194304) &&
      decide (storeUse d bank i 1 ≤ 4194304)
  else if c = 3 then darkOk d bank i
  else if c = 5 then seamOk d bank i
  else if c = 6 then colourOk d bank
  else true

/-- Whether a pipeline class's bank is valid while no image is active: no record of a source, row or segment is used then (R151), and what
is left to check names no image. -/
def pipeTableOkIdle (d : Dev) (c bank : Nat) : Bool :=
  if c = 5 then seamCropOk d bank else if c = 6 then colourOk d bank else true

/-- The segments whose source or run records differ between two OFFGAIN banks: their alignment history is discarded (R140). -/
def offgainChanged (d : Dev) (i : Bytes) (b b' : Nat) : List Nat :=
  ((segList i).filter (fun x => (rPorts x.2).any (fun p => [0, 1, 2].any (fun src => rSrc x.2 src &&
    (tget d 2 b (8 * sourceNo p src) 8 != tget d 2 b' (8 * sourceNo p src) 8 ||
     tget d 2 b (0x1000 + 64 * sourceNo p src) 64 != tget d 2 b' (0x1000 + 64 * sourceNo p src) 64))))).map (·.1)

/-- PIPE_STORE_USED shows the alignment store the OFFGAIN table in force uses in a half (R139). -/
def showStore (i : Bytes) (h : Nat) (d : Dev) : Dev :=
  wn .PIPE_STORE_USED h (min (storeUse d (bankIn d 2) i h) (2 ^ 23 - 1)) d

/-- The segments the OFFGAIN table in force does not fit, and bit 48 where the SEAM table does not; with the store use (R139, R152). -/
def markTables (i : Bytes) (d : Dev) : Dev :=
  let bad := ((segList i).filter (fun x => !offgainSegOk d (bankIn d 2) x.1 x.2 ||
    decide (4194304 < storeUse d (bankIn d 2) i (segHalf x.2)))).foldl (fun m x => m + 2 ^ x.1) 0
  let seam := if seamOk d (bankIn d 5) i then 0 else 2 ^ 48
  let d := pipe (fun p => { p with badTable := bad + seam }) d
  [0, 1].foldl (fun d h => showStore i h d) d

/-- After an activation, what does not fit is masked and PIPE_TABLE_INVALID sets its flag (R152). -/
def recheckTables (i : Bytes) (d : Dev) : Dev :=
  let d := markTables i d
  let d := if d.pipe.badTable % 2 ^ 48 ≠ 0 then occur Src.PIPE_TABLE_INVALID 2 0 0 d else d
  if bitOf d.pipe.badTable 48 then occur Src.PIPE_TABLE_INVALID 5 0 0 d else d

/-- The ports masked because a table in force does not fit (R152). -/
def tableMasked (d : Dev) : Nat :=
  (List.range 48).foldl (fun m s => match segRec d s with
    | some r => if bitOf d.pipe.badTable s || bitOf d.pipe.badTable 48 then (rPorts r).foldl (fun m p => putBit m p true) m else m
    | none => m) 0

end Sys2Proof.Machine
end

