-- ==== Sys2Proof/Machine/Parcels.lean ====
section
/-!
DEFINITION. Machine/Parcels.lean: stream contexts, parcels, posted buffers, HBM parcel space, and how parcels become durable
(R50, R52, R57, R60, R64, R66, R215 to R221, R265 to R267).
-/
namespace Sys2Proof.Machine

/-- The device with its streams changed. -/
def strm (f : Strm → Strm) (d : Dev) : Dev := { d with strm := f d.strm }

/-! ### Contexts (R215) -/

def ctxState (d : Dev) (c : Nat) : Nat := rf d .PROD_CTX_STATUS c PROD_CTX_STATUS.STATE
def ctxKind (d : Dev) (c : Nat) : Nat := rf d .PROD_CTX_STATUS c PROD_CTX_STATUS.KIND
def ctxSize (d : Dev) (c : Nat) : Nat := rf d .PROD_CTX_PARCEL c PROD_CTX_PARCEL.BYTES
def produced (d : Dev) (c : Nat) : Nat := rf d .PROD_CTX_PRODUCED c PROD_CTX_PRODUCED.PARCEL
def durable (d : Dev) (c : Nat) : Nat := rf d .LEDG_DURABLE c LEDG_DURABLE.PARCEL

def emptyCtx (c flush : Nat) : Ctx := ⟨c, flush, [], 0, 0, 0, 0, false, 0, 0, [], false⟩

def findCtx (d : Dev) (c : Nat) : Option Ctx := d.strm.ctxs.find? (fun x => x.num == c)

/-- A context changed. -/
def onCtx (c : Nat) (f : Ctx → Ctx) (d : Dev) : Dev :=
  strm (fun s => { s with ctxs := s.ctxs.map (fun x => if x.num = c then f x else x) }) d

/-- A parcel changed. -/
def onParcel (c n : Nat) (f : Parcel → Parcel) (d : Dev) : Dev :=
  strm (fun s => { s with parcels := s.parcels.map (fun p => if p.ctx = c && p.num = n then f p else p) }) d

/-- A parcel that has reached the host and is not held is forgotten; one held on the restante stays until its release (R60, R270). -/
def dropDone (d : Dev) : Dev :=
  strm (fun s => { s with parcels := s.parcels.filter (fun p => !(p.host && p.held == 0 && p.spilling == 0)) }) d

/-- The lowest-numbered parcel of a context that satisfies a test. -/
def lowest (d : Dev) (c : Nat) (t : Parcel → Bool) : Option Parcel :=
  (d.strm.parcels.filter (fun p => p.ctx == c && t p)).foldl (fun a p => match a with
    | none => some p
    | some q => if p.num < q.num then some p else a) none

/-- The parcel number through which every parcel of a context passes a test (R62). -/
def through (d : Dev) (c : Nat) (t : Parcel → Bool) : Nat :=
  match lowest d c (fun p => !t p) with
  | some p => p.num - 1
  | none => produced d c

/-! ### Space (R58, R266, R278) -/

/-- Host-visible HBM in bytes (R25). -/
def hbmVisible : Nat := 63410065408

/-- Htot: host-visible space less the allocated reference regions. -/
def hTot (d : Dev) : Nat :=
  hbmVisible - ((List.range 16).map (fun r => rf d .CMPR_REGION_SIZE r CMPR_REGION_SIZE.BYTES)).foldl (· + ·) 0

/-- O: PARCEL_BYTES of resident parcels; a parcel being filled is in parcel space too (R265). -/
def hbmUsed (d : Dev) : Nat :=
  ((d.strm.parcels.filter (·.resident)).map (·.size)).foldl (· + ·) 0 +
  ((d.strm.ctxs.filter (fun c => !c.pend.isEmpty)).map (fun c => ctxSize d c.num)).foldl (· + ·) 0

/-- Hres and the unused restante reservations. -/
def hRes (d : Dev) : Nat := ((d.post.reserve.filter (fun r => !r.restante)).map (·.bytes)).foldl (· + ·) 0
def sRes (d : Dev) : Nat := ((d.post.reserve.filter (·.restante)).map (·.bytes)).foldl (· + ·) 0

/-- H (R58). -/
def hFree (d : Dev) : Nat := hTot d - (hbmUsed d + hRes d)

/-- Descriptors in use: every undelivered parcel has one (R265). -/
def descUsed (d : Dev) : Nat := (d.strm.parcels.filter (fun p => !p.host)).length

/-- The level (R266). -/
def levelOf (d : Dev) : Nat := min 1024 (max (1024 * hbmUsed d / max 1 (hTot d)) (1024 * descUsed d / 4194304))

/-! ### Restante capacity and rates (R273, R276, R278) -/

def rpMember : Nat := 5
def rpState (d : Dev) (p : Nat) : Nat := rf d .RP_PORT_STATUS p RP_PORT_STATUS.STATE

/-- Whether ports 2j and 2j + 1 are paired. -/
def paired (d : Dev) (p : Nat) : Bool := bitOf (rf d .RP_PAIRING 0 RP_PAIRING.PAIRS) (p / 2)

/-- The write unit of a port: the lower port of a pair, else the port. -/
def unitOf (d : Dev) (p : Nat) : Nat := if paired d p then p / 2 * 2 else p

/-- The ports of a write unit. -/
def unitPorts (d : Dev) (u : Nat) : List Nat := if paired d u then [u, u + 1] else [u]

/-- The write units (R278). -/
def writeUnits (d : Dev) : List Nat :=
  (List.range 4).filter (fun u => unitOf d u == u && (unitPorts d u).any (fun p => rpState d p == rpMember))

/-- Per-lane rate of a trained rate code (R278). -/
def laneRate (code : Nat) : Nat := [0, 218, 437, 875, 1750, 3500, 7000].getD code 0

/-- The drive of a port; it changed. -/
def drive (d : Dev) (p : Nat) : Drive := d.que.drives.getD p Drive.none_
def onDrive (p : Nat) (f : Drive → Drive) (d : Dev) : Dev := { d with que := { d.que with drives := modAt d.que.drives p f } }

/-- A drive's rate, from its trained rate and width (R278). -/
def driveRate (d : Dev) (p : Nat) : Nat :=
  let r := laneRate (drive d p).code * (drive d p).width
  let cap := rn d .RP_PORT_RATE_CAP p
  if cap ≠ 0 && cap < r then cap else r

/-- The least of a list of numbers; 0 of none. -/
def least (l : List Nat) : Nat :=
  match l with
  | [] => 0
  | x :: t => t.foldl min x

/-- A write unit's rate and parcel capacity: a pair takes the lower of its drives, one that has left keeping what it last had, one never
seen counting for nothing (R276, R278; log entry 107). -/
def unitRate (d : Dev) (u : Nat) : Nat := least (((unitPorts d u).filter (fun p => (drive d p).width != 0)).map (driveRate d))
def unitCap (d : Dev) (u : Nat) : Nat :=
  least (((unitPorts d u).filter (fun p => (drive d p).width != 0)).map (fun p => (drive d p).cap))

/-- P, in MB/s. -/
def restRate (d : Dev) : Nat := ((writeUnits d).map (unitRate d)).foldl (· + ·) 0

/-- Capacity of the restante, at most 64 TiB. -/
def restCap (d : Dev) : Nat := min (64 * 2 ^ 40) (((writeUnits d).map (unitCap d)).foldl (· + ·) 0)

/-- Restante blocks are 1 MiB and hold parcels of one context in consecutive numbers (R273). -/
def mib : Nat := 1048576

/-- The index entries of a write unit: those of a MEMBER drive, one that lacks none of its partner's where there is one. -/
def unitIndex (d : Dev) (u : Nat) : List IndexEntry :=
  let ps := (unitPorts d u).filter (fun p => rpState d p == rpMember)
  match ps.find? (fun p => !(drive d p).stale), ps.head? with
  | some p, _ => (drive d p).index
  | none, some p => (drive d p).index
  | none, none => []

/-- Bytes of the blocks that a write unit holds, and of all held blocks (R278). -/
def unitHeld (d : Dev) (u : Nat) : Nat := mib * (unitIndex d u).length
def heldBytes (d : Dev) : Nat := ((writeUnits d).map (unitHeld d)).foldl (· + ·) 0

/-- Whether the restante holds a parcel: on a drive that the device has counted and that has not left (R274, R275). -/
def heldBy (d : Dev) (q : Parcel) : Bool := q.unit != 0 && (bitsOf q.held 4).any (fun p => (drive d p).seen == 1)

/-- Blocks are freed once all their parcels are released or lost (R275, R282). -/
def freeBlocks (d : Dev) : Dev :=
  { d with que := { d.que with drives := d.que.drives.zipIdx.map (fun x =>
      if x.1.seen ≠ 1 then x.1
      else { x.1 with index := x.1.index.filter (fun e => d.strm.parcels.any (fun q =>
        q.ctx == e.ctx && decide (e.first ≤ q.num) && decide (q.num < e.first + e.count) && bitOf q.held x.2)) }) } }

/-- Contexts bound to a capture reserved on the restante, 1 MiB for each (R278). -/
def restBound (d : Dev) : Nat :=
  (d.strm.captures.filter (fun c => d.post.reserve.any (fun r => r.num == c.res && r.restante))).foldl
    (fun a c => a + mib * leAt c.set 0 1) 0

/-- S (R278). -/
def restFree (d : Dev) : Nat := restCap d - (heldBytes d + sRes d + restBound d)

/-- K in units of 1/100 MB/s (R59). -/
def linkRate100 (d : Dev) : Nat :=
  ([0, 3500, 7000, 14000, 28000, 60500, 121000].getD (rf d .GLB_STATUS 0 GLB_STATUS.LINK_RATE) 0) * 100 *
    rf d .GLB_STATUS 0 GLB_STATUS.LINK_WIDTH / 16

/-- The queue and root-port registers that show parcels and space (R289, R290). -/
def showSpace (d : Dev) : Dev :=
  let d := wn .QUE_HBM_CAP 0 (hTot d) (wn .QUE_HBM_USED 0 (hbmUsed d) (wn .QUE_HBM_RESERVED 0 (hRes d)
    (wn .QUE_DESC_USED 0 (descUsed d) d)))
  wn .RP_CAP 0 (restCap d) (wn .RP_HELD 0 (heldBytes d) (wn .RP_RESERVED 0 (sRes d) (wn .RP_FREE 0 (restFree d)
    (wn .RP_RATE 0 (restRate d) d))))

/-- The per-context queue registers of one context (R289). -/
def showCtx (c : Nat) (d : Dev) : Dev :=
  let mine := d.strm.parcels.filter (fun p => p.ctx == c)
  wn .QUE_CTX_HBM c (mine.filter (·.resident)).length
    (wn .QUE_CTX_DRIVE c (min 0xFFFFFFFF (mine.filter (fun p => heldBy d p && !p.back && !p.host)).length)
      (wn .QUE_CTX_HELD c (mine.filter (heldBy d)).length d))

/-! ### Filling and closing parcels (R220, R221) -/

/-- A parcel's header with DATA_ERR (R221). -/
def dataErr (b : Bytes) : Bytes :=
  let h := putBytes b 7 (leBytes 1 (putBit (leAt b 7 1) 1 true))
  putBytes h 28 (leBytes 4 (crc32c (putBytes h 28 (zeros 4))))

/-- The capture a context belongs to. -/
def capOf (d : Dev) (c : Nat) : Option Capture :=
  d.strm.captures.find? (fun x => decide (x.lead ≤ c) && decide (c < x.lead + leAt x.set 0 1))

/-- A part-filled or full parcel of `used` payload bytes is closed and sent (R220, R221). -/
def closeParcel (c used : Nat) (isEnd : Bool) (d : Dev) : Dev :=
  match findCtx d c with
  | none => d
  | some x =>
    let size := ctxSize d c
    let n := produced d c + 1
    let res := match capOf d c with
      | some k => k.res
      | none => 0
    let flags := b2n isEnd + 2 * b2n x.err + 4 * b2n (decide (used < size - 64)) + 8 * b2n x.rungStep
    let head (chk : Nat) : Bytes :=
      leBytes 4 0x4C435250 ++ leBytes 2 1 ++ leBytes 1 (ctxKind d c) ++ leBytes 1 flags ++ leBytes 7 n ++ [0#8] ++
      leBytes 2 c ++ zeros 2 ++ leBytes 4 used ++
      leBytes 4 (if x.firstRec = 0 then 0xFFFFFFFF else x.firstRec - 1) ++ leBytes 4 chk ++
      leBytes 7 (x.lowLine - 1) ++ [0#8] ++ leBytes 7 (x.highLine - 1) ++ [0#8] ++ leBytes 8 d.now ++ leBytes 4 res ++ zeros 4
    let body := x.pend.take used
    let p : Parcel :=
      ⟨c, n, size, head (crc32c (head 0 ++ body)) ++ body, res, x.low, true, 0, 0, 0, false, false, false,
        d.post.reserve.any (fun r => r.num == res && r.restante), []⟩
    let d := onCtx c (fun x => { x with
      pend := x.pend.drop used, since := d.now, firstRec := 0, lowLine := 0, highLine := 0, rungStep := false, low := 0, err := false }) d
    showCtx c (showSpace (wn .PROD_CTX_PRODUCED c n (strm (fun s => { s with parcels := s.parcels ++ [p] }) d)))

/-- Full parcels are closed while there are any; the part of a record that goes on keeps its line (R220). -/
def closeFull (line : Nat) (c : Nat) : Nat → Dev → Dev
  | 0, d => d
  | n + 1, d =>
    match findCtx d c with
    | none => d
    | some x =>
      if ctxSize d c - 64 ≤ x.pend.length && decide (64 < ctxSize d c) then
        let d := closeParcel c (ctxSize d c - 64) false d
        let d := onCtx c (fun y => if y.pend.isEmpty then y else { y with low := line + 1 }) d
        closeFull line c n d
      else d

/-- A record with its 32 B prefix is appended to a context's stream (R212, R220). The record refers to lines `lo` to `hi`. -/
def appendRec (c rkind rung group part limited page colFirst cols lo hi : Nat) (body : Bytes) (d : Dev) : Dev :=
  match findCtx d c with
  | none => d
  | some x =>
    let pad := (32 - body.length % 32) % 32
    let len := 32 + body.length + pad
    let rec_ := leBytes 4 len ++ leBytes 1 rkind ++ leBytes 1 (rung + 4 * group) ++ leBytes 1 (part + 2 * limited) ++ [0#8] ++
      leBytes 8 page ++ leBytes 4 colFirst ++ leBytes 4 cols ++ zeros 8 ++ body ++ zeros pad
    let at_ := x.pend.length
    let d := onCtx c (fun x => { x with
      pend := x.pend ++ rec_
      since := if x.pend.isEmpty then d.now else x.since
      firstRec := if x.firstRec = 0 then at_ + 1 else x.firstRec
      lowLine := if x.lowLine = 0 then lo + 1 else min x.lowLine (lo + 1)
      highLine := max x.highLine (hi + 1)
      rungStep := x.rungStep || (decide (x.rung ≠ 0) && decide (x.rung ≠ rung + 1))
      rung := rung + 1
      low := if x.low = 0 then lo + 1 else min x.low (lo + 1) }) d
    closeFull lo c (len / 64 + 2) (wn .PROD_CTX_LINE c (max hi (rf d .PROD_CTX_LINE c PROD_CTX_LINE.LINE)) d)

/-- PARCEL_FLUSH: FLUSH_US has passed since the first byte of a part-filled parcel (R221). -/
def parcelFlush (c : Nat) (d : Dev) : Dev :=
  match findCtx d c with
  | none => d
  | some x => if x.pend.isEmpty || !domUp d dDMA then d else closeParcel c x.pend.length false d

/-! ### Delivery (R50, R66, R267) -/

/-- The device may write parcels to host memory now. -/
def canDeliver (d : Dev) : Bool :=
  domUp d dPOST && domUp d dDMA && domUp d dEP && d.post.busMaster && !d.post.closing && !replaying d

/-- Parcels of a context being written to host buffers: at most 4 at a time (R265). -/
def inHead (d : Dev) (c : Nat) : Nat := (d.strm.parcels.filter (fun p => p.ctx == c && p.sent && !p.host)).length

/-- PARCEL_DELIVER: the lowest parcel of a context that has not begun to be written is written into posted buffer space, where the head of
its queue has a place (R265, R267). -/
def parcelDeliver (c : Nat) (d : Dev) : Dev :=
  if !canDeliver d || 4 ≤ inHead d c then d
  else match findCtx d c, lowest d c (fun p => !p.host && !p.sent) with
    | some x, some p =>
      match x.bufs.find? (fun b => decide (b.used + p.size ≤ b.len)) with
      | none => d
      | some b =>
        if !(p.resident || p.back) then d
        else
          let a := b.addr + b.used
          let d := { d with host := (Mem.clear d.host a p.size).writeBytes a (if p.ret.isEmpty then p.data else p.ret) }
          let d := onCtx c (fun x => { x with bufs := x.bufs.map (fun y =>
            if y.cmd = b.cmd && y.idx = b.idx then { y with used := y.used + p.size, last := p.num } else y) }) d
          onParcel c p.num (fun p => { p with sent := true }) d
    | _, _ => d

/-- The device can see a read to host memory complete: DMA already started ends also during the close (R66, R67). -/
def canReach (d : Dev) : Bool := domUp d dPOST && domUp d dDMA && domUp d dEP && d.post.busMaster && !replaying d

/-- PARCEL_REACHED_HOST: the read after a context's written parcel has completed, and a DELIVER record is staged (R62, R66). -/
def parcelReachedHost (c : Nat) (d : Dev) : Dev :=
  match lowest d c (fun p => !p.host) with
  | none => d
  | some p =>
    if !p.sent || !canReach d then d
    else
      let d1 := onParcel c p.num (fun p => { p with host := true, resident := false, back := false }) d
      let n := through d1 c (·.host)
      showCtx c (showSpace (dropDone (stageOrWait kDELIVER (pairBytes c n) d1)))

/-! ### Durability and the commands that wait for it (R50, R52, R66, R205, R217) -/

/-- The first line of a reservation's capture that is not durable in host memory: its streams and parcels hold nothing lower (R60). -/
def durableLine (d : Dev) (r : Reservation) : Nat :=
  let n := match d.strm.captures.find? (fun c => c.res == r.num) with
    | some c => leAt c.set 0 1
    | none => 0
  let lows := (d.strm.ctxs.filter (fun x => decide (r.ctx ≤ x.num) && decide (x.num < r.ctx + n) && x.low != 0)).map (fun x => x.low - 1) ++
    (d.strm.parcels.filter (fun p => p.res == r.num && p.low != 0 && (decide (durable d p.ctx < p.num) || !p.host))).map (fun p => p.low - 1)
  match lows with
  | [] => if r.ended then r.first + r.lines else match d.esc.lines with
    | [] => rf d .ESC_LINE 0 ESC_LINE.NUM
    | l :: _ => l.num
  | x :: t => t.foldl min x

/-- What is left of a reservation: F for each line not yet durable in host memory (R60). -/
def leftOf (d : Dev) (r : Reservation) : Nat :=
  if r.first = 0 then (if r.ended then 0 else r.bytes) else min r.bytes (r.f * (r.lines - (durableLine d r + 1 - r.first)))

/-- Reservations shrink; one whose capture has ended and that holds nothing more is given up with a RELEASE record (R60, R62). -/
def shrinkReserve (d : Dev) : Dev :=
  let d := { d with post := { d.post with reserve := d.post.reserve.map (fun (r : Reservation) => { r with bytes := leftOf d r }) } }
  d.post.reserve.foldl (fun (d : Dev) (r : Reservation) =>
    let held := (d.strm.parcels.filter (fun p => p.res == r.num && heldBy d p)).foldl (fun a p => a + p.size) 0
    let body := leBytes 4 r.num ++ zeros 4 ++ leBytes 8 held
    if r.ended && r.bytes == 0 && canStage kRELEASE body d then
      stage kRELEASE body { d with post := { d.post with reserve := d.post.reserve.filter (fun x => x.num ≠ r.num) } }
    else d) d

/-- A BUFFER_POST whose listed buffers are all filled and durable completes (R50). -/
def postDone (d : Dev) (c : Cmd) : Bool :=
  match findCtx d c.ctx with
  | none => true
  | some x => (x.bufs.filter (fun b => b.cmd == c.order)).all (fun b => b.used == b.len && decide (b.last ≤ durable d c.ctx))

/-- RESULT of a BUFFER_POST: the last parcel written and the bytes written. -/
def postResult (d : Dev) (c : Cmd) : Bytes :=
  match findCtx d c.ctx with
  | none => []
  | some x =>
    let l := x.bufs.filter (fun b => b.cmd == c.order)
    leBytes 8 (l.foldl (fun a b => max a b.last) 0) ++ leBytes 8 (l.foldl (fun a b => a + b.used) 0)

/-- A BUFFER_POST ends, and its buffers return. -/
def endPost (status : Nat) (c : Cmd) (d : Dev) : Dev :=
  complete c status 0 (postResult d c)
    (onCtx c.ctx (fun x => { x with bufs := x.bufs.filter (fun b => b.cmd ≠ c.order) }) d)

/-- How a BUFFER_POST ends: ABORTED where an ABORT has stopped it (R51). -/
def postStatus (c : Cmd) : Nat := if c.data.isEmpty then stOK else stABORTED

/-- ABORT of a started BUFFER_POST: buffers not begun return; the one being filled is completed first (R51). -/
def postAbort (c : Cmd) (d : Dev) : Dev :=
  let d := onCtx c.ctx (fun x => { x with bufs := x.bufs.filter (fun b => b.cmd ≠ c.order || b.used ≠ 0) }) d
  let filling := match findCtx d c.ctx with
    | some x => x.bufs.any (fun b => b.cmd == c.order && b.used != b.len)
    | none => false
  if filling then updCmd { c with data := [1] } d else endPost stABORTED c d

/-- The pairs (context, parcel number) a SYNC_DURABLE waits for stand in its data. -/
def pairsOf : List Nat → List (Nat × Nat)
  | a :: b :: t => (a, b) :: pairsOf t
  | _ => []

/-- A context becomes CLOSED: unfilled buffers return, and its registers forget it (R50, R215). -/
def closeContext (c : Nat) (d : Dev) : Dev :=
  let posts := d.post.cmds.filter (fun x => x.op == 0x42 && x.ctx == c && x.started)
  let d := posts.foldl (fun d x => endPost (postStatus x) x d) d
  wn .PROD_CTX_STATUS c 0 (wn .PROD_CTX_PARCEL c 0 (strm (fun s => { s with ctxs := s.ctxs.filter (fun x => x.num ≠ c) }) d))

/-- One started command that may wait for durability is examined. -/
def waitOne (c : Cmd) (d : Dev) : Dev :=
  if !c.started then d
  else if c.op = 0x42 then (if postDone d c then endPost (postStatus c) c d else d)
  else if c.op = 0x05 then
    (if (pairsOf c.data).all (fun p => decide (p.2 ≤ durable d p.1)) then
      completeOk c (leBytes 8 (if bitOf (leAt c.entry 8 1) 0 then 0 else durable d c.ctx)) d else d)
  else if c.op = 0x44 then
    (if produced d c.ctx ≤ durable d c.ctx then
      let n := produced d c.ctx
      completeOk c (leBytes 8 n) (closeContext c.ctx d) else d)
  else if c.op = 0x41 then
    (match d.strm.ended.find? (fun e => e.1 == c.order) with
     | some (_, last) =>
       if (pairsOf c.data).all (fun p => decide (p.2 ≤ durable d p.1)) && !c.data.isEmpty then
         completeOk c (leBytes 8 last) (strm (fun s => { s with ended := s.ended.filter (fun e => e.1 ≠ c.order) }) d)
       else d
     | none => d)
  else d

/-- Every command that waits for durability is examined, in fetch order. -/
def settleWaiting (d : Dev) : Dev := d.post.cmds.foldl (fun d c => waitOne c d) d

/-- LEDG_DURABLE[c] advances, and the mirror after it (R66). -/
def setDurable (c n : Nat) (d : Dev) : Dev :=
  if n ≤ durable d c then d
  else
    let d := wn .LEDG_DURABLE c n { d with post := { d.post with durNvs := mset c n d.post.durNvs } }
    if rb d .LEDG_MIRROR 0 LEDG_MIRROR.ENABLE then
      hostWrite (rf d .LEDG_MIRROR 0 LEDG_MIRROR.BASE * 4096 + 8 * c) (leBytes 8 n) d
    else d

/-- The pairs of a DELIVER or SPILL record. -/
def recPairs (b : Bytes) : List (Nat × Nat) :=
  (List.range 4).filterMap (fun i => let h := leAt b (10 * i) 2
    if 2 ^ 15 ≤ h then some (h - 2 ^ 15, leAt b (10 * i + 2) 7) else none)

/-- The journal has room for a record: it holds 1,048,576, and the oldest may be overwritten once a later CHECKPOINT covers it, the
record itself being one included (R61, R64). -/
def journalRoom (r : LRec) (l : List LRec) : Bool :=
  decide (l.length < 1048576) || (r :: l.take 1048575).any (fun x => x.kind == kCHECKPOINT)

/-- LEDGER_NVS_WRITE: the oldest staged record reaches the NVS journal, and a record that waits for room is staged (R61, R64). -/
def ledgerNvsWrite (d : Dev) : Dev :=
  if !domUp d dNVS then d
  else match d.post.backlog with
    | [] => stageWaiting d
    | r :: t =>
      if !journalRoom r d.post.journal then d
      else
      let d := stageWaiting { d with post := { d.post with backlog := t, journal := (r :: d.post.journal).take 1048576 } }
      let d := wn .LEDG_NVS_SEQ 0 r.seq d
      let d := if r.kind = kCHECKPOINT then wn .LEDG_CKPT_SEQ 0 r.seq d else d
      let d := if r.kind = kPOWER_CLOSE then sf .LEDG_STATUS 0 LEDG_STATUS.CLOSED 1 d else d
      if r.kind = kDELIVER || r.kind = kSPILL then
        settleWaiting (showSpace (shrinkReserve ((recPairs r.body).foldl (fun d p => setDurable p.1 p.2 d) d)))
      else d

/-! ### Context commands (R50, R52, R216, R217, R219, R283) -/

/-- CONTEXT_OPEN (R216, R283). Parcels of an earlier opening on a drive that has left are not held; they are lost (log entry 108). -/
def contextOpen (c : Cmd) (d : Dev) : Dev :=
  if ctxState d c.ctx ≠ 0 then complete c stCONTEXT 0 [] d
  else if d.strm.parcels.any (fun p => p.ctx == c.ctx && p.unit != 0 && (bitsOf p.held 4).any (fun k => (drive d k).seen != 2)) then
    complete c stSTATE dRP [] d
  else
    let d := strm (fun s => { s with
      ctxs := s.ctxs ++ [emptyCtx c.ctx (leAt c.entry 16 4)], parcels := s.parcels.filter (fun p => p.ctx ≠ c.ctx) }) d
    let d := sf .PROD_CTX_STATUS c.ctx PROD_CTX_STATUS.KIND (leAt c.entry 8 1) (sf .PROD_CTX_STATUS c.ctx PROD_CTX_STATUS.STATE 1 d)
    let d := wn .PROD_CTX_PARCEL c.ctx (leAt c.entry 12 4) (wn .PROD_CTX_PRODUCED c.ctx 0 (wn .PROD_CTX_LINE c.ctx 0 d))
    let d := wn .LEDG_DURABLE c.ctx 0 { d with post := { d.post with durNvs := mset c.ctx 0 d.post.durNvs } }
    let d := if rb d .LEDG_MIRROR 0 LEDG_MIRROR.ENABLE then
        hostWrite (rf d .LEDG_MIRROR 0 LEDG_MIRROR.BASE * 4096 + 8 * c.ctx) (zeros 8) d else d
    completeOk c [] d

/-- CONTEXT_CLOSE (R217): it waits until every parcel is durable. -/
def contextClose (c : Cmd) (d : Dev) : Dev :=
  if ctxState d c.ctx = 0 then complete c stCONTEXT 0 [] d
  else if ctxState d c.ctx = 2 then complete c stSTATE dFABRIC [] d
  else settleWaiting d

/-- BUFFER_POST (R50, R219). -/
def bufferPost (c : Cmd) (d : Dev) : Dev :=
  let n := c.block.length / 16
  let e (i o k : Nat) : Nat := leAt c.block (16 * i + o) k
  if ctxState d c.ctx = 0 then complete c stCONTEXT 0 [] d
  else match (List.range n).find? (fun i => e i 8 4 % max 1 (ctxSize d c.ctx) != 0) with
    | some i => complete c stPARAM (min 0xFF (0x40 + 16 * i + 8)) [] d
    | none =>
      settleWaiting (onCtx c.ctx (fun x => { x with
        bufs := x.bufs ++ (List.range n).map (fun i => (⟨c.order, e i 0 8, e i 8 4, 0, i, 0⟩ : Buf)) }) d)

/-- SYNC_DURABLE (R52): its data was set when it was fetched. -/
def syncDurable (c : Cmd) (d : Dev) : Dev :=
  if !bitOf (leAt c.entry 8 1) 0 && ctxState d c.ctx = 0 then complete c stCONTEXT 0 [] d
  else settleWaiting d

/-- Contexts and parcel numbers a SYNC_DURABLE covers at its admission (R52). -/
def syncTargets (d : Dev) (all : Bool) (ctx : Nat) : List Nat :=
  (d.strm.ctxs.filter (fun x => all || x.num == ctx)).flatMap (fun x => [x.num, produced d x.num])

end Sys2Proof.Machine
end

