-- ==== Sys2Proof/Machine/Captures.lean ====
section
/-!
DEFINITION. Machine/Captures.lean: captures and admission, product records, page marks, crops and line edges
(R49, R54, R58, R204 to R214, R218).
-/
namespace Sys2Proof.Machine

/-! ### The page rule (R193, R200) -/

/-- The rule in force without a TRIGGERS section (R193). -/
def defaultRule : Bytes :=
  [3#8, 1#8, 4#8, 0#8, 4#8, 0#8, 0#8, 0#8] ++ zeros 24 ++ leBytes 4 1 ++ leBytes 4 16777216 ++ zeros 24

/-- The records of the TRIGGERS section of an image (R193). -/
def trigRecs (i : Bytes) : List Bytes := (List.range (section_ i 8).2).map (record i 8 64)

/-- The page rule of an image, and of the active one (R193, R200). -/
def pageRuleOf (i : Bytes) : Bytes := ((trigRecs i).find? (fun r => leAt r 0 1 == 3)).getD defaultRule
def pageRule (d : Dev) : Bytes :=
  match activeImage d with
  | some i => pageRuleOf i
  | none => defaultRule

def prSheet (r : Bytes) : Bool := leAt r 1 1 == 1
def prEdge (r : Bytes) : Bool := bitOf (leAt r 6 1) 0
def prDarker (r : Bytes) : Bool := bitOf (leAt r 6 1) 1
def prLead (r : Bytes) : Bool := bitOf (leAt r 6 1) 2
def prPlane (r : Bytes) : Nat := leAt r 7 1 % 4
def prThr (r : Bytes) : Nat := leAt r 44 2

/-! ### Line edges (R206) -/

/-- Whether a sample is on the substrate. -/
def onSubstrate (rule : Bytes) (s : Nat) : Bool :=
  if prDarker rule then decide (s ≤ prThr rule) else decide (prThr rule ≤ s)

/-- LEFT and RIGHT of a line, in 1/16 column; none for a line without substrate. -/
def lineEdges (rule : Bytes) (c : Corrected) : Option (Int × Int) :=
  let v := c.linear.getD (prPlane rule) []
  let n := v.length
  let at_ (k : Nat) : Int := v.getD k 0
  let thr : Int := prThr rule
  let on := (List.range n).filter (fun k => onSubstrate rule (v.getD k 0) && !c.mask.getD k false)
  if !prEdge rule then none
  else match on.head?, on.getLast? with
    | some a, some b =>
      let l : Int := if a = 0 then 0 else 16 * ((a : Int) - 1) + rdiv2 (16 * (thr - at_ (a - 1))) (at_ a - at_ (a - 1))
      let r : Int := if b + 1 = n then 16 * n - 16 else 16 * b + rdiv2 (16 * (thr - at_ b)) (at_ (b + 1) - at_ b)
      some (l, r)
    | _, _ => none

/-! ### Captures -/

def findCap (d : Dev) (lead : Nat) : Option Capture := d.strm.captures.find? (fun c => c.lead == lead)

def onCap (lead : Nat) (f : Capture → Capture) (d : Dev) : Dev :=
  strm (fun s => { s with captures := s.captures.map (fun c => if c.lead = lead then f c else c) }) d

/-- The entries of a product set (R209). -/
def setEntries (set : Bytes) : Nat := leAt set 0 1
def eKind (set : Bytes) (e : Nat) : Nat := leAt set (16 + 16 * e) 1
def eFlag (set : Bytes) (e b : Nat) : Bool := bitOf (leAt set (17 + 16 * e) 1) b
def eFactor (set : Bytes) (e : Nat) : Nat := leAt set (18 + 16 * e) 1
def eStat (set : Bytes) (e : Nat) : Nat := leAt set (20 + 16 * e) 4
def eMargin (set : Bytes) (e : Nat) : Nat := leAt set (24 + 16 * e) 2
def eMax (set : Bytes) (e : Nat) : Nat := leAt set (26 + 16 * e) 2

/-- Whether a capture covers line `n`. -/
def covers (c : Capture) (n : Nat) : Bool :=
  decide (c.first ≠ 0) && decide (c.first ≤ n + 1) && (c.last == 0 || decide (n + 1 ≤ c.last))

/-- The capture's own rung (R285). -/
def ownRung (c : Capture) (rung : Nat) : Nat := min rung c.floor

/-- MAXF (R285). -/
def maxFloor (d : Dev) : Nat := d.strm.captures.foldl (fun a c => max a c.floor) 0

/-- PROD_CAPTURES shows the captures armed or running. -/
def showCaptures (d : Dev) : Dev :=
  sf .QUE_LADDER_STATUS 0 QUE_LADDER_STATUS.MAXF (maxFloor d) (wn .PROD_CAPTURES 0 d.strm.captures.length d)

/-! ### Record bodies (R213) -/

/-- A data row padded to a multiple of 32 B. -/
def padRow (b : Bytes) : Bytes := b ++ zeros ((32 - b.length % 32) % 32)

def samples16 (v : List Nat) : Bytes := v.flatMap (leBytes 2)

/-- The header of a group: that of its first present line, with flags, MASKED and SUSPECT joined and SKIPPED summed (R211). -/
def groupHeader (rows : List Row) : Bytes :=
  match rows with
  | [] => zeros 64
  | r :: _ =>
    let flags := rows.foldl (fun a x => a ||| (leAt x.header 7 1 % 64)) 0
    let orAt (o : Nat) : Nat := rows.foldl (fun a x => a ||| leAt x.header o 6) 0
    let skip := min 65535 (rows.foldl (fun a x => a + leAt x.header 60 2) 0)
    putBytes (putBytes (putBytes (putBytes r.header 7 (leBytes 1 flags)) 48 (leBytes 6 (orAt 48))) 54 (leBytes 6 (orAt 54)))
      60 (leBytes 2 skip)

/-- One plane of a G × G group: mean or maximum of the samples present (R211). -/
def groupPlane (g : Nat) (mx : Bool) (planes : List (List Nat)) : List Nat :=
  let c := (planes.headD []).length
  (List.range ((c + g - 1) / g)).map (fun j =>
    let v := planes.flatMap (fun p => (p.drop (g * j)).take g)
    if mx then v.foldl max 0 else (rdiv ((v.foldl (· + ·) 0 : Nat) : Int) v.length).toNat)

/-- The columns a product with CROP_TO_EDGES delivers of a line: first and count (R208). -/
def edgeCols (d : Dev) (r : Row) (g cols : Nat) : Nat × Nat :=
  match d.pages.sides with
  | some (page, line, left, right) =>
    if page = r.page && decide (line ≤ r.line) then
      let a := (fdiv left 16).toNat / g
      let b := min (cols - 1) (((fdiv (right + 15) 16).toNat + g - 1) / g)
      if a ≤ b then (a, b + 1 - a) else (0, cols)
    else (0, cols)
  | none => (0, cols)

/-- The place of a line in its groups: the last base at or before it, and the next base after a line (R211). -/
def baseOf (bases : List Nat) (n : Nat) : Nat := (bases.find? (fun b => decide (b ≤ n))).getD n
def nextBase (bases : List Nat) (n : Nat) : Option Nat := (bases.filter (fun b => decide (n < b))).getLast?

/-- Start of the group of `g` lines that holds line `n`. -/
def groupStart (bases : List Nat) (g n : Nat) : Nat :=
  let b := baseOf bases n
  b + (n - b) / g * g

/-- Log2 of a group's lines. -/
def log2g (g : Nat) : Nat := if g = 2 then 1 else if g = 4 then 2 else if g = 8 then 3 else 0

/-- A LINE or DIFF record of a group (R211, R213). -/
def emitGroup (lead e g : Nat) (rows : List Row) (d : Dev) : Dev :=
  match findCap d lead, rows with
  | some cap, r :: _ =>
    let diff := eKind cap.set e == 7
    let rung := ownRung cap (leAt r.header 62 1 % 4)
    let n := (r.planes).length
    let planes := (List.range n).map (fun p => groupPlane g diff (rows.map (fun x => x.planes.getD p [])))
    let cols := (planes.headD []).length
    let win := if eFlag cap.set e 2 then edgeCols d r g cols else (0, cols)
    let s := groupStart cap.bases g r.line
    let cut := match nextBase cap.bases s with
      | some b => decide (b < s + g)
      | none => false
    let part := b2n (cut || (cap.last != 0 && decide (cap.last < s + g)))
    let body := groupHeader rows ++ planes.flatMap (fun p => padRow (samples16 ((p.drop win.1).take win.2)))
    appendRec (cap.lead + e) (if diff then 7 else 1) rung (log2g g) part 0 r.page win.1 win.2 r.line
      ((rows.getLast?.map (·.line)).getD r.line) body d
  | _, _ => d

/-- The unmasked samples of a plane of a row. -/
def liveSamples (r : Row) (p : Nat) : List Nat :=
  ((r.planes.getD p []).zip (r.mask ++ List.replicate (r.planes.getD p []).length false)).filterMap (fun x => if x.2 then none else some x.1)

/-- Head of a COLSTAT or HIST record. -/
def statHead (rows : List Row) : Bytes :=
  let a := (rows.head?.map (·.line)).getD 0
  let b := (rows.getLast?.map (·.line)).getD 0
  let pl := (rows.head?.map (·.planes)).getD []
  leBytes 8 a ++ leBytes 8 b ++ leBytes 4 (pl.headD []).length ++ leBytes 1 pl.length ++ zeros 11

/-- A COLSTAT or HIST record of a window (R213). -/
def emitStat (lead e : Nat) (rows : List Row) (d : Dev) : Dev :=
  match findCap d lead, rows with
  | some cap, r :: _ =>
    let pl := r.planes.length
    let cols := (r.planes.headD []).length
    let body :=
      if eKind cap.set e = 4 then
        (List.range pl).flatMap (fun p => (List.range cols).flatMap (fun c =>
          let v := rows.filterMap (fun x => if x.mask.getD c false then none else (x.planes.getD p [])[c]?)
          leBytes 4 v.length ++ zeros 4 ++ leBytes 8 (v.foldl (· + ·) 0) ++ leBytes 8 (v.foldl (fun a s => a + s * s) 0)))
      else
        (List.range pl).flatMap (fun p =>
          let v := rows.flatMap (fun x => x.planes.getD p [])
          (List.range 256).flatMap (fun b => leBytes 4 (sat32 (v.filter (fun s => s / 256 == b)).length)))
    appendRec (cap.lead + e) (if eKind cap.set e = 4 then 4 else 8) (ownRung cap (leAt r.header 62 1 % 4)) 0 0 0 r.page 0 cols r.line
      ((rows.getLast?.map (·.line)).getD r.line) (statHead rows ++ body) d
  | _, _ => d

/-- One plane's statistics of a LINESTAT record; a plane without an unmasked column has no mean, least or greatest (log entry 6). -/
def linePlaneStat (k clipped : Nat) (v : List Nat) : Bytes :=
  match v with
  | [] => leBytes 4 (Config.emptyStat k) ++ leBytes 2 (Config.emptyStat (k + 1)) ++ leBytes 2 (Config.emptyStat (k + 2)) ++ zeros 4 ++
      leBytes 4 clipped
  | x :: t =>
    leBytes 4 (rdiv (16 * ((v.foldl (· + ·) 0 : Nat) : Int)) v.length).toNat ++ leBytes 2 (t.foldl min x) ++ leBytes 2 (t.foldl max x) ++
    leBytes 4 v.length ++ leBytes 4 clipped

/-- A LINESTAT record (R213). -/
def emitLineStat (lead e : Nat) (edges : Option (Int × Int)) (r : Row) (d : Dev) : Dev :=
  match findCap d lead with
  | none => d
  | some cap =>
    let st := (List.range 4).flatMap (fun p => if p < r.planes.length then linePlaneStat (d.fresh + 3 * p) (r.clips.getD p 0) (liveSamples r p) else zeros 16)
    let ed := match edges with
      | some (a, b) => leBytes 4 (ux 32 a) ++ leBytes 4 (ux 32 b)
      | none => leBytes 4 0x80000000 ++ leBytes 4 0x80000000
    appendRec (cap.lead + e) 5 (ownRung cap (leAt r.header 62 1 % 4)) 0 0 0 r.page 0 0 r.line r.line
      (r.header ++ st ++ ed ++ zeros 24) { d with fresh := d.fresh + 12 }

/-! ### A line's records (R204, R210, R211) -/

/-- The lines a group of an entry spans at a rung; 0 where the entry delivers nothing at it (R210). -/
def groupLines (set : Bytes) (e rung : Nat) : Nat :=
  let k := eKind set e
  if k = 1 || k = 7 then [1, 2, 4, 0].getD rung 0
  else if k = 2 then (if rung = 3 then 0 else 2 ^ eFactor set e)
  else 1

def accOf (c : Capture) (e : Nat) : List Row := c.acc.getD e []
def setAcc (lead e : Nat) (rows : List Row) (d : Dev) : Dev :=
  onCap lead (fun c => { c with acc := setAt c.acc e rows }) d

/-- What an entry keeps of a group or window is emitted, and forgotten. -/
def flushEntry (lead e : Nat) (d : Dev) : Dev :=
  match findCap d lead with
  | none => d
  | some cap =>
    match accOf cap e with
    | [] => d
    | r :: t =>
      let d := if eKind cap.set e = 4 || eKind cap.set e = 8 then emitStat lead e (r :: t) d
        else emitGroup lead e (max 1 (groupLines cap.set e (ownRung cap (leAt r.header 62 1 % 4)))) (r :: t) d
      setAcc lead e [] d

/-- A present line joins its entry's group or window, which is emitted before it where it belongs to the next one, and after it
where it is the last line number. -/
def feed (lead e g : Nat) (bases : List Nat) (row : Row) (d : Dev) : Dev :=
  match findCap d lead with
  | none => d
  | some cap =>
    let s := groupStart bases g row.line
    let d := match accOf cap e with
      | r :: _ => if s ≤ r.line then d else flushEntry lead e d
      | [] => d
    let old := match findCap d lead with
      | some c => accOf c e
      | none => []
    let d := setAcc lead e (old ++ [row]) d
    if row.line + 1 = s + g then flushEntry lead e d else d

/-- Whether an entry delivers a line: in a page, or with ALL_LINES (R204). -/
def wants (cap : Capture) (e : Nat) (page : Nat) : Bool := decide (page ≠ 0) || eFlag cap.set e 1

/-- The records a corrected line gives one entry. -/
def lineEntry (lin ren : Row) (edges : Option (Int × Int)) (diff : Option Row) (lead e : Nat) (d : Dev) : Dev :=
  match findCap d lead with
  | none => d
  | some cap =>
    let k := eKind cap.set e
    let row := if eFlag cap.set e 0 then ren else lin
    let rung := ownRung cap (leAt row.header 62 1 % 4)
    if !covers cap row.line || !wants cap e row.page then d
    else if k = 1 || k = 2 then (let g := groupLines cap.set e rung; if g = 0 then d else feed lead e g cap.bases row d)
    else if k = 7 then
      (match diff with
       | some r => let g := groupLines cap.set e rung; if g = 0 then d else feed lead e g cap.bases r d
       | none => d)
    else if k = 4 || k = 8 then feed lead e (eStat cap.set e) cap.pageBases (if k = 4 then lin else row) d
    else if k = 5 then emitLineStat lead e edges lin d
    else d

/-- The records a corrected line gives every capture. -/
def deliverLine (lin ren : Row) (edges : Option (Int × Int)) (diff : Option Row) (d : Dev) : Dev :=
  d.strm.captures.foldl (fun d cap =>
    (List.range (setEntries cap.set)).foldl (fun d e => lineEntry lin ren edges diff cap.lead e d) d) d

/-- A capture's rung at line `n` (R212, R285). -/
def rungAt (c : Capture) (n : Nat) : Nat :=
  match c.rungs.find? (fun x => decide (x.1 ≤ n)) with
  | some x => x.2
  | none => 0

/-- A record of the comparator, the registration or the edge fit, which refers to lines `lo` to `n`, goes to every capture that covers
line `n` (R210, R220). -/
def deliverRecord (kind rkind lo n page : Nat) (body : Bytes) (d : Dev) : Dev :=
  d.strm.captures.foldl (fun d cap =>
    (List.range (setEntries cap.set)).foldl (fun d e =>
      if eKind cap.set e = kind && covers cap n && wants cap e page then
        appendRec (cap.lead + e) rkind (rungAt cap n) 0 0 0 page 0 0 lo n body d
      else d) d) d

/-! ### Crops (R214) -/

/-- The bytes of a row's samples. -/
def rowBytes (r : Row) : Nat := 2 * r.planes.length * (r.planes.headD []).length

/-- The lines, newest first, whose two taps fit in what is left of the history. -/
def keepWithin : Nat → List (Row × Row) → List (Row × Row)
  | _, [] => []
  | left, x :: t =>
    let n := rowBytes x.1 + rowBytes x.2
    if left < n then [] else x :: keepWithin (left - n) t

/-- A corrected line enters the crop history of 1 GiB, which its two taps share (R25, R214; log entry 93). -/
def keepCrop (lin ren : Row) (d : Dev) : Dev :=
  let all := List.zip (lin :: d.strm.cropLin) (ren :: d.strm.cropRen)
  let kept := keepWithin (2 ^ 30) all
  strm (fun s => { s with
    cropLin := kept.map (·.1)
    cropRen := kept.map (·.2)
    cropGone := match all[kept.length]? with
      | some x => x.1.line + 1
      | none => s.cropGone }) d

/-- A page by number. -/
def pageByNum (d : Dev) (n : Nat) : Option PageRec :=
  match d.pages.cur with
  | some p => if p.num = n then some p else d.pages.past.find? (fun p => p.num == n)
  | none => d.pages.past.find? (fun p => p.num == n)

/-- The CROP record of a request (R213, R214). -/
def emitCrop (lead e : Nat) (q : CropReq) (d : Dev) : Dev :=
  match findCap d lead with
  | none => d
  | some cap =>
    let m := eMargin cap.set e
    let mx := eMax cap.set e
    let hist := (if eFlag cap.set e 0 then d.strm.cropRen else d.strm.cropLin).reverse
    let pg := pageByNum d q.page
    let pFirst := (pg.map (·.first)).getD 0
    let a := max (q.firstLine - m) pFirst
    let b0 := match pg with
      | some p => if p.last = 0 then q.lastLine + m else min (q.lastLine + m) (p.last - 1)
      | none => q.lastLine + m
    let b1 := min b0 (a + mx - 1)
    let rows := hist.filter (fun r => decide (a ≤ r.line) && decide (r.line ≤ b1))
    let cols := ((rows.head?.map (fun r => (r.planes.headD []).length))).getD 0
    let c0 := q.colFirst - m
    let c1 := min (q.colLast + m) (cols - 1)
    let cn := min mx (c1 + 1 - c0)
    let gone := decide (a < d.strm.cropGone)
    let limited := gone || decide (b1 < b0) || decide (cn < c1 + 1 - c0)
    let planes := (rows.head?.map (·.planes.length)).getD 0
    let first := (rows.head?.map (·.line)).getD a
    let head := leBytes 4 q.blob ++ leBytes 4 q.pageId ++ leBytes 8 first ++ leBytes 4 rows.length ++ leBytes 4 c0 ++ leBytes 4 cn ++
      leBytes 1 planes ++ leBytes 1 (b2n q.pageEnd) ++ zeros 34
    let body := rows.flatMap (fun r =>
      leBytes 8 r.line ++ (r.header.drop 8).take 8 ++ leBytes 1 (leAt r.header 7 1) ++ zeros 15 ++
      r.planes.flatMap (fun p => padRow (samples16 ((p.drop c0).take cn))))
    let last := (rows.getLast?.map (·.line)).getD first
    appendRec (cap.lead + e) 3 (rungAt cap last) 0 0 (b2n limited) q.page c0 cn first last (head ++ body) d

/-- The first crop an entry waits for is formed and forgotten. -/
def popCrop (lead e : Nat) (d : Dev) : Dev :=
  match findCap d lead with
  | none => d
  | some cap =>
    match cap.crops.getD e [] with
    | [] => d
    | q :: t => onCap lead (fun c => { c with crops := setAt c.crops e t }) (emitCrop lead e q d)

/-- Every crop of an entry up to the last one that belongs to a page, or all of them, is formed. -/
def popCrops (lead e : Nat) (now : CropReq → Bool) : Nat → Dev → Dev
  | 0, d => d
  | n + 1, d =>
    match findCap d lead with
    | none => d
    | some cap =>
      if (cap.crops.getD e []).any now then popCrops lead e now n (popCrop lead e d) else d

/-- A DEFECT blob asks every CROPS entry of the captures that cover its last line for a crop (R214). -/
def askCrop (q : CropReq) (d : Dev) : Dev :=
  strm (fun s => { s with captures := s.captures.map (fun c =>
    if covers c q.lastLine then
      { c with crops := c.crops.zipIdx.map (fun x => if eKind c.set x.2 = 3 then x.1 ++ [q] else x.1) }
    else c) }) d

/-- CROP_FORM: the first crop of some product whose last margin line has left stage 9 is formed (R214). -/
def cropForm (d : Dev) : Dev :=
  let done := rf d .PIPE_LINE_DONE 0 PIPE_LINE_DONE.LINE
  let due := d.strm.captures.findSome? (fun c => (List.range (setEntries c.set)).findSome? (fun e =>
    match c.crops.getD e [] with
    | q :: _ => if q.lastLine + eMargin c.set e ≤ done then some (c.lead, e) else none
    | [] => none))
  match due with
  | some (lead, e) => popCrop lead e d
  | none => d

/-! ### Page marks (R212) -/

/-- A mark's record into every context of one capture. -/
def markInto (m : Mark) (extra : Nat) (lead : Nat) (d : Dev) : Dev :=
  match findCap d lead with
  | none => d
  | some cap =>
    let body := leBytes 1 (if m.isOpen then 0 else 1) ++ leBytes 1 (m.flags ||| extra) ++ zeros 6 ++ leBytes 8 m.page ++ leBytes 7 m.line ++
      [0#8] ++ leBytes 8 (ux 64 m.pos)
    (List.range (setEntries cap.set)).foldl (fun d e =>
      appendRec (cap.lead + e) 11 (rungAt cap m.line) 0 0 0 m.page 0 0 m.line m.line body d) d

/-- What the entries of a capture keep of lines of a page is emitted, and its crops are formed (R211, R213, R214). -/
def flushPage (lead page : Nat) (d : Dev) : Dev :=
  match findCap d lead with
  | none => d
  | some cap =>
    (List.range (setEntries cap.set)).foldl (fun d e =>
      let d := match findCap d lead with
        | some c => if (accOf c e).any (fun r => r.page == page) then flushEntry lead e d else d
        | none => d
      popCrops lead e (fun q => q.page == page) 65536 d) d

/-- Whether every captured line below `n` has left every stage and its verdict path. -/
def linesDone (d : Dev) (n : Nat) : Bool := d.esc.lines.all (fun l => decide (n ≤ l.num) || (l.complete && l.verdict))

/-- Marks whose place in the streams has come are delivered, in order; the count bounds them. -/
def flushMarks : Nat → Dev → Dev
  | 0, d => d
  | n + 1, d =>
    match d.strm.marks with
    | [] => d
    | m :: t =>
      if linesDone d (if m.isOpen then m.line else m.line + 1) then
        let d := strm (fun s => { s with marks := t }) d
        flushMarks n (d.strm.captures.foldl (fun d cap =>
          if covers cap m.line then markInto m 0 cap.lead (if m.isOpen then d else flushPage cap.lead m.page d) else d) d)
      else d

/-- A mark is queued; it is delivered once its place has come and the captures of its line have begun. -/
def addMark (m : Mark) (d : Dev) : Dev := strm (fun s => { s with marks := s.marks ++ [m] }) d

/-! ### Captures at a hand-over (R204, R205, R211) -/

/-- JOINED or CUT in PROD_PAGE_STATUS of a page (R202). -/
def flagPage (num bits : Nat) (d : Dev) : Dev :=
  let f (p : PageRec) : PageRec := if p.num = num then { p with extra := p.extra ||| bits } else p
  let d := { d with pages := { d.pages with cur := d.pages.cur.map f, past := d.pages.past.map f } }
  if rn d .PROD_PAGE_NUM 0 = num then
    sf .PROD_PAGE_STATUS 0 PROD_PAGE_STATUS.FLAGS (rf d .PROD_PAGE_STATUS 0 PROD_PAGE_STATUS.FLAGS ||| bits) d
  else d

/-- A capture's bases at line number `n`, whose rung, page and position are given; a group starts where its own rung changes (R285). -/
def capBases (n rung page : Nat) (pos : Int) (c : Capture) : Capture :=
  if !covers c n then c
  else
    let start := c.first == n + 1
    let own := ownRung c rung
    { c with
      bases := if start || c.prevRung ≠ own + 1 || c.prevPage ≠ page + 1 then n :: c.bases.take 64 else c.bases
      pageBases := if start || c.prevPage ≠ page + 1 then n :: c.pageBases.take 64 else c.pageBases
      rungs := if start || c.prevRung ≠ own + 1 then (n, own) :: c.rungs else c.rungs
      prevRung := own + 1
      prevPage := page + 1
      lastPos := pos
      lastPage := page }

/-- Whether an armed capture begins at line `n`, at position `place`, with this page open, which opened at `opened` (R204). -/
def begins (c : Capture) (place : Int) (pg : Option PageRec) (n : Nat) : Bool :=
  c.first == 0 && (if c.atPos then decide (c.startPos ≤ place) else
    match pg with
    | some p => p.first == n && decide (c.armedPage < p.num)
    | none => false)

/-- The captures at the hand-over of line number `n`, of position `pos`: one that begins, joins the page already open (R204), and takes its place
in the reservations. -/
def capturesAt (n : Nat) (place pos : Int) (rung : Nat) (d : Dev) : Dev :=
  let pg := d.pages.cur
  let page := (pg.map (·.num)).getD 0
  d.strm.captures.foldl (fun d c =>
    let d := if begins c place pg n && c.stop ≠ 2 then
        let d := onCap c.lead (fun c => { c with
          first := n + 1
          last := if c.last = 0 then n + c.maxLines else min c.last (n + c.maxLines) }) d
        let d := { d with post := { d.post with reserve := d.post.reserve.map (fun (r : Reservation) =>
          if r.num = c.res then { r with first := n + 1 } else r) } }
        match pg with
        | some p => if p.first < n then flagPage p.num 32 (onCap c.lead (fun c => { c with joined := p.num }) d) else d
        | none => d
      else d
    let d := onCap c.lead (capBases n rung page pos) d
    match pg, findCap d c.lead with
    | some p, some x =>
      if x.first == n + 1 && x.joined == p.num && p.first < n then markInto ⟨true, p.num, p.flags, p.first, p.pos⟩ 32 c.lead d else d
    | _, _ => d) d

/-- A capture's end is set by a stop: its last line, or its first line where that lies later; a capture that has not begun
ends with none (R205). -/
def stopAt (lead : Nat) (line : Nat) (d : Dev) : Dev :=
  onCap lead (fun c => if c.first = 0 then { c with stop := 3 } else { c with last := min c.last (max c.first (line + 1)), stop := 0 }) d

/-- CAPTURE_STOP of MODE 2 acts at a hand-over: the last line is the one before it (R205). -/
def stopsAt (n : Nat) (d : Dev) : Dev :=
  d.strm.captures.foldl (fun d c =>
    if c.stop = 2 then stopAt c.lead (n - 1) d
    else if c.first = 0 && c.last ≠ 0 && c.last ≤ n then onCap c.lead (fun c => { c with stop := 3 }) d else d) d

/-- CAPTURE_STOP of MODE 1 acts at a page close with the page's last line (R205). -/
def stopsAtClose (last : Nat) (d : Dev) : Dev :=
  d.strm.captures.foldl (fun d c => if c.stop = 1 then stopAt c.lead last d else d) d

/-! ### The end of a capture (R60, R204, R205, R221) -/

/-- Whether a capture has ended: its last line and every one before it has left every stage; inside a page that goes on, the next
line number has been handed over. -/
def capOver (d : Dev) (c : Capture) : Bool :=
  if c.stop = 3 then true
  else
    let next := rf d .ESC_LINE 0 ESC_LINE.NUM
    let inside := match d.pages.cur with
      | some p => decide (p.first + 1 ≤ c.last)
      | none => false
    c.first != 0 && c.last != 0 && decide (c.last ≤ next) && linesDone d c.last && (!inside || decide (c.last < next))

/-- The page inside which a capture ends: that of its last line, where the page goes on after that line (R204). -/
def cutPage (c : Capture) (d : Dev) : Option PageRec :=
  if c.first = 0 || c.lastPage = 0 then none
  else match d.pages.cur with
    | some p => if p.num = c.lastPage then some p else d.pages.past.find? (fun p => p.num == c.lastPage && decide (c.last < p.last))
    | none => d.pages.past.find? (fun p => p.num == c.lastPage && decide (c.last < p.last))

/-- A capture ends: what it keeps is emitted, CUT marks the page it ends in, END parcels are sent, and its contexts return to OPEN.
One that ends before its lines are reached gives up what is left of its reservation (R60; log entry 72). -/
def endCapture (c : Capture) (d : Dev) : Dev :=
  let n := setEntries c.set
  let d := (List.range n).foldl (fun d e => popCrops c.lead e (fun _ => true) 65536 (flushEntry c.lead e d)) d
  let d := match cutPage c d with
    | some p => flagPage p.num 64 (markInto ⟨false, p.num, p.flags, c.last - 1, c.lastPos⟩ 64 c.lead d)
    | none => d
  let d := (List.range n).foldl (fun d e =>
    let x := c.lead + e
    let used := ((findCtx d x).map (·.pend.length)).getD 0
    sf .PROD_CTX_STATUS x PROD_CTX_STATUS.STATE 1 (onCtx x (fun y => { y with rung := 0 }) (closeParcel x used true d))) d
  let lines := if c.first = 0 then 0 else c.last + 1 - c.first
  let d := { d with post := { d.post with reserve := d.post.reserve.map (fun (r : Reservation) =>
    if r.num = c.res then { r with ended := true, lines := lines, bytes := if lines < r.lines then 0 else r.bytes } else r) } }
  let pairs := (List.range n).flatMap (fun e => [c.lead + e, produced d (c.lead + e)])
  let stops := d.post.cmds.filter (fun x => x.op == 0x41 && x.ctx == c.lead && x.started && x.data.isEmpty)
  let d := stops.foldl (fun d x => updCmd { x with data := pairs }
    (strm (fun s => { s with ended := s.ended ++ [(x.order, if c.first = 0 then 0 else c.last - 1)] }) d)) d
  let d := strm (fun s => { s with captures := s.captures.filter (fun x => x.lead ≠ c.lead) }) d
  settleWaiting (showSpace (shrinkReserve (showCaptures d)))

/-- Every capture that has ended is ended. -/
def endCaptures (d : Dev) : Dev := d.strm.captures.foldl (fun d c => if capOver d c then endCapture c d else d) d

/-! ### CAPTURE_START, CAPTURE_STOP, RESERVE_QUERY (R49, R54, R58, R205, R218) -/

/-- The command waits: nothing of it has started (R64). -/
def unstart (c : Cmd) (d : Dev) : Dev := updCmd { c with started := false } d

/-- Sheet mode of R58: the track source is a stepper axis. -/
def sheetMode (d : Dev) : Bool := d.esc.srcKind == 1

/-- Sum of W over armed captures reserved on the restante. -/
def sumW (d : Dev) : Nat :=
  ((d.post.reserve.filter (fun r => r.restante && !r.ended)).map (·.w)).foldl (· + ·) 0

/-- The outcome of admission (R58): a detail code, or whether the reservation is on the restante. -/
def admission (d : Dev) (r w : Nat) : Except Nat Bool :=
  if linkRate100 d * 10000 < w then .error 3
  else if r ≤ hFree d then .ok false
  else if restFree d < r then .error 1
  else if !sheetMode d && decide (restRate d * 1000000 * 15 < (sumW d + w) * 16) then .error 2
  else .ok true

/-- CAPTURE_START (R49, R58, R218). -/
def captureStart (c : Cmd) (d : Dev) : Dev :=
  let set := leAt c.entry 8 2
  match activeImage d with
  | none => complete c stSTATE dESC [] d
  | some i =>
    if (section_ i 6).2 ≤ set then complete c stBOUND 8 [] d
    else
      let s := record i 6 512 set
      let floor := leAt c.entry 10 1
      let l := leAt c.entry 16 4
      let fs := (List.range 4).map (fun r => leAt (record i 7 16 set) (4 * r) 4)
      let f := fs.getD floor 0
      let n := setEntries s
      let r := l * f
      let w := imgLineRate i * f
      if leAt s 4 4 < l then complete c stBOUND 16 [] d
      else if 2048 < c.ctx + n then complete c stBOUND 4 [] d
      else if (List.range n).any (fun e => ctxState d (c.ctx + e) != 1 || ctxKind d (c.ctx + e) != eKind s e) then
        complete c stCONTEXT 0 [] d
      else if 16 ≤ d.strm.captures.length then complete c stBOUND 0 [] d
      else match admission d r w with
        | .error k => complete c stNO_RESERVE k [] d
        | .ok rest =>
          let num := (d.post.lastReserve + 1) % 2 ^ 32
          let body := leBytes 4 num ++ leBytes 2 c.ctx ++ leBytes 1 (b2n rest) ++ [0#8] ++ leBytes 8 r ++ leBytes 4 f
          if !canStage kRESERVE body d then unstart c d
          else
            let d := stage kRESERVE body d
            let d := { d with post := { d.post with
              lastReserve := num
              reserve := d.post.reserve ++ [⟨num, c.ctx, rest, r, f, w, 0, l, false⟩] } }
            let d := (List.range n).foldl (fun d e => sf .PROD_CTX_STATUS (c.ctx + e) PROD_CTX_STATUS.STATE 2 d) d
            let cap : Capture := ⟨c.ctx, num, s, fs, floor, l, bitOf (leAt c.entry 11 1) 0, sx 64 (leAt c.entry 24 8), d.pages.num, 0, 0, 0, 0,
              [], [], List.replicate n [], List.replicate n [], 0, 0, 0, 0, []⟩
            let d := showSpace (showCaptures (strm (fun x => { x with captures := x.captures ++ [cap] }) d))
            completeOk c (leBytes 8 r ++ leBytes 4 num) d

/-- CAPTURE_STOP (R205): it completes when the END parcel of every context is durable. It replaces an earlier one, but for a capture that
has ended: whose last line has been handed over. -/
def captureStop (c : Cmd) (d : Dev) : Dev :=
  match findCap d c.ctx with
  | none => complete c stCONTEXT 0 [] d
  | some cap =>
    let mode := leAt c.entry 8 1
    let line := leAt c.entry 16 7
    let next := rf d .ESC_LINE 0 ESC_LINE.NUM
    let over_ := cap.stop == 3 || (cap.stop == 0 && cap.first != 0 && cap.last != 0 && decide (cap.last ≤ next))
    if over_ then endCaptures d
    else
    let d := onCap c.ctx (fun x => { x with stop := 0, last := if x.first = 0 then 0 else x.first + x.maxLines - 1 }) d
    let d :=
      if mode = 1 then onCap c.ctx (fun x => { x with stop := 1 }) d
      else if mode = 2 || line + 1 < next then onCap c.ctx (fun x => { x with stop := 2 }) d
      else if cap.first = 0 then onCap c.ctx (fun x => { x with last := line + 1 }) d
      else stopAt c.ctx line d
    endCaptures d

/-- K in whole MB/s, as RESERVE_QUERY gives it: R54 states no rounding of it (log entry 80). -/
def kWhole (d : Dev) : Nat :=
  let k := linkRate100 d
  if k % 100 = 0 || Config.kRound d.fresh = 0 then k / 100 else k / 100 + 1

/-- RESERVE_QUERY (R54). -/
def reserveQuery (c : Cmd) (d : Dev) : Dev :=
  let b := leBytes 8 (hFree d) ++ leBytes 8 (restFree d) ++ leBytes 8 (hRes d) ++ leBytes 8 (sRes d) ++ leBytes 4 (restRate d) ++
    leBytes 4 ((sumW d + 999999) / 1000000) ++ leBytes 4 (kWhole d) ++ leBytes 1 d.strm.captures.length ++ zeros 19
  let a := leAt c.entry 8 8
  completeOk c (b.take 16) (if a = 0 then useFresh d else hostWrite a b (useFresh d))

end Sys2Proof.Machine
end

