-- ==== Sys2Proof/Machine/Ratio.lean ====
section
/-!
DEFINITION. Machine/Ratio.lean: the ratiometric outputs: what their sources deliver, and their faults (R359, R360).
-/
namespace Sys2Proof.Machine

/-- ENABLE, TIMEOUT_EN and FAULT_ON_OPEN of an output. -/
def ratioFlag (d : Dev) (o bit : Nat) : Bool := bitOf (rf d .AUX_RATIO_CFG o AUX_RATIO_CFG.FLAGS) bit

/-- The code of a value (R359). -/
def ratioCode (d : Dev) (o : Nat) (value : Int) : Nat :=
  (clampI 0 65535 (rdiv (value * rs32 d .AUX_RATIO_SCALE o) 65536 + rs32 d .AUX_RATIO_OFFSET o)).toNat

/-- An output enters fault and drives FAULT_CODE (R360). -/
def ratioFault (o : Nat) (d : Dev) : Dev :=
  if rb d .AUX_RATIO_STATE o AUX_RATIO_STATE.FAULT then d
  else
    let d := sf .AUX_RATIO_STATE o AUX_RATIO_STATE.CODE (rf d .AUX_RATIO_FAULT o AUX_RATIO_FAULT.CODE)
      (sf .AUX_RATIO_STATE o AUX_RATIO_STATE.FAULT 1 d)
    occur (Src.RATIO_FAULT (o / 4)) (o / 4 : Nat) o 0 d

/-- A source delivers a value: every output that names it updates. An AUX result tagged OPEN leaves a fault standing, and starts one
where FAULT_ON_OPEN is 1 (R359, R360). -/
def ratioUpdate (kind num : Nat) (value : Int) (isOpen : Bool) (d : Dev) : Dev :=
  (List.range 8).foldl (fun d o =>
    if !domUp d (dANA (o / 4)) || rf d .AUX_RATIO_CFG o AUX_RATIO_CFG.KIND != kind || rf d .AUX_RATIO_CFG o AUX_RATIO_CFG.NUM != num
    then d
    else if isOpen && rb d .AUX_RATIO_STATE o AUX_RATIO_STATE.FAULT then d
    else if isOpen && ratioFlag d o 0 && ratioFlag d o 2 then ratioFault o d
    else
      sf .AUX_RATIO_STATE o AUX_RATIO_STATE.FAULT 0 (sf .AUX_RATIO_STATE o AUX_RATIO_STATE.CODE (ratioCode d o value) d)) d

/-- RATIO_TIMEOUT: TIMEOUT_MS has passed without an update of output `o` (R360). -/
def ratioTimeout (o : Nat) (d : Dev) : Dev :=
  if domUp d (dANA (o / 4)) && ratioFlag d o 0 && ratioFlag d o 1 then ratioFault o d else d

end Sys2Proof.Machine
end

