-- ==== Sys2Proof/Machine/Compare.lean ====
section
/-!
DEFINITION. Machine/Compare.lean: reference pages, expected values, registration, blobs, verdicts, actuations and colour windows
(R158 to R192).
-/
namespace Sys2Proof.Machine

/-- The device with its comparator changed. -/
def cmpr (f : Cmpr → Cmpr) (d : Dev) : Dev := { d with cmpr := f d.cmpr }

/-! ### Reference pages and regions (R159 to R163) -/

def regionBase (d : Dev) (r : Nat) : Nat := rf d .CMPR_REGION_BASE r CMPR_REGION_BASE.OFFSET
def regionSize (d : Dev) (r : Nat) : Nat := rf d .CMPR_REGION_SIZE r CMPR_REGION_SIZE.BYTES

/-- PIX_BYTES (R159). -/
def pixBytes (chans bits : Nat) : Nat := if chans * bits ≤ 8 then 1 else if chans * bits ≤ 16 then 2 else 4

/-- The page record of 64 header bytes. -/
def refOf (region offset : Nat) (h : Bytes) : RefPage :=
  ⟨region, offset, leAt h 8 4, leAt h 32 8, leAt h 6 1, 2 ^ leAt h 7 1, leAt h 12 4, leAt h 16 4, leAt h 20 4, leAt h 24 4⟩

/-- The first failing header check of a page: none, or its status (R159, R162). -/
def refHeaderCheck (h : Bytes) (sum : Option Nat) : Option Nat :=
  let p := refOf 0 0 h
  let row := p.width * pixBytes p.chans p.bits
  let cells := ((p.width + 3) / 4 + 1) / 2
  let checks : List (Bool × Nat) :=
    [(leAt h 0 4 == 0x31464552, stPARAM), (leAt h 4 2 == 1, stPARAM), (decide (1 ≤ p.chans) && decide (p.chans ≤ 4), stPARAM),
     (decide (leAt h 7 1 ≤ 3), stPARAM), (decide (p.width ≠ 0), stPARAM), (decide (p.width ≤ 262144), stBOUND),
     (decide (p.rows ≠ 0), stPARAM), (decide (p.rows ≤ 16777216), stBOUND),
     (p.rowStride % 64 == 0 && decide (row ≤ p.rowStride), stPARAM),
     (p.mapStride == 0 || (p.mapStride % 64 == 0 && decide (cells ≤ p.mapStride)), stPARAM),
     (p.length == 64 + p.rows * p.rowStride + (p.rows + 3) / 4 * p.mapStride && (sum == none || sum == some p.length), stPARAM),
     (zeroIn h 40 64, stPARAM)]
  (checks.find? (fun c => !c.1)).map (·.2)

/-- CRC-32C of a page with its CHECK field taken as 0. -/
def refCheck (b : Bytes) : Nat := crc32c (putBytes b 28 (zeros 4))

/-- Whether two ranges of a region overlap. -/
def rangesMeet (a n b m : Nat) : Bool := decide (a < b + m) && decide (b < a + n)

/-- The bound pages of a region: those that some page of the comparator still follows, be they loaded or not (R164, log entry 88). -/
def boundIn (d : Dev) (r : Nat) : List RefPage := (d.cmpr.tracks.filterMap (·.ref)).filter (fun p => p.region == r)

/-- Whether `n` bytes at `a` lie in the host-visible space and outside every allocated region. -/
def placeFree (d : Dev) (n a : Nat) : Bool :=
  decide (a + n ≤ hbmVisible) &&
    (List.range 16).all (fun r => regionSize d r == 0 || !rangesMeet a n (regionBase d r) (regionSize d r))

/-- A free place of `n` bytes: any, where there is one, since R161 does not say which (log entry 15). -/
def findPlace (d : Dev) (n : Nat) : Option Nat :=
  let a := Config.anyOf (d.fresh + 1)
  if placeFree d n a then some a
  else (0 :: (List.range 16).map (fun r => regionBase d r + regionSize d r)).find? (placeFree d n)

/-- The numbers of regions that are not allocated. -/
def freeRegions (d : Dev) : List Nat := (List.range 16).filter (fun r => regionSize d r == 0)

/-- REF_ALLOC (R161). -/
def refAlloc (c : Cmd) (d : Dev) : Dev :=
  let n := (leAt c.entry 8 8 + 2097151) / 2097152 * 2097152
  match pickFree d (freeRegions d) with
  | none => complete c stBOUND 8 [] d
  | some r =>
    if hFree d < n then complete c stBOUND 8 [] d
    else match findPlace d n with
      | none => complete c stBOUND 8 [] d
      | some a =>
        completeOk c (leBytes 1 r ++ zeros 7 ++ leBytes 8 a)
          (showSpace (wn .CMPR_REGION_BASE r a (wn .CMPR_REGION_SIZE r n (useFresh (useFresh d)))))

/-- REF_FREE (R163). A region that is not allocated holds no page, and nothing is returned. -/
def refFree (c : Cmd) (d : Dev) : Dev :=
  let r := leAt c.entry 8 1 % 16
  if (boundIn d r).length ≠ 0 then complete c stSTATE dCOMPARE [] d
  else completeOk c []
    (showSpace (wn .CMPR_REGION_BASE r 0 (wn .CMPR_REGION_SIZE r 0 (cmpr (fun x => { x with refs := x.refs.filter (fun p => p.region ≠ r) }) d))))

/-- REF_LOAD (R162): the bytes of its sources are given. -/
def refLoad (content : Fetch) (c : Cmd) (d : Dev) : Dev :=
  let b := c.block
  let r := leAt b 0 1 % 16
  let inPlace := bitOf (leAt b 1 1) 0
  let off := leAt b 8 8
  let e := (b.length - 16) / 16
  let sum := ((List.range e).map (fun i => leAt b (16 + 16 * i + 8) 4)).foldl (· + ·) 0
  let base := regionBase d r + off
  if (inPlace && b.length ≠ 16) || (!inPlace && (b.length < 32 || b.length % 16 ≠ 0)) then complete c stPARAM 16 [] d
  else if regionSize d r = 0 then complete c stSTATE dCOMPARE [] d
  else
    let n := if inPlace then leNat (Mem.readBytes d.hbm (base + 32) 8) else sum
    if regionSize d r < off + n then complete c stBOUND 0x48 [] d
    else
      let ovf := d.cmpr.refs.filter (fun p => p.region == r && rangesMeet off n p.offset p.length)
      if (boundIn d r).any (fun p => rangesMeet off n p.offset p.length) then complete c stSTATE dCOMPARE [] d
      else
        let d := cmpr (fun x => { x with refs := x.refs.filter (fun p => !(ovf.contains p)) }) d
        match content, inPlace with
        | .failed cause, false => complete c stDMA_ERR cause [] d
        | _, _ =>
          let d := match content, inPlace with
            | .ok bytes, false => { d with hbm := (Mem.clear d.hbm base sum).writeBytes base (fitBytes sum bytes) }
            | _, _ => d
          let page := Mem.readBytes d.hbm base n
          let detail := if inPlace then 0x48 else 0x50
          match refHeaderCheck page (if inPlace then none else some sum) with
          | some st => complete c st detail [] d
          | none =>
            if leAt page 28 4 ≠ refCheck page then complete c stINTEGRITY 0 [] d
            else
              let p := refOf r off page
              let d := cmpr (fun x => { x with refs := x.refs.filter (fun q => !(q.region == r && q.id == p.id)) ++ [p] }) d
              completeOk c (leBytes 8 n ++ leBytes 4 (refCheck page) ++ leBytes 4 p.id) d

/-! ### Reference pixels (R159, R160) -/

/-- The inks of reference pixel (u, w), expanded to 8 bits; bare substrate outside the page (R159, R168). -/
def inkAt (d : Dev) (p : RefPage) (u w : Int) : List Nat :=
  if u < 0 || w < 0 || (p.width : Int) ≤ u || (p.rows : Int) ≤ w then List.replicate p.chans 0
  else
    let pb := pixBytes p.chans p.bits
    let v := leNat (Mem.readBytes d.hbm (regionBase d p.region + p.offset + 64 + w.toNat * p.rowStride + u.toNat * pb) pb)
    (List.range p.chans).map (fun c => (v / 2 ^ (c * p.bits)) % 2 ^ p.bits * 255 / (2 ^ p.bits - 1))

/-- The region of reference pixel (u, w) (R160, R176). -/
def regionAt (d : Dev) (p : RefPage) (u w : Int) : Nat :=
  if u < 0 || w < 0 || (p.width : Int) ≤ u || (p.rows : Int) ≤ w then 0
  else if p.mapStride = 0 then 1
  else
    let cu := u.toNat / 4
    let b := (d.hbm.read (regionBase d p.region + p.offset + 64 + p.rows * p.rowStride + w.toNat / 4 * p.mapStride + cu / 2)).toNat
    if cu % 2 = 0 then b % 16 else b / 16

/-! ### The 4-D and 3-D LUTs (R166, R189) -/

/-- An axis of an interpolation: its stride in nodes, index and fraction. -/
structure InAxis where
  stride : Nat
  idx : Nat
  frac : Int

/-- An axis placed into a list that falls by fraction, after those of its own fraction. -/
def insertAxis (a : InAxis) : List InAxis → List InAxis
  | [] => [a]
  | b :: t => if a.frac ≤ b.frac then b :: insertAxis a t else a :: b :: t

/-- The weighted sum over the vertices, the first weight being 256 less the largest fraction. -/
def tetraSum (node : Nat → Int) : Int → Nat → List InAxis → Int
  | w, v, [] => w * node v
  | w, v, a :: t => (w - a.frac) * node v + tetraSum node a.frac (v + a.stride) t

/-- Index and fraction of an input of range `full` (R166, R189). -/
def axisOf (nodes full : Nat) (stride x : Nat) : InAxis :=
  let q := rdiv ((x : Int) * (nodes - 1 : Nat) * 256) full
  let i := min (q / 256).toNat (nodes - 2)
  ⟨stride, i, q - 256 * i⟩

/-- The sum of weight times node over the vertices of the inputs, in units of 1/256 node. -/
def lutSum (nodes full : Nat) (node : Nat → Int) (xs : List Nat) : Int :=
  let axes := (xs.zipIdx).map (fun x => axisOf nodes full (nodes ^ x.2) x.1)
  tetraSum node 256 (axes.foldl (fun a x => a + x.idx * x.stride) 0) (axes.foldl (fun l a => insertAxis a l) [])

def fwdNodes (d : Dev) (b : Nat) : Nat := tget d 7 b 0 1 % 64
def fwdChans (d : Dev) (b : Nat) : Nat := tget d 7 b 1 1 % 8
def fwdPlanes (d : Dev) (b : Nat) : Nat := tget d 7 b 2 1 % 8

/-- l16 of reference pixel (u, w) for a plane (R166). -/
def l16 (d : Dev) (p : RefPage) (b pl : Nat) (u w : Int) : Int :=
  rdiv (lutSum (fwdNodes d b) 255 (fun k => (tget d 7 b (0x1000 + 8 * k + 2 * pl) 2 : Nat)) (inkAt d p u w)) 16

/-- A kernel tap (R167, R190). -/
def tapH (d : Dev) (b pl t : Nat) : Int := sx 16 (tget d 7 b (0x10 + 14 * pl + 2 * t) 2)
def tapV (d : Dev) (b pl t : Nat) : Int := sx 16 (tget d 7 b (0x50 + 14 * pl + 2 * t) 2)

/-- The optics output x(u, w) of a plane (R167). -/
def opticsAt (d : Dev) (p : RefPage) (b pl : Nat) (u w : Int) : Int :=
  let hh (w : Int) : Int :=
    rdiv (sumI ((List.range 7).map (fun t => tapH d b pl t * l16 d p b pl (u + (t : Int) - 3) w))) 16384
  clampI 0 1048575 (rdiv (sumI ((List.range 7).map (fun t => tapV d b pl t * hh (w + (t : Int) - 3)))) 16384)

/-- The expected value at a position in units of 1/16 pixel (R168). -/
def e16At (d : Dev) (p : RefPage) (b pl : Nat) (u16 w16 : Int) : Int :=
  let u := u16 / 16
  let fx := u16 - 16 * u
  let w := w16 / 16
  let fy := w16 - 16 * w
  let x := opticsAt d p b pl
  rdiv ((16 - fx) * (16 - fy) * x u w + fx * (16 - fy) * x (u + 1) w + (16 - fx) * fy * x u (w + 1) + fx * fy * x (u + 1) (w + 1)) 256

/-! ### Patches and the warp (R170, R173) -/

/-- The first column of a patch, the column after its last, and its centre; a patch is empty where the two are one. -/
def patchFirst (cols i : Nat) : Nat := i * cols / 32
def patchEnd (cols i : Nat) : Nat := (i + 1) * cols / 32
def patchCx (cols i : Nat) : Nat := (patchFirst cols i + patchEnd cols i) / 2

/-- A warp component at column `n`, interpolated between patch centres (R173). -/
def warpAt (w : List Int) (cols n : Nat) : Int :=
  if n ≤ patchCx cols 0 then w.getD 0 0
  else match (List.range 31).find? (fun i => decide (n ≤ patchCx cols (i + 1))) with
    | some i =>
      let a := w.getD i 0
      rdiv (a * ((patchCx cols (i + 1) : Int) - patchCx cols i) + (w.getD (i + 1) 0 - a) * ((n : Int) - patchCx cols i))
        ((patchCx cols (i + 1) : Int) - patchCx cols i)
    | none => w.getD 31 0

/-- The warp the registers show. -/
def warpNow (d : Dev) : List (Int × Int) :=
  (List.range 32).map (fun i => (sx 16 (rf d .CMPR_WARP i CMPR_WARP.WX), sx 16 (rf d .CMPR_WARP i CMPR_WARP.WY)))

/-- A patch's warp changes; ratiometric outputs that follow it update (R359). -/
def setWarp (i : Nat) (x y : Int) (d : Dev) : Dev :=
  let was := (warpNow d).getD i (0, 0)
  let d := if was.1 = x then d else ratioUpdate 3 i x false d
  let d := if was.2 = y then d else ratioUpdate 4 i y false d
  sf .CMPR_WARP i CMPR_WARP.WX (ux 16 x) (sf .CMPR_WARP i CMPR_WARP.WY (ux 16 y) d)

/-! ### The INDEX tables (R165, R309) -/

/-- u_nom of comparator column `n`, and row0. -/
def uNom (d : Dev) (b n : Nat) : Int :=
  let cols := tget d 10 b 0 4
  let at_ (k : Nat) : Int := sx 32 (tget d 10 b (262144 + 4 * k) 4)
  if n < cols then at_ n else at_ (cols - 1) + (n : Int) - cols + 1

def row0 (d : Dev) (b : Nat) : Int := sx 32 (tget d 10 b 4 4)

/-- Position of column `n` of a line on the reference, in 1/16 pixel (R165). -/
def placeOf (d : Dev) (l : LineRec) (cols n : Nat) : Int × Int :=
  (16 * uNom d (l.banks.getD 10 0) n + warpAt (l.warp.map (·.1)) cols n,
   16 * (row0 d (l.banks.getD 10 0) + l.pageLine) + warpAt (l.warp.map (·.2)) cols n)

/-! ### Judging a line (R169, R176, R188) -/

/-- A judged pixel: region, difference, whether it is a defect pixel, expected values, and place. -/
structure Pixel where
  region : Nat
  diff   : Nat
  defect : Bool
  exp    : List Int
  u      : Int
  w      : Int

def judgePixel (d : Dev) (l : LineRec) (p : RefPage) (c : Corrected) (cols n : Nat) : Pixel :=
  let b7 := l.banks.getD 7 0
  let b9 := l.banks.getD 9 0
  let pos := placeOf d l cols n
  let planes := c.linear.length
  let ex := (List.range planes).map (fun pl => e16At d p b7 pl pos.1 pos.2)
  let r := regionAt d p (pos.1 / 16) (pos.2 / 16)
  let sum := sumI ((List.range planes).map (fun pl =>
    (tget d 9 b9 (32 * r + pl) 1 : Int) * ((16 * ((c.linear.getD pl []).getD n 0 : Int) - ex.getD pl 0).natAbs : Nat)))
  let df := if r = 0 || c.mask.getD n false then 0 else min 65535 (rdiv sum 256).toNat
  ⟨r, df, decide (r ≠ 0) && !c.mask.getD n false && decide (tget d 9 b9 (32 * r + 4) 2 < df), ex, pos.1 / 16, pos.2 / 16⟩

/-- Runs of defect pixels, in rising columns, from column `n` on; the run in progress is given (R177). -/
def runsFrom : Nat → Option Run → List Pixel → List Run
  | _, none, [] => []
  | _, some r, [] => [r]
  | n, cur, p :: t =>
    match cur, p.defect with
    | none, false => runsFrom (n + 1) none t
    | some r, false => r :: runsFrom (n + 1) none t
    | none, true => runsFrom (n + 1) (some ⟨n, n, 1, p.diff, 2 ^ p.region, false⟩) t
    | some r, true =>
      runsFrom (n + 1) (some ⟨r.a, n, r.area + 1, max r.maxD p.diff, r.regions ||| 2 ^ p.region, false⟩) t

/-- At most 65,536 runs: the last one joins all that follow (R179). -/
def limitRuns (l : List Run) : List Run :=
  if l.length ≤ 65536 then l
  else
    let tail := l.drop 65535
    l.take 65535 ++ (match tail with
      | [] => []
      | r :: t => [t.foldl (fun a x => ⟨a.a, x.b, a.area + x.area, max a.maxD x.maxD, a.regions ||| x.regions, true⟩) { r with joined := true }])

/-- The track of a page. -/
def findTrack (d : Dev) (page : Nat) : Option Track := d.cmpr.tracks.find? (fun t => t.page == page)
def onTrack (page : Nat) (f : Track → Track) (d : Dev) : Dev :=
  cmpr (fun x => { x with tracks := x.tracks.map (fun t => if t.page = page then f t else t) }) d

/-- A colour window of the REGION table: U0, U1, W0, W1, EN (R190). -/
def colWin (d : Dev) (b c : Nat) : Nat × Nat × Nat × Nat × Bool :=
  let g (o : Nat) := tget d 9 b (0x400 + 32 * c + o) 4
  (g 0 % 2 ^ 18, g 4 % 2 ^ 18, g 8 % 2 ^ 24, g 12 % 2 ^ 24, bitOf (g 16) 0)

/-- The judged, unmasked pixels of a line join the colour windows that hold them (R188). -/
def feedWindows (d : Dev) (l : LineRec) (c : Corrected) (px : List Pixel) (ws : List ColWin) : List ColWin :=
  ws.zipIdx.map (fun x =>
    let w := colWin d (l.banks.getD 9 0) x.2
    if !w.2.2.2.2 || x.1.done then x.1
    else
      px.zipIdx.foldl (fun a q =>
        if !c.mask.getD q.2 false && decide ((w.1 : Int) ≤ q.1.u) && decide (q.1.u ≤ (w.2.1 : Int)) && decide ((w.2.2.1 : Int) ≤ q.1.w) &&
            decide (q.1.w ≤ (w.2.2.2.1 : Int)) then
          { a with
            count := a.count + 1
            sumM := a.sumM.zipIdx.map (fun m => m.1 + (c.linear.getD m.2 []).getD q.2 0)
            sumE := a.sumE.zipIdx.map (fun e => e.1 + q.1.exp.getD e.2 0) }
        else a) x.1)

/-- A value of a colour window as its width holds it: itself, or a free value where it passes that width (R188, log entry 90). -/
def heldIn (width k v : Nat) : Nat := if v < 2 ^ width then v else Config.windowWide k % 2 ^ width

/-- A colour window's record (R189). -/
def winRecord (d : Dev) (bInv c pageId : Nat) (w0 : ColWin) : Bytes :=
  let w : ColWin := { w0 with
    count := if w0.count = 0 then 0 else heldIn 32 d.fresh w0.count
    sumM := w0.sumM.zipIdx.map (fun s => heldIn 48 (d.fresh + 1 + s.2) s.1)
    sumE := w0.sumE.zipIdx.map (fun s => (heldIn 48 (d.fresh + 5 + s.2) s.1.toNat : Nat)) }
  let cnt : Int := w0.count
  let mM := w.sumM.map (fun (s : Nat) => (rdiv (s : Int) cnt).toNat)
  let mE := w.sumE.map (fun s => (rdiv s (16 * cnt)).toNat)
  let nodes := tget d 8 bInv 0 1 % 64
  let lab (v : List Nat) : List Int := (List.range 3).map (fun o =>
    rdiv (lutSum nodes 65535 (fun k => sx 16 (tget d 8 bInv (0x1000 + 8 * k + 2 * o) 2)) (v.take 3)) 256)
  let a := lab mM
  let b := lab mE
  let sq := sumI ((List.range 3).map (fun i => (a.getD i 0 - b.getD i 0) * (a.getD i 0 - b.getD i 0)))
  let root := isqrt (4 * sq.toNat)
  let dE := min 65535 ((root + 1) / 2)
  if w0.count = 0 then
    [4#8] ++ leBytes 1 c ++ zeros 46 ++ leBytes 8 d.now ++ leBytes 4 pageId ++ zeros 4
  else
    [4#8] ++ leBytes 1 c ++ zeros 2 ++ leBytes 4 w.count ++ (List.range 4).flatMap (fun p => leBytes 2 (mM.getD p 0)) ++
    (List.range 4).flatMap (fun p => leBytes 2 (mE.getD p 0)) ++ a.flatMap (fun x => leBytes 2 (ux 16 x)) ++
    b.flatMap (fun x => leBytes 2 (ux 16 x)) ++ leBytes 2 dE ++ zeros 10 ++ leBytes 8 d.now ++ leBytes 4 pageId ++ zeros 4

/-- Windows of a page report: those a test names, each once (R188). -/
def reportWindows (page line bInv bReg : Nat) (which : Nat × Nat × Nat × Nat × Bool → Bool) (d : Dev) : Dev :=
  match findTrack d page with
  | none => d
  | some t =>
    t.wins.zipIdx.foldl (fun d x =>
      let w := colWin d bReg x.2
      if w.2.2.2.2 && !x.1.done && which w then
        let rec_ := winRecord d bInv x.2 ((t.ref.map (·.id)).getD 0) x.1
        ratioUpdate 2 x.2 (leAt rec_ 36 2) false
          (onTrack page (fun t => { t with wins := setAt t.wins x.2 { x.1 with done := true } })
            (deliverRecord 10 10 line line page rec_ { d with fresh := d.fresh + 9 }))
      else d) d

/-! ### Registration (R170 to R175) -/

/-- The columns of a patch's search window (R170). -/
def searchWindow (cols width i : Nat) : List Nat :=
  let a := patchFirst cols i
  let n := patchEnd cols i - a
  let w := min width n
  let s := max a (min (patchCx cols i - w / 2) (a + n - w))
  (List.range w).map (fun k => s + k)

/-- RW of CMPR_CTRL.REG_WIDTH. -/
def regWidth (code : Nat) : Nat := [64, 128, 256].getD code 256

/-- A judged line joins the band in progress (R171). -/
def bandAdd (d : Dev) (l : LineRec) (p : RefPage) (c : Corrected) (cols plane width : Nat) (b : Band) : Band :=
  let b7 := l.banks.getD 7 0
  let m := c.linear.getD plane []
  let cap (x : Nat) : Nat := min x (2 ^ 48 - 1)
  let live (i : Nat) : List Nat := (searchWindow cols width i).filter (fun n => !c.mask.getD n false && decide (n < m.length))
  { b with
    sums := b.sums.zipIdx.map (fun x => x.1.zipIdx.map (fun s =>
      let dx : Int := (s.2 % 33 : Nat) - 16
      let dy : Int := (s.2 / 33 : Nat) - 16
      (live x.2).foldl (fun a n =>
        let q := placeOf d l cols n
        cap (a + (16 * (m.getD n 0 : Int) - e16At d p b7 plane (q.1 + 16 * dx) (q.2 + 16 * dy)).natAbs)) s.1))
    seen := b.seen.zipIdx.map (fun x => x.1 + (live x.2).length)
    want := (List.range 32).map (fun i => (searchWindow cols width i).length) }

/-- The better of two candidates: the smaller sum, then |dx| + |dy|, then dy, then dx (R172). -/
def better (a b : Nat × Int × Int) : Nat × Int × Int :=
  let k (x : Nat × Int × Int) : Nat := x.2.1.natAbs + x.2.2.natAbs
  if a.1 < b.1 then a else if b.1 < a.1 then b
  else if k a < k b then a else if k b < k a then b
  else if a.2.2 < b.2.2 then a else if b.2.2 < a.2.2 then b
  else if a.2.1 ≤ b.2.1 then a else b

/-- The result of one patch (R172). -/
def patchResult (k : Nat) (sums : List Nat) (seen need : Nat) : Int × Int × Bool :=
  let s (i j : Int) : Int := sums.getD ((j + 16).toNat * 33 + (i + 16).toNat) 0
  let cand := sums.zipIdx.map (fun x => (x.1, ((x.2 % 33 : Nat) : Int) - 16, ((x.2 / 33 : Nat) : Int) - 16))
  match cand with
  | [] => (0, 0, false)
  | c :: t =>
    let m := t.foldl better c
    let i0 := m.2.1
    let j0 := m.2.2
    let denX := s (i0 - 1) j0 - 2 * s i0 j0 + s (i0 + 1) j0
    let denY := s i0 (j0 - 1) - 2 * s i0 j0 + s i0 (j0 + 1)
    let frX := clampI (-8) 8 (rdiv (8 * (s (i0 - 1) j0 - s (i0 + 1) j0)) denX)
    let frY := clampI (-8) 8 (rdiv (8 * (s i0 (j0 - 1) - s i0 (j0 + 1))) denY)
    if decide (i0.natAbs ≤ 15) && decide (j0.natAbs ≤ 15) && decide (0 < denX) && decide (0 < denY) && decide (need ≤ seen) then
      (16 * i0 + frX, 16 * j0 + frY, true)
    else (Config.invalidCorr k, Config.invalidCorr (k + 1), false)

/-- REG_BAND_RESULT: the result of the complete band is formed, with the search windows of its latest judged line (R172, R173, log
entry 89). -/
def regBandResult (d : Dev) : Dev :=
  match d.cmpr.full with
  | none => d
  | some b =>
    let res := (List.range 32).map (fun i =>
      patchResult (d.fresh + 2 * i) (b.sums.getD i []) (b.seen.getD i 0) ((b.want.getD i 0 * 256 * 3 + 3) / 4))
    let d := cmpr (fun x => { x with full := none, result := some ⟨b.page, b.first, res⟩ }) { d with fresh := d.fresh + 64 }
    res.zipIdx.foldl (fun d x =>
      let d := sf .CMPR_REG_CORR x.2 CMPR_REG_CORR.CX (ux 10 x.1.1) (sf .CMPR_REG_CORR x.2 CMPR_REG_CORR.CY (ux 10 x.1.2.1)
        (sf .CMPR_REG_CORR x.2 CMPR_REG_CORR.VALID (b2n x.1.2.2) d))
      if x.1.2.2 then d else occur Src.REG_INVALID x.2 0 0 (incSat .CMPR_REG_INVALID 0 d)) d

/-- The REG record (R175). -/
def regRecord (r : BandResult) (line : Nat) (limited : Nat) (warp : List (Int × Int)) : Bytes :=
  let mask := r.patches.zipIdx.foldl (fun a x => if x.1.2.2 then a + 2 ^ x.2 else a) 0
  leBytes 7 r.first ++ [0#8] ++ leBytes 7 line ++ [0#8] ++ leBytes 4 mask ++ leBytes 4 limited ++ zeros 8 ++
  r.patches.zipIdx.flatMap (fun x =>
    let w := warp.getD x.2 (0, 0)
    leBytes 2 (ux 16 x.1.1) ++ leBytes 2 (ux 16 x.1.2.1) ++ leBytes 2 (ux 16 w.1) ++ leBytes 2 (ux 16 w.2))

/-- The open page is registered, or not (R174). -/
def setReg (v : Bool) (d : Dev) : Dev := sf .CMPR_REG_APPLIED 0 CMPR_REG_APPLIED.REGISTERED (b2n v) (cmpr (fun x => { x with ownReg := v }) d)

/-- A result comes into force at the hand-over of line `n` of the open page (R173, R174). -/
def regApply (n : Nat) (page : Nat) (d : Dev) : Dev :=
  match d.cmpr.result with
  | none => d
  | some r =>
    let d := cmpr (fun x => { x with result := none }) d
    if r.page ≠ page then d
    else
      let a := r.patches.zipIdx.foldl (fun (a : Dev × Nat) x =>
        if !x.1.2.2 then a
        else
          let w := (warpNow a.1).getD x.2 (0, 0)
          let nx := w.1 + x.1.1
          let ny := w.2 + x.1.2.1
          let hits := [nx, ny].filter (fun v => decide (v ≠ clampI (-256) 256 v))
          let lim := decide (hits.length ≠ 0)
          let d := setWarp x.2 (clampI (-256) 256 nx) (clampI (-256) 256 ny) (sf .CMPR_REG_CORR x.2 CMPR_REG_CORR.LIMIT (b2n lim) a.1)
          (hits.foldl (fun d _ => occur Src.REG_LIMIT x.2 0 0 (incSat .CMPR_REG_LIMIT 0 d)) d, if lim then a.2 + 2 ^ x.2 else a.2)) (d, 0)
      let d := sf .CMPR_REG_APPLIED 0 CMPR_REG_APPLIED.LINE n a.1
      let d := if r.patches.any (·.2.2) then setReg true d else d
      deliverRecord 6 6 (min r.first n) n page (regRecord r n a.2 (warpNow d)) d

/-- While REG_EN is 0 the warp stays 0 and the page counts as registered, whatever it is itself; else a band begins where none is in progress (R173,
R174): with REG_INIT 2 not before the page's edge fit. -/
def regStart (n : Nat) (pg : Option PageRec) (d : Dev) : Dev :=
  if rfIn d .CMPR_CTRL 0 CMPR_CTRL.REG_EN = 0 then
    sf .CMPR_REG_APPLIED 0 CMPR_REG_APPLIED.REGISTERED 1
      ((List.range 32).foldl (fun d i => setWarp i 0 0 d) (cmpr (fun x => { x with band := none, full := none, result := none }) d))
  else
    let d := sf .CMPR_REG_APPLIED 0 CMPR_REG_APPLIED.REGISTERED (b2n d.cmpr.ownReg) d
    match pg with
    | none => d
    | some p =>
      if d.cmpr.band.isSome || d.cmpr.full.isSome || d.cmpr.result.isSome then d
      else if rfIn d .CMPR_CTRL 0 CMPR_CTRL.REG_INIT = 2 && d.cmpr.fitPage ≠ p.num then d
      else cmpr (fun x => { x with
        band := some ⟨p.num, n, List.replicate 32 (List.replicate 1089 0), List.replicate 32 0, List.replicate 32 0⟩ }) d

/-! ### Binding and the comparator's page (R164, R174) -/

/-- A page opens: a reference page is bound or not, and the warp is set as REG_INIT selects. -/
def cmprOpen (page first : Nat) (d : Dev) : Dev :=
  let region := rfIn d .CMPR_REF_CFG 0 CMPR_REF_CFG.REGION
  let next := rfIn d .CMPR_REF_NEXT 0 CMPR_REF_NEXT.PAGE_ID
  let ref := d.cmpr.refs.find? (fun p => p.region == region && p.id == next)
  let d := cmpr (fun x => { x with
    tracks := x.tracks ++ [⟨page, first, ref, 1, 0, 0, 0, 0, [], List.replicate 64 ⟨0, List.replicate 4 0, List.replicate 4 0, false⟩⟩] }) d
  let d := match ref with
    | some p =>
      let n := (next + rfIn d .CMPR_REF_CFG 0 CMPR_REF_CFG.STEP) % 2 ^ 32
      sf .CMPR_REF_STATUS 0 CMPR_REF_STATUS.BOUND 1 (sf .CMPR_REF_STATUS 0 CMPR_REF_STATUS.REGION region
        (sf .CMPR_REF_BOUND 0 CMPR_REF_BOUND.PAGE_ID p.id (sf .CMPR_REF_INFORCE 0 CMPR_REF_INFORCE.PAGE_ID n
          (sfIn .CMPR_REF_NEXT 0 CMPR_REF_NEXT.PAGE_ID n d))))
    | none => occur Src.REF_MISSING first 0 0 (incSat .CMPR_PAGES_NOREF 0 d)
  let same := decide (rfIn d .CMPR_CTRL 0 CMPR_CTRL.REG_INIT = 1)
  setReg (same && d.cmpr.wasReg) ((List.range 32).foldl (fun e i =>
    let w := if same then d.cmpr.lastWarp.getD i (0, 0) else (0, 0)
    setWarp i w.1 w.2 e) d)

/-- A page closes: its band is discarded, with a result not yet in force, and nothing is bound any more (R164, R173). -/
def cmprClose (d : Dev) : Dev :=
  sf .CMPR_REF_STATUS 0 CMPR_REF_STATUS.BOUND 0
    (cmpr (fun x => { x with
      band := none
      full := none
      result := none
      wasReg := rb d .CMPR_REG_APPLIED 0 CMPR_REG_APPLIED.REGISTERED
      lastWarp := warpNow d }) d)

/-! ### Actuations (R93, R184 to R186) -/

/-- Values of the actuator registers a verdict uses, with the shadow of its line. -/
def actReg (sh : List (Nat × Word)) (r : Reg) (a : Nat) : Word := spGet (r.reset a) (rkey r a) sh

/-- An actuation acts on its output (R87, R184). -/
def actFire (x : Actuation) (d : Dev) : Dev :=
  if x.gate then outLevel x.output x.level d else outPulse x.output x.width x.level d

/-- One actuation takes a slot, or fires at once where its position has passed; the flag says that it was late (R93). -/
def actPlace (x : Actuation) (d : Dev) : Dev × Bool :=
  if x.pos < trackPos d then (occur Src.ACT_LATE x.act 0 0 (actFire x d), true)
  else (showBank (esc (fun e => { e with acts := e.acts ++ [x] }) d), false)

/-- CMPR_ACT_MARGIN keeps the smallest margin (R185). -/
def actMargin (a : Nat) (pos : Int) (d : Dev) : Dev :=
  let m := pos - trackPos d
  if m < rs64 d .CMPR_ACT_MARGIN a then ws64 .CMPR_ACT_MARGIN a m d else d

/-- What scheduling one actuator gives: whether it was scheduled or extended, dropped, late. -/
structure ActOut where
  d : Dev
  acts : Nat
  dropped : Bool
  late : Bool

/-- One actuator of a DEFECT blob (R184, R185). -/
def actOne (sh : List (Nat × Word)) (b : Blob) (mask : Nat) (o : ActOut) (a : Nat) : ActOut :=
  let cfg := actReg sh .CMPR_ACT_CFG a
  let zone := actReg sh .CMPR_ACT_ZONE a
  let z0 := CMPR_ACT_ZONE.COL_FIRST.get zone
  let z1 := CMPR_ACT_ZONE.COL_LAST.get zone
  if CMPR_ACT_CFG.EN.get cfg = 0 || !bitOf mask a || !(decide (b.colFirst ≤ z1) && decide (z0 ≤ b.colLast)) then o
  else
    let dist := sx 64 (actReg sh .CMPR_ACT_DIST a).toNat
    let lead : Int := (actReg sh .CMPR_ACT_LEAD a).toNat
    let trail : Int := (actReg sh .CMPR_ACT_TRAIL a).toNat
    let gap : Int := (actReg sh .CMPR_ACT_MIN_GAP a).toNat
    let out := CMPR_ACT_CFG.OUTPUT.get cfg
    let pol := CMPR_ACT_CFG.POLARITY.get cfg == 1
    let p0 := b.posFirst + dist - lead
    let p1 := b.posLast + dist + trail
    let mine := o.d.esc.acts.filter (fun x => x.act == a)
    let merged (d : Dev) : ActOut := { o with d := incSat .CMPR_ACT_MERGED a d, acts := o.acts + 2 ^ a }
    let drop : ActOut := { o with d := occur Src.ACT_DROP a 0 0 (incSat .ESC_ACT_DROP 0 o.d), dropped := true }
    let counted (d : Dev) : Dev := actMargin a p0 (incSat .CMPR_ACT_FIRED a d)
    if CMPR_ACT_CFG.MODE.get cfg = 0 then
      if mine.any (fun x => !x.gate && decide (p0 < x.pos + gap || p0 ≤ x.pos)) then merged o.d
      else if 128 ≤ o.d.esc.acts.length then drop
      else
        let r := actPlace ⟨p0, a, false, out, false, pol, (actReg sh .CMPR_ACT_WIDTH a).toNat⟩ (counted o.d)
        { o with d := r.1, acts := o.acts + 2 ^ a, late := o.late || r.2 }
    else
      match (mine.filter (fun x => x.gate && x.isEnd)).getLast? with
      | some e =>
        if p0 ≤ e.pos + gap then
          merged (esc (fun s => { s with acts := s.acts.map (fun x => if x = e then { x with pos := max e.pos p1 } else x) }) o.d)
        else if 126 < o.d.esc.acts.length then drop
        else
          let r := actPlace ⟨p0, a, false, out, true, pol, 0⟩ (counted o.d)
          let q := actPlace ⟨p1, a, true, out, true, !pol, 0⟩ r.1
          { o with d := q.1, acts := o.acts + 2 ^ a, late := o.late || r.2 || q.2 }
      | none =>
        if 126 < o.d.esc.acts.length then drop
        else
          let r := actPlace ⟨p0, a, false, out, true, pol, 0⟩ (counted o.d)
          let q := actPlace ⟨p1, a, true, out, true, !pol, 0⟩ r.1
          { o with d := q.1, acts := o.acts + 2 ^ a, late := o.late || r.2 || q.2 }

/-! ### Blobs (R177 to R181) -/

/-- Whether two runs touch. -/
def runsTouch (a b c e : Nat) : Bool := decide (a ≤ e + 1) && decide (c ≤ b + 1)

/-- Two blobs merged under the first one's number. -/
def mergeBlobs (x y : Blob) : Blob :=
  { x with
    firstLine := if y.num = 0 then x.firstLine else min x.firstLine y.firstLine
    lastLine := if y.num = 0 then x.lastLine else max x.lastLine y.lastLine
    colFirst := if y.num = 0 then x.colFirst else min x.colFirst y.colFirst
    colLast := if y.num = 0 then x.colLast else max x.colLast y.colLast
    area := sat32 (x.area + y.area)
    before := sat32 (x.before + y.before)
    maxD := max x.maxD y.maxD
    regions := x.regions ||| y.regions
    posFirst := if y.num ≠ 0 && y.firstLine < x.firstLine then y.posFirst else x.posFirst
    posLast := if y.num ≠ 0 && x.lastLine < y.lastLine then y.posLast else x.posLast
    unreg := if y.num ≠ 0 && y.firstLine < x.firstLine then y.unreg else x.unreg
    overflow := x.overflow || y.overflow
    continued := x.continued || y.continued || y.num == 0
    spill := x.spill || y.spill
    runs := x.runs ++ y.runs }

/-- A run of judged line `j` joins a blob. -/
def joinRun (l : JLine) (j : Nat) (r : Run) (b : Blob) : Blob :=
  { b with
    lastLine := l.line
    posLast := l.pos
    colFirst := min b.colFirst r.a
    colLast := max b.colLast r.b
    area := sat32 (b.area + r.area)
    maxD := max b.maxD r.maxD
    regions := b.regions ||| r.regions
    overflow := b.overflow || r.joined
    runs := (j, r.a, r.b) :: b.runs }

/-- A new blob of one run. -/
def newBlob (l : JLine) (j num : Nat) (r : Run) (spill : Bool) : Blob :=
  ⟨num, l.line, l.line, r.a, r.b, r.area, 0, r.maxD, r.regions, l.pos, l.pos, l.unreg, r.joined || spill, false, spill, [(j, r.a, r.b)]⟩

/-- The tracker's blobs, the next number, and the blobs that overflowed, once for each overflow. -/
structure Matching where
  blobs : List Blob
  next : Nat
  ovf : List Nat

/-- One run of judged line `j` (R177 to R179). -/
def matchRun (l : JLine) (j : Nat) (m : Matching) (r : Run) : Matching :=
  let hit := m.blobs.filter (fun b => b.runs.any (fun q => decide (q.1 < j) && runsTouch r.a r.b q.2.1 q.2.2))
  let rest := m.blobs.filter (fun b => !b.runs.any (fun q => decide (q.1 < j) && runsTouch r.a r.b q.2.1 q.2.2))
  let real := hit.filter (fun b => b.num ≠ 0)
  let seeds := hit.filter (fun b => b.num = 0)
  let joined (n : Nat) : List Nat := if r.joined then [n] else []
  match real with
  | b :: t =>
    let low := t.foldl (fun a x => if x.num < a.num then x else a) b
    let all := (real.filter (fun x => x.num ≠ low.num) ++ seeds).foldl mergeBlobs low
    ⟨joinRun l j r all :: rest, m.next, m.ovf ++ joined low.num⟩
  | [] =>
    if seeds.isEmpty && 8192 ≤ (m.blobs.filter (fun b => b.num ≠ 0 && !b.spill)).length then
      match m.blobs.find? (·.spill) with
      | some b =>
        ⟨joinRun l j r { b with overflow := true } :: m.blobs.filter (fun x => x.num ≠ b.num), m.next, m.ovf ++ joined b.num ++ [b.num]⟩
      | none => ⟨newBlob l j m.next r true :: m.blobs, m.next + 1, m.ovf ++ joined m.next ++ [m.next]⟩
    else ⟨seeds.foldl mergeBlobs (newBlob l j m.next r false) :: rest, m.next + 1, m.ovf ++ joined m.next⟩

/-- How a blob closes: SPLIT, PAGE_END. -/
def sortBlobs (l : List Blob) : List Blob :=
  let ins (b : Blob) (acc : List Blob) : List Blob :=
    acc.takeWhile (fun x => decide (x.colFirst < b.colFirst) || (x.colFirst == b.colFirst && decide (x.num < b.num))) ++ [b] ++
    acc.dropWhile (fun x => decide (x.colFirst < b.colFirst) || (x.colFirst == b.colFirst && decide (x.num < b.num)))
  l.foldl (fun a b => ins b a) []

/-- The regions of a mask. -/
def regionsOf (m : Nat) : List Nat := bitsOf m 16

/-- A closed blob: its record, its actuations, its crop (R180, R181, R184). -/
def closeBlob (sh : List (Nat × Word)) (bReg : Nat) (page : Nat) (split pageEnd : Bool) (b : Blob) (d : Dev) : Dev :=
  let ctl := actReg sh .CMPR_CTRL 0
  let pageId := ((findTrack d page).bind (·.ref)).elim 0 (·.id)
  let minArea := least ((regionsOf b.regions).map (fun r => tget d 9 bReg (32 * r + 8) 4))
  let defect := decide (minArea ≤ sat32 (b.before + b.area))
  let held := defect && b.unreg && CMPR_CTRL.HOLD_UNREG.get ctl == 1
  let mask := (regionsOf b.regions).foldl (fun a r => a ||| tget d 9 bReg (32 * r + 6) 2) 0
  let o := if defect && !held then (List.range 16).foldl (actOne sh b mask) ⟨d, 0, false, false⟩ else ⟨d, 0, false, false⟩
  let d := o.d
  let flags := b2n b.unreg + 2 * b2n b.overflow + 4 * b2n split + 8 * b2n b.continued + 16 * b2n pageEnd + 32 * b2n held +
    64 * b2n o.dropped + 128 * b2n o.late
  let rec_ := leBytes 1 (if defect then 1 else 2) ++ leBytes 1 flags ++ leBytes 2 b.regions ++ leBytes 4 b.num ++ leBytes 7 b.firstLine ++
    [0#8] ++ leBytes 7 b.lastLine ++ [0#8] ++ leBytes 4 b.colFirst ++ leBytes 4 b.colLast ++ leBytes 4 b.area ++ leBytes 2 b.maxD ++
    leBytes 2 o.acts ++ leBytes 8 (ux 64 b.posFirst) ++ leBytes 8 d.now ++ leBytes 4 pageId ++ zeros 4
  if defect then
    let d := deliverRecord 10 10 b.firstLine b.lastLine page rec_ (onTrack page (fun t => { t with defects := sat32 (t.defects + 1) }) (incSat .CMPR_DEFECTS 0 d))
    askCrop ⟨b.num, pageId, page, pageEnd, b.firstLine, b.lastLine, b.colFirst, b.colLast⟩ (occur Src.DEFECT b.num 0 0 d)
  else
    let d := onTrack page (fun t => { t with small := sat32 (t.small + 1) }) (incSat .CMPR_BLOBS_SMALL 0 d)
    if CMPR_CTRL.REPORT_SMALL.get ctl = 1 then deliverRecord 10 10 b.firstLine b.lastLine page rec_ d else d

/-- The runs of a judged line matched, and blobs without continuation or of full length closed; with its page's last line (`ending`) every
blob, all in one order (R177 to R183). -/
def trackLine (l : LineRec) (j : JLine) (ending : Bool) (d : Dev) : Dev :=
  match findTrack d j.page with
  | none => d
  | some t =>
    if !j.judged then d
    else
      let n := t.judged
      let m := j.runs.foldl (matchRun j n) ⟨t.blobs, t.nextBlob, []⟩
      let d := m.ovf.foldl (fun (d : Dev) (b : Nat) => occur Src.BLOB_OVERFLOW b 0 0 (incSat .CMPR_OVERFLOW 0 d)) d
      let blobs := m.blobs.map (fun b => { b with runs := b.runs.filter (fun q => decide (n ≤ q.1 + 1)) })
      let maxLines := CMPR_BLOB_CFG.MAX_BLOB_LINES.get (actReg l.shadow .CMPR_BLOB_CFG 0)
      let splits (b : Blob) : Bool := b.num != 0 && b.lastLine == j.line && j.line + 1 - b.firstLine == maxLines
      let gone (b : Blob) : Bool := b.num != 0 && b.runs.isEmpty
      let kept := (blobs.filter (fun b => !b.runs.isEmpty)).map (fun b =>
        if splits b then
          { b with num := 0, area := 0, before := sat32 (b.before + b.area), overflow := false, spill := false, maxD := 0, regions := 0 }
        else b)
      let d := onTrack j.page (fun t => { t with
        judged := t.judged + 1, unreg := t.unreg + b2n j.unreg, nextBlob := m.next, blobs := if ending then [] else kept }) d
      (sortBlobs (blobs.filter (fun b => splits b || gone b || (ending && b.num != 0)))).foldl (fun d b =>
        closeBlob l.shadow (l.banks.getD 9 0) j.page (splits b) (ending && !splits b && !gone b) b d) d

/-- The end of a page for the comparator: open blobs close, windows report, the PAGE record is written (R178, R182, R188). -/
def finishTrack (sh : List (Nat × Word)) (bInv bReg : Nat) (p : PageRec) (d : Dev) : Dev :=
  match findTrack d p.num with
  | none => d
  | some t =>
    let d := (sortBlobs (t.blobs.filter (fun b => b.num ≠ 0))).foldl (fun d b => closeBlob sh bReg p.num false true b d) d
    let last := p.last - 1
    let d := if CMPR_CTRL.COLOUR_EN.get (actReg sh .CMPR_CTRL 0) = 1 then reportWindows p.num last bInv bReg (fun _ => true) d else d
    match findTrack d p.num with
    | none => d
    | some t =>
      let verdict := if t.defects ≠ 0 then 1 else if t.judged = 0 then 2 else 0
      let rec_ := leBytes 1 3 ++ leBytes 1 verdict ++ zeros 2 ++ leBytes 4 t.defects ++ leBytes 7 p.first ++ [0#8] ++ leBytes 7 last ++ [0#8] ++
        leBytes 4 t.judged ++ leBytes 4 (last + 1 - p.first - t.judged) ++ leBytes 4 t.unreg ++ leBytes 4 t.small ++ zeros 8 ++
        leBytes 8 d.now ++ leBytes 4 ((t.ref.map (·.id)).getD 0) ++ zeros 4
      let d := deliverRecord 10 10 p.first last p.num rec_ (cmpr (fun x => { x with tracks := x.tracks.filter (fun y => y.page ≠ p.num) }) d)
      if verdict = 1 then occur Src.PAGE_FAIL last 0 0 d else d

/-- Whether a page's lines have all been judged: it has closed, and every captured line of it has ended its verdict path. -/
def pageOver (d : Dev) (p : PageRec) : Bool := p.last != 0 && linesDone d p.last

/-- Pages that are over end for the comparator, in order; their marks follow (R182, R212). -/
def finishPages (sh : List (Nat × Word)) (bInv bReg : Nat) (d : Dev) : Dev :=
  let ovf := d.pages.past.filter (pageOver d)
  let d := ovf.foldl (fun d p => finishTrack sh bInv bReg p d) d
  let d := { d with pages := { d.pages with past := d.pages.past.filter (fun y => !ovf.contains y) } }
  flushMarks d.strm.marks.length d

/-! ### What a corrected line gives the comparator (R169, R171, R176, R188) -/

/-- A line that has left stage 9 is judged, or not; `late` says that some expected value of it was not ready (R169). The DIFF row
of a judged line is returned. -/
def judgeLine (l : LineRec) (c : Corrected) (late : Bool) (d : Dev) : Dev × Option Row × List Pixel :=
  let ctl := actReg l.shadow .CMPR_CTRL 0
  let not_ (d : Dev) : Dev × Option Row × List Pixel :=
    (cmpr (fun x => { x with jlines := x.jlines ++ [⟨l.num, l.page, false, l.pos, l.unreg, []⟩] }) d, none, [])
  match (findTrack d l.page).bind (·.ref) with
  | none => not_ d
  | some p =>
    let b7 := l.banks.getD 7 0
    let planes := c.linear.length
    let cols := (c.linear.headD []).length
    if CMPR_CTRL.EN.get ctl = 0 then not_ d
    else if fwdChans d b7 ≠ p.chans || fwdPlanes d b7 ≠ planes then
      not_ (occur Src.MODEL_MISMATCH l.num 0 0 (incSat .CMPR_MODEL_MISMATCH 0 d))
    else if late then not_ (occur Src.REF_LATE l.num 0 0 (incSat .CMPR_REF_LATE 0 d))
    else
      let px := (List.range cols).map (judgePixel d l p c cols)
      let jl : JLine := ⟨l.num, l.page, true, l.pos, l.unreg, limitRuns (runsFrom 0 none px)⟩
      let d := cmpr (fun x => { x with jlines := x.jlines ++ [jl] }) d
      let d := if CMPR_CTRL.COLOUR_EN.get ctl = 1 && 3 ≤ planes then
          onTrack l.page (fun t => { t with wins := feedWindows d l c px t.wins }) d else d
      let width := regWidth (CMPR_CTRL.REG_WIDTH.get ctl)
      let d := match d.cmpr.band with
        | some b =>
          if CMPR_CTRL.REG_EN.get ctl = 1 && b.page = l.page && b.first ≤ l.num && l.num < b.first + 256 then
            (if d.now < d.cmpr.busy then incSat .CMPR_REG_SKIP 0 d
             else cmpr (fun x => { x with
               busy := d.now + (if width = 256 then 7600 else if width = 128 then 3800 else 1900)
               band := some (bandAdd d l p c cols (CMPR_CTRL.REG_PLANE.get ctl) width b) }) d)
          else d
        | none => d
      (d, some ⟨l.num, l.page, c.header, [px.map (·.diff)], c.mask, []⟩, px)

/-- A line that has left stage 9 ends the band it completes (R170), and its colour windows report (R188). -/
def afterLine (l : LineRec) (d : Dev) : Dev :=
  let d := match d.cmpr.band with
    | some b => if b.page = l.page && b.first + 255 ≤ l.num then cmpr (fun x => { x with band := none, full := some b }) d else d
    | none => d
  let here := row0 d (l.banks.getD 10 0) + l.pageLine
  if CMPR_CTRL.COLOUR_EN.get (actReg l.shadow .CMPR_CTRL 0) = 1 then
    reportWindows l.page l.num (l.banks.getD 8 0) (l.banks.getD 9 0) (fun w => decide ((w.2.2.2.1 : Int) + 17 = here)) d
  else d

/-! ### Validity of the comparator's tables and of INDEX (R191, R309) -/

def fwdOk (d : Dev) (b : Nat) : Bool :=
  let n := fwdNodes d b
  let ch := fwdChans d b
  let pl := fwdPlanes d b
  decide (2 ≤ n) && decide (n ≤ 33) && decide (1 ≤ ch) && decide (ch ≤ 4) && decide (1 ≤ pl) && decide (pl ≤ 4) &&
  decide (tget d 7 b 0 1 < 64) && decide (tget d 7 b 1 1 < 8) && decide (tget d 7 b 2 1 < 8) && decide (tget d 7 b 3 13 = 0) &&
  decide (tget d 7 b 0x48 8 = 0) && (Mem.readBytes d.tables (bankAddr 7 b 0x88) (0x1000 - 0x88)).all (· == 0#8) &&
  (List.range 4).all (fun p =>
    if p < pl then decide (sumI ((List.range 7).map (tapH d b p)) = 16384) && decide (sumI ((List.range 7).map (tapV d b p)) = 16384)
    else decide (tget d 7 b (0x10 + 14 * p) 14 = 0) && decide (tget d 7 b (0x50 + 14 * p) 14 = 0)) &&
  d.tables.all (fun c => !(decide (bankAddr 7 b (0x1000 + 8 * n ^ ch) ≤ c.1) && decide (c.1 < bankAddr 7 b (2 ^ 28))))

def invOk (d : Dev) (b : Nat) : Bool :=
  let n := tget d 8 b 0 1 % 64
  decide (2 ≤ n) && decide (n ≤ 33) &&
  (List.range (n ^ 3)).all (fun k => decide (tget d 8 b (0x1000 + 8 * k + 6) 2 = 0))

def regionOk (d : Dev) (b : Nat) : Bool :=
  (Mem.readBytes d.tables (bankAddr 9 b 0) 32).all (· == 0#8) &&
  (List.range' 1 15).all (fun r => decide (tget d 9 b (32 * r + 8) 4 ≠ 0) && decide (tget d 9 b (32 * r + 12) 20 = 0)) &&
  (List.range 64).all (fun c =>
    let g (o n : Nat) := tget d 9 b (0x400 + 32 * c + o) n
    decide (g 0 4 < 2 ^ 18) && decide (g 4 4 < 2 ^ 18) && decide (g 8 4 < 2 ^ 24) && decide (g 12 4 < 2 ^ 24) && decide (g 16 1 < 2) &&
    decide (g 17 15 = 0) && decide (g 0 4 ≤ g 4 4) && decide (g 8 4 ≤ g 12 4))

def indexOk (d : Dev) (b : Nat) : Bool :=
  let cols := tget d 10 b 0 4
  let at_ (k : Nat) : Int := sx 32 (tget d 10 b (262144 + 4 * k) 4)
  decide (1 ≤ cols) && decide (cols ≤ 262144) && decide (tget d 10 b 8 56 = 0) &&
  (List.range cols).all (fun k => decide (-64 ≤ at_ k) && decide (at_ k ≤ 262207) && (k == 0 || decide (at_ (k - 1) ≤ at_ k)))

/-- Whether a bank of a class of the comparator is valid. -/
def cmprTableOk (d : Dev) (c b : Nat) : Bool :=
  if c = 7 then fwdOk d b else if c = 8 then invOk d b else if c = 9 then regionOk d b else if c = 10 then indexOk d b else true

end Sys2Proof.Machine
end

