-- ==== Sys2Proof/Machine/Motion.lean ====
section
/-!
DEFINITION. Machine/Motion.lean: the axes: curves, moves and their queue, gearing, stops and faults, pacing, microsteps, the chopper,
limit switches and homing (R312 to R343).
-/
namespace Sys2Proof.Machine

def mot (f : Mot → Mot) (d : Dev) : Dev := { d with mot := f d.mot }

def restAxis : Axis := Axis.rest

def axis (d : Dev) (a : Nat) : Axis := d.mot.axes.getD a restAxis
def onAxis (a : Nat) (f : Axis → Axis) (d : Dev) : Dev := mot (fun m => { m with axes := modAt m.axes a f }) d

/-! ### States (R335) -/

def axDISABLED : Nat := 0
def axENABLING : Nat := 1
def axHOLDING : Nat := 2
def axMOVING : Nat := 3
def axSTOPPING : Nat := 4
def axSUSPENDED : Nat := 5
def axHOMING : Nat := 6
def axDISABLING : Nat := 7
def axFAULT : Nat := 8

/-- An axis register as its writes have taken effect: at the last servo tick (R342). -/
def axIn (d : Dev) (r : Reg) (i : Nat) : Word := spGet (r.reset i) (rkey r i) d.mot.regs
def axF (d : Dev) (r : Reg) (i : Nat) (f : Fld) : Nat := f.get (axIn d r i)
def axN (d : Dev) (r : Reg) (i : Nat) : Nat := (axIn d r i).toNat
def ax64 (d : Dev) (r : Reg) (i : Nat) : Int := sx 64 (axN d r i)

/-- The registers of the axes as a servo tick finds them. -/
def axLatch (d : Dev) : Dev :=
  mot (fun m => { m with regs := d.regs.filter (fun x => (blockRegs 20).any (fun r => r.ctorIdx == x.1 % 1024)) }) d

def axState (d : Dev) (a : Nat) : Nat := rf d .AX_STATUS a AX_STATUS.STATE
def setAxState (a st : Nat) (d : Dev) : Dev := sf .AX_STATUS a AX_STATUS.STATE st d
def axRef (d : Dev) (a : Nat) : Nat := rf d .AX_STATUS a AX_STATUS.REF
def setAxRef (a r : Nat) (d : Dev) : Dev := sf .AX_STATUS a AX_STATUS.REF r d

/-- The whole microsteps of a position in 2^-16 microstep. -/
def ust (p : Int) : Int := p / 65536

/-- The registers that show an axis. -/
def showAxis (a : Nat) (d : Dev) : Dev :=
  let x := axis d a
  let d := ws64 .AX_POS a (ust x.pos) (wn .AX_POS_FRAC a (x.pos % 65536).toNat (ws32 .AX_VEL a x.comp.v d))
  let d := sf .AX_STATUS a AX_STATUS.QUEUE x.queue.length (ws64 .AX_REMAIN a (ust x.remain) d)
  sf .AX_STATUS a AX_STATUS.PACE (match x.pace with
    | some p => p.phase
    | none => 0) d

/-! ### Segment tables and curves (R317, R318) -/

/-- The tables of a MOTION_SEGMENTS section, each with its 64 B head. -/
def splitTables : Nat → Bytes → List Bytes
  | 0, _ => []
  | n + 1, b =>
    let l := leAt b 8 4
    b.take l :: splitTables n (b.drop ((l + 63) / 64 * 64))

/-- A table of an image by its number. -/
def segTable (i : Bytes) (t : Nat) : Option Bytes :=
  let s := section_ i 5
  (splitTables s.2 s.1).find? (fun b => leAt b 0 2 == t)

/-- The pieces of a table's curve. -/
def tableSegs (b : Bytes) : List MSeg :=
  let r (k o n : Nat) : Nat := leAt b (64 + 16 * k + o) n
  (List.range (leAt b 4 4)).map (fun k =>
    let p0 : Int := if k = 0 then 0 else sx 64 (r (k - 1) 4 8)
    let v0 : Int := if k = 0 then 0 else sx 32 (r (k - 1) 12 4)
    ⟨1, r k 0 4, p0, v0, sx 64 (r k 4 8), sx 32 (r k 12 4), 0, r k 0 4⟩)

/-- A table within the rules of R317: none, or the offset of the first failing field. -/
def tableBad (b : Bytes) : Option Nat :=
  let n := leAt b 4 4
  if !zeroIn b 2 4 then some 2
  else if n = 0 then some 4
  else if leAt b 8 4 ≠ 64 + 16 * n then some 8
  else if !zeroIn b 12 64 then some 12
  else match (List.range n).find? (fun k => leAt b (64 + 16 * k) 4 == 0) with
    | some k => some (64 + 16 * k)
    | none => if leAt b (64 + 16 * (n - 1) + 12) 4 ≠ 0 then some (64 + 16 * (n - 1) + 12) else none

/-- Position of a piece at tick `i` as a numerator over `den * t^3` (R318). -/
def posNum (s : MSeg) (i : Nat) : Int :=
  let t : Int := s.t
  let i : Int := i
  s.p0 * t ^ 3 + (s.p1 - s.p0) * (3 * i ^ 2 * t - 2 * i ^ 3) +
    t * (s.v0 * (i * t ^ 2 - 2 * i ^ 2 * t + i ^ 3) + s.v1 * (i ^ 3 - i ^ 2 * t))

/-- Velocity of a piece at tick `i` as a numerator over `den * t^3`. -/
def velNum (s : MSeg) (i : Nat) : Int :=
  let t : Int := s.t
  let i : Int := i
  (s.p1 - s.p0) * 6 * (i * t - i ^ 2) + s.v0 * (t ^ 3 - 4 * i * t ^ 2 + 3 * i ^ 2 * t) + s.v1 * (3 * i ^ 2 * t - 2 * i * t ^ 2)

def segDen (s : MSeg) : Int := (s.den : Int) * (s.t : Int) ^ 3

/-- The piece that tick `n` of a curve falls in, and its tick in that piece; tick 0 is the start of the first. -/
def pieceAt : List MSeg → Nat → Option (MSeg × Nat)
  | [], _ => none
  | s :: t, n => if n ≤ s.hi - s.lo then some (s, s.lo + n) else pieceAt t (n - (s.hi - s.lo))

/-- The last ticks of a curve cut off, from its end. -/
def cutEnd (l : List MSeg) (keep : Nat) : List MSeg :=
  match l with
  | [] => []
  | s :: t => if keep = 0 then [] else if keep ≤ s.hi - s.lo then [{ s with hi := s.lo + keep }] else s :: cutEnd t (keep - (s.hi - s.lo))

/-- The first ticks of a curve cut off. -/
def cutStart (l : List MSeg) (n : Nat) : List MSeg :=
  match l with
  | [] => []
  | s :: t => if n = 0 then s :: t else if n < s.hi - s.lo then { s with lo := s.lo + n } :: t else cutStart t (n - (s.hi - s.lo))

/-- A curve moved by `o`. -/
def shiftSegs (o : Int) (l : List MSeg) : List MSeg := l.map (fun s => { s with p0 := s.p0 + o * s.den, p1 := s.p1 + o * s.den })

/-- The joining piece of R322 of 2 × `b` periods: from curve A at tick `n` to curve B, which stands at A's end, at tick `b`. -/
def joinSeg (a b_ : List MSeg) (n b : Nat) : Option MSeg :=
  match pieceAt a n, pieceAt b_ b with
  | some (s, i), some (u, j) =>
    some ⟨(segDen s * segDen u).toNat, 2 * b, posNum s i * segDen u, velNum s i * segDen u, posNum u j * segDen s,
      velNum u j * segDen s, 0, 2 * b⟩
  | _, _ => none

/-- The curve of moves joined by blends, from the first one's origin, with where each stands (R322). -/
def chainFrom (base : Int) : List Move → Nat → List MSeg
  | [], _ => []
  | [m], skip => cutStart (shiftSegs base m.segs) skip
  | m :: n :: t, skip =>
    let mine := shiftSegs base m.segs
    if n.joined then
      (match joinSeg mine (shiftSegs (base + m.len) n.segs) (m.total - n.blend) n.blend with
       | some j => cutStart (cutEnd mine (m.total - n.blend)) skip ++ [j] ++ chainFrom (base + m.len) (n :: t) n.blend
       | none => cutStart mine skip)
    else cutStart mine skip

def chainSegs (c : List Move) : List MSeg := chainFrom 0 c 0

/-- Position and velocity at a tick of a curve, rounded to 2^-16 microstep, halves up (R318; of the velocity by log entry 17). -/
def curveAt (l : List MSeg) (n : Nat) : Int × Int :=
  match pieceAt l n with
  | some (s, i) => (rdiv (posNum s i) (segDen s), rdiv (velNum s i) (segDen s))
  | none => match l.getLast? with
    | some s => (rdiv s.p1 s.den, 0)
    | none => (0, 0)

/-- The curve at tick `n` moved by a fraction of a tick: between two ticks the position runs on a line (R315, R336). -/
def curveShifted (l : List MSeg) (n : Nat) (shN : Int) (shD : Nat) : Int × Int :=
  if shN = 0 then curveAt l n
  else
    let u := (n : Int) * shD + shN
    let k := (u / shD).toNat
    let f := u % shD
    let p := (curveAt l k).1
    let q := (curveAt l (k + 1)).1
    (fdiv (p * shD + (q - p) * f) shD, q - p)

/-! ### Limits of a curve (R319) -/

/-- Whether x + y × √r is at least 0. -/
def surdNonneg (x y r : Int) : Bool :=
  if 0 ≤ x then decide (0 ≤ y) || decide (y * y * r ≤ x * x) else decide (0 < y) && decide (x * x ≤ y * y * r)

/-- Whether m × s + k is at least 0 at the root s = (−b + sg × √r) / (2 × a) of a s² + b s + c, where r = b² − 4 a c. -/
def linAtRoot (m k a b r sg : Int) : Bool :=
  let x := 2 * a * k - m * b
  let y := m * sg
  if 0 < a then surdNonneg x y r else surdNonneg (-x) (-y) r

/-- One piece within AX_VMAX at its ends and at its velocity's extremum. -/
def segVelOk (vmax : Nat) (s : MSeg) : Bool :=
  let t : Int := s.t
  let dl := s.p1 - s.p0
  let a := -6 * dl + 3 * t * (s.v0 + s.v1)
  let b := 6 * dl - t * (4 * s.v0 + 2 * s.v1)
  let c := t * s.v0
  let lim : Int := (vmax : Int) * t * s.den
  decide (s.v0.natAbs ≤ vmax * s.den) && decide (s.v1.natAbs ≤ vmax * s.den) &&
    (a == 0 || !(decide (0 < -b * a) && decide ((b * a).natAbs < (2 * a * a).natAbs)) ||
      decide ((4 * a * c - b * b).natAbs ≤ (4 * a * lim).natAbs))

/-- One piece at or below `m` (units of its `den`) at its ends and wherever its velocity is 0. -/
def segBelow (m : Int) (s : MSeg) : Bool :=
  let t : Int := s.t
  let dl := s.p1 - s.p0
  let c3 := -2 * dl + t * (s.v0 + s.v1)
  let c2 := 3 * dl - t * (2 * s.v0 + s.v1)
  let c1 := t * s.v0
  let c0 := s.p0 - m
  let a := 3 * c3
  let b := 2 * c2
  let r := b * b - 4 * a * c1
  let ends := decide (s.p0 ≤ m) && decide (s.p1 ≤ m)
  let inner :=
    if a = 0 then
      (if b = 0 then true
       else
         -- the root −c1 / b, and the value c2 s² + c1 s + c0 there
         let inside := decide (0 < -c1 * b) && decide ((c1 * b).natAbs < (b * b).natAbs)
         !inside || decide (c2 * c1 * c1 - c1 * c1 * b + c0 * b * b ≤ 0))
    else if r < 0 then true
    else [1, -1].all (fun sg =>
      let inside := linAtRoot 1 0 a b r sg && linAtRoot (-1) 1 a b r sg
      -- 9 c3 × value = 9 c3 c0 − c1 c2 + (6 c1 c3 − 2 c2²) s
      let k := 9 * c3 * c0 - c1 * c2
      let m1 := 6 * c1 * c3 - 2 * c2 * c2
      !inside || (if 0 < c3 then linAtRoot (-m1) (-k) a b r sg else linAtRoot m1 k a b r sg))
  ends && inner

/-- A curve from `origin` within the velocity limit and the soft limits (R319). -/
def curveOk (vmax : Nat) (soft : Option (Int × Int)) (origin : Int) (l : List MSeg) : Bool :=
  l.all (fun s => segVelOk vmax s && (match soft with
    | none => true
    | some (lo, hi) =>
      segBelow ((hi - origin) * s.den) s &&
      segBelow ((origin - lo) * s.den) { s with p0 := -s.p0, v0 := -s.v0, p1 := -s.p1, v1 := -s.v1 }))

/-- AX_VMAX, and the soft limits in 2^-16 microstep where they apply. -/
def axVmax (d : Dev) (a : Nat) : Nat := axN d .AX_VMAX a
def axSoft (d : Dev) (a : Nat) : Option (Int × Int) :=
  if axF d .AX_SOFT_CFG a AX_SOFT_CFG.EN == 1 && axRef d a != 0 then
    some (ax64 d .AX_SOFT_MIN a * 65536, ax64 d .AX_SOFT_MAX a * 65536) else none

/-- The currents in force for a move that starts now. -/
def ampsIn (d : Dev) (a : Nat) : Amps :=
  ⟨axF d .AX_CURRENT a AX_CURRENT.I_RUN, axF d .AX_CURRENT a AX_CURRENT.I_HOLD, axF d .AX_CURRENT2 a AX_CURRENT2.I_HOME⟩

/-! ### How moves end (R320, R321) -/

/-- The result of a motion command: position and distance in whole microsteps. -/
def motResult (p rem : Int) : Bytes := leBytes 8 (ux 64 (ust p)) ++ leBytes 8 (ux 64 (ust rem))

/-- The command in flight with a place in fetch order, less 1. -/
def cmdOf (d : Dev) (k : Nat) : Option Cmd := if k = 0 then none else d.post.cmds.find? (fun c => c.order + 1 == k)

/-- The command of a place ends, where it is in flight. -/
def endCmd (k status detail : Nat) (res : Bytes) (d : Dev) : Dev :=
  match cmdOf d k with
  | some c => complete c status detail res d
  | none => d

/-- A move ends short with STATE naming REMON, or as given. -/
def endMove (m : Move) (status detail : Nat) (p rem : Int) (d : Dev) : Dev := endCmd m.cmd status detail (motResult p rem) d

/-- No gear move runs any more: nothing is engaged or pending (R326). -/
def gearOff (a : Nat) (d : Dev) : Dev :=
  sf .AX_GEAR_STATUS a AX_GEAR_STATUS.ENGAGED 0 (sf .AX_GEAR_STATUS a AX_GEAR_STATUS.PENDING 0
    (onAxis a (fun x => { x with gearPend := none }) d))

/-- Every move of an axis ends short (R321, R331, R335). -/
def axEndAll (a : Nat) (d : Dev) : Dev :=
  let x := axis d a
  let d := x.queue.zipIdx.foldl (fun d m =>
    endMove m.1 stSTATE dREMON x.pos (if m.2 = 0 then (if axState d a = axSUSPENDED then x.remain else m.1.endPos - x.pos) else m.1.len) d) d
  let d := endCmd x.resume stSTATE dREMON (motResult x.pos 0) d
  gearOff a (onAxis a (fun x => { x with queue := [], ahead := 0, remain := 0, resume := 0, pace := none }) d)

/-- Waiting STOP commands complete at rest (R332). -/
def axStopsDone (a : Nat) (rem : Int) (d : Dev) : Dev :=
  let x := axis d a
  let d := x.stops.foldl (fun d k => endCmd k stOK 0 (leBytes 8 (ux 64 (ust rem)) ++ leBytes 8 (ux 64 (ust x.pos))) d) d
  onAxis a (fun x => { x with stops := [] }) d

/-- A HOME ends: RESULT byte 16 is the reference kind, bytes 24 to 31 the shift (R340). -/
def homeEnd (a : Nat) (h : HomeSt) (d : Dev) : Dev :=
  endCmd h.cmd h.status (if h.status = stSTATE then dREMON else 0) (leBytes 8 h.ref ++ leBytes 8 (ux 64 h.delta))
    (onAxis a (fun x => { x with home := none, stallAt := none, limAt := none }) d)

/-- A stop of a homing axis: an approach ends without a reference; once an outcome has arisen it stands, only the back-off is cut short
(R340, "first to arise"; log entry 51). -/
def homeStop (h : HomeSt) : HomeSt :=
  if h.phase = 0 then { h with phase := 3, status := stSTATE, ref := 0 }
  else if h.phase = 1 ∨ h.phase = 2 then { h with phase := 4 } else h

/-- The axis enters DISABLING: the brake engages, moves end (R335). -/
def axGoDisabling (a : Nat) (d : Dev) : Dev :=
  let d := axEndAll a d
  sf .AXH_STATUS a AXH_STATUS.BRAKE 0 (setAxState a axDISABLING (onAxis a (fun x => { x with disable := false }) d))

/-- The set-points of an axis all at its position, at rest. -/
def axFreeze (a : Nat) (d : Dev) : Dev :=
  onAxis a (fun x => { x with cur := ⟨x.pos, 0, []⟩, next := ⟨x.pos, 0, []⟩, comp := ⟨x.pos, 0, []⟩, prog := .hold }) d

/-- A fault (R331, R337): bridges off, reference NONE, moves end. -/
def axFaultWith (a cause : Nat) (d : Dev) : Dev :=
  let d := match (axis d a).home with
    | some h => homeEnd a { h with status := stSTATE, ref := 0 } d
    | none => d
  let x := axis d a
  let rem := match x.queue with
    | m :: _ => if m.gear then 0 else if axState d a = axSUSPENDED then x.remain else m.endPos - x.pos
    | [] => 0
  let d := axStopsDone a rem (axEndAll a (axFreeze a d))
  let d := onAxis a (fun x => { x with disable := false, starving := false, abort := 0, flush := false }) d
  let d := sf .AXH_STATUS a AXH_STATUS.DRIVE 0 (sf .AXH_STATUS a AXH_STATUS.BRAKE 0 d)
  let d := setAxRef a 0 (setAxState a axFAULT (sf .AX_STATUS a AX_STATUS.FAULT_CAUSE cause d))
  occur (Src.AX_FAULT a) a cause 0 (showAxis a d)

/-! ### Re-referencing (R340) -/

/-- The shift: added to the position, AX_REMAIN and the trip positions, as the rule lists them; it yields no source counts. -/
def axShift (a : Nat) (delta : Int) (d : Dev) : Dev :=
  let q := delta * 65536
  let sh (s : SetPt) : SetPt := { s with p := s.p + q }
  let prog (p : Prog) : Prog := match p with
    | .path u o t n m c => .path u (o + q) t n m c
    | .gear m0 l pa ga n k => .gear m0 l (pa + q) ga n k
    | p => p
  let d := onAxis a (fun x => { x with pos := x.pos + q, remain := x.remain + q, cur := sh x.cur, next := sh x.next, comp := sh x.comp, prog := prog x.prog }) d
  ws64 .AX_LIM_TRIP_NEG a (rs64 d .AX_LIM_TRIP_NEG a + delta) (ws64 .AX_LIM_TRIP_POS a (rs64 d .AX_LIM_TRIP_POS a + delta) d)

/-! ### Stopping (R332, R334) -/

def decelOf (d : Dev) (a ramp : Nat) : Nat := if ramp = 1 then axN d .AX_DECEL_QUICK a else axN d .AX_DECEL_STOP a

/-- The axis begins to stop: ramps 0 and 1, or 2 at once (R332); the steeper deceleration governs. -/
def axStop (a ramp : Nat) (d : Dev) : Dev :=
  let x := axis d a
  if ramp = 2 then
    let d := if x.comp.v = 0 then d else setAxRef a 0 d
    onAxis a (fun x => { x with prog := .ramp 0xFFFFFFFF }) (setAxState a axSTOPPING d)
  else
    let k := decelOf d a ramp
    let k := match x.prog with
      | .ramp b => max b k
      | _ => k
    onAxis a (fun x => { x with prog := .ramp k }) (setAxState a axSTOPPING d)

/-- Whether an axis moves: it has set-points to apply. -/
def axMoves (d : Dev) (a : Nat) : Bool :=
  axState d a == axMOVING || axState d a == axSTOPPING || axState d a == axHOMING

/-- A move queued or running for which a gear is not meant. -/
def headMove (d : Dev) (a : Nat) : Option Move := (axis d a).queue[(axis d a).ahead]?

/-- What happens at rest after a stop (R332, R335, R340). -/
def axRest (a : Nat) (d : Dev) : Dev :=
  let x := axis d a
  let p := x.cur.p
  match x.home with
  | some h =>
    if h.phase = 1 then
      -- back off, away from the end (R340)
      let q : Int := (axN d .AX_HOME_BACKOFF a : Int) * 65536
      let v : Int := axN d .AX_HOME_VEL a
      let away : Int := if h.method % 2 = 0 then 1 else -1
      let t := (max 1 ((q + v - 1) / max 1 v)).toNat
      let seg : MSeg := ⟨t, t, 0, q * away, q * away * t, q * away, 0, t⟩
      let m : Move := ⟨0, false, [seg], t, q * away, 0, false, 0, 0, 0, 0, 0, 0, false⟩
      setAxState a axHOMING (onAxis a (fun x => { x with prog := .path 2 p 0 0 1 [m], home := some { h with phase := 2 } }) d)
    else
      -- the outcome that arose first stands, but for an ABORT
      let d :=
        if x.abort ≠ 0 then homeEnd a { h with status := stABORTED, ref := 0 } (setAxRef a 0 d)
        else if h.phase = 3 then homeEnd a { h with ref := 0 } (setAxRef a 0 d)
        else homeEnd a h d
      let d := axStopsDone a 0 d
      let d := onAxis a (fun x => { x with abort := 0, flush := false }) d
      if (axis d a).disable then axGoDisabling a d else setAxState a axHOLDING d
  | none =>
    match headMove d a with
    | none =>
      let d := axStopsDone a 0 (onAxis a (fun x => { x with abort := 0, flush := false }) d)
      if x.disable then axGoDisabling a d else setAxState a axHOLDING d
    | some m =>
      let rem := if m.gear then 0 else m.endPos - p
      let d := onAxis a (fun x => { x with remain := rem, queue := x.queue.map (fun y => { y with joined := false }) }) d
      let pop (d : Dev) : Dev :=
        let d := onAxis a (fun x => { x with queue := x.queue.drop 1, remain := 0, pace := none }) d
        if m.gear then gearOff a d else d
      -- a blended move that is aborted while it begins leaves the queue from behind the one in progress (R324)
      let d :=
        match x.queue.find? (fun y => decide (x.abort ≠ 0 ∧ y.cmd = x.abort ∧ m.cmd ≠ x.abort)) with
        | some b => endMove b stABORTED 0 p (b.endPos - p)
            (onAxis a (fun x => { x with queue := x.queue.filter (fun y => y.cmd ≠ b.cmd) }) d)
        | none => d
      let d :=
        if x.abort ≠ 0 && m.cmd = x.abort then
          setAxState a axHOLDING (pop (endMove m stABORTED 0 p rem (endCmd x.resume stABORTED 0 (motResult p 0) d)))
        else if m.gear then
          (if m.untilStop && !x.bad then setAxState a axHOLDING (pop (endMove m stOK 0 p 0 d))
           else setAxState a axHOLDING (pop (endMove m stSTATE dREMON p 0 d)))
        else if rem = 0 then setAxState a axHOLDING (pop (endMove m stOK 0 p 0 d))
        else setAxState a axSUSPENDED d
      let d := if x.flush then setAxState a axHOLDING (axEndAll a d) else d
      let d := axStopsDone a rem (if x.abort ≠ 0 && x.abort = x.resume then endCmd x.resume stABORTED 0 (motResult p rem) d
        else endCmd x.resume stSTATE dREMON (motResult p rem) d)
      let d := onAxis a (fun x => { x with abort := 0, flush := false, bad := false, resume := 0 }) d
      if x.disable then axGoDisabling a d else d

/-! ### Sheet-mode pacing: the stop (R336) -/

/-- ceil of a quotient of naturals. -/
def cdiv (a b : Nat) : Nat := if b = 0 then 0 else (a + b - 1) / b

/-- The first tick from `n` on at which the curve passes `x` going forward, within so many ticks. -/
def findCross (l : List MSeg) (o x shN : Int) (shD : Nat) : Nat → Nat → Option Nat
  | 0, _ => none
  | k + 1, n =>
    if o + (curveShifted l n shN shD).1 < x && x ≤ o + (curveShifted l (n + 1) shN shD).1 then some n
    else findCross l o x shN shD k (n + 1)

/-- The advance past X (microsteps) is withheld: where the move in progress reaches X going forward, pacing begins. -/
def axPace (a : Nat) (x : Int) (d : Dev) : Dev :=
  let ax := axis d a
  match ax.prog with
  | .path u o t n k c =>
    if 1 < u then d else
    let l := chainSegs c
    let total : Nat := (c.map (·.total)).foldl (· + ·) 0
    match findCross l o (x * 65536) n k (total + 2 - t) (t - 2) with
    | none => d
    | some ix =>
      let vs := (curveShifted l (ix + 1) n k).1 - (curveShifted l ix n k).1
      let acc := axN d .AX_SHEET_ACCEL a
      let t1 := cdiv vs.toNat (max 1 acc)
      let run := cdiv (vs.toNat * t1) 131072 + axF d .AX_SHEET_CFG a AX_SHEET_CFG.BACKLASH + axF d .AX_SHEET_CFG a AX_SHEET_CFG.SETTLE
      let p : Pace := ⟨1, x, vs, t1, (x - run) * 65536, o, ix, n, k, c, false⟩
      showAxis a (onAxis a (fun y => { y with prog := .ramp acc, pace := some p }) d)
  | _ => d

/-- The first integer position of the source axis at which the track position reaches `p` (R336). -/
def axisReach (d : Dev) (p : Int) : Int :=
  let need := (p - d.esc.track) * ratioD d - d.esc.rem
  let m := if need ≤ 0 then 0 else (need + ratioN d - 1) / ratioN d
  ust (axis d d.esc.srcNum).pos + m

/-- A move that starts, or goes on, while the advance is withheld paces where it would reach the withheld line (R336). -/
def axPaceStart (a : Nat) (d : Dev) : Dev :=
  match d.que.withheld with
  | some (_, next) => if d.esc.srcKind = 1 && d.esc.srcNum = a && (axis d a).pace.isNone then axPace a (axisReach d next) d else d
  | none => d

/-! ### Starting moves (R319 to R323) -/

/-- The moves joined to the one at the head of a list. -/
def chainOf : List Move → List Move
  | [] => []
  | m :: t => m :: t.takeWhile (·.joined)

/-- The master position of an encoder now, in 2^-16 count: its count, interpolated as R78 does from the edges of R77. -/
def masterNow (d : Dev) (enc : Nat) : Int :=
  let c := rs64 d .ENC_COUNT enc
  let l := velocityEdges d.now (spGet [] enc d.mot.encEdges)
  match l, l.getLast? with
  | (tn, pn) :: _ :: _, some (tgt, po) =>
    let off := if tn ≤ tgt then 0 else fdiv (65536 * (pn - po) * ((d.now : Int) - tn)) ((tn : Int) - tgt)
    c * 65536 + clampI 0 65535 off
  | _, _ => c * 65536

/-- The next queued move starts computing: its limits are those of now, its origin the end of the move before (R319, R321). -/
def startNext (a : Nat) (d : Dev) : Dev :=
  let x := axis d a
  match x.queue.drop x.ahead with
  | [] => d
  | m :: t =>
    let o := x.comp.p
    let vmax := axVmax d a
    let soft := axSoft d a
    if m.gear then
      let m0 := masterNow d m.enc
      let d := sf .AX_GEAR a AX_GEAR.N m.n (sf .AX_GEAR a AX_GEAR.D m.d (sf .AX_GEAR_STATUS a AX_GEAR_STATUS.ENGAGED 1 d))
      setAxState a axMOVING (onAxis a (fun x => { x with
        prog := .gear m0 m0 o 0 m.n m.d, vmax := vmax, soft := soft, amps := ampsIn d a, steps := 0, low := 0, held := false
        bad := false }) d)
    else if !curveOk vmax soft o m.segs then
      endMove m stSTATE dREMON o m.len (onAxis a (fun x => { x with queue := x.queue.eraseIdx x.ahead }) d)
    else
      let c := chainOf (m :: t)
      -- where each move of the chain ends
      let ends := c.foldl (fun (e : Int × List Int) k => (e.1 + k.len, e.2 ++ [e.1 + k.len])) (o, [])
      axPaceStart a (setAxState a axMOVING (onAxis a (fun x => { x with
        prog := .path 0 o 0 0 1 c, vmax := vmax, soft := soft, amps := ampsIn d a, steps := 0, low := 0, held := false, bad := false,
        queue := x.queue.zipIdx.map (fun y =>
          if x.ahead ≤ y.2 && y.2 < x.ahead + c.length then { y.1 with endPos := ends.2.getD (y.2 - x.ahead) 0 } else y.1) }) d))

/-- Ticks until the last queued move's set-points end, as computed. -/
def ticksLeft (x : Axis) : Nat :=
  let running := match x.prog with
    | .path 0 _ t _ _ c => (c.map (·.total)).foldl (· + ·) 0 - t
    | _ => 0
  let n := match x.prog with
    | .path 0 _ _ _ _ c => c.length
    | _ => 0
  running + (((x.queue.drop (x.ahead + n)).map (·.total)).foldl (· + ·) 0)

/-- Where the last queued move will end. -/
def queueEnd (x : Axis) : Int :=
  let n := match x.prog with
    | .path 0 _ _ _ _ c => c.length
    | _ => 0
  let here := match x.prog with
    | .path 0 o _ _ _ c => o + (c.map (·.len)).foldl (· + ·) 0
    | _ => match x.queue with
      | m :: _ => if x.remain ≠ 0 then m.endPos else x.comp.p
      | [] => x.comp.p
  here + (((x.queue.drop (x.ahead + n)).map (·.len)).foldl (· + ·) 0)

/-- A move joins the queue, blended with the one before where it can be (R321, R322). -/
def enqueue (a : Nat) (m : Move) (d : Dev) : Dev :=
  let x := axis d a
  let skip (d : Dev) : Dev := occur (Src.BLEND_SKIPPED a) a 0 0 (incSat .AX_BLEND_SKIPPED a d)
  let add (m : Move) (d : Dev) : Dev := onAxis a (fun x => { x with queue := x.queue ++ [m] }) d
  let d :=
    if m.blend = 0 then add m d
    else match x.queue.getLast? with
      | none => skip (add m d)
      | some p =>
        let ok := !p.gear && decide (m.blend + (if p.joined then p.blend else 0) ≤ p.total) && decide (m.blend + 2 ≤ ticksLeft x) &&
          axState d a != axSUSPENDED && axState d a != axSTOPPING && (x.resume == 0 || decide (x.ahead + 1 < x.queue.length)) &&
          (match x.pace with
           | some q => q.phase == 5 || decide (x.ahead + q.chain.length < x.queue.length)
           | none => true) &&
          (match joinSeg p.segs (shiftSegs p.len m.segs) (p.total - m.blend) m.blend with
           | some j => curveOk (axVmax d a) (axSoft d a) (queueEnd x - p.len) [j]
           | none => false)
        if ok then
          let m := { m with joined := true }
          let d := add m d
          onAxis a (fun x => match x.prog with
            | .path 0 o t n k c =>
              if x.ahead + c.length + 1 = x.queue.length then
                { x with prog := .path 0 o t n k (c ++ [m]),
                         queue := setAt x.queue (x.queue.length - 1) { m with endPos := o + ((c ++ [m]).map (·.len)).foldl (· + ·) 0 } }
              else x
            | _ => x) d
        else skip (add m d)
  showAxis a d

/-- A move of a table. -/
def tableMove (cmd : Nat) (b : Bytes) (blend : Nat) : Move :=
  let s := tableSegs b
  ⟨cmd, false, s, (s.map (·.t)).foldl (· + ·) 0, (s.getLast?.map (·.p1)).getD 0, blend, false, 0, 0, 0, 0, 0, 0, false⟩

/-- The parameters of a MOVE: its entry's bytes, or those of its block (R320). -/
def mvParam (c : Cmd) (b n : Nat) : Nat := if bitOf (leAt c.entry 1 1) 0 then leAt c.block (b - 8) n else leAt c.entry b n

/-- States in which R320 refuses a move. -/
def axRefuses (d : Dev) (a : Nat) : Bool :=
  [axDISABLED, axENABLING, axDISABLING, axFAULT].contains (axState d a)

/-- Whether a table fails R319 where it would run. -/
def tableOver (d : Dev) (a : Nat) (m : Move) : Bool :=
  !curveOk (axVmax d a) (if (axis d a).queue.any (·.gear) then none else axSoft d a) (queueEnd (axis d a)) m.segs

/-- MOVE (R320). -/
def axMove (c : Cmd) (d : Dev) : Dev :=
  let p := mvParam c
  let a := p 8 1 % 8
  let kind := p 9 1 % 4
  let full := decide (8 ≤ (axis d a).queue.length)
  if axRefuses d a then complete c stSTATE dREMON [] d
  else if kind = 2 then
    (if full then complete c stBOUND 0 [] d
     else enqueue a ⟨c.order + 1, true, [], 0, 0, 0, false, 0, p 16 1 % 8, p 20 4, p 24 4, p 28 4, p 32 8, bitOf (p 9 1) 3⟩ d)
  else
    let tbl := if kind = 1 then some (c.block.drop 64) else (activeImage d).bind (fun i => segTable i (p 10 2))
    match tbl with
    | none => complete c stSTATE dREMON [] d
    | some b =>
      let m := tableMove (c.order + 1) b (if bitOf (p 9 1) 2 then p 12 4 else 0)
      if full then complete c stBOUND 0 [] d
      else if tableOver d a m then complete c stBOUND (if kind = 1 then 0x80 else 10) [] d
      else if m.total < m.blend then complete c stBOUND (if kind = 1 then 0x44 else 12) [] d
      else enqueue a m d

/-- A table of the active image starts on an axis without a command: a MOTION event, or a tile run (R259, R323). -/
def axEventMove (a t : Nat) (d : Dev) : Dev :=
  let x := axis d a
  match (activeImage d).bind (fun i => segTable i t) with
  | some b =>
    let m := tableMove 0 b 0
    if axRefuses d a || decide (8 ≤ x.queue.length) || tableOver d a m || x.pace.isSome || !domUp d dREMON then
      occur (Src.MOVE_REJECTED a) a t 0 d
    else enqueue a m d
  | none => occur (Src.MOVE_REJECTED a) a t 0 d

/-! ### The profile of R333 -/

/-- The least t with a × t² at least d. -/
def rootCeil (d a : Nat) : Nat :=
  let t := isqrt (cdiv d (max 1 a))
  if d ≤ a * t * t then t else t + 1

/-- The profile over `dist` with acceleration `a` and greatest velocity `vr`, from its origin. -/
def profile (dist : Int) (a vr : Nat) : Move :=
  let n := dist.natAbs
  let capped := decide (vr * vr ≤ a * n)
  let t1 := max 1 (if capped then cdiv vr (max 1 a) else rootCeil n a)
  let t2 := if capped then cdiv (n - vr * t1) (max 1 vr) else 0
  let den := 2 * (t1 + t2)
  let up : MSeg := ⟨den, t1, 0, 0, dist * t1, 2 * dist, 0, t1⟩
  let flat : List MSeg := if t2 = 0 then [] else [⟨den, t2, dist * t1, 2 * dist, dist * t1 + 2 * dist * t2, 2 * dist, 0, t2⟩]
  let down : MSeg := ⟨den, t1, dist * t1 + 2 * dist * t2, 2 * dist, dist * den, 0, 0, t1⟩
  ⟨0, false, up :: flat ++ [down], 2 * t1 + t2, dist, 0, false, 0, 0, 0, 0, 0, 0, false⟩

/-- The axis runs a profile for a purpose to a distance. -/
def runProfile (a purpose : Nat) (dist : Int) (acc vr : Nat) (d : Dev) : Dev :=
  let o := (axis d a).comp.p
  onAxis a (fun x => { x with prog := .path purpose o 0 0 1 [profile dist acc vr], held := false, steps := 0 }) d

/-! ### Sheet-mode pacing: release and backing (R336) -/

/-- The advance is released: phase 3 ends, or will (R336). -/
def axPaceGo (a : Nat) (d : Dev) : Dev :=
  match (axis d a).pace with
  | none => d
  | some p =>
    if p.phase = 3 then
      showAxis a (onAxis a (fun x => { x with pace := some { p with phase := 4, go := true }, prog := .reapproach 0 }) d)
    else onAxis a (fun x => { x with pace := some { p with go := true } }) d

/-- Phase 2 begins: back to pr. -/
def paceBack (a : Nat) (p : Pace) (d : Dev) : Dev :=
  let dist := p.pr - (axis d a).comp.p
  setAxState a axMOVING (onAxis a (fun x => { x with pace := some { p with phase := 2 } })
    (runProfile a 3 dist (axN d .AX_SHEET_ACCEL a) (axN d .AX_BACKUP_VEL a) d))

/-! ### Set-points as they are applied -/

/-- What is done once a set-point is applied: 1 the head move's end, 2 rest, 3 a profile's end by purpose. -/
def applyEnd (a code : Nat) (d : Dev) : Dev :=
  let x := axis d a
  if code = 1 then
    match x.queue with
    | [] => d
    | m :: t =>
      let d := endMove m stOK 0 (if m.gear then x.cur.p else m.endPos) 0 d
      let d := endCmd x.resume stOK 0 (leBytes 8 (ux 64 (ust x.cur.p))) d
      let d := onAxis a (fun x => { x with queue := t, ahead := x.ahead - 1, remain := 0, resume := 0, pace := none }) d
      let d := if m.gear then gearOff a d else d
      let d := if x.abort ≠ 0 && x.abort = m.cmd then onAxis a (fun x => { x with abort := 0 }) d else d
      let y := axis d a
      -- the next move of a chain runs on under the limits and currents of now (R342)
      let d := if y.queue.isEmpty then d else
        onAxis a (fun x => { x with vmax := axVmax d a, soft := axSoft d a, amps := ampsIn d a }) d
      if y.queue.isEmpty && axState d a == axMOVING then
        axStopsDone a 0 (if y.disable then axGoDisabling a d else setAxState a axHOLDING d)
      else d
  else if code = 2 then
    match x.pace with
    | some p => if p.phase = 1 && axState d a = axMOVING then paceBack a p d else axRest a d
    | none => axRest a d
  else if code = 4 then
    (match x.home with
     | some h => let d := homeEnd a h (setAxState a axHOLDING d)
                 if (axis d a).disable then axGoDisabling a d else d
     | none => d)
  else
    (match x.pace with
     | some p =>
       if p.go then onAxis a (fun x => { x with pace := some { p with phase := 4 }, prog := .reapproach 0 }) d
       else onAxis a (fun x => { x with pace := some { p with phase := 3 } }) d
     | none => d)

/-! ### Computing the next set-point (R315, R318, R325, R332) -/

def setComp (a : Nat) (s : SetPt) (d : Dev) : Dev := onAxis a (fun x => { x with comp := s }) d

/-- How far a set-point that moves from `p0` to `p` may go while a limit is latched: motion towards it stops at the trip position,
or at once (R337). -/
def latchedAt (d : Dev) (a : Nat) (p0 p : Int) : Option Int :=
  let lo := rs64 d .AX_LIM_TRIP_NEG a * 65536
  let hi := rs64 d .AX_LIM_TRIP_POS a * 65536
  if rb d .AX_STATUS a AX_STATUS.LATCH_POS && decide (p0 < p) && decide (hi < p) then some (max p0 (min hi p))
  else if rb d .AX_STATUS a AX_STATUS.LATCH_NEG && decide (p < p0) && decide (p < lo) then some (min p0 (max lo p))
  else none

/-- A set-point of a move, with the checks that can stop it. -/
def moveTo (a : Nat) (table : Bool) (p v : Int) (ends : List Nat) (d : Dev) : Dev :=
  let x := axis d a
  match latchedAt d a x.comp.p p with
  | some q => setAxState a axSTOPPING (onAxis a (fun x => { x with prog := .hold, bad := true }) (setComp a ⟨q, 0, [2]⟩ d))
  | none =>
    let d := setComp a ⟨p, v, ends⟩ d
    if table then
      (match x.soft with
       | some (lo, hi) => if p < lo || hi < p then occur (Src.AX_SOFT_LIMIT a) a 0 0 (axStop a 1 d) else d
       | none => d)
    else d

/-- g of R325 as a numerator over 2 × e × 2^32, for x in 2^-16 count. -/
def gearG (m : Move) (x : Int) : Int :=
  let e : Int := m.engage
  let l : Int := m.length
  let u : Int := 2 * e * 2 ^ 32
  if x ≤ 0 then 0
  else if x ≤ e * 65536 then x * x
  else if m.untilStop || x ≤ (l - e) * 65536 then x * 65536 * 2 * e - e * e * 2 ^ 32
  else if x < l * 65536 then (l - e) * u - (l * 65536 - x) * (l * 65536 - x)
  else (l - e) * u

/-- One tick of a gear move (R325, R326). -/
def gearTick (a : Nat) (m : Move) (m0 last pa ga : Int) (n k : Nat) (d : Dev) : Dev :=
  let mm := masterNow d m.enc
  let u : Int := 2 * (m.engage : Int) * 2 ^ 32
  let at_ (pa ga : Int) (n k : Nat) (x : Int) : Int := pa + rdiv (65536 * (gearG m x - ga) * n) (k * u)
  -- a ratio change whose application point the master has reached (R326)
  let ch := match (axis d a).gearPend with
    | some (n', k', c) =>
      if (decide (last < c * 65536) && decide (c * 65536 ≤ mm)) || (decide (c * 65536 < last) && decide (mm ≤ c * 65536)) then
        some (n', k', c) else none
    | none => none
  let r : Int × Int × Nat × Nat := match ch with
    | some (n', k', c) => (at_ pa ga n k (c * 65536 - m0), gearG m (c * 65536 - m0), n', k')
    | none => (pa, ga, n, k)
  let d := match ch with
    | some (n', k', c) =>
      sf .AX_GEAR_STATUS a AX_GEAR_STATUS.PENDING 0 (ws64 .AX_GEAR_APPLIED a c (sf .AX_GEAR a AX_GEAR.N n' (sf .AX_GEAR a AX_GEAR.D k'
        (onAxis a (fun x => { x with gearPend := none }) d))))
    | none => d
  let x := axis d a
  let p := at_ r.1 r.2.1 r.2.2.1 r.2.2.2 (mm - m0)
  let v := p - x.comp.p
  let d := onAxis a (fun x => { x with prog := .gear m0 mm r.1 r.2.1 r.2.2.1 r.2.2.2 }) d
  let soft := match x.soft with
    | some (lo, hi) => decide (p < lo) || decide (hi < p)
    | none => false
  if decide (x.vmax < v.natAbs) || soft then
    let d := onAxis a (fun x => { x with bad := true }) (axStop a 1 d)
    let y := axis d a
    let k := decelOf d a 1
    let w := if y.comp.v.natAbs ≤ k then 0 else if 0 ≤ y.comp.v then y.comp.v - k else y.comp.v + k
    occur (if soft then Src.AX_SOFT_LIMIT a else Src.AX_OVERSPEED a) a 0 0
      (setComp a ⟨y.comp.p + w, w, if w = 0 then [2] else []⟩ (if w = 0 then onAxis a (fun x => { x with prog := .hold }) d else d))
  else if !m.untilStop && decide ((m.length : Int) * 65536 ≤ mm - m0) then
    moveTo a false p v [1] (onAxis a (fun x => { x with prog := .hold, ahead := x.ahead + 1 }) d)
  else moveTo a false p v [] d

/-- One tick along curves: the set-point, the moves that end with it (R318, R322, R336 phase 5). -/
def pathTick (a purpose : Nat) (o : Int) (tick : Nat) (shN : Int) (shD : Nat) (c : List Move) (d : Dev) : Dev :=
  let n := tick + 1
  let l := chainSegs c
  let total : Nat := (c.map (·.total)).foldl (· + ·) 0
  let q := curveShifted l n shN shD
  let last := decide ((total : Int) * shD ≤ (n : Int) * shD + shN)
  let pv : Int × Int := if last then (o + (c.map (·.len)).foldl (· + ·) 0, 0) else (o + q.1, q.2)
  -- moves of the chain whose end lies in this tick
  let ends := (c.foldl (fun (e : Nat × Nat) m =>
    let t := e.1 + m.total
    (t, if decide ((t : Int) * shD ≤ (n : Int) * shD + shN) && decide ((tick : Int) * shD + shN < (t : Int) * shD) then e.2 + 1 else e.2)) (0, 0)).2
  if purpose = 0 then
    moveTo a true pv.1 pv.2 (List.replicate ends 1)
      (onAxis a (fun x => { x with prog := if last then .hold else .path 0 o n shN shD c, ahead := x.ahead + ends }) d)
  else
    let code := if purpose = 1 then 1 else if purpose = 2 then 4 else 5
    moveTo a (purpose == 1) pv.1 pv.2 (if last then [code] else [])
      (onAxis a (fun x => { x with
        prog := if last then .hold else .path purpose o n shN shD c
        ahead := if last && purpose == 1 then x.ahead + 1 else x.ahead }) d)

/-- One tick of the re-approach: acceleration to vs, then vs, until X(k + 1); then the suspended curve goes on (R336). -/
def reapproachTick (a tick : Nat) (p : Pace) (d : Dev) : Dev :=
  let n := tick + 1
  -- the position over 2 × T1 while accelerating, over 2 after it
  let pos2 (i : Nat) : Int := 2 * p.pr + p.vs * p.t1 + 2 * p.vs * ((i : Int) - p.t1)
  if n ≤ p.t1 then
    moveTo a false (p.pr + rdiv (p.vs * n * n) (2 * p.t1)) (rdiv (p.vs * n) p.t1) []
      (onAxis a (fun x => { x with prog := .reapproach n }) d)
  else if pos2 n < 2 * p.x * 65536 then
    moveTo a false (rdiv (pos2 n) 2) p.vs [] (onAxis a (fun x => { x with prog := .reapproach n }) d)
  else
    let l := chainSegs p.chain
    let sh := pos2 (n - 1) - 2 * (p.origin + (curveShifted l p.ix p.shN p.shD).1)
    let den : Nat := (2 * p.vs).toNat
    let d := onAxis a (fun x => { x with pace := some { p with phase := 5 } }) d
    pathTick a 0 p.origin p.ix (sh * p.shD + p.shN * den) (den * p.shD) p.chain d

/-- The next set-point of an axis (R315). -/
def computeNext (a : Nat) (d : Dev) : Dev :=
  let x := axis d a
  let c := x.comp
  match x.prog with
  | .hold =>
    let st := axState d a
    let d := setComp a ⟨c.p, 0, []⟩ d
    if (st = axHOLDING || st = axMOVING) && x.home.isNone && x.pace.isNone && !x.disable then startNext a d else d
  | .path u o t n k ch => pathTick a u o t n k ch d
  | .gear m0 l pa ga n k =>
    (match headMove d a with
     | some m => gearTick a m m0 l pa ga n k d
     | none => setComp a ⟨c.p, 0, []⟩ (onAxis a (fun x => { x with prog := .hold }) d))
  | .ramp k =>
    let w : Int := if c.v.natAbs ≤ k then 0 else if 0 ≤ c.v then c.v - k else c.v + k
    if w = 0 then setComp a ⟨c.p, 0, [2]⟩ (onAxis a (fun x => { x with prog := .hold }) d)
    else setComp a ⟨c.p + w, w, []⟩ d
  | .home neg dist =>
    let v : Int := axN d .AX_HOME_VEL a
    let d := setComp a ⟨c.p + (if neg then -v else v), if neg then -v else v, []⟩ d
    if (axN d .AX_HOME_MAXDIST a : Int) * 65536 ≤ dist + v then
      axStop a 0 (onAxis a (fun x => { x with home := x.home.map (fun h => { h with status := stTIMEOUT, ref := 0, phase := 3 }) }) d)
    else onAxis a (fun x => { x with prog := .home neg (dist + v) }) d
  | .reapproach t =>
    (match x.pace with
     | some p => reapproachTick a t p d
     | none => setComp a ⟨c.p, 0, []⟩ (onAxis a (fun x => { x with prog := .hold }) d))

/-- A stall or a trip of the approach direction's limit in the servo period ends the approach (R340). -/
def homeResolve (a : Nat) (d : Dev) : Dev :=
  let x := axis d a
  match x.home with
  | none => onAxis a (fun x => { x with stallAt := none, limAt := none }) d
  | some h =>
    if h.phase ≠ 0 then d
    else match x.limAt, x.stallAt with
      | some p, _ =>
        let delta := ax64 d (if h.method % 2 = 0 then .AX_LIM_REF_NEG else .AX_LIM_REF_POS) a - ust p
        axStop a 1 (setAxRef a 2 (onAxis a (fun x => { x with home := some { h with phase := 1, ref := 2, delta := delta } })
          (axShift a delta d)))
      | none, some p =>
        let delta := ax64 d .AX_HOME_POS a - ust p
        -- at rest at once, then the back-off (R340)
        let d := setAxRef a 1 (onAxis a (fun x => { x with home := some { h with phase := 1, ref := 1, delta := delta } }) (axShift a delta d))
        onAxis a (fun x => { x with prog := .ramp 0xFFFFFFFF }) d
      | none, none => d

/-! ### The servo tick and the step generator (R315, R316, R327, R328) -/

/-- Whether the set-points of an axis reach its die (R14, R316). -/
def setPointsReach (d : Dev) (a : Nat) : Bool :=
  domUp d dREMON && rb d .FE_STATUS (a / 2) FE_STATUS.LINK_UP

/-- The autonomous stop of one period (R316): from the last velocity, down by AX_DECEL_QUICK each period. What the set-point that did
arrive ends has ended. A HOME ends INTERRUPTED, without a reference (R341). -/
def starve (a : Nat) (d : Dev) : Dev :=
  let d := if (axis d a).starving then d else
    ((axis d a).next.ends.filter (· == 1)).foldl (fun d k => applyEnd a k d) (onAxis a (fun x => { x with cut := false }) d)
  let x := axis d a
  let v := x.next.v
  if v = 0 && !x.starving && !axMoves d a then onAxis a (fun x => { x with cur := { x.next with ends := [] } }) d
  else
    let k := axN d .AX_DECEL_QUICK a
    let w : Int := if v.natAbs ≤ k then 0 else if 0 ≤ v then v - k else v + k
    let d := if x.starving then d else
      let d := onAxis a (fun x => { x with home := x.home.map (fun h => { h with phase := 3, status := stINTERRUPTED, ref := 0 }) }) d
      occur (Src.AX_STARVED a) a 0 0 (incSat .AX_STARVED a (if axMoves d a then setAxState a axSTOPPING d else d))
    let s : SetPt := ⟨x.next.p + w, w, []⟩
    onAxis a (fun x => { x with
      starving := true, upd := 0, cur := { x.next with v := v, ends := [] }, next := s, comp := s, prog := .hold }) d

/-- At rest after a starvation stop the move in progress is suspended; a RESUME ends INTERRUPTED (R316, R341). -/
def starveRest (a : Nat) (d : Dev) : Dev :=
  let d := endCmd (axis d a).resume stINTERRUPTED 0 [] d
  let d := onAxis a (fun x => { x with starving := false, ahead := 0, resume := 0, prog := .hold }) d
  if axMoves d a then axRest a d else d

/-- Between moves the currents are those of the last servo tick (R342). -/
def ampsTick (a : Nat) (d : Dev) : Dev :=
  if axMoves d a || axState d a = axSUSPENDED then d else onAxis a (fun x => { x with amps := ampsIn d a }) d

/-- One servo tick of one axis (R315). -/
def servoAxis (a : Nat) (d : Dev) : Dev :=
  if !domUp d (dDIG (a / 2)) then d
  else if !setPointsReach d a || (axis d a).cut then starve a d
  else
    let x := axis d a
    if x.starving then (if x.cur.v = 0 then showAxis a (starveRest a d) else starve a d)
    else
      let d := homeResolve a (ampsTick a d)
      let d := onAxis a (fun x => { x with cur := x.next, next := x.comp, upd := 0 }) d
      let d := ((axis d a).cur.ends).foldl (fun d k => applyEnd a k d) d
      showAxis a (computeNext a d)

/-- SERVO_TICK (R315): writes of the axis registers take effect (R342), then every axis. -/
def servoTick (d : Dev) : Dev := (List.range 8).foldl (fun d a => servoAxis a d) (if domUp d dREMON then axLatch d else d)

/-- THR[i] in full steps/s. -/
def mstepThr (d : Dev) (a i : Nat) : Nat :=
  axF d .AX_MSTEP_THR (4 * a + i / 2) (if i % 2 = 0 then AX_MSTEP_THR.THR_LO else AX_MSTEP_THR.THR_HI)

/-- The target level at a velocity (R328): thresholds of levels finer than the one in force are lowered by HYST. -/
def targetLevel (d : Dev) (a : Nat) (v : Int) : Nat :=
  let lv := rf d .AX_STATUS a AX_STATUS.LEVEL
  let hy := axF d .AX_MSTEP_CFG a AX_MSTEP_CFG.HYST
  let n := ((List.range 8).filter (fun i =>
    let thr := mstepThr d a i
    if i < lv then decide (thr * (16 - hy) * 256 * 65536 ≤ v.natAbs * 40000 * 16)
    else decide (thr * 256 * 65536 ≤ v.natAbs * 40000))).length
  min (axF d .AX_MSTEP_CFG a AX_MSTEP_CFG.COARSEST) n

def gridOffset (l : Nat) : Int := if l = 8 then 128 else 0

/-- Whether a switch point of level `c` lies after `p` and at or before `q` in the direction of motion (R328). -/
def switchPassed (c : Nat) (p q : Int) : Bool :=
  let g : Int := 2 ^ c
  let o := gridOffset c
  if p < q then decide ((q - o) / g ≠ (p - o) / g) else decide (q < p) && decide ((p - 1 - o) / g ≠ (q - 1 - o) / g)

/-- The applied angle at a position and level (R327). -/
def angleAt (l : Nat) (p : Int) : Nat :=
  let g : Int := 2 ^ l
  let o := gridOffset l
  ((g * ((p - o) / g) + o) % 1024).toNat

/-- LA of a mean on-time (R339). -/
def loadAngle (d : Dev) (a ton : Nat) : Nat :=
  (clampI 0 1023 (rdiv (((ton : Int) - axF d .AX_STALL_CAL a AX_STALL_CAL.T0) * sx 16 (axF d .AX_STALL_CAL a AX_STALL_CAL.SCALE)) 256)).toNat

/-- A stall is established: homing notes it; with GUARD the axis stops at once (R334, R339, R340). -/
def axStalled (a : Nat) (d : Dev) : Dev :=
  let d := incSat .AX_STALLS a (onAxis a (fun x => { x with low := 0 }) d)
  match (axis d a).home with
  | some h => if h.phase = 0 && h.method < 2 then onAxis a (fun x => { x with stallAt := some x.pos }) d else d
  | none =>
    if axF d .AX_STALL_CFG a AX_STALL_CFG.GUARD == 1 && axMoves d a then
      occur (Src.AX_STALL a) a 0 0 (setAxRef a 0 (axStop a 2 d))
    else d

/-- One full step of motion has passed (R339). -/
def fullStep (a : Nat) (d : Dev) : Dev :=
  let x := axis d a
  let d := onAxis a (fun x => { x with steps := x.steps + 1, onSum := 0, onNum := 0 }) d
  let d := if x.onNum = 0 then d else
    let ton := (rdiv x.onSum x.onNum).toNat
    sf .AXH_TON a AXH_TON.TON (min 65535 ton) (sf .AXH_TON a AXH_TON.LA (loadAngle d a ton) d)
  let la := rf d .AXH_TON a AXH_TON.LA
  let counts := decide (axF d .AX_STALL_CFG a AX_STALL_CFG.BLANK ≤ x.steps) && decide (axN d .AX_STALL_VMIN a ≤ x.cur.v.natAbs)
  if counts && decide (la ≤ axF d .AX_STALL_CFG a AX_STALL_CFG.THR) then
    let n := x.low + 1
    let d := onAxis a (fun x => { x with low := n }) d
    if axF d .AX_STALL_CFG a AX_STALL_CFG.STEPS ≤ n then axStalled a d else d
  else onAxis a (fun x => { x with low := 0 }) d

/-- STEP_UPDATE: one 100 ns update of an axis's step generator: source counts, level, full steps (R315, R327, R328, R339). -/
def stepUpdate (a : Nat) (d : Dev) : Dev :=
  if !domUp d (dDIG (a / 2)) then d
  else
    let x := axis d a
    let p := if 250 ≤ x.upd then x.next.p else fdiv (x.cur.p * 250 + (x.next.p - x.cur.p) * x.upd) 250
    let m0 := ust x.pos
    let m1 := ust p
    let d := onAxis a (fun x => { x with pos := p, upd := min 250 (x.upd + 1) }) d
    let d := if d.esc.srcKind = 1 && d.esc.srcNum = a && islandUp d then
        Nat.repeat (sourceCount (decide (m0 < m1))) (m1 - m0).natAbs d else d
    let lv := rf d .AX_STATUS a AX_STATUS.LEVEL
    let tg := targetLevel d a x.cur.v
    let d := if tg ≠ lv && switchPassed (max tg lv) m0 m1 then sf .AX_STATUS a AX_STATUS.LEVEL tg d else d
    let d := sf .AXH_ANGLE a AXH_ANGLE.THETA (angleAt (rf d .AX_STATUS a AX_STATUS.LEVEL) m1) d
    let d := if m0 / 256 ≠ m1 / 256 then fullStep a d else d
    showAxis a d

/-! ### Commands (R332, R333, R338, R324) -/

/-- STOP (R332). -/
def axStopCmd (c : Cmd) (d : Dev) : Dev :=
  let a := leAt c.entry 8 1 % 8
  let ramp := leAt c.entry 9 1
  let flush := bitOf (leAt c.entry 10 1) 0
  let d := onAxis a (fun x => { x with stops := x.stops ++ [c.order + 1], flush := x.flush || flush }) d
  if !axMoves d a then
    let d := if flush then (if axState d a = axSUSPENDED then setAxState a axHOLDING (axEndAll a d) else axEndAll a d) else d
    showAxis a (axStopsDone a 0 (onAxis a (fun x => { x with flush := false }) d))
  else
    let x := axis d a
    let d := match x.home with
      | some h => onAxis a (fun x => { x with home := some (homeStop h) }) d
      | none => d
    -- a move whose last set-point is computed ends by itself
    match x.prog with
    | .hold => (if x.queue.length ≤ x.ahead then showAxis a d else showAxis a (axStop a ramp d))
    | _ => showAxis a (axStop a ramp d)

/-- RESUME (R333). -/
def axResume (c : Cmd) (d : Dev) : Dev :=
  let a := leAt c.entry 8 1 % 8
  let x := axis d a
  if axState d a ≠ axSUSPENDED || (axRef d a = 0 && !bitOf (leAt c.entry 9 1) 0) then complete c stSTATE dREMON [] d
  else
    let d := onAxis a (fun x => { x with resume := c.order + 1, ahead := 0, vmax := axVmax d a, soft := axSoft d a, bad := false }) d
    match x.pace with
    | some p => showAxis a (paceBack a p d)
    | none => showAxis a (axPaceStart a (setAxState a axMOVING (runProfile a 1 x.remain (axN d .AX_ACCEL a) (axN d .AX_VRESUME a) d)))

/-- HOME (R338, R340). -/
def axHome (c : Cmd) (d : Dev) : Dev :=
  let a := leAt c.entry 8 1 % 8
  let m := leAt c.entry 9 1
  if axState d a ≠ axHOLDING then complete c stSTATE dREMON [] d
  else if m < 2 && axN d .AX_HOME_VEL a < axN d .AX_STALL_VMIN a then complete c stPARAM 9 [] d
  else if m = 4 then
    let delta := ax64 d .AX_HOME_POS a - ust (axis d a).pos
    completeOk c (leBytes 8 3 ++ leBytes 8 (ux 64 delta)) (showAxis a (setAxRef a 3 (axShift a delta d)))
  else
    let neg := decide (m % 2 = 0)
    let latched := if neg then rb d .AX_STATUS a AX_STATUS.LATCH_NEG else rb d .AX_STATUS a AX_STATUS.LATCH_POS
    let trip := rs64 d (if neg then .AX_LIM_TRIP_NEG else .AX_LIM_TRIP_POS) a * 65536
    showAxis a (setAxState a axHOMING (onAxis a (fun x => { x with
      home := some ⟨c.order + 1, m, 0, stOK, 0, 0⟩, prog := .home neg 0, amps := ampsIn d a, steps := 0, low := 0, held := false
      stallAt := none, limAt := if latched then some trip else none }) d))

/-- Whether the move at place `i` of the queue has started: its set-points, or those of the piece that joins it to the move before, are
being computed (R322, R324). -/
def axStarted (x : Axis) (i : Nat) : Bool :=
  match x.prog with
  | .home .. => false
  | .path 2 .. => false
  | .path 0 _ t _ _ c =>
    let before := ((c.take (i - x.ahead)).map (·.total)).foldl (· + ·) 0
    i == x.ahead || (decide (i < x.ahead + c.length) && decide (before ≤ t + (x.queue[i]?.map (·.blend)).getD 0))
  | .hold => i == x.ahead && x.pace.isSome
  | _ => i == x.ahead

/-- ABORT of a motion command that has started: whether it was found (R324). -/
def axAbort (c : Cmd) (d : Dev) : Dev × Bool :=
  let k := c.order + 1
  match (List.range 8).find? (fun a => (axis d a).queue.any (·.cmd == k) || (axis d a).resume == k ||
      (match (axis d a).home with
       | some h => h.cmd == k
       | none => false)) with
  | none => (d, false)
  | some a =>
    let x := axis d a
    let running := match x.queue with
      | m :: _ => m.cmd == k
      | [] => false
    let homing := match x.home with
      | some h => h.cmd == k
      | none => false
    if homing || x.resume = k then
      let d := if homing then
          onAxis a (fun y => { y with home := y.home.map (fun h => { h with phase := 3, status := stABORTED, ref := 0 }) }) d else d
      (showAxis a (axStop a 0 (onAxis a (fun y => { y with abort := k }) d)), true)
    else if running && axState d a = axSUSPENDED then
      let d := complete c stABORTED 0 (motResult x.pos x.remain) d
      let d := onAxis a (fun y => { y with queue := y.queue.drop 1, remain := 0, pace := none }) d
      (showAxis a (setAxState a axHOLDING d), true)
    else
      let i := (x.queue.findIdx? (·.cmd == k)).getD 0
      if i < x.ahead then (d, true)
      else if axStarted x i && axMoves d a then
        (showAxis a (axStop a 0 (onAxis a (fun y => { y with abort := k }) d)), true)
      else
        let d := complete c stABORTED 0 (motResult x.pos ((x.queue[i]?.map (·.len)).getD 0)) d
        -- it leaves the queue and the chain in progress; what was to blend with it starts from rest
        (showAxis a (onAxis a (fun y => { y with
          prog := (match y.prog with
            | .path 0 o t n f c => .path 0 o t n f (if y.ahead ≤ i then c.take (i - y.ahead) else c)
            | p => p)
          queue := y.queue.zipIdx.filterMap (fun m =>
            if m.2 = i then none else if m.2 = i + 1 then some { m.1 with joined := false } else some m.1) }) d), true)

/-! ### Enabling, faults, limits, gears, the chopper (R326, R329 to R337) -/

/-- AX_ENABLE: a write of AX_CTRL.ENABLE; the level at AX_FAULT_N is given (R335). -/
def axEnable (a : Nat) (en faultHigh : Bool) (d : Dev) : Dev :=
  let st := axState d a
  let d := if en && !(st = axDISABLED && faultHigh) then d else sf .AX_CTRL a AX_CTRL.ENABLE (b2n en) d
  if en then
    (if st = axDISABLED && faultHigh then
      sf .AXH_STATUS a AXH_STATUS.DRIVE 1 (sf .AXH_STATUS a AXH_STATUS.FAULT_IN 0 (setAxState a axENABLING
        (onAxis a (fun x => { x with held := false }) d)))
     else d)
  else if st = axENABLING || st = axHOLDING || st = axSUSPENDED then showAxis a (axGoDisabling a d)
  else if axMoves d a then
    let d := onAxis a (fun x => { x with
      disable := true, home := x.home.map homeStop }) d
    showAxis a (axStop a 1 d)
  else d

/-- AX_CLEAR_FAULT (R335). -/
def axClearFault (a : Nat) (faultHigh : Bool) (d : Dev) : Dev :=
  let d := sf .AXH_STATUS a AXH_STATUS.FAULT_IN (b2n (!faultHigh)) d
  if faultHigh && axState d a = axFAULT then setAxState a axDISABLED (sf .AX_STATUS a AX_STATUS.FAULT_CAUSE 0 d) else d

/-- AX_OVERCURRENT: a coil's sensed current exceeds I_OC after blank (R331). -/
def axOvercurrent (a : Nat) (d : Dev) : Dev :=
  if !domUp d (dDIG (a / 2)) || axState d a = axDISABLED || axState d a = axFAULT then d
  else axFaultWith a 1 (incSat .AX_OVERCURRENT a d)

/-- AX_BRIDGE_FAULT: AX_FAULT_N has been low for 1 µs (R331). -/
def axBridgeFault (a : Nat) (d : Dev) : Dev :=
  if !domUp d (dDIG (a / 2)) then d
  else
    let d := sf .AXH_STATUS a AXH_STATUS.FAULT_IN 1 d
    if axState d a = axDISABLED || axState d a = axFAULT then d else axFaultWith a 2 d

/-- AX_BRAKE_DELAY: BRAKE_DELAY has passed in ENABLING or DISABLING (R335). -/
def axBrakeDelay (a : Nat) (d : Dev) : Dev :=
  if !domUp d dREMON then d
  else if axState d a = axENABLING then sf .AXH_STATUS a AXH_STATUS.BRAKE 1 (setAxState a axHOLDING d)
  else if axState d a = axDISABLING then sf .AXH_STATUS a AXH_STATUS.DRIVE 0 (setAxState a axDISABLED d)
  else d

/-- AX_HOLD_DELAY: HOLD_DELAY has passed in HOLDING since the last set-point velocity that was not 0 (R329). -/
def axHoldDelay (a : Nat) (d : Dev) : Dev :=
  if axState d a = axHOLDING && (axis d a).comp.v = 0 then onAxis a (fun x => { x with held := true }) d else d

/-- I of R329; a starvation stop holds at I_HOLD (R316), and the limit methods of HOME approach at I_RUN (R338). -/
def axCurrent (d : Dev) (a : Nat) : Nat :=
  let st := axState d a
  let x := axis d a
  if x.starving && x.cur.v = 0 then x.amps.hold
  else if st = axMOVING || st = axSTOPPING then x.amps.run
  else if st = axHOMING then
    (match x.home with
     | some h => if h.method < 2 then x.amps.home else x.amps.run
     | none => x.amps.home)
  else if st = axENABLING || st = axSUSPENDED || (st = axHOLDING && !x.held) then x.amps.run
  else x.amps.hold

/-- sin(π k / 512) in 2^-60, for k to 256, by its series. -/
def sinQuarter (k : Nat) : Int :=
  let x : Int := (3622009729038561421 * (k : Int)) / 512
  let one : Int := 2 ^ 60
  let term (n : Nat) (t : Int) : Int := -(t * x / one * x / one) / ((2 * n : Int) * (2 * n + 1))
  ((List.range' 1 14).foldl (fun (a : Int × Int) n => let t := term n a.2; (a.1 + t, t)) (x, x)).1

/-- sin(2 π θ / 1024) in 2^-60. -/
def sinOf (th : Nat) : Int :=
  let t := th % 1024
  if t ≤ 256 then sinQuarter t else if t ≤ 512 then sinQuarter (512 - t) else if t ≤ 768 then -sinQuarter (t - 512)
  else -sinQuarter (1024 - t)

/-- The target current of coil A (0) or B (1) (R329). -/
def coilTarget (d : Dev) (a coil : Nat) : Int :=
  let th := rf d .AXH_ANGLE a AXH_ANGLE.THETA
  rdiv ((axCurrent d a : Int) * sinOf (if coil = 0 then th + 256 else th)) (2 ^ 60)

/-- The levels of a coil's bridge inputs IN1 and IN2 now: in the on phase the drive towards the sign of the target, then its opposite, then
both low, as they are for a target of 0 and while nothing is driven (R313, R330, R331). They are never both high. -/
def bridgeIn (d : Dev) (a coil : Nat) : Bool × Bool :=
  let c := (axis d a).coils.getD coil ⟨0, 0, 0, 0⟩
  let t := d.now - c.start
  if !domUp d (dDIG (a / 2)) || !rb d .AXH_STATUS a AXH_STATUS.DRIVE || c.target = 0 then (false, false)
  else if t < c.on then (decide (0 < c.target), decide (c.target < 0))
  else if t < c.on + c.fast then (decide (c.target < 0), decide (0 < c.target))
  else (false, false)

/-- CHOPPER_CYCLE: a fixed-off-time cycle of a coil begins: the time, in 10 ns, after which the sensed current will reach the target, and
the sensed current at the end of the on phase, which lasts at least T_BLANK and at most T_ON_MAX (R330, R339; log entry 112). -/
def chopperCycle (a coil reach : Nat) (sensed : Int) (d : Dev) : Dev :=
  if !domUp d (dDIG (a / 2)) || !rb d .AXH_STATUS a AXH_STATUS.DRIVE then d
  else
    let d := sf .AXH_CURRENT a (if coil = 0 then AXH_CURRENT.IA else AXH_CURRENT.IB) (ux 16 sensed) d
    let t := coilTarget d a coil
    let lim := rn d .AXH_TON_MAX a
    let on := min lim (max reach (rf d .AXH_CHOP a AXH_CHOP.T_BLANK))
    let fast := (rdiv (100 * rf d .AXH_CHOP a AXH_CHOP.T_OFF * rf d .AXH_CHOP a AXH_CHOP.DECAY) 16).toNat
    let d := onAxis a (fun x => { x with coils := setAt x.coils coil ⟨t, d.now, 10 * on, fast⟩ }) d
    if t = 0 then d
    else
      let d := if lim ≤ reach then incSat .AX_TON_LIMITED a d else d
      if (t.natAbs : Int) ≤ rdiv (3827 * axCurrent d a) 10000 then
        onAxis a (fun x => { x with onSum := x.onSum + 10 * on, onNum := x.onNum + 1 }) d
      else d

/-- A limit trips (R337): latched, recorded, counted; the axis stops where it moves towards it; homing notes it. -/
def limTrip (a : Nat) (neg : Bool) (d : Dev) : Dev :=
  let x := axis d a
  let d := if neg then sf .AX_STATUS a AX_STATUS.LATCH_NEG 1 (ws64 .AX_LIM_TRIP_NEG a (ust x.pos) d)
    else sf .AX_STATUS a AX_STATUS.LATCH_POS 1 (ws64 .AX_LIM_TRIP_POS a (ust x.pos) d)
  let d := incSat .AX_LIM_TRIPS a d
  if rb d .AX_STATUS a AX_STATUS.LATCH_NEG && rb d .AX_STATUS a AX_STATUS.LATCH_POS then
    (if axState d a = axDISABLED || axState d a = axFAULT then d else axFaultWith a 3 d)
  else
    let homing := match x.home with
      | some h => h.phase == 0 && decide (h.method < 4) && (decide (h.method % 2 = 0) == neg)
      | none => false
    if homing then onAxis a (fun y => { y with limAt := some x.pos }) d
    else if (neg && decide (x.cur.v < 0)) || (!neg && decide (0 < x.cur.v)) then
      let d := onAxis a (fun y => { y with
        bad := true
        home := y.home.map (fun h => if h.phase ≠ 0 && (h.method % 2 == 0) == neg then h else homeStop h) }) d
      occur (Src.AX_LIMIT a) a (b2n (!neg)) 0 (if axMoves d a then axStop a 1 d else d)
    else d

/-- One limit input of an axis: its accepted level, not yet inverted (R337). -/
def limOne (a : Nat) (neg level : Bool) (d : Dev) : Dev :=
  let inv := rb d .AXH_LIM a (if neg then AXH_LIM.NEG_INV else AXH_LIM.POS_INV)
  let f := if neg then AXH_STATUS.LIM_NEG_IN else AXH_STATUS.LIM_POS_IN
  let was := rb d .AXH_STATUS a f
  let act := level != inv
  let d := sf .AXH_STATUS a f (b2n act) d
  if !rb d .AXH_LIM a AXH_LIM.LIM_EN then d
  else
    let lf := if neg then AX_STATUS.LATCH_NEG else AX_STATUS.LATCH_POS
    if rb d .AX_STATUS a lf then
      let trip := rs64 d (if neg then .AX_LIM_TRIP_NEG else .AX_LIM_TRIP_POS) a
      let away := if neg then ust (axis d a).pos - trip else trip - ust (axis d a).pos
      if act then (if was then d else incSat .AX_LIM_CHATTER a d)
      else if (axN d .AX_LIM_CLEAR a : Int) ≤ away then sf .AX_STATUS a lf 0 d
      else d
    else if act then limTrip a neg d
    else d

/-- LIMIT_SAMPLE: the accepted levels of an axis's limit inputs (R337). -/
def limitSample (a : Nat) (neg pos : Bool) (d : Dev) : Dev :=
  if !domUp d (dDIG (a / 2)) then d else showAxis a (limOne a false pos (limOne a true neg d))

/-- Whether a gear ratio is within R320. -/
def gearOk (n k : Nat) : Bool := decide (0 < n) && decide (0 < k) && decide (n ≤ 65536 * k)

/-- GEAR_CANCEL (R326). -/
def gearCancel (a : Nat) (d : Dev) : Dev :=
  sf .AX_GEAR_STATUS a AX_GEAR_STATUS.PENDING 0 (onAxis a (fun x => { x with gearPend := none }) d)

/-- GEAR_ARM (R326, R82); every ARM clears LATE, as in R83 (log entry 42). -/
def gearArm (a : Nat) (d : Dev) : Dev :=
  let n := rf d .AX_GEAR_NEXT a AX_GEAR_NEXT.N
  let k := rf d .AX_GEAR_NEXT a AX_GEAR_NEXT.D
  let at_ := rs64 d .AX_GEAR_AT a
  let d := sf .AX_GEAR_STATUS a AX_GEAR_STATUS.LATE 0 d
  match (axis d a).prog, headMove d a with
  | .gear m0 _ pa ga n0 k0, some m =>
    if !gearOk n k then occur (Src.GEAR_INVALID a) a 0 0 d
    else
      let c := rs64 d .ENC_COUNT m.enc
      let l := velocityEdges d.now (spGet [] m.enc d.mot.encEdges)
      let dir : Int := match l, l.getLast? with
        | (_, pn) :: _, some (_, po) => pn - po
        | _, _ => 0
      let now_ (d : Dev) : Dev :=
        let x := c * 65536 - m0
        let u : Int := 2 * (m.engage : Int) * 2 ^ 32
        let p := pa + rdiv (65536 * (gearG m x - ga) * n0) (k0 * u)
        sf .AX_GEAR_STATUS a AX_GEAR_STATUS.PENDING 0 (ws64 .AX_GEAR_APPLIED a c (sf .AX_GEAR a AX_GEAR.N n (sf .AX_GEAR a AX_GEAR.D k
          (onAxis a (fun y => { y with gearPend := none, prog := .gear m0 (c * 65536) p (gearG m x) n k }) d))))
      if c = at_ then now_ d
      else if (decide (0 < dir) && decide (at_ < c)) || (decide (dir < 0) && decide (c < at_)) then
        occur (Src.GEAR_LATE a) a 0 0 (sf .AX_GEAR_STATUS a AX_GEAR_STATUS.LATE 1 (now_ d))
      else sf .AX_GEAR_STATUS a AX_GEAR_STATUS.PENDING 1 (onAxis a (fun y => { y with gearPend := some (n, k, at_) }) d)
  | _, _ => occur (Src.GEAR_INVALID a) a 0 0 d

/-- A reset of REMON or the retraining of an axis's die link loses its next set-point. The replay after a reset completes its commands
INTERRUPTED, and its moves go on without them (R316, R341). -/
def axCut (reset : Bool) (a : Nat) (d : Dev) : Dev :=
  onAxis a (fun x =>
    let x := { x with cut := true }
    if reset then { x with
      queue := x.queue.map (fun m => { m with cmd := 0 }), resume := 0, abort := 0, home := x.home.map (fun h => { h with cmd := 0 }) }
    else x) d

/-- The Remontoire acts on every moving axis as a STOP with RAMP 0x01 and FLUSH 0 (R422 PROC 2). -/
def remonStopAll (d : Dev) : Dev :=
  (List.range 8).foldl (fun d a =>
    if axMoves d a then
      showAxis a (axStop a 1 (onAxis a (fun x => { x with home := x.home.map homeStop }) d))
    else d) d

end Sys2Proof.Machine
end

