-- ==== Sys2Proof/Machine/Calib.lean ====
section
/-!
DEFINITION. Machine/Calib.lean: baselines, drift records, calibration runs and white-tile runs (R235 to R261).
-/
namespace Sys2Proof.Machine

def cal (f : Cal → Cal) (d : Dev) : Dev := { d with cal := f d.cal }

/-! ### Drift records (R240 to R244) -/

/-- Bytes of the 29 pages of a drift record. -/
def driftSize : Nat := 29 * 262144

/-- Class byte of GD, ANCHOR and the flags of an entry, and of OD and the flags of a source (R240). -/
def offGD (e : Nat) : Nat := 262144 + 2 * e
def offAnchor (e : Nat) : Nat := 2359296 + 4 * e
def offFlags (e : Nat) : Nat := 6553600 + e
def offOD (s : Nat) : Nat := 0x100 + 2 * s
def offSrcFlags (s : Nat) : Nat := 0x300 + s
def offSerial (s : Nat) : Nat := 0x400 + 8 * s

/-- The content of a DRIFT bank by class byte; GD stands against 1.0, so that neutral content is no content (R242). -/
def driftContent (d : Dev) (bank : Nat) : Mem :=
  let b := bankAddr 11 bank 0
  (d.tables.filter (fun c => decide (b ≤ c.1) && decide (c.1 < b + 2 ^ 28))).map (fun c => (c.1 - b, c.2))

/-- The byte of a record as its window shows it: GD is not held against 1.0 there. -/
def driftShown (off : Nat) (b : Byte) : Byte :=
  if 262144 ≤ off && off < 2359296 && off % 2 = 1 then b ^^^ 0x80#8 else b

/-- CRC-32C of a record with CHECK taken as 0 (R240). -/
def driftCheck (m : Mem) : Nat :=
  crc32c ((List.range driftSize).map (fun o => if 12 ≤ o && o < 16 then 0#8 else driftShown o (m.read o)))

/-- The content that will be in force once every accepted result is. -/
def calBase (d : Dev) : Mem := d.cal.next.getD (driftContent d (bankIn d 11))

/-- A result is accepted: the content that the next hand-over with the bank free brings into force (R252). -/
def calAccept (m : Mem) (d : Dev) : Dev := cal (fun c => { c with next := some m }) d

def putLe (m : Mem) (off n v : Nat) : Mem := m.writeBytes off (leBytes n v)

/-- Entries and sources of a segment of an image (R134, R136). -/
def segEntries (i : Bytes) (s : Nat) (r : Bytes) : List Nat :=
  let b := segBase i s
  (List.range (rPlanes r)).flatMap (fun pl => (List.range (rColumns r)).map (fun x => entryNo pl (b + x)))
def segSources (r : Bytes) : List Nat :=
  (rPorts r).flatMap (fun p => ([0, 1, 2].filter (rSrc r)).map (sourceNo p))

def fLOW : Nat := 1
def fNOISY : Nat := 2
def fRANGE : Nat := 4
def fNO_ANCHOR : Nat := 8
def fKEPT : Nat := 16
def fDISAGREE : Nat := 32
def fNO_DARK : Nat := 64

/-- A segment's entries made neutral in gain, with NO_ANCHOR (R242, table change). -/
def gainNeutral (i : Bytes) (s : Nat) (r : Bytes) (m : Mem) : Mem :=
  (segEntries i s r).foldl (fun m e => putLe (putLe (putLe m (offGD e) 2 0) (offAnchor e) 4 0) (offFlags e) 1 fNO_ANCHOR) m

/-- A segment's entries and sources made neutral, with NO_ANCHOR (R242, serial change). -/
def segNeutral (i : Bytes) (s : Nat) (r : Bytes) (m : Mem) : Mem :=
  (segSources r).foldl (fun m q => putLe (putLe m (offOD q) 2 0) (offSrcFlags q) 1 fNO_ANCHOR) (gainNeutral i s r m)

/-- Heads whose SERIAL differs from one held for their segment: that segment becomes neutral and takes the new serial (R242). -/
def serialChanges (d : Dev) : Dev :=
  match activeImage d with
  | none => d
  | some i =>
    if !domUp d dREGUL then d
    else
      d.fe.heads.foldl (fun d h =>
        if h.seg = 0 then d
        else
          let s := h.seg - 1
          let held := leNat (Mem.readBytes (calBase d) (offSerial s) 8)
          let now_ := boundSerial d s
          if held = 0 || held = now_ then d
          else match segRecOf i s with
            | some r => calAccept (putLe (segNeutral i s r (calBase d)) (offSerial s) 8 now_) d
            | none => d) d

/-! ### Status (R243, R261) -/

/-- BUSY: from the start of a run until its result is in force and the former bank free (R243). -/
def calBusy (d : Dev) : Bool := d.cal.run.isSome || d.cal.pend.isSome || (d.cal.after && bankIsBusy d 11)

/-- Whether a run still covers a segment: it has not dropped out (R260). -/
def calCovers (r : CalRun) (s : Nat) : Bool := r.segs.any (fun x => x.seg == s)

/-- Whether a run has all its lines (R250). -/
def runFull (r : CalRun) : Bool := !r.segs.isEmpty && r.segs.all (fun s => decide (2 * r.lines ≤ s.lines))

def showCal (d : Dev) : Dev :=
  let d := sf .CAL_STATUS 0 CAL_STATUS.BUSY (b2n (calBusy d)) d
  match d.cal.run with
  | some r =>
    sf .CAL_STATUS 0 CAL_STATUS.RUNNING (b2n (r.tile = 0 && r.first ≠ 0 && !runFull r))
      (sf .CAL_STATUS 0 CAL_STATUS.SET (b2n (!r.segs.isEmpty && r.segs.all (fun s => decide (r.lines ≤ s.lines)))) d)
  | none => sf .CAL_STATUS 0 CAL_STATUS.RUNNING 0 d

/-! ### Baselines (R235 to R239) -/

/-- PAYLOAD_LEN that a header calls for (R236). -/
def basePayload (b : Bytes) : Nat :=
  let k := leAt b 6 1
  let n := leAt b 20 4 * leAt b 24 1
  if k = 1 || k = 2 then 2 * n else if k = 3 then 4 * n else if k = 4 then 576 else 16

/-- The first header rule that a record breaks: status and block offset (R236, R239 order 2). -/
def baseHeaderBad (b : Bytes) (len : Nat) : Option (Nat × Nat) :=
  let k := leAt b 6 1
  let seg := leAt b 7 1
  let dev := decide (4 ≤ k)
  if leAt b 0 4 ≠ 0x4C534142 then some (stPARAM, 0)
  else if leAt b 4 2 ≠ 1 then some (stPARAM, 4)
  else if k = 0 || 5 < k then some (stPARAM, 6)
  else if (dev && seg ≠ 0xFF) || (!dev && 47 < seg) then some (stPARAM, 7)
  else if dev && leAt b 8 8 ≠ 0 then some (stPARAM, 8)
  else if dev && leAt b 16 2 ≠ 0 then some (stPARAM, 16)
  else if !zeroIn b 18 20 then some (stPARAM, 18)
  else if dev != decide (leAt b 20 4 = 0) then some (stPARAM, 20)
  else if 262144 < leAt b 20 4 then some (stBOUND, 20)
  else if (dev && leAt b 24 1 ≠ 0) || (!dev && (leAt b 24 1 = 0 || 4 < leAt b 24 1)) then some (stPARAM, 24)
  else if !zeroIn b 25 28 then some (stPARAM, 25)
  else if leAt b 28 4 ≠ basePayload b then some (stPARAM, 28)
  else if k ≠ 3 && leAt b 48 2 ≠ 0 then some (stPARAM, 48)
  else if !zeroIn b 50 52 then some (stPARAM, 50)
  else if k ≠ 2 && leAt b 52 4 ≠ 0 then some (stPARAM, 52)
  else if leAt b 56 4 = 0 || len ≠ 128 + leAt b 28 4 + leAt b 56 4 then some (stPARAM, 56)
  else if !zeroIn b 64 128 then some (stPARAM, 64)
  else if k = 5 && (List.range 16).any (fun g => decide (64 ≤ leAt b (128 + g) 1)) then some (stPARAM, 128)
  else none

/-- CHECK of a record (R236). -/
def baseCheckOk (b : Bytes) : Bool :=
  leAt b 60 4 == crc32c (putBytes (b.take (128 + leAt b 28 4)) 60 (zeros 4))

/-- The vendor root key of the running image (R394). -/
def runningRootKey (d : Dev) : Bytes :=
  if rb d .SEC_STATUS 0 SEC_STATUS.RUNNING then
    (((d.sec.slots.getD (rf d .SEC_STATUS 0 SEC_STATUS.RUNNING_SLOT) (0, [])).2.drop 256).take 1952) else []

/-- Whether Franking accepts the certificate of a record (R406). -/
def certOk (d : Dev) (b : Bytes) : Bool :=
  let n := 128 + leAt b 28 4
  let c := b.drop n
  let key := (c.drop 128).take 1952
  let signer := leAt c 6 1
  leAt c 0 4 == 0x54524543 && leAt c 4 2 == 1 && leAt c 7 1 == 0 && zeroIn c 72 128 &&
  (c.drop 8).take 64 == digest (b.take n) &&
  Config.mldsaVerify key (c.take 2080) ((c.drop 2080).take 3309) &&
  (if signer = 1 then c.length == 8698 && Config.mldsaVerify (runningRootKey d) key ((c.drop 5389).take 3309)
   else signer == 2 && c.length == 5389 && key == identityKey)

/-- VALID of a stored record (R238). -/
def baseValid (b : Baseline) : Bool := b.valid

/-- The checks of a stored record: its NVS lines, CHECK and the certificate (R238, R431). -/
def baseCheck (d : Dev) (b : Baseline) : Bool := !nvsFails d 1 b.entry && baseCheckOk b.bytes && certOk d b.bytes

/-- The current record of a kind and segment: the valid one of the highest sequence number (R237). -/
def baseCurrent (d : Dev) (kind s : Nat) : Option Baseline :=
  (d.cal.base.filter (fun b => leAt b.bytes 6 1 == kind && leAt b.bytes 7 1 == s && baseValid b)).foldl (fun a b => match a with
    | none => some b
    | some x => if x.seq < b.seq then some b else some x) none

/-- The directory registers show the records. -/
def showBase (d : Dev) : Dev :=
  (List.range 256).foldl (fun d e =>
    match d.cal.base.find? (fun b => b.entry == e) with
    | none => wn .CAL_BASE_DIR e 0 (wn .CAL_BASE_LEN e 0 (wn .CAL_BASE_SEQ e 0 d))
    | some b =>
      let k := leAt b.bytes 6 1
      let s := leAt b.bytes 7 1
      let cur := match baseCurrent d k s with
        | some c => c.entry == e
        | none => false
      wn .CAL_BASE_DIR e (k + 256 * s + 65536 * b2n (baseValid b) + 131072 * b2n cur)
        (wn .CAL_BASE_LEN e b.bytes.length (wn .CAL_BASE_SEQ e b.seq d))) d

/-- SERIAL of each segment's shading baseline, for R122 (R238). -/
def shadeSerials (d : Dev) : Dev :=
  let one (m : List (Nat × Nat)) (s : Nat) : List (Nat × Nat) :=
    let b := match baseCurrent d 2 s with
      | some b => some b
      | none => baseCurrent d 1 s
    match b with
    | some b => if leAt b.bytes 8 8 = 0 then m else mset s (leAt b.bytes 8 8 + 1) m
    | none => m
  fe (fun x => { x with shadeSerial := (List.range 48).foldl one [] }) d

/-- After a release of REGUL every directory entry is checked (R238). -/
def baseRelease (d : Dev) : Dev :=
  let d := cal (fun c => { c with base := c.base.map (fun b => { b with valid := baseCheck d b }) }) d
  let d := showBase (shadeSerials d)
  d.cal.base.foldl (fun d b => if baseValid b then d else
    occur Src.BASELINE_INVALID (leAt b.bytes 6 1) (leAt b.bytes 7 1) 0 d) d

/-- At a release of FE die `n`, PG_DESKEW of its generators is loaded from the current DESKEW record, or from 0 (R109, R238). -/
def deskewLoad (n : Nat) (d : Dev) : Dev :=
  (List.range 4).foldl (fun d g =>
    let v := match baseCurrent d 5 0xFF with
      | some b => leAt b.bytes (128 + 4 * n + g) 1 % 64
      | none => 0
    wn .PG_DESKEW (4 * n + g) v { d with inforce := spSet (Reg.reset .PG_DESKEW (4 * n + g)) (rkey .PG_DESKEW (4 * n + g)) (BitVec.ofNat 64 v) d.inforce }) d

/-- Bytes of the baseline area in use, and a free directory entry (R237). -/
def baseUsed (d : Dev) : Nat := (d.cal.base.map (·.bytes.length)).foldl (· + ·) 0
def baseFree (d : Dev) : Option Nat := pickFree d ((List.range 256).filter (fun e => d.cal.base.all (·.entry != e)))

/-- A record that has passed its checks becomes current, and the former one's space is freed (R237). -/
def baseStore (e : Nat) (rec_ : Bytes) (d : Dev) : Dev :=
  let old := baseCurrent d (leAt rec_ 6 1) (leAt rec_ 7 1)
  let seq := d.cal.base.foldl (fun m b => max m b.seq) 0 + 1
  let kept (l : List Baseline) : List Baseline := match old with
    | some o => l.filter (fun b => b.entry ≠ o.entry)
    | none => l
  let d := cal (fun c => { c with base := kept c.base ++ [⟨e, seq, rec_, true⟩] }) (nvsFresh 1 e d)
  showBase (shadeSerials d)

/-- BASELINE_WRITE: once the record has passed its checks it is written to NVS; it is current when that write ends (R239). -/
def baselineWrite (c : Cmd) (d : Dev) : Dev :=
  let b := c.block
  match baseHeaderBad b b.length with
  | some (st, off) => complete c st (min 0xFF (0x40 + off)) [] d
  | none =>
    if !baseCheckOk b then complete c stINTEGRITY 0 [] d
    else if !certOk d b then complete c stSIGNATURE 0 [] (incSat .SEC_SIG_FAILS 0 d)
    else if (baseFree d).isNone || 201326592 < baseUsed d + b.length then complete c stBOUND 0 [] d
    else updCmd { c with data := [1] } d

/-- The NVS write of a baseline record ends. Read back right, the record is current and its command completes; otherwise nothing is
stored and the command ends INTEGRITY (R237, R239; log entry 97). -/
def baselineWritten (ok : Bool) (d : Dev) : Dev :=
  match d.post.cmds.find? (fun c => c.op == 0x62 && c.started && !c.data.isEmpty) with
  | some c =>
    if ok then completeOk c [] (baseStore ((baseFree d).getD 0) c.block (useFresh d))
    else complete c stINTEGRITY 0 [] d
  | none => d

/-! ### What a line adds to a run (R245 to R248, R259) -/

/-- Stage 4 outputs of a segment for a line that has just left the pipeline (R141, R246). -/
def segV4 (d : Dev) (l : LineRec) (s : Nat) (r : Bytes) : Option (List Int) :=
  let ctl := shadowOf l .PIPE_CTRL 0
  match (stage3 d l s r (d.pipe.hist.filter (fun h => h.seg == s))).1 with
  | none => none
  | some v =>
    let dt := darkDt d l s (PIPE_CTRL.TEMP_EN.get ctl == 1)
    let cols := max 1 (rColumns r)
    let base := segBase l.img s
    some (v.zipIdx.map (fun x =>
      let w := tget d 3 (l.banks.getD 3 0) (4 * entryNo (x.2 / cols) (base + x.2 % cols)) 4
      satW (if PIPE_CTRL.DARK_EN.get ctl == 1 then stage4 (w % 65536) (sx 16 (w / 65536)) dt x.1 else x.1)))

/-- Whether a line is eligible for a segment (R245). -/
def calEligible (d : Dev) (l : LineRec) (c : Corrected) (run : CalRun) (s : Nat) (r : Bytes) : Bool :=
  (seg d s).st == .live && !(rPorts r).any (fun p => bitOf c.masked p || bitOf l.suspect p) &&
  (leAt c.header 7 1 &&& 28) == 0 &&
  [l.gens.getD 2 0, l.gens.getD 4 0, l.gens.getD 11 0] == run.gens &&
  (!run.marksOnly || bitOf l.marks s)

/-- Whether a judged pixel is paper (R246). -/
def isPaper (d : Dev) (p : RefPage) (x : Pixel) : Bool :=
  !x.defect && bitOf (rf d .CAL_REGION_MASK 0 CAL_REGION_MASK.REGIONS) x.region &&
  [-1, 0, 1].all (fun (dw : Int) => [-1, 0, 1].all (fun (du : Int) =>
    let u := x.u + du
    let w := x.w + dw
    decide (0 ≤ u) && decide (u < p.width) && decide (0 ≤ w) && decide (w < p.rows) && (inkAt d p u w).all (· == 0)))

def noAcc : CalAcc := ⟨0, 0, 0⟩
def addAcc (k : Nat) (z : Int) (m : List (Nat × CalAcc)) : List (Nat × CalAcc) :=
  let a := spGet noAcc k m
  spSet noAcc k ⟨a.c + 1, a.s + z, a.s2 + (z * z).toNat⟩ m

/-- The comparator column to which an image column of a placed segment is tied (R246). -/
def tiedTo (d : Dev) (l : LineRec) (m : Seam) (x : Nat) : Nat :=
  let first := tget d 5 (l.banks.getD 5 0) 0x600 4 % 2 ^ 18
  (m.xStart + x - m.imgFirst - first) / avgFactor (PIPE_CTRL.AVG.get (shadowOf l .PIPE_CTRL 0))

/-- The key of a source among the sums. -/
def srcKey (q : Nat) : Nat := 2 ^ 20 + q

/-- The samples of one segment of an eligible line. -/
def calSamples (d : Dev) (l : LineRec) (c : Corrected) (px : List Pixel) (run : CalRun) (s : Nat) (r : Bytes) : List (Nat × Int) :=
  let cols := rColumns r
  let base := segBase l.img s
  let m := seamRec d (l.banks.getD 5 0) s
  let v := (segV4 d l s r).getD []
  let image := (List.range (rPlanes r)).flatMap (fun pl => (List.range' m.imgFirst m.imgCount).map (fun x => (pl, x)))
  if run.kind = 0x10 then
    (if m.placed then image.map (fun y => (entryNo y.1 (base + y.2), v.getD (y.1 * cols + y.2) 0)) else [])
  else
    let paper := match (findTrack d l.page).bind (·.ref) with
      | some p => px.map (isPaper d p)
      | none => []
    let gain := if (run.kind = 0 || run.kind = 2 || run.kind = 3) && m.placed && !l.unreg && !px.isEmpty then
        image.filterMap (fun y =>
          let n := tiedTo d l m y.2
          let t := (c.linear.getD y.1 []).getD n 0
          if paper.getD n false && t ≠ 0 && t ≠ 65535 then
            let e := entryNo y.1 (base + y.2)
            some (e, rn2 (v.getD (y.1 * cols + y.2) 0 * tget d 4 (l.banks.getD 4 0) (2 * e) 2) 4096)
          else none)
      else []
    let dark := if (run.kind = 0 || run.kind = 1) && PIPE_CTRL.DARK_EN.get (shadowOf l .PIPE_CTRL 0) == 1 && rb d .CAL_DARK s CAL_DARK.EN then
        let lo := rf d .CAL_DARK s CAL_DARK.FIRST
        let hi := lo + rf d .CAL_DARK s CAL_DARK.COUNT
        (segSources r).flatMap (fun q => (placesOf d (l.banks.getD 2 0) q).filterMap (fun x =>
          if decide ((lo : Int) ≤ x.2.2) && decide (x.2.2 < (hi : Int)) then some (srcKey q, v.getD (x.1 * cols + x.2.2.toNat) 0) else none))
      else []
    gain ++ dark

/-- A line that has left stage 9 and been judged, or not, adds to the run in progress (R245, R250). -/
def calLine (l : LineRec) (c : Corrected) (px : List Pixel) (d : Dev) : Dev :=
  match d.cal.run with
  | some run =>
    if run.first = 0 || l.num + 1 < run.first || run.tile = 1 then d
    else
      let out := run.segs.foldl (fun (a : CalRun) x =>
        match segRecOf l.img x.seg with
        | none => a
        | some r =>
          if 2 * run.lines ≤ x.lines || !calEligible d l c run x.seg r then a
          else
            let sm : List (Nat × Int) := calSamples d l c px run x.seg r
            let a : CalRun := { a with segs := a.segs.map (fun (y : CalSeg) => if y.seg = x.seg then { y with lines := y.lines + 1 } else y) }
            if x.lines < run.lines then
              { a with setA := sm.foldl (fun m (z : Nat × Int) => addAcc z.1 z.2 m) a.setA, lineA := if a.lineA = 0 then l.num + 1 else a.lineA }
            else { a with setB := sm.foldl (fun m (z : Nat × Int) => addAcc z.1 z.2 m) a.setB, lineB := l.num + 1 }) run
      showCal (cal (fun k => { k with run := some out }) d)
  | none => d

/-! ### Decision (R249 to R254, R259) -/

/-- What a decision finds of one entry or source. -/
structure CalFind where
  key    : Nat
  flags  : Nat
  tested : Bool
  agrees : Bool
  /-- The pooled result, where it lies within its limits. -/
  value  : Option Int
  diff   : Nat
  /-- The value is an anchor; and the entry had none before the run. -/
  anchor : Bool
  bare   : Bool

/-- The flags a run leaves: NO_ANCHOR for an entry that had no anchor and was not anchored, DISAGREE in a rejected run (R241). An
accepted tile run leaves no entry an anchor (R242, R259). -/
def calFlags (accepted tile : Bool) (x : CalFind) : Nat :=
  x.flags + (if (x.bare && !(accepted && x.anchor && x.value.isSome)) || (accepted && tile) then fNO_ANCHOR else 0) +
    (if !accepted && x.tested && !x.agrees then fDISAGREE else 0)

/-- A quotient of a set's sums, free where its divisor is 0. -/
def calQuot (d : Dev) (k : Nat) (a b : Int) : Int := if b = 0 then Config.noQuotient (d.fresh + k) else rdiv2 a b

/-- The noise test over pooled sums (R249). -/
def noiseOk (sigma : Nat) (a : CalAcc) : Bool :=
  decide ((a.c : Int) * a.s2 - a.s * a.s ≤ (sigma * sigma * a.c * (a.c - 1) : Nat))

def pool (a b : CalAcc) : CalAcc := ⟨a.c + b.c, a.s + b.s, a.s2 + b.s2⟩

/-- What a run finds of one entry or source (R249, R251). An entry without an anchor that is not to be anchored has no value to test
(log entry 98). -/
def calFind (d : Dev) (run : CalRun) (noDark : Nat → Bool) (key : Nat) : CalFind :=
  let a := spGet noAcc key run.setA
  let b := spGet noAcc key run.setB
  let p := pool a b
  let min_ := rf d .CAL_MIN_SAMPLES 0 CAL_MIN_SAMPLES.COUNT
  let enough := decide (min_ ≤ a.c) && decide (min_ ≤ b.c)
  let bank := bankIn d 11
  let bare := decide (key < 2 ^ 20) && tget d 11 bank (offAnchor key) 4 == 0
  let untested (f : Nat) : CalFind := ⟨key, f + fKEPT, false, true, none, 0, false, bare⟩
  if 2 ^ 20 ≤ key then
    let q := key - 2 ^ 20
    if noDark q then untested (fLOW + fNO_DARK)
    else if !enough then untested fLOW
    else
      let gain := tget d 2 (bankIn d 2) (8 * q) 8 / 65536 % 65536
      let now_ := driftOffset d bank q
      let od (k : Nat) (x : CalAcc) : Int := now_ + calQuot d (4 * key + k) (x.s * 16384) (x.c * gain)
      let lim : Int := rf d .CAL_LIMIT_OFFSET 0 CAL_LIMIT_OFFSET.OFFSET
      let v := od 2 p
      let df := (od 0 a - od 1 b).natAbs
      let ok := decide (-lim ≤ v) && decide (v ≤ lim) && decide (-32768 ≤ v) && decide (v ≤ 32767)
      ⟨key, if ok then 0 else fRANGE + fKEPT, true, decide (df ≤ rf d .CAL_TOL 0 CAL_TOL.OFFSET), if ok then some v else none, df, false, bare⟩
  else if run.kind = 0x10 then
    if !enough then untested fLOW
    else if !noiseOk (rf d .CAL_TOL2 0 CAL_TOL2.SIGMA) p then untested fNOISY
    else
      let t := rf d .CAL_TILE_TARGET (key / 262144) CAL_TILE_TARGET.CODE
      let sv (k : Nat) (x : CalAcc) : Int := calQuot d (4 * key + k) (65536 * t * x.c) x.s
      let v := sv 2 p
      let df := (sv 0 a - sv 1 b).natAbs
      let ok := decide (0 < p.s) && decide (v ≤ 65535)
      ⟨key, if ok then 0 else fRANGE + fKEPT, true, decide (df ≤ rf d .CAL_TOL2 0 CAL_TOL2.SHADE), if ok then some v else none, df, false, bare⟩
  else
    let anchor := tget d 11 bank (offAnchor key) 4
    let want := run.kind == 3 || (anchor == 0 && rb d .CAL_CTRL 0 CAL_CTRL.AUTO_ANCHOR)
    if !enough then untested fLOW
    else if !noiseOk (rf d .CAL_TOL2 0 CAL_TOL2.SIGMA) p then untested fNOISY
    else if anchor = 0 && !want then untested 0
    else if want then
      let an (k : Nat) (x : CalAcc) : Int := calQuot d (4 * key + k) x.s x.c
      let v := an 2 p
      let df := (calQuot d (4 * key + 3) (32768 * an 0 a) (an 1 b) - 32768).natAbs
      let ok := decide (0 < v) && decide (v < 2 ^ 32)
      ⟨key, if ok then 0 else fRANGE + fKEPT, true, decide (df ≤ rf d .CAL_TOL 0 CAL_TOL.GAIN), if ok then some v else none, 0, true, bare⟩
    else
      let gd (k : Nat) (x : CalAcc) : Int := calQuot d (4 * key + k) (32768 * anchor * x.c) x.s
      let v := gd 2 p
      let df := (gd 0 a - gd 1 b).natAbs
      let ok := decide (0 < p.s) && decide ((rf d .CAL_LIMIT 0 CAL_LIMIT.GAIN_MIN : Int) ≤ v) &&
        decide (v ≤ rf d .CAL_LIMIT 0 CAL_LIMIT.GAIN_MAX)
      ⟨key, if ok then 0 else fRANGE + fKEPT, true, decide (df ≤ rf d .CAL_TOL 0 CAL_TOL.GAIN), if ok then some v else none, df, false, bare⟩

/-- Entries and sources a run examines: entries tied to a comparator column, image pixels of a tile run, sources (R246, R247, R259). -/
def calKeys (d : Dev) (i : Bytes) (run : CalRun) : List Nat :=
  run.segs.flatMap (fun x =>
    match segRecOf i x.seg with
    | none => []
    | some r =>
      let m := seamRec d (bankIn d 5) x.seg
      let first := tget d 5 (bankIn d 5) 0x600 4 % 2 ^ 18
      let count := tget d 5 (bankIn d 5) 0x604 4 % 2 ^ 19
      let tied (y : Nat) : Bool := decide (first ≤ m.xStart + y - m.imgFirst) && decide (m.xStart + y - m.imgFirst < first + count)
      let ent := if m.placed && run.kind ≠ 1 then
          (List.range (rPlanes r)).flatMap (fun pl =>
            ((List.range' m.imgFirst m.imgCount).filter (fun y => run.kind == 0x10 || tied y)).map (fun y =>
              entryNo pl (segBase i x.seg + y)))
        else []
      ent ++ (if run.kind = 0 || run.kind = 1 then (segSources r).map srcKey else []))

/-- Sources of a segment that supply no enabled dark column (R241). -/
def hasDark (d : Dev) (i : Bytes) (run : CalRun) (q : Nat) : Bool :=
  run.segs.any (fun x => match segRecOf i x.seg with
    | none => false
    | some r => (segSources r).contains q && rb d .CAL_DARK x.seg CAL_DARK.EN &&
      (placesOf d (bankIn d 2) q).any (fun y => decide ((rf d .CAL_DARK x.seg CAL_DARK.FIRST : Int) ≤ y.2.2) &&
        decide (y.2.2 < rf d .CAL_DARK x.seg CAL_DARK.FIRST + rf d .CAL_DARK x.seg CAL_DARK.COUNT)))

/-- Counts of a run record (R254). -/
structure CalCount where
  applied : Nat
  low  : Nat
  noisy : Nat
  range : Nat
  noAnchor : Nat
  disagree : Nat
  worstGain : Nat
  worstOff : Nat

def calCount (accepted tile : Bool) (l : List CalFind) : CalCount :=
  let n (f : CalFind → Bool) : Nat := (l.filter f).length
  let has (b : Nat) (x : CalFind) : Bool := bitOf (calFlags accepted tile x) b
  ⟨n (fun x => x.tested && x.value.isSome), n (has 0), n (has 1), n (has 2), n (has 3), n (fun x => x.tested && !x.agrees),
    min 65535 (l.foldl (fun m x => if x.key < 2 ^ 20 then max m x.diff else m) 0),
    min 65535 (l.foldl (fun m x => if 2 ^ 20 ≤ x.key then max m x.diff else m) 0)⟩

def noCount : CalCount := ⟨0, 0, 0, 0, 0, 0, 0, 0⟩

/-- RESULT of a calibration command (R253). -/
def calResult (num outcome applied disagree : Nat) : Bytes :=
  leBytes 4 num ++ leBytes 1 outcome ++ zeros 3 ++ leBytes 4 applied ++ leBytes 4 disagree

/-- A run ends with an outcome (R253, R254, R258, R259): its record, counters, events and triggers. -/
def calClose (run : CalRun) (outcome : Nat) (n : CalCount) (tableOut : Bool) (d : Dev) : Dev :=
  let gen := if outcome = 0 then (rf d .TTBL_GEN_INFORCE 11 TTBL_GEN_INFORCE.GEN + 1) % 65536 else 0
  let rec_ := leBytes 4 run.num ++ leBytes 1 run.kind ++ leBytes 1 run.origin ++ leBytes 1 outcome ++ [0#8] ++ leBytes 6 run.mask ++
    leBytes 2 gen ++ leBytes 7 (run.lineA - 1) ++ leBytes 7 (run.lineB - 1) ++ leBytes 2 n.worstGain ++
    leBytes 3 (if outcome = 0 then n.applied else 0) ++ leBytes 3 n.low ++ leBytes 3 n.noisy ++ leBytes 3 n.range ++ leBytes 3 n.noAnchor ++
    leBytes 3 n.disagree ++ leBytes 2 n.worstOff ++ zeros 4 ++ leBytes 8 d.now
  let d := winWrite .calLog (64 * (run.num % 64)) rec_ (cal (fun c => { c with run := none }) d)
  let d := if outcome = 0 then incSat .CAL_RUNS_ACCEPTED 0 d else if outcome = 1 then incSat .CAL_RUNS_REJECTED 0 d
    else incSat .CAL_RUNS_OTHER 0 d
  let d := if outcome = 1 then occur Src.CAL_REJECTED run.num 0 0 d else d
  let d := if run.origin = 1 && outcome ≠ 0 && rf d .CAL_HOLDOFF 0 CAL_HOLDOFF.S ≠ 0 then
      (bitsOf run.mask 48).foldl (fun d s => sf .CAL_SEG_STATUS s CAL_SEG_STATUS.HELD_OFF 1 d) d else d
  let d := if outcome = 0 then
      run.segs.foldl (fun d x =>
        wn .CAL_SEG_LAST_RUN x.seg run.num (sf .CAL_SEG_STATUS x.seg CAL_SEG_STATUS.TRIGGERED (b2n (d.cal.again.contains x.seg)) d)) d
    else d
  let d := cal (fun c => { c with again := [] }) d
  let d := if run.kind = 0x10 && tableOut then
      axEventMove (rf d .CAL_TILE_CFG 0 CAL_TILE_CFG.AXIS) (rf d .CAL_TILE_OUT 0 CAL_TILE_OUT.TABLE_OUT) d else d
  showCal d

/-- A run ends, and its command completes unless its result is still to come into force (R253). -/
def calEnd (run : CalRun) (outcome : Nat) (n : CalCount) (status : Nat) (tableOut : Bool) (d : Dev) : Dev :=
  let d := calClose run outcome n tableOut d
  if outcome = 0 then d else endCmd run.cmd status 0 (calResult run.num outcome 0 n.disagree) d

/-- The content with what a run found: values and flags of an accepted run, flags alone of a rejected one (R251). -/
def calWrite (i : Bytes) (run : CalRun) (accepted : Bool) (l : List CalFind) (m : Mem) : Mem :=
  l.foldl (fun m x =>
    let fl := calFlags accepted (run.kind == 0x10) x
    let src := decide (2 ^ 20 ≤ x.key)
    let m := putLe m (if src then offSrcFlags (x.key - 2 ^ 20) else offFlags x.key) 1 fl
    match (if accepted && run.kind ≠ 0x10 then x.value else none) with
    | none => m
    | some v =>
      if src then putLe m (offOD (x.key - 2 ^ 20)) 2 (ux 16 v)
      else if x.anchor then putLe m (offAnchor x.key) 4 v.toNat
      else putLe m (offGD x.key) 2 (v.toNat.xor 32768))
    (if accepted && run.kind = 0x10 then
      run.segs.foldl (fun m s => match segRecOf i s.seg with
        | some r => gainNeutral i s.seg r m
        | none => m) m
     else m)

/-- CAL_DECISION: the sets of a run are complete, and the Regulator accepts or rejects it (R251, R252). -/
def calDecision (d : Dev) : Dev :=
  match d.cal.run, activeImage d with
  | some run, some i =>
    if !runFull run || !domUp d dREGUL then d
    else
      let l := (calKeys d i run).map (calFind d run (fun q => !hasDark d i run q))
      let d := { d with fresh := d.fresh + 2 ^ 23 }
      let tile := run.kind == 0x10
      if !l.any (·.tested) then calEnd run 2 (calCount false tile l) stOK true d
      else if l.any (fun x => x.tested && !x.agrees) then
        -- flags of the record in force, and of one that waits (R241)
        let b := bankAddr 11 (bankIn d 11) 0
        let d := { d with tables := l.foldl (fun m x =>
          putLe m (b + (if 2 ^ 20 ≤ x.key then offSrcFlags (x.key - 2 ^ 20) else offFlags x.key)) 1
            (calFlags false tile x)) d.tables }
        let d := cal (fun c => { c with next := c.next.map (calWrite i run false l) }) d
        calEnd run 1 (calCount false tile l) stOK true d
      else
        let n := calCount true tile l
        let m := calWrite i run true l (calBase d)
        let m := putLe (putLe m 8 4 run.num) 16 8 d.now
        let m := run.segs.foldl (fun m s => if boundSerial d s.seg = 0 then m else putLe m (offSerial s.seg) 8 (boundSerial d s.seg)) m
        let shade := if tile then l.filterMap (fun x => x.value.map (fun v => (x.key, v.toNat))) else []
        let d := cal (fun c => { c with pend := some ⟨run, n.applied, shade⟩ }) (calAccept m d)
        let d := if tile then run.segs.foldl (fun d s => occur Src.ANCHOR_INVALIDATED s.seg 0 0 d) d else d
        calEnd run 0 n stOK true d
  | _, _ => d

/-- A run ends without a decision. -/
def calStopRun (outcome status : Nat) (tableOut : Bool) (d : Dev) : Dev :=
  match d.cal.run with
  | none => d
  | some run => calEnd run outcome noCount status tableOut d

/-- CAL_TIMEOUT: TIMEOUT_MS has passed before collection ended (R250). -/
def calTimeout (d : Dev) : Dev :=
  match d.cal.run with
  | none => d
  | some run => if runFull run || !domUp d dREGUL then d else calStopRun 3 stTIMEOUT true d

/-- CAL_HOLDOFF_EXPIRY: the holdoff of a segment ends (R258). -/
def calHoldoffExpiry (s : Nat) (d : Dev) : Dev := whenUp dREGUL (sf .CAL_SEG_STATUS s CAL_SEG_STATUS.HELD_OFF 0) d

/-- TILE_SETTLE_DONE: SETTLE_US has passed since the tile-in move completed; set A starts with the next line (R259). -/
def tileSettleDone (d : Dev) : Dev :=
  match d.cal.run with
  | some run =>
    let a := rf d .CAL_TILE_CFG 0 CAL_TILE_CFG.AXIS
    if run.tile = 1 && axState d a = axHOLDING && (axis d a).queue.isEmpty && domUp d dREGUL then
      cal (fun c => { c with run := some { run with tile := 0, first := 0 } }) d else d
  | none => d

/-! ### Temperatures and triggers (R257, R258) -/

/-- A segment is triggered, unless it is held off or already waits (R257, R258). -/
def calTrigger (s i : Nat) (d : Dev) : Dev :=
  let covered := match d.cal.run with
    | some r => calCovers r s
    | none => false
  if rb d .CAL_SEG_STATUS s CAL_SEG_STATUS.HELD_OFF then d
  else if rb d .CAL_SEG_STATUS s CAL_SEG_STATUS.TRIGGERED && (!covered || d.cal.again.contains s) then d
  else
    let d := if covered then cal (fun c => { c with again := s :: c.again }) d else d
    occur Src.CAL_TRIGGER s i 0 (incSat .CAL_TRIGGERS 0 (sf .CAL_SEG_STATUS s CAL_SEG_STATUS.TRIGGERED 1 d))

/-- A result of auxiliary input `i` that is tagged neither open nor UNSETTLED, in 1/256 °C (R257). -/
def calTemp (i : Nat) (t : Int) (d : Dev) : Dev :=
  if !domUp d dREGUL then d
  else
    let d := cal (fun c => { c with latest := mset i (ux 32 t + 2 ^ 32) c.latest }) d
    (List.range 48).foldl (fun d s =>
      if !bitOf (rf d .CAL_SEG_TEMP s CAL_SEG_TEMP.INPUTS) i then d
      else if !d.cal.refSet.contains (32 * s + i) then
        ws32 .CAL_TEMP_REF (32 * s + i) t (cal (fun c => { c with refSet := (32 * s + i) :: c.refSet }) d)
      else if rb d .CAL_CTRL 0 CAL_CTRL.AUTO_EN &&
          decide (rf d .CAL_TEMP_DELTA 0 CAL_TEMP_DELTA.DELTA < (t - rs32 d .CAL_TEMP_REF (32 * s + i)).natAbs) then
        calTrigger s i d
      else d) d

/-- The Regulator triggers every LIVE segment (R422 PROC 1). -/
def regulTriggerAll (d : Dev) : Dev :=
  if !domUp d dREGUL then d
  else (List.range 48).foldl (fun d s => if (seg d s).st == .live then calTrigger s 0 d else d) d

/-- References of the segments of an accepted run are set from the latest results (R257). -/
def setRefs (run : CalRun) (d : Dev) : Dev :=
  (run.segs.map (·.seg)).foldl (fun d s => (bitsOf (rf d .CAL_SEG_TEMP s CAL_SEG_TEMP.INPUTS) 32).foldl (fun d i =>
    if mget d.cal.latest i = 0 then d
    else
      cal (fun c => { c with refSet := if c.refSet.contains (32 * s + i) then c.refSet else (32 * s + i) :: c.refSet })
        (wn .CAL_TEMP_REF (32 * s + i) (mget d.cal.latest i - 2 ^ 32) d)) d) d

/-! ### Hand-overs (R242, R243, R252, R258) -/

/-- SHADING_TILE records of an accepted tile run with STORE (R236, R259 step 6). -/
def tileStore (run : CalRun) (d : Dev) : Dev :=
  match activeImage d with
  | none => d
  | some i =>
    run.segs.foldl (fun d x =>
      match segRecOf i x.seg, baseFree d with
      | some r, some e =>
        let pay := (segEntries i x.seg r).flatMap (fun k => leBytes 2 (tget d 4 (bankIn d 4) (2 * k) 2))
        let head (chk : Nat) : Bytes := leBytes 4 0x4C534142 ++ leBytes 2 1 ++ [2#8] ++ leBytes 1 x.seg ++ leBytes 8 (boundSerial d x.seg) ++
          leBytes 2 (rHeadType r) ++ zeros 2 ++ leBytes 4 (rColumns r) ++ leBytes 1 (rPlanes r) ++ zeros 3 ++ leBytes 4 pay.length ++
          leBytes 8 d.now ++ leBytes 8 run.hostStamp ++ zeros 4 ++ leBytes 4 run.num ++ leBytes 4 5389 ++ leBytes 4 chk ++ zeros 64
        let b := head (crc32c (head 0 ++ pay)) ++ pay
        let c := leBytes 4 0x54524543 ++ leBytes 2 1 ++ [2#8, 0#8] ++ digest b ++ zeros 56 ++ fitBytes 1952 identityKey
        let rec_ := b ++ c ++ fitBytes 3309 (Config.mldsaSign d.fresh c)
        if 201326592 < baseUsed d + rec_.length then d else baseStore e rec_ (useFresh d)
      | _, _ => d) d

/-- A run before its command or trigger has set anything. -/
def noRun : CalRun := ⟨0, 0, 0, 0, false, false, 0, 0, 0, 0, [], 0, [], 0, 0, 0, [], []⟩

/-- ANCHORED of every segment of the active image: every entry that a run of it would examine has an anchor, and there are such (R261;
log entry 100). -/
def showAnchored (d : Dev) : Dev :=
  if !domUp d dREGUL then d
  else
    let i := (activeImage d).getD []
    (List.range 48).foldl (fun d s =>
      let keys := calKeys d i { noRun with segs := [⟨s, 0, false⟩], kind := 2 }
      sf .CAL_SEG_STATUS s CAL_SEG_STATUS.ANCHORED
        (b2n (!keys.isEmpty && keys.all (fun e => tget d 11 (bankIn d 11) (offAnchor e) 4 != 0))) d) d

/-- The first 16 bytes of the record in force: MAGIC, FORMAT, GEN, RUN and CHECK as it stands (R240, R243). -/
def driftHeader (d : Dev) : Bytes :=
  let m := driftContent d (bankIn d 11)
  let h := leBytes 4 0x54465244 ++ leBytes 2 1 ++ leBytes 2 (rf d .TTBL_GEN_INFORCE 11 TTBL_GEN_INFORCE.GEN) ++ Mem.readBytes m 8 4
  h ++ leBytes 4 (driftCheck (Mem.writeBytes m 0 h))

/-- The accepted content comes into force, where its banks are free (R95, R97, R252, R259); the record that was in force keeps its header
with its CHECK (R240). -/
def calInForce (d : Dev) : Dev :=
  let shade := match d.cal.pend with
    | some p => p.shade
    | none => []
  let tile := match d.cal.pend with
    | some p => p.run.kind == 0x10
    | none => false
  match d.cal.next with
  | none => d
  | some m =>
    if bankIsBusy d 11 || (tile && bankIsBusy d 4) || !domUp d dREGUL then d
    else
      let gen := (rf d .TTBL_GEN_INFORCE 11 TTBL_GEN_INFORCE.GEN + 1) % 65536
      let m := putLe (putLe (putLe m 0 4 0x54465244) 4 2 1) 6 2 gen
      let b := bankAddr 11 (bankOut d 11) 0
      let d := { d with tables := Mem.writeBytes d.tables (bankAddr 11 (bankIn d 11) 0) (driftHeader d) }
      let d := { d with tables := m.foldl (fun t c => Mem.write t (b + c.1) c.2) (Mem.clear d.tables b (2 ^ 28)) }
      let d := swapClass 11 d
      let d := if !tile then d else
        let src := bankAddr 4 (bankIn d 4) 0
        let dst := bankAddr 4 (bankOut d 4) 0
        let old := d.tables.filter (fun c => decide (src ≤ c.1) && decide (c.1 < src + 2 ^ 28))
        let t := old.foldl (fun t c => Mem.write t (c.1 - src + dst) c.2) (Mem.clear d.tables dst (2 ^ 28))
        swapClass 4 { d with tables := shade.foldl (fun t x => putLe t (dst + 2 * x.1) 2 x.2) t }
      let d := if d.cal.restore then
          sf .CAL_STATUS 0 CAL_STATUS.RESTORE_RESULT 1 (sf .CAL_STATUS 0 CAL_STATUS.RESTORE_PENDING 0 d) else d
      let p := d.cal.pend
      let d := showAnchored (cal (fun c => { c with next := none, restore := false, pend := none, after := p.isSome }) d)
      match p with
      | none => showCal d
      | some p =>
        let d := showCal (occur Src.CAL_DONE p.run.num 0 0 (setRefs p.run d))
        let d := if p.run.store then tileStore p.run d else d
        endCmd p.run.cmd stOK 0 (calResult p.run.num 0 p.applied 0) d

/-- Whether two byte ranges of a class differ between its banks. -/
def banksDiffer (d : Dev) (c off n : Nat) : Bool :=
  Mem.readBytes d.tables (bankAddr c 0 off) n != Mem.readBytes d.tables (bankAddr c 1 off) n

/-- Whether a swap of OFFGAIN or SHADING altered any record of a segment (R242). -/
def segAltered (d : Dev) (i : Bytes) (cls s : Nat) (r : Bytes) : Bool :=
  if cls = 4 then
    (List.range (rPlanes r)).any (fun pl => banksDiffer d 4 (2 * entryNo pl (segBase i s)) (2 * rColumns r))
  else
    (segSources r).any (fun q => banksDiffer d 2 (8 * q) 8 || banksDiffer d 2 (0x1000 + 64 * q) 64) ||
    banksDiffer d 2 (0x4000 + 64 * s) 64

/-- A swap of OFFGAIN or SHADING at a hand-over: drift of the altered segments is neutral in gain, and a run that covers one ends
SUPERSEDED (R242, R260). One of SEAM may change which entries are examined (R261). -/
def calTables (swapped : List Nat) (d : Dev) : Dev :=
  let d := if swapped.contains 5 then showAnchored d else d
  let classes := swapped.filter (· ≠ 5)
  match activeImage d with
  | none => d
  | some i =>
    if classes.isEmpty || !domUp d dREGUL then d
    else
      let hit := (segList i).filter (fun x => classes.any (fun c => segAltered d i c x.1 x.2))
      let d := hit.foldl (fun d x => occur Src.ANCHOR_INVALIDATED x.1 0 0 (calAccept (gainNeutral i x.1 x.2 (calBase d)) d)) d
      match d.cal.run with
      | some run => if hit.any (fun x => calCovers run x.1) then calStopRun 4 stOK true d else d
      | none => d

/-- An activation whose image changes the record of a covered segment ends the run SUPERSEDED (R260). -/
def calActivate (old new : Option Bytes) (d0 : Dev) : Dev :=
  let d := showAnchored d0
  match d.cal.run with
  | none => d
  | some run =>
    if run.segs.any (fun x => (old.bind (segRecOf · x.seg)) != (new.bind (segRecOf · x.seg))) then calStopRun 4 stOK true d else d

/-- A run begins at a hand-over (R255, R258, R259). -/
def calBegin (run : CalRun) (d : Dev) : Dev :=
  let n := (rn d .CAL_RUN_NUM 0 + 1) % 2 ^ 32
  let run := { run with num := n, segs := (bitsOf run.mask 48).map (fun s => (⟨s, 0, true⟩ : CalSeg)) }
  let d := wn .CAL_RUN_NUM 0 n (cal (fun c => { c with run := some run, again := [] }) d)
  if run.kind = 0x10 then
    axEventMove (rf d .CAL_TILE_CFG 0 CAL_TILE_CFG.AXIS) (rf d .CAL_TILE_CFG 0 CAL_TILE_CFG.TABLE_IN) d else d

/-- The waiting calibration command that was fetched first. -/
def calWaiting (d : Dev) : Option Cmd :=
  d.post.cmds.find? (fun c => (c.op == 0x60 || c.op == 0x61) && c.data == [1])

/-- A run starts, or one that restarts takes its first line, at the hand-over of line `n` (R258, R260). -/
def calStart (n : Nat) (d : Dev) : Dev :=
  if !domUp d dREGUL then d
  else
    let d :=
      if calBusy d || rb d .CAL_CTRL 0 CAL_CTRL.STAGE_HOLD then d
      else match calWaiting d with
        | some c =>
          let e := c.entry
          let tile := c.op == 0x61
          let d := updCmd { c with started := true, data := [2] } d
          calBegin { noRun with
            kind := if tile then 0x10 else leAt e 16 1, origin := if tile then 2 else 0, cmd := c.order + 1
            marksOnly := !tile && bitOf (leAt e 17 1) 0, store := tile && bitOf (leAt e 16 1) 0, lines := leAt e 20 4
            timeout := leAt e 24 4, hostStamp := if tile then leAt e 32 8 else 0, mask := leAt e 8 6, tile := b2n tile } d
        | none =>
          let mask := (List.range 48).foldl (fun m s =>
            if rb d .CAL_SEG_STATUS s CAL_SEG_STATUS.TRIGGERED && !rb d .CAL_SEG_STATUS s CAL_SEG_STATUS.HELD_OFF &&
              (seg d s).st == .live then putBit m s true else m) 0
          if mask = 0 then d
          else calBegin { noRun with
            kind := rf d .CAL_CFG 0 CAL_CFG.AUTO_KIND, origin := 1, marksOnly := rb d .CAL_CFG 0 CAL_CFG.MARKS_ONLY
            lines := rf d .CAL_AUTO_LINES 0 CAL_AUTO_LINES.LINES, timeout := rf d .CAL_AUTO_TIMEOUT 0 CAL_AUTO_TIMEOUT.MS, mask := mask } d
    match d.cal.run with
    | some run =>
      if run.first = 0 && run.tile = 0 then
        let g (c : Nat) : Nat := rf d .TTBL_GEN_INFORCE c TTBL_GEN_INFORCE.GEN
        showCal (cal (fun c => { c with run := some { run with first := n + 1, gens := [g 2, g 4, g 11] } }) d)
      else showCal d
    | none => showCal d

/-- CAL_MARK: window `t` opens or closes (R256). -/
def calMark (t : Nat) (opens : Bool) (d : Dev) : Dev :=
  whenUp dREGUL (fun d => wn .CAL_MARK_OPEN 0 (putBit (rn d .CAL_MARK_OPEN 0) t opens) d) d

/-- Segments that open windows cover (R256). -/
def calMarks (d : Dev) : Nat :=
  (bitsOf (rn d .CAL_MARK_OPEN 0) 16).foldl (fun m i => m ||| rf d .CAL_MARK_MASK i CAL_MARK_MASK.SEGMENTS) 0

/-- What follows any change of the device: segments that have left LIVE drop out of the run, and serials are compared (R242, R260). -/
def calSettle (d : Dev) : Dev :=
  let d := if d.fe.heads.isEmpty then d else serialChanges d
  match d.cal.run with
  | none => if rb d .CAL_STATUS 0 CAL_STATUS.BUSY != calBusy d then showCal d else d
  | some run =>
    let live (s : CalSeg) : Bool := (seg d s.seg).st == .live
    let left := (run.segs.filter (fun s => live s || !s.was)).map (fun s => { s with was := s.was || live s })
    if left = run.segs || !domUp d dREGUL then d
    else if left.isEmpty then calStopRun 5 stOK true d
    else showCal (cal (fun c => { c with run := some { run with segs := left } }) d)

/-! ### Commands (R244, R255, R259) -/

/-- Whether a calibration command's segments may be covered (R255). -/
def calSegsOk (d : Dev) (mask : Nat) : Bool :=
  mask != 0 && (bitsOf mask 48).all (fun s => (segRec d s).isSome && (seg d s).st == .live)

/-- A calibration command waits for its turn: ABORT finds it not started (R255). -/
def calQueue (c : Cmd) (d : Dev) : Dev := updCmd { c with started := false, data := [1] } d

/-- CAL_RUN (R255). -/
def calRun (c : Cmd) (d : Dev) : Dev :=
  if !c.data.isEmpty then updCmd { c with started := false } d
  else if !calSegsOk d (leAt c.entry 8 6) then complete c stSTATE dREGUL [] d
  else calQueue c d

/-- CAL_TILE_RUN (R259). -/
def calTileRun (c : Cmd) (d : Dev) : Dev :=
  let table (t : Nat) : Bool := ((activeImage d).bind (fun i => segTable i t)).isSome
  if !c.data.isEmpty then updCmd { c with started := false } d
  else if !calSegsOk d (leAt c.entry 8 6) || !hostOwns d 4 || bitOf (rf d .TTBL_GEN_STATUS 0 TTBL_GEN_STATUS.PENDING) 4 ||
      !table (rf d .CAL_TILE_CFG 0 CAL_TILE_CFG.TABLE_IN) || !table (rf d .CAL_TILE_OUT 0 CAL_TILE_OUT.TABLE_OUT) then
    complete c stSTATE dREGUL [] d
  else calQueue c d

/-- ABORT of a started CAL_RUN: it ends SUPERSEDED (R255). -/
def calAbort (c : Cmd) (d : Dev) : Dev :=
  match d.cal.run with
  | some run => if run.cmd = c.order + 1 then calStopRun 4 stABORTED false d else complete c stABORTED 0 [] d
  | none => complete c stABORTED 0 [] d

/-- Bytes of a drift record that must be 0 (R240, R241). -/
def driftReservedOk (m : Mem) : Bool :=
  m.all (fun c =>
    let o := c.1
    let res := (24 ≤ o && o < 0x100) || (0x220 ≤ o && o < 0x300) || (0x390 ≤ o && o < 0x400) || (0x580 ≤ o && o < 262144)
    let flag := (0x300 ≤ o && o < 0x390) || (6553600 ≤ o && o < driftSize)
    !res && (!flag || decide (c.2.toNat < 128)))

/-- CAL_RESTORE: a write of CAL_CTRL.RESTORE (R244). -/
def calRestore (d : Dev) : Dev :=
  if !domUp d dREGUL then d
  else if !rb d .CAL_CTRL 0 CAL_CTRL.STAGE_HOLD then occur0 Src.CAL_WIN_BUSY d
  else
    let m := driftContent d (bankOut d 11)
    let d := sf .CAL_CTRL 0 CAL_CTRL.STAGE_HOLD 0 d
    let fail (k : Nat) : Dev := occur Src.CAL_RESTORE_FAIL k 0 0 (sf .CAL_STATUS 0 CAL_STATUS.RESTORE_RESULT k d)
    if leNat (Mem.readBytes m 0 4) ≠ 0x54465244 || leNat (Mem.readBytes m 4 2) ≠ 1 || !driftReservedOk m then fail 2
    else if leNat (Mem.readBytes m 12 4) ≠ driftCheck m then fail 3
    else
      let i := (activeImage d).getD []
      let m := (List.range 48).foldl (fun m s =>
        let held := leNat (Mem.readBytes m (offSerial s) 8)
        let now_ := boundSerial d s
        if held = 0 || now_ = 0 || held = now_ then m
        else match segRecOf i s with
          | some r => putLe (segNeutral i s r m) (offSerial s) 8 now_
          | none => m) m
      showCal (sf .CAL_STATUS 0 CAL_STATUS.RESTORE_PENDING 1 (cal (fun c => { c with restore := true }) (calAccept m d)))

/-- The drift window's byte at class byte `off` of a view (R243). -/
def driftWindow (d : Dev) (view off : Nat) : Byte :=
  if view = 0 && off < 16 then (driftHeader d).getD off 0#8
  else driftShown off ((driftContent d (if view = 0 then bankIn d 11 else bankOut d 11)).read off)

/-- A write through the drift window (R97, R243). -/
def driftWrite (off : Nat) (b : Bytes) (d : Dev) : Dev :=
  if rf d .CAL_WIN_SEL 0 CAL_WIN_SEL.VIEW = 0 || !rb d .CAL_CTRL 0 CAL_CTRL.STAGE_HOLD || calBusy d then occur0 Src.CAL_WIN_BUSY d
  else if bankIsBusy d 11 then occur Src.SHADOW_BANK_BUSY 11 0 0 d
  else
    let o := rf d .CAL_WIN_SEL 0 CAL_WIN_SEL.PAGE * 262144 + off
    let v := b.zipIdx.map (fun x => driftShown (o + x.2) x.1)
    { d with tables := Mem.writeBytes d.tables (bankAddr 11 (bankOut d 11) o) v }

/-- The baseline window's byte (R261). -/
def baseWindow (d : Dev) (off : Nat) : Byte :=
  match d.cal.base.find? (fun b => b.entry == rf d .CAL_BASE_SEL 0 CAL_BASE_SEL.ENTRY) with
  | some b => b.bytes.getD (rf d .CAL_BASE_SEL 0 CAL_BASE_SEL.PAGE * 524288 + off) 0#8
  | none => 0#8

/-- A command that a reset cuts is marked: the replay completes it INTERRUPTED (R68). -/
def cutMark : Nat := 0xFFFF

/-- A reset of reach short of COLD that takes REGUL: a run collects afresh, from its segments once they are LIVE; a tile run, which has
begun to move, ends CUT, and the replay completes its command (R68, R260; log entry 99). -/
def calReset (d : Dev) : Dev :=
  match d.cal.run with
  | none => d
  | some run =>
    if run.kind = 0x10 then
      let d := calClose run 5 noCount false d
      { d with post := { d.post with cmds := d.post.cmds.map (fun c =>
          if c.order + 1 = run.cmd then { c with data := [cutMark, run.num] } else c) } }
    else
      let segs : List CalSeg := run.segs.map (fun s => { s with lines := 0, was := false })
      let fresh : CalRun := { run with first := 0, gens := [], lineA := 0, lineB := 0, setA := [], setB := [], segs := segs }
      cal (fun c => { c with run := some fresh }) d

end Sys2Proof.Machine
end

