-- ==== Sys2Proof/Machine/Pages.lean ====
section
/-!
DEFINITION. Machine/Pages.lean: opening and closing pages, and the edge and skew fit (R200 to R208).
-/
namespace Sys2Proof.Machine

/-- The device with its page state changed. -/
def pages (f : Pages → Pages) (d : Dev) : Dev := { d with pages := f d.pages }

/-! ### Page flags (R212, PROD_PAGE_STATUS) -/

def pfLATE : Nat := 1
def pfSHORT : Nat := 2
def pfFORCED : Nat := 4
def pfOVERLAP : Nat := 8
def pfHOST : Nat := 16

def prOpenSrc (r : Bytes) : Nat := leAt r 2 1
def prOpenNum (r : Bytes) : Nat := leAt r 3 1
def prCloseSrc (r : Bytes) : Nat := leAt r 4 1
def prCloseNum (r : Bytes) : Nat := leAt r 5 1
def prOpenOffset (r : Bytes) : Int := sx 64 (leAt r 8 8)
def prCloseOffset (r : Bytes) : Int := sx 64 (leAt r 16 8)
def prRepeat (r : Bytes) : Nat := leAt r 24 8
def prMinLines (r : Bytes) : Nat := leAt r 32 4
def prMaxLines (r : Bytes) : Nat := leAt r 36 4
def prLength (r : Bytes) : Nat := leAt r 40 4
def prExpect (r : Bytes) : Int := sx 32 (leAt r 48 4)
def prColPitch (r : Bytes) : Nat := leAt r 52 4

/-! ### Decisions (R201 to R203) -/

/-- An open or a close is decided with a target position; a close while no page is open is ignored (R202). -/
def pageDecide (isOpen : Bool) (target : Int) (host fixed : Bool) (d : Dev) : Dev :=
  match isOpen, d.pages.cur with
  | false, none => incSat .PROD_CLOSE_IDLE 0 d
  | _, cur => pages (fun p => { p with reqs := p.reqs ++ [⟨isOpen, target, host, fixed, (cur.map (·.num)).getD 0⟩] }) d

/-- A fire of a source decides what the page rule names it for: 0 trigger unit, 1 sequencer, 2 ring fire (R200, R201). -/
def pageFire (src num : Nat) (pos : Int) (d : Dev) : Dev :=
  let r := pageRule d
  let d := if prCloseSrc r = src && (src = 2 || prCloseNum r = num) then pageDecide false (pos + prCloseOffset r) false false d else d
  if prOpenSrc r = src && (src = 2 || prOpenNum r = num) then pageDecide true (pos + prOpenOffset r) false false d else d

/-- PAGE_CTRL_OPEN, PAGE_CTRL_CLOSE: a host fire at the interpolated track position (R203). -/
def pageCtrl (isOpen : Bool) (d : Dev) : Dev := pageDecide isOpen (trackPos d) true false d

/-! ### Opening and closing at a hand-over (R201, R202) -/

/-- A LATE page is counted once. -/
def latePage (d : Dev) : Dev := occur Src.PAGE_LATE d.pages.num 0 0 (incSat .PROD_PAGES_LATE 0 d)

def showPage (p : PageRec) (isOpen : Bool) (d : Dev) : Dev :=
  let d := sf .PROD_PAGE_STATUS 0 PROD_PAGE_STATUS.OPEN (b2n isOpen) (sf .PROD_PAGE_STATUS 0 PROD_PAGE_STATUS.FLAGS (p.flags ||| p.extra) d)
  let d := wn .PROD_PAGE_NUM 0 p.num (wn .PROD_PAGE_FIRST 0 p.first d)
  if isOpen then d else wn .PROD_PAGE_LAST 0 (p.last - 1) d

/-- The open page closes: its last line, and the flags its close gives it. -/
def closePage (last flags : Nat) (d : Dev) : Dev :=
  match d.pages.cur with
  | none => d
  | some p =>
    let last := max last p.first
    let short := last + 1 - p.first < prMinLines (pageRule d)
    let p1 := { p with last := last + 1, flags := p.flags ||| flags ||| (if short then pfSHORT else 0) }
    let d := if flags &&& pfLATE ≠ 0 && p.flags &&& pfLATE = 0 then latePage d else d
    let d := if short then occur Src.PAGE_SHORT p.num 0 0 (incSat .PROD_PAGES_SHORT 0 d) else d
    let d := if flags &&& pfFORCED ≠ 0 then incSat .PROD_PAGES_FORCED 0 d else d
    let d := if flags &&& pfOVERLAP ≠ 0 then incSat .PROD_PAGES_OVERLAP 0 d else d
    let d := showPage p1 false (pages (fun x => { x with cur := none, past := x.past ++ [p1] }) d)
    let d := occur Src.PAGE_CLOSE p.num last 0 (stopsAtClose last (cmprClose d))
    let d := if d.pages.edges.any (fun e => e.page == p.num) && decide (last + 1 - p.first < 64) then
        pages (fun x => { x with edges := x.edges.filter (fun e => e.page ≠ p.num) })
          (deliverRecord 9 9 p.first last p.num (leBytes 1 4 ++ zeros 39 ++ leBytes 7 p.first ++ [0#8] ++ leBytes 8 d.now ++ zeros 8) d)
      else d
    addMark ⟨false, p.num, p1.flags, last, d.pages.prevPos⟩ d

/-- A page opens at line number `n`. -/
def openPage (n flags : Nat) (pos : Int) (d : Dev) : Dev :=
  let num := d.pages.num + 1
  let p : PageRec := ⟨num, n, 0, flags, pos, 0⟩
  let d := showPage p true (pages (fun x => { x with
    num := num
    cur := some p
    edges := if prEdge (pageRule d) then x.edges ++ [⟨num, n, [], (activeImage d).getD [], 0⟩] else x.edges }) d)
  let d := if flags &&& pfLATE ≠ 0 then latePage d else d
  let d := occur Src.PAGE_OPEN num n 0 (cmprOpen num n d)
  addMark ⟨true, num, flags, n, pos⟩ d

/-- The flags a resolved request gives its page: HOST, and LATE where an earlier line had reached its target (R201, R203). -/
def reqFlags (late : PageReq → Bool) (q : PageReq) : Nat := (if q.host then pfHOST else 0) ||| (if late q then pfLATE else 0)

/-- The next target of a fixed repeat beyond a position (R201). -/
def nextRepeat (x : Int) (rep : Nat) (place : Int) : Int :=
  if place < x + rep then x + rep else x + rep * (fdiv (place - x) rep + 1)

/-- The page rule at the hand-over of line number `n` with position `place` of the active image; `before` is the position of the
image's line before it, `pos` the position of its start (R201, R202). A close applies first, then the open. -/
def pagesAt (n : Nat) (place : Int) (before : Option Int) (pos : Int) (d : Dev) : Dev :=
  let rule := pageRule d
  let late (q : PageReq) : Bool := match before with
    | some b => decide (q.target ≤ b)
    | none => false
  let d := match d.pages.cur with
    | some p =>
      if prMaxLines rule ≤ n - p.first then closePage (n - 1) pfFORCED d
      else if prCloseSrc rule = 3 && prLength rule ≤ n - p.first then closePage (n - 1) 0 d
      else d
    | none => d
  let due := d.pages.reqs.filter (fun q => decide (q.target ≤ place))
  let d := pages (fun p => { p with reqs := p.reqs.filter (fun q => !decide (q.target ≤ place)) }) d
  let d := (due.filter (fun q => !q.isOpen)).foldl (fun d q => match d.pages.cur with
    | some p => if p.num = q.page then closePage (n - 1) (reqFlags late q) d else d
    | none => d) d
  let opens := due.filter (·.isOpen)
  let d := if opens.isEmpty then d
    else
      let d := if d.pages.cur.isSome then closePage (n - 1) (if prSheet rule then pfOVERLAP else 0) d else d
      openPage n (opens.foldl (fun a q => a ||| reqFlags late q) 0) pos d
  let d := match opens.find? (·.fixed) with
    | some q => if prOpenSrc rule = 3 then pageDecide true (nextRepeat q.target (max 1 (prRepeat rule)) place) false true d else d
    | none => d
  pages (fun p => { p with prevPos := pos }) d

/-- The requests at an image's activation: those of the former image's sources are dropped, the first fixed repeat is decided (R201). -/
def pagesActivate (a : Int) (d : Dev) : Dev :=
  let d := pages (fun p => { p with reqs := p.reqs.filter (·.host) }) d
  let r := pageRule d
  if prOpenSrc r = 3 then pageDecide true (a + prOpenOffset r) false true d else d

/-- The requests once the block that decides them has come out of reset: the next fixed repeat of the image's series is decided (log entry 22). -/
def pagesResume (d : Dev) : Dev :=
  let r := pageRule d
  if prOpenSrc r = 3 then
    pageDecide true (nextRepeat (d.esc.actPos + prOpenOffset r) (max 1 (prRepeat r)) (trackPos d)) false true d
  else d

/-! ### The edge fit (R206, R207) -/

/-- What a corrected line of the first 64 of its page gives the fit, where its page waits for one. -/
def edgeLine (l : LineRec) (c : Corrected) (d : Dev) : Dev :=
  let rule := pageRuleOf l.img
  if !prEdge rule || l.page = 0 || 64 ≤ l.pageLine then d
  else
    let v := c.linear.getD (prPlane rule) []
    let cols := v.length
    let means := (List.range 32).map (fun i =>
      let w := ((List.range (patchEnd cols i - patchFirst cols i)).map (fun k => patchFirst cols i + k)).filter
        (fun k => decide (k < cols) && !c.mask.getD k false)
      (w.foldl (fun a k => a + v.getD k 0) 0, w.length))
    let row := (l.pageLine, lineEdges rule c, means)
    pages (fun p => { p with edges := p.edges.map (fun e =>
      if e.page = l.page then { e with lines := e.lines ++ [row], img := l.img, cols := cols } else e) }) d

/-- Leading edge of patch `i`, as a fraction of lines with a positive divisor (R207). -/
def leadOf (rule : Bytes) (lines : List (Nat × Option (Int × Int) × List (Nat × Nat))) (i : Nat) : Option (Int × Int) :=
  let m (j : Nat) : Option (Nat × Nat) := (lines.find? (fun x => x.1 == j)).bind (fun x => x.2.2[i]?)
  let side (x : Nat × Nat) : Bool :=
    decide (x.2 ≠ 0) && (if prDarker rule then decide (x.1 ≤ prThr rule * x.2) else decide (prThr rule * x.2 ≤ x.1))
  match (List.range 63).map (· + 1) |>.find? (fun j => ((m j).elim false side)) with
  | none => none
  | some j =>
    match m (j - 1), m j with
    | some a, some b =>
      let num : Int := ((prThr rule : Int) * a.2 - a.1) * b.2
      let den : Int := (b.1 : Int) * a.2 - (a.1 : Int) * b.2
      if den = 0 || a.2 = 0 then none
      else if den < 0 then some (((j : Int) - 1) * (-den) - num, -den)
      else some (((j : Int) - 1) * den + num, den)
    | _, _ => none

/-- atan of x / 2^60, in units of 2^-60, by its series for x between -2^57 and 2^57. -/
def atanSmall (x : Int) : Int :=
  let sq := x * x / 2 ^ 60
  ((List.range 24).foldl (fun (a : Int × Int) k =>
    (a.1 + (if k % 2 = 0 then a.2 else -a.2) / (2 * k + 1 : Nat), a.2 * sq / 2 ^ 60)) (0, x)).1

/-- One halving of the angle: x / (1 + sqrt(1 + x²)), in units of 2^-60. -/
def halfTan (x : Int) : Int :=
  let r : Int := isqrt (2 ^ 120 + (x * x).toNat)
  x * 2 ^ 60 / (2 ^ 60 + r)

/-- 10^6 × atan(n / m), rounded to the nearest, for m above 0 (R207): the argument is taken to 60 bits (log entry 16). -/
def microAtan (n m : Int) : Int :=
  let sgn : Int := if n < 0 then -1 else 1
  let a : Int := n.natAbs
  let inv := decide (m < a)
  let x := if inv then m * 2 ^ 60 / a else a * 2 ^ 60 / m
  let y := 8 * atanSmall (halfTan (halfTan (halfTan x)))
  let half : Int := 1811004864519280711
  sgn * rdiv (1000000 * (if inv then half - y else y)) (2 ^ 60)

/-- Whether a page's 64th line has been handed over, and every captured line up to it has left the pipeline. -/
def fitDue (d : Dev) (e : EdgeAcc) : Bool :=
  decide (e.first + 63 < rf d .ESC_LINE 0 ESC_LINE.NUM) && d.esc.lines.all (fun l => decide (e.first + 63 < l.num) || l.complete)

/-- EDGE_FIT: the fit of the first page whose 64th line has left the pipeline is formed (R207). -/
def edgeFit (d : Dev) : Dev :=
  match d.pages.edges.find? (fitDue d) with
  | none => d
  | some e =>
    let rule := pageRuleOf e.img
    let d := pages (fun p => { p with edges := p.edges.filter (fun x => x.page ≠ e.page) }) d
    let ed := e.lines.filterMap (·.2.1)
    let n : Int := ed.length
    let sides := decide (16 ≤ ed.length)
    let left := if sides then rdiv (sumI (ed.map (·.1))) n else 0
    let right := if sides then rdiv (sumI (ed.map (·.2))) n else 0
    let cols := e.cols
    let pts := if !prLead rule || !sides then [] else (List.range 32).filterMap (fun i =>
      if decide (patchFirst cols i < patchEnd cols i) && decide (left ≤ 16 * (patchFirst cols i : Int)) &&
          decide (16 * ((patchEnd cols i : Int) - 1) ≤ right) then
        (leadOf rule e.lines i).map (fun y => ((patchCx cols i : Int), y))
      else none)
    let k : Int := pts.length
    let q := pts.foldl (fun a p => a * p.2.2) (1 : Int)
    let ys := pts.map (fun p => p.2.1 * (q / p.2.2))
    let sxx := sumI (pts.map (fun p => p.1 * p.1))
    let sx1 := sumI (pts.map (·.1))
    let sy := sumI ys
    let sxy := sumI ((pts.zip ys).map (fun z => z.1.1 * z.2))
    let den := k * sxx - sx1 * sx1
    let lead := decide (4 ≤ pts.length) && decide (0 < den)
    let sn := if lead then k * sxy - sx1 * sy else 0
    let sd := if lead then q * den else 1
    let img := e.img
    let vals : List Int := [left, right, if sides then left - prExpect rule else 0,
      if lead then rdiv2 (16 * (sy * den - sn * sx1)) (k * q * den) else 0, rdiv2 (sn * 2 ^ 24) sd,
      microAtan (sn * imgPitchN img) (sd * imgPitchD img * (max 1 (prColPitch rule) : Nat))]
    let d := if sides && (lead || !prLead rule) then d else occur Src.EDGE_FAIL e.page 0 0 (incSat .PROD_EDGE_FAIL 0 d)
    pages (fun p => { p with fit := some ⟨e.page, e.first, sides, lead, vals, pts.length, sn, sd, cols⟩ }) d

/-- A formed fit comes into force at the hand-over of line number `n` (R207, R174). -/
def edgeApply (n : Nat) (d : Dev) : Dev :=
  match d.pages.fit with
  | none => d
  | some f =>
    let v (i : Nat) : Int := f.vals.getD i 0
    let d := pages (fun p => { p with
      fit := none
      sides := if f.sides then some (f.page, n, v 0, v 1) else none }) d
    let d := ws32 .PROD_EDGE_LEFT 0 (v 0) (ws32 .PROD_EDGE_RIGHT 0 (v 1) (ws32 .PROD_EDGE_OFFSET 0 (v 2)
      (ws32 .PROD_EDGE_LEAD 0 (v 3) (ws32 .PROD_EDGE_SLOPE 0 (v 4) (ws32 .PROD_EDGE_SKEW 0 (v 5) (wn .PROD_EDGE_LINE 0 n d))))))
    let rec_ := leBytes 1 (b2n f.sides + 2 * b2n f.lead) ++ zeros 3 ++ (List.range 6).flatMap (fun i => leBytes 4 (ux 32 (v i))) ++
      leBytes 1 f.patches ++ zeros 3 ++ leBytes 7 n ++ [0#8] ++ leBytes 7 f.first ++ [0#8] ++ leBytes 8 d.now ++ zeros 8
    let d := cmpr (fun x => { x with fitPage := f.page }) (deliverRecord 9 9 (min f.first n) n f.page rec_ d)
    let mine := match d.pages.cur with
      | some p => p.num == f.page
      | none => false
    if mine && rfIn d .CMPR_CTRL 0 CMPR_CTRL.REG_EN = 1 && rfIn d .CMPR_CTRL 0 CMPR_CTRL.REG_INIT = 2 then
      let cols := f.cols
      (List.range 32).foldl (fun d i =>
        setWarp i (clampI (-256) 256 (v 2)) (clampI (-256) 256 (rdiv2 (16 * f.slopeN * (patchCx cols i : Int)) f.slopeD)) d) d
    else d

end Sys2Proof.Machine
end

