-- ==== Sys2Proof/Machine/Triggers.lean ====
section
/-!
DEFINITION. Machine/Triggers.lean: trigger units, sequencers, trigger pins, buttons and the Nalny sync ring (R193 to R199, R222,
R225 to R232).
-/
namespace Sys2Proof.Machine

/-- The device with its sync ring changed. -/
def sync (f : SyncSt → SyncSt) (d : Dev) : Dev := { d with sync := f d.sync }

/-! ### Stamps (R194, R196) -/

/-- The line handed over last. -/
def lastLine (d : Dev) : Nat := rf d .ESC_LINE 0 ESC_LINE.NUM - 1

/-- The stamp of something that happens now. -/
def stampNow (d : Dev) : Stamp := ⟨d.now, trackPos d, lastLine d⟩

/-- The difference of two stamps in a UNIT_KIND (R196). -/
def duration (a b : Stamp) (unit : Nat) : Nat :=
  if unit = 0 then b.time - a.time else if unit = 1 then (b.pos - a.pos).natAbs else b.line - a.line

/-- The stamp at which a length has passed since a stamp, while it is now; none where a track or line has not come so far. -/
def elapse (d : Dev) (a : Stamp) (n unit : Nat) : Option Stamp :=
  if unit = 0 then some ⟨a.time + n, trackPos d, lastLine d⟩
  else if unit = 1 then
    (if (n : Int) ≤ trackPos d - a.pos then some ⟨d.now, a.pos + n, lastLine d⟩
     else if (n : Int) ≤ a.pos - trackPos d then some ⟨d.now, a.pos - n, lastLine d⟩ else none)
  else if a.line + n ≤ lastLine d then some ⟨d.now, trackPos d, a.line + n⟩ else none

/-! ### Trigger units (R195, R196) -/

def tuKind (r : Bytes) : Nat := leAt r 2 1
def tuSource (r : Bytes) : Nat := leAt r 3 1
def tuNum (r : Bytes) : Nat := leAt r 4 1
def tuPol (r : Bytes) : Bool := bitOf (leAt r 5 1) 0
def tuHoldEn (r : Bytes) : Bool := bitOf (leAt r 5 1) 1
def tuUnitKind (r : Bytes) : Nat := leAt r 6 1
def tuMin (r : Bytes) : Nat := leAt r 16 8
def tuMax (r : Bytes) : Nat := leAt r 24 8
def tuHoldoff (r : Bytes) : Nat := leAt r 32 8

/-- The record of a trigger unit of the active image. -/
def unitRec (d : Dev) (u : Nat) : Option Bytes :=
  (activeImage d).bind (fun i => (trigRecs i).find? (fun r => leAt r 0 1 == 1 && leAt r 1 1 % 32 == u))

/-- The record of a sequencer state of the active image (R198). -/
def seqRec (d : Dev) (s st : Nat) : Option Bytes :=
  (activeImage d).bind (fun i => (trigRecs i).find? (fun r => leAt r 0 1 == 2 && leAt r 1 1 % 4 == s && leAt r 2 1 % 16 == st))

def findUnit (d : Dev) (u : Nat) : Option TrigUnit := d.pages.units.find? (fun x => x.unit == u)
def onUnit (u : Nat) (f : TrigUnit → TrigUnit) (d : Dev) : Dev :=
  pages (fun p => { p with units := p.units.map (fun x => if x.unit = u then f x else x) }) d

def seqState (d : Dev) (s : Nat) : Nat := rf d .PROD_SEQ_STATE s PROD_SEQ_STATE.STATE

/-- A sequencer enters a state (R199). -/
def seqEnter (s st : Nat) (at_ : Stamp) (d : Dev) : Dev :=
  wn .PROD_SEQ_COUNT s 0 (sf .PROD_SEQ_STATE s PROD_SEQ_STATE.STATE st
    (pages (fun p => { p with seqs := p.seqs.map (fun x => if x.seq = s then { x with entry := at_, left := none } else x) }) d))

/-- A sequencer keeps what its timer has left: a state, its counter and the stamp of its entry. -/
def seqLeft (s st n : Nat) (e : Stamp) (d : Dev) : Dev :=
  pages (fun p => { p with seqs := p.seqs.map (fun x => if x.seq = s then { x with left := some (st, n, e) } else x) }) d

/-! ### Ring fires (R229, R230, R232) -/

def ringUp (d : Dev) : Bool := rb d .SYNC_STATUS 0 SYNC_STATUS.UP
def ringArmed (d : Dev) : Bool := rb d .SYNC_STATUS 0 SYNC_STATUS.ARMED
def ringMaster (d : Dev) : Bool := rb d .SYNC_CFG 0 SYNC_CFG.MASTER
def ringRule (d : Dev) : Nat := rf d .SYNC_STATUS 0 SYNC_STATUS.RULE
def syncOffset (d : Dev) : Int := rs64 d .SYNC_POS_OFFSET 0

def disarm (d : Dev) : Dev := sf .SYNC_STATUS 0 SYNC_STATUS.ARMED 0 d
def armWith (rule : Nat) (d : Dev) : Dev :=
  sf .SYNC_STATUS 0 SYNC_STATUS.ARMED 1 (sf .SYNC_STATUS 0 SYNC_STATUS.RULE rule d)

/-- An applied fire: a ring fire of the page rule, recorded and counted (R230). -/
def applyFire (f : Fire) (d : Dev) : Dev :=
  let own := f.pos + syncOffset d
  let d := ws64 .SYNC_FIRE_POS 0 f.pos (ws64 .SYNC_FIRE_LOCAL 0 own (wn .SYNC_FIRE_TIME 0 d.now d))
  let d := sf .SYNC_FIRE_INFO 0 SYNC_FIRE_INFO.SRC f.src (sf .SYNC_FIRE_INFO 0 SYNC_FIRE_INFO.SEQ f.seq d)
  pageFire 2 0 own (occurAt Src.SYNC_FIRE d.now own f.src f.pos 0 (incSat .SYNC_FIRES 0 d))

/-- A fire sent or received is collected; the first one disarms a device under ONESHOT (R229, R230). -/
def collectFire (f : Fire) (d : Dev) : Dev :=
  let d := sync (fun s => { s with collected := s.collected ++ [f] }) d
  if bitOf (ringRule d) 0 then disarm d else d

/-- SYNC_FIRE_SRC fires at a stamp (R230, R232). -/
def localFire (at_ : Stamp) (d : Dev) : Dev :=
  if !ringUp d then
    (if rb d .SYNC_CFG 0 SYNC_CFG.LOCAL_FALLBACK then applyFire ⟨ownNode d, d.sync.seq, at_.pos - syncOffset d⟩ d
     else incSat .SYNC_FIRE_IGNORED 0 d)
  else if !ringArmed d || (bitOf (ringRule d) 1 && !ringMaster d) then d
  else
    let seq := d.sync.seq
    let pos := at_.pos - syncOffset d
    let frame := Out.ringFrame (frameBytes 4 (ownNode d) 0 seq 0 pos)
    collectFire ⟨ownNode d, seq, pos⟩ (emit frame (emit frame (sync (fun s => { s with seq := (s.seq + 1) % 256 }) d)))

/-- SYNC_FIRE_APPLY: 250 ns after the first FIRE, the collected fires are applied (R230). -/
def syncFireApply (d : Dev) : Dev :=
  if !domUp d dFABRIC then d
  else
    let before (a b : Fire) : Bool := decide (a.pos < b.pos) || (a.pos == b.pos && decide (a.src ≤ b.src))
    let sorted := d.sync.collected.foldl (fun l f => l.takeWhile (fun x => before x f) ++ [f] ++ l.dropWhile (fun x => before x f)) []
    let d1 := sync (fun s => { s with collected := [] }) d
    (if bitOf (ringRule d) 0 then sorted.take 1 else sorted).foldl (fun d f => applyFire f d) d1

/-! ### Fires (R196, R197, R199) -/

/-- A sequencer's fire. -/
def seqFire (s : Nat) (at_ : Stamp) (d : Dev) : Dev :=
  let d := pageFire 1 s at_.pos (occurAt Src.SEQ_FIRE at_.time at_.pos s at_.time 0 d)
  if rf d .SYNC_FIRE_SRC 0 SYNC_FIRE_SRC.KIND = 1 && rf d .SYNC_FIRE_SRC 0 SYNC_FIRE_SRC.NUM = s then localFire at_ d else d

/-- Where a fire at a stamp counts: in the state the sequencer is in, or, with a stamp no later than the timer that took it there, in
the one it left, so that the count wins (R199); with that state's counter and entry stamp. -/
def countsIn (d : Dev) (at_ : Stamp) (x : SeqSt) : Nat × Nat × Stamp × Bool :=
  match x.left with
  | some (st, n, e) =>
    if at_.time ≤ x.entry.time then (st, n, e, true) else (seqState d x.seq, rn d .PROD_SEQ_COUNT x.seq, x.entry, false)
  | none => (seqState d x.seq, rn d .PROD_SEQ_COUNT x.seq, x.entry, false)

/-- A fire of unit `u` counts in a sequencer whose state names it (R199). -/
def seqCount (u : Nat) (at_ : Stamp) (d : Dev) (x : SeqSt) : Dev :=
  let c := countsIn d at_ x
  match seqRec d x.seq c.1 with
  | none => d
  | some r =>
    if leAt r 3 1 % 32 ≠ u || at_.time ≤ c.2.2.1.time then d
    else
      let n := c.2.1 + 1
      if n < leAt r 4 4 then
        (if c.2.2.2 then seqLeft x.seq c.1 n c.2.2.1 d
         else wn .PROD_SEQ_COUNT x.seq n d)
      else seqEnter x.seq (leAt r 8 1 % 16) at_ (if bitOf (leAt r 10 1) 0 then seqFire x.seq at_ d else d)

/-- A fire of a trigger unit, subject to its holdoff (R196). -/
def unitFire (u : Nat) (r : Bytes) (at_ : Stamp) (d : Dev) : Dev :=
  let held := match findUnit d u with
    | some x => (match x.lastFire with
      | some p => tuHoldEn r && decide (duration p at_ (tuUnitKind r) < tuHoldoff r)
      | none => false)
    | none => true
  if held then incSat .PROD_TRIG_HELD u d
  else
    let d := occurAt Src.TRIGGER at_.time at_.pos u at_.time at_.pos
      (incSat .PROD_TRIG_FIRES u (onUnit u (fun x => { x with lastFire := some at_ }) d))
    let d := d.pages.seqs.foldl (seqCount u at_) d
    let d := pageFire 0 u at_.pos d
    if rf d .SYNC_FIRE_SRC 0 SYNC_FIRE_SRC.KIND = 0 && rf d .SYNC_FIRE_SRC 0 SYNC_FIRE_SRC.NUM = u then localFire at_ d else d

/-- Whether a length from a start to a stamp lies within MIN and MAX. -/
def within (r : Bytes) (a b : Stamp) : Bool :=
  decide (tuMin r ≤ duration a b (tuUnitKind r)) && decide (duration a b (tuUnitKind r) ≤ tuMax r)

/-- What a sample does to a unit: the unit, and whether it fires (R196). The sample lies above, below, or between. -/
def unitStep (r : Bytes) (x : TrigUnit) (region : Option Bool) (at_ : Stamp) : TrigUnit × Bool :=
  let level := match region with
    | some b => some b
    | none => x.level
  let pol := tuPol r
  let fires := match x.start with
    | some s => within r s at_
    | none => false
  if tuKind r = 1 then
    -- PULSE_WIDTH: POLARITY 0 a pulse above, 1 below
    (if level = x.level then ({ x with level := level, home := region }, false)
     else if level = some (!pol) then
       ({ x with level := level, home := region, start := if x.level.isSome then some at_ else none }, false)
     else ({ x with level := level, home := region, start := none }, fires))
  else if tuKind r = 2 then
    -- RUNT: POLARITY 0 leaves and returns below, 1 above
    (if region = some pol then ({ x with level := level, home := region, start := none, opp := false }, fires && !x.opp)
     else if x.home = some pol then ({ x with level := level, home := region, start := some at_, opp := region == some (!pol) }, false)
     else ({ x with level := level, home := region, opp := x.opp || region == some (!pol) }, false))
  else if tuKind r = 4 then
    -- SLEW: POLARITY 0 from below to above, 1 from above to below; the transition starts at the last sample of the region it leaves
    (if region = some pol then ({ x with level := level, home := region, start := some at_ }, false)
     else if region = some (!pol) then ({ x with level := level, home := region, start := none }, fires)
     else ({ x with level := level, home := region }, false))
  else
    -- TIMEOUT: POLARITY 0 watches below, 1 above
    (if level = x.level then ({ x with level := level, home := region }, false)
     else if level = some pol then ({ x with level := level, home := region, start := some at_, again := false }, false)
     else ({ x with level := level, home := region, start := none, again := false }, false))

/-- A sample of unit `u`'s source: the level of a binary source, or a value (R196). -/
def unitSample (u : Nat) (value : Int) (at_ : Stamp) (d : Dev) : Dev :=
  match unitRec d u, findUnit d u with
  | some r, some x =>
    let binary := tuSource r == 0 || tuSource r == 3
    let region : Option Bool :=
      if binary then some (value == 1)
      else if sx 32 (leAt r 12 4) ≤ value then some true
      else if value ≤ sx 32 (leAt r 8 4) then some false else none
    let o := unitStep r x region at_
    let d := onUnit u (fun _ => o.1) d
    if o.2 then unitFire u r at_ d else d
  | _, _ => d

/-- A sample of a source is taken by its units in ascending order (R197). -/
def sourceSample (kind num : Nat) (value : Int) (at_ : Stamp) (d : Dev) : Dev :=
  (List.range 32).foldl (fun d u => match unitRec d u with
    | some r => if tuSource r = kind && tuNum r = num then unitSample u value at_ d else d
    | none => d) d

/-- TRIGGER_TIMEOUT: the level of unit `u` has stayed in the watched region for MIN, or for a further MAX (R196). -/
def triggerTimeout (u : Nat) (d : Dev) : Dev :=
  match unitRec d u, findUnit d u with
  | some r, some x =>
    (match x.start with
     | some s =>
       if tuKind r ≠ 3 || !domUp d dFABRIC then d
       else match elapse d s (if x.again then tuMax r else tuMin r) (tuUnitKind r) with
         | some at_ => unitFire u r at_ (onUnit u (fun x => { x with start := some at_, again := true }) d)
         | none => d
     | none => d)
  | _, _ => d

/-- SEQ_TIMER_EXPIRY: the timer of sequencer `s` expires (R199). -/
def seqTimerExpiry (s : Nat) (d : Dev) : Dev :=
  match seqRec d s (seqState d s), d.pages.seqs.find? (fun x => x.seq == s) with
  | some r, some x =>
    if !bitOf (leAt r 10 1) 1 || !domUp d dFABRIC then d
    else match elapse d x.entry (leAt r 16 8) (leAt r 11 1) with
      | some at_ => seqLeft s (seqState d s) (rn d .PROD_SEQ_COUNT s) x.entry (seqEnter s (leAt r 9 1 % 16) at_ d)
      | none => d
  | _, _ => d

/-- The level of a binary source. -/
def binaryLevel (d : Dev) (r : Bytes) : Option Bool :=
  if tuSource r = 0 then some (bitOf (rn d .TRIG_PIN_STATE 0) (tuNum r))
  else if tuSource r = 3 then some (bitOf (rn d .BTN_STATE 0) (tuNum r))
  else none

/-- The units and sequencers of an image as it activates, at a stamp (R196, R199). -/
def trigActivate (at_ : Stamp) (d : Dev) : Dev :=
  let recs := ((activeImage d).map trigRecs).getD []
  let us := (recs.filter (fun r => leAt r 0 1 == 1)).map (fun r =>
    let l := binaryLevel d r
    (⟨leAt r 1 1 % 32, l, l, if tuKind r = 3 && l = some (tuPol r) then some at_ else none, false, false, none⟩ : TrigUnit))
  let ss := (List.range 4).filter (fun s => recs.any (fun r => leAt r 0 1 == 2 && leAt r 1 1 % 4 == s && leAt r 2 1 % 16 == 0))
  let d := pages (fun p => { p with units := us, seqs := ss.map (fun s => (⟨s, at_, none⟩ : SeqSt)) }) d
  (List.range 4).foldl (fun d s =>
    wn .PROD_SEQ_COUNT s 0 (wn .PROD_SEQ_STATE s (if ss.contains s then 16 else 0) d)) d

/-! ### Pins and buttons (R194, R222) -/

/-- The level of a ball or button before INVERT is kept. -/
def setPin (k : Nat) (level : Bool) (d : Dev) : Dev := sync (fun s => { s with pins := putBit s.pins k level }) d

/-- The stamp of a level of trigger pin `t` that has passed its filter now: the instant of its edge at the ball, two synchroniser stages of
1 ns and FILT earlier (R194). -/
def pinStamp (d : Dev) (t : Nat) : Stamp :=
  let at_ := d.now - (2 + rf d .TRIG_PIN_CFG t TRIG_PIN_CFG.FILT)
  ⟨at_, pastPos d at_, lastLine d⟩

/-- The level of trigger pin `t` after INVERT; a change gives its units a sample at a stamp. -/
def pinLevel (t : Nat) (at_ : Stamp) (d : Dev) : Dev :=
  let x := bitOf d.sync.pins t != rb d .TRIG_PIN_CFG t TRIG_PIN_CFG.INVERT
  if x = bitOf (rn d .TRIG_PIN_STATE 0) t then d
  else sourceSample 0 t (b2n x : Nat) at_ (wn .TRIG_PIN_STATE 0 (putBit (rn d .TRIG_PIN_STATE 0) t x) d)

/-- TRIGGER_PIN_EDGE: a new level at trigger pin `t` has passed its filter; the command stands for the cycle in which that establishes it, and
so for the decision cycle of the fires it completes (R194, R197). -/
def triggerPinEdge (t : Nat) (level : Bool) (d : Dev) : Dev :=
  if !domUp d dFABRIC then d else pinLevel t (pinStamp d t) (setPin t level d)

/-- The state of button `b` after INVERT; a change gives its units a sample, and one of an accepted level occurs (R222). -/
def btnLevel (b : Nat) (accepted : Bool) (d : Dev) : Dev :=
  let x := bitOf d.sync.pins (16 + b) != rb d .BTN_CFG b BTN_CFG.INVERT
  if x = bitOf (rn d .BTN_STATE 0) b then d
  else
    let d1 := wn .BTN_STATE 0 (putBit (rn d .BTN_STATE 0) b x) d
    sourceSample 3 b (b2n x : Nat) (stampNow d) (if accepted then occur Src.BUTTON b (b2n x : Nat) 0 d1 else d1)

/-- BUTTON: a level of button `b` has been stable for DEBOUNCE samples (R222). -/
def button (b : Nat) (level : Bool) (d : Dev) : Dev :=
  if !domUp d dFABRIC then d else btnLevel b true (setPin (16 + b) level d)

/-- The level of indicator output `i` (R223). A blinking one is on for half of each period of device time, at a phase the rule does not give;
a domain in reset drives it low. -/
def indicator (d : Dev) (i : Nat) : Bool :=
  let c (f : Fld) : Nat := rf d .IND_CFG i f
  let blink (half : Nat) : Bool := decide ((d.now + Config.blinkPhase) / half % 2 = 0)
  let on := match c IND_CFG.MODE with
    | 1 => true
    | 2 => blink 500000000
    | 3 => blink 125000000
    | 4 => evFlag d (c IND_CFG.SOURCE)
    | 5 => bitOf (rn d .BTN_STATE 0) (c IND_CFG.SOURCE)
    | _ => false
  domUp d dFABRIC && (on != (c IND_CFG.INVERT == 1))

/-- The line scalars of a corrected line (R194): the mean of each MEAN unit's columns, and the line's edges. -/
def lineScalars (l : LineRec) (c : Corrected) (edges : Option (Int × Int)) (d : Dev) : Dev :=
  let at_ : Stamp := ⟨l.start / 16, l.pos, l.num⟩
  (List.range 32).foldl (fun d u => match unitRec d u with
    | none => d
    | some r =>
      if tuSource r ≠ 2 then d
      else if tuNum r = 0 then
        let v := c.linear.getD (leAt r 7 1 % 4) []
        let c0 := leAt r 40 4
        let w := ((List.range (leAt r 44 4 + 1 - c0)).map (fun k => c0 + k)).filter (fun k => decide (k < v.length) && !c.mask.getD k false)
        if w.isEmpty then d
        else unitSample u (rdiv (16 * ((w.foldl (fun a k => a + v.getD k 0) 0 : Nat) : Int)) w.length) at_ d
      else match edges with
        | some (a, b) => unitSample u (if tuNum r = 1 then a else b) at_ d
        | none => d) d

/-! ### The sync ring (R225 to R232) -/

/-- SYNC_CTRL.ARM or a SYNC_ARM event: the master sends ARM and is armed (R229). -/
def ringArm (rule : Nat) (d : Dev) : Dev :=
  if 3 < rule then occur0 Src.SYNC_ARM_INVALID d else armWith rule (sendFrame 2 rule 0 d)

/-- SYNC_CTRL_ARM: only the master's write acts (R229, R234). -/
def syncCtrlArm (rule : Nat) (d : Dev) : Dev := if ringMaster d then ringArm rule d else d

/-- SYNC_CTRL_DISARM (R229). -/
def syncCtrlDisarm (d : Dev) : Dev := if ringMaster d then disarm (sendFrame 3 0 0 d) else d

/-- A SYNC_ARM event of the timetable: a device that is not the master discards it (R229). -/
def syncArmEvent (rule : Nat) (d : Dev) : Dev := if ringMaster d then ringArm rule d else occur0 Src.SYNC_ARM_INVALID d

/-- The ring goes down (R232). -/
def ringDown (d : Dev) : Dev :=
  if !ringUp d then d
  else occur0 Src.SYNC_RING_DOWN (disarm (sf .SYNC_STATUS 0 SYNC_STATUS.UP 0 (sf .SYNC_STATUS 0 SYNC_STATUS.SIZE 0 d)))

/-- The ring comes up (R226, R232). -/
def ringComesUp (size : Nat) (d : Dev) : Dev :=
  let d1 := sf .SYNC_STATUS 0 SYNC_STATUS.SIZE size d
  if ringUp d then d1 else occur0 Src.SYNC_RING_UP (sf .SYNC_STATUS 0 SYNC_STATUS.UP 1 d1)

/-- The master is node 0, and its offset is 0 (R226, R227). -/
def becomeMaster (d : Dev) : Dev :=
  ws64 .SYNC_POS_OFFSET 0 0 (sf .SYNC_STATUS 0 SYNC_STATUS.NODE 0 (sync (fun s => { s with diffs := [], diverged := false }) d))

/-- A POS frame on a device that is not the master (R227); differences are kept in units of 2^-16 pq. -/
def posFrame (hops : Nat) (pos : Int) (d : Dev) : Dev :=
  let diff := (trackPos d - pos) * 65536 - velocity d * (25 * hops : Nat)
  let l := (diff :: d.sync.diffs).take 16
  let off := rdiv (sumI l) (65536 * (l.length : Int))
  let far := decide (((rn d .SYNC_POS_TOL 0 : Nat) : Int) * 65536 < ((diff - off * 65536).natAbs : Nat))
  let was := d.sync.diverged
  let d := ws64 .SYNC_POS_OFFSET 0 off (sync (fun s => { s with diffs := l, diverged := far }) d)
  if far && !was then occur Src.SYNC_POS_DIVERGE off 0 0 d else d

/-- A frame that fails its CRC is discarded and counted; four within 1 µs take the ring down (R225, R232). -/
def crcFail (d : Dev) : Dev :=
  let d := incSat .SYNC_CRC_ERR 0 (sync (fun s => { s with crcTimes := (d.now :: s.crcTimes).take 4 }) d)
  match d.sync.crcTimes[3]? with
  | some t => if d.now ≤ t + 1000 then ringDown d else d
  | none => d

/-- SYNC_FRAME_RX: a whole frame of 16 symbols is received (R225, R226, R229 to R231). -/
def syncFrameRx (frame : Bytes) (d : Dev) : Dev :=
  if !domUp d dFABRIC || !rb d .SYNC_CFG 0 SYNC_CFG.ENABLE then d
  else
    let body := (frame.drop 1).take 13
    if frame.length ≠ 16 || crc16 body ≠ 256 * leAt frame 14 1 + leAt frame 15 1 then crcFail d
    else
      let type := leAt body 0 1
      let src := leAt body 1 1 % 8
      let hops := leAt body 1 1 / 16 % 8
      let seq := leAt body 2 1
      let arg := leAt body 3 1
      let pos := sx 64 (leAt body 4 8)
      let master := ringMaster d
      let fwd (arg : Nat) (d : Dev) : Dev := emit (.ringFrame (frameBytes type src ((hops + 1) % 8) seq arg pos)) d
      if type = 0 || 6 < type then incSat .SYNC_BAD_FRAME 0 d
      else if type = 1 then
        (if master then (if src ≠ 0 || 8 < arg then occur Src.SYNC_RING_FAULT src arg 0 d else ringComesUp arg d)
         else fwd ((arg + 1) % 256) (sf .SYNC_STATUS 0 SYNC_STATUS.NODE arg d))
      else if src = ownNode d then d
      else
        let d := fwd arg d
        if type = 2 then armWith arg d
        else if type = 3 then disarm d
        else if type = 4 then
          (if mget d.sync.lastFire src = seq + 1 then d
           else
             let d1 := sync (fun s => { s with lastFire := mset src (seq + 1) s.lastFire }) d
             if !ringArmed d && d.sync.collected.isEmpty then incSat .SYNC_FIRE_IGNORED 0 d1 else collectFire ⟨src, seq, pos⟩ d1)
        else if type = 5 then (if master then d else posFrame hops pos (ringComesUp arg d))
        else occur Src.RING_EVENT src (leAt body 4 2) 0 d

/-- SYNC_ENUM_TIMER: the master of a ring that is not up sends ENUM (R226). -/
def syncEnumTimer (d : Dev) : Dev :=
  if domUp d dFABRIC && rb d .SYNC_CFG 0 SYNC_CFG.ENABLE && ringMaster d && !ringUp d then sendFrame 1 1 0 d else d

/-- SYNC_POS_TIMER: the master of a ring that is up sends POS (R226, R227). -/
def syncPosTimer (d : Dev) : Dev :=
  if domUp d dFABRIC && rb d .SYNC_CFG 0 SYNC_CFG.ENABLE && ringMaster d && ringUp d then
    sendFrame 5 (rf d .SYNC_STATUS 0 SYNC_STATUS.SIZE) (trackPos d) d else d

/-- SYNC_RX_LOS: loss of signal at SYNC_RX (R232). -/
def syncRxLos (d : Dev) : Dev := whenUp dFABRIC ringDown d

/-- SYNC_POS_TIMEOUT: no POS for 10 µs on a device that is not the master (R232). -/
def syncPosTimeout (d : Dev) : Dev := if domUp d dFABRIC && !ringMaster d then ringDown d else d

end Sys2Proof.Machine
end

