-- ==== Sys2Proof/Machine/AuxFe.lean ====
section
/-!
DEFINITION. Machine/AuxFe.lean: the auxiliary sensor front end: conversion chains, results and their tags, starts, urgent visits,
AUX_CONFIG, AUX_CONVERT and RATIO_SET (R344 to R361).
-/
namespace Sys2Proof.Machine

def aux (f : Aux → Aux) (d : Dev) : Dev := { d with aux := f d.aux }

def idleChain : AuxChain := AuxChain.idle

def chain (d : Dev) (c : Nat) : AuxChain := d.aux.chains.getD c idleChain
def onChain (c : Nat) (f : AuxChain → AuxChain) (d : Dev) : Dev := aux (fun x => { x with chains := modAt x.chains c f }) d

/-! ### The input record (R355) -/

def inRec (d : Dev) (i : Nat) : Bytes := winRead d .auxIn (32 * i) 32
def iFlag (r : Bytes) (b : Nat) : Bool := bitOf (leAt r 2 1) b
def iEnable (r : Bytes) : Bool := iFlag r 0
def iBurnout (r : Bytes) : Bool := iFlag r 2
def iAuto (r : Bytes) : Bool := iFlag r 3
def iWire (r : Bytes) : Bool := iFlag r 5
def iBridge (r : Bytes) : Bool := iFlag r 6
def iGain (r : Bytes) : Nat := leAt r 3 1 % 8
def iGainMin (r : Bytes) : Nat := leAt r 4 1 % 8
def iGainMax (r : Bytes) : Nat := leAt r 4 1 / 16 % 8
def iAutoUp (r : Bytes) : Nat := leAt r 5 1
def iKind (r : Bytes) : Nat := leAt r 6 1
def iExc (r : Bytes) : Nat := leAt r 7 1 % 4
def iExcEn (r : Bytes) : Bool := bitOf (leAt r 7 1) 2
def iExcCode (r : Bytes) : Nat := leAt r 8 2 % 128
def iLead (r : Bytes) : Nat := leAt r 10 1 % 32
def iLeadEvery (r : Bytes) : Nat := leAt r 11 1

/-- The scan list of a chain, ascending (R355, R356). -/
def scanList (d : Dev) (c : Nat) : List Nat :=
  ((List.range 8).map (fun k => 8 * c + k)).filter (fun i => iEnable (inRec d i) && iFlag (inRec d i) 1)

/-! ### Forming a value (R346) -/

def sat32i (x : Int) : Int := clampI (-2147483648) 2147483647 x

/-- R0 × 10^15 × 256^4 times the IEC 60751 relation at `t` units of 1/256 °C. -/
def rtdAt (r0 t : Int) : Int :=
  let p : Int := 256
  r0 * (10 ^ 15 * p ^ 4 + 3908300000000 * p ^ 3 * t - 577500000 * p ^ 2 * t * t -
    (if t < 0 then 4183 * (t - 25600) * t * t * t else 0))

/-- The greatest temperature below `lo + 2^n` whose resistance is at most that of `target`. -/
def rtdSearch (r0 target : Int) : Nat → Int → Int
  | 0, lo => lo
  | n + 1, lo => if rtdAt r0 (lo + 2 ^ n) ≤ target then rtdSearch r0 target n (lo + 2 ^ n) else rtdSearch r0 target n lo

/-- The temperature of a resistance, solved to within 1 unit, and whether the RTD range limited it (R346). -/
def rtdTemp (r r0 : Int) (k : Nat) : Int × Bool :=
  if 10000 * r < 1852 * r0 then (-51200, true)
  else if 39048 * r0 < 10000 * r then (217600, true)
  else
    let target := r * (10 ^ 15 * 256 ^ 4)
    let lo := rtdSearch r0 target 19 (-51200)
    (if rtdAt r0 lo = target then lo + (Config.rtdError k % 3 : Nat) - 1 else lo + (Config.rtdError k % 2 : Nat), false)

/-- The value of a code `n` at gain 128 by an input's record, and whether it was limited (R346, R347). -/
def formValue (r : Bytes) (n : Int) (k : Nat) : Int × Bool :=
  let c0 := rdiv ((n - sx 32 (leAt r 16 4)) * (leAt r 20 3 : Int)) 4194304
  let c := sat32i c0
  let clip := c != c0
  if iKind r = 1 then
    let v := rdiv (c * sx 32 (leAt r 24 4)) 1073741824 + sx 32 (leAt r 28 4)
    (sat32i v, clip || sat32i v != v)
  else if iKind r = 2 then
    let t := rtdTemp (rdiv (c * (leAt r 24 4 : Int)) 1073741824) (leAt r 28 4) k
    (t.1, clip || t.2)
  else (c, clip)

/-! ### Time (R345, R348) -/

def settleCount (d : Dev) (c : Nat) : Nat := if rb d .AUX_CHAIN_CFG c AUX_CHAIN_CFG.FILTER then 4 else 3

/-- The sampling instant of a code taken now: half of the settle count's time earlier, a part of a ns rounded down (R348). -/
def samplingInstant (d : Dev) (c : Nat) : Nat :=
  d.now - (settleCount d c * rf d .AUX_CHAIN_OSR c AUX_CHAIN_OSR.OSR * 15625 + 127) / 128

/-! ### Delivering a result (R347, R348, R353) -/

/-- A result of input `i` reaches its register and its consumers (R142, R194, R257, R359). -/
def deliverAux (i : Nat) (value : Int) (tags gain instant : Nat) (d : Dev) : Dev :=
  let wasOpen := bitOf (rf d .AUX_RESULT_TAG i AUX_RESULT_TAG.TAGS) 0
  let d := wn .AUX_RESULT_TIME i instant (ws32 .AUX_RESULT i value d)
  let d := sf .AUX_RESULT_TAG i AUX_RESULT_TAG.GAIN gain (sf .AUX_RESULT_TAG i AUX_RESULT_TAG.TAGS tags d)
  let d := incWrap .AUX_RESULT_SEQ i d
  let d := if bitOf tags 0 && !wasOpen then occur (Src.AUX_OPEN (i / 8)) (i / 8 : Nat) i 0 d else d
  let d := if bitOf tags 1 then d else ratioUpdate 1 i value (bitOf tags 0) d
  if bitOf tags 0 || bitOf tags 1 then d
  else
    let d := aux (fun a => { a with latest := mset i (ux 32 value + 2 ^ 32) a.latest, since := mset i (d.now + 1) a.since }) d
    sourceSample 1 i value ⟨instant, pastPos d instant, lastLine d⟩ (calTemp i value d)

/-! ### Visits (R348, R349, R354) -/

def cvState (d : Dev) (c : Nat) : Nat := rf d .AUX_CHAIN_STATUS c AUX_CHAIN_STATUS.STATE
def cvInput (d : Dev) (c : Nat) : Nat := rf d .AUX_CHAIN_STATUS c AUX_CHAIN_STATUS.INPUT
def cvLeadPhase (d : Dev) (c : Nat) : Bool := rb d .AUX_CHAIN_STATUS c AUX_CHAIN_STATUS.PHASE
def cvSet (c : Nat) (f : Fld) (x : Nat) (d : Dev) : Dev := sf .AUX_CHAIN_STATUS c f x d
def setCvState (c st : Nat) (d : Dev) : Dev := cvSet c AUX_CHAIN_STATUS.STATE st d
def cvStartBit (d : Dev) (c b : Nat) : Bool := bitOf (rf d .AUX_CHAIN_CFG c AUX_CHAIN_CFG.START) b
def cvOwns (d : Dev) (c s : Nat) : Bool := s / 2 == c / 2 && bitOf (rf d .AUX_CHAIN_CFG c AUX_CHAIN_CFG.EXC_OWN) (s % 2)

/-- The current of every source the chain owns: that of the input it visits, or off (R348, R354). -/
def driveSources (c : Nat) (r : Option Bytes) (d : Dev) : Dev :=
  (List.range 4).foldl (fun d s =>
    if cvOwns d c s then
      sf .AUX_EXC s AUX_EXC.CODE (match r with
        | some r => if iExcEn r && iExc r == s then iExcCode r else 0
        | none => 0) d
    else d) d

/-- Step 1 of a visit (R348). -/
def startVisit (c i job : Nat) (d : Dev) : Dev :=
  let r := inRec d i
  let d := onChain c (fun x => { x with job := job, gain := iGain r }) d
  let d := cvSet c AUX_CHAIN_STATUS.COMMAND (b2n (job == 3)) (cvSet c AUX_CHAIN_STATUS.INPUT i
    (cvSet c AUX_CHAIN_STATUS.PHASE 0 (setCvState c 1 d)))
  driveSources c (some r) d

/-- Inputs an AUX_CONVERT has still to convert: its data is a flag, 1 after an ABORT and 2 while it waits for the replay (R361), and four
numbers for each result (R358). -/
def convDone (c : Cmd) : List Nat := (List.range ((c.data.length - 1) / 4)).map (fun k => c.data.getD (1 + 4 * k) 0)
def convLeft (c : Cmd) : List Nat := (bitsOf (leAt c.entry 8 4) 32).filter (fun i => !(convDone c).contains i)

/-- The first AUX_CONVERT in fetch order that has an input of the chain left, and that input (R358). -/
def convFor (d : Dev) (c : Nat) : Option (Cmd × Nat) :=
  (d.post.cmds.filterMap (fun x =>
    if x.op = 0x81 && x.started && x.data.getD 0 0 = 0 then ((convLeft x).find? (fun i => i / 8 == c)).map (fun i => (x, i))
    else none)).head?

/-- A scan starts, where its list has an input (R356). -/
def startScan (c : Nat) (d : Dev) : Dev :=
  match scanList d c with
  | [] => onChain c (fun x => { x with scan := false, left := [] }) d
  | i :: t => startVisit c i 1 (onChain c (fun x => { x with scan := true, left := t }) d)

/-- The chain goes idle, its sources off (R354, R356). -/
def chainIdle (c : Nat) (d : Dev) : Dev :=
  driveSources c none (setCvState c 0 (cvSet c AUX_CHAIN_STATUS.COMMAND 0 (cvSet c AUX_CHAIN_STATUS.PHASE 0
    (onChain c (fun x => { x with job := 0, scan := false, left := [] }) d))))

/-- What the chain does once it holds no visit: commands first in fetch order, then the rest of an interrupted scan, then a pending
start, then a new scan while CONT is 1 (R356, R358). -/
def nextVisit (c : Nat) (d : Dev) : Dev :=
  match convFor d c with
  | some (x, i) => startVisit c i 3 (onChain c (fun y => { y with cmd := x.order }) d)
  | none =>
    match (chain d c).left with
    | i :: t => startVisit c i 1 (onChain c (fun x => { x with left := t }) d)
    | [] =>
      let d := chainIdle c d
      if rb d .AUX_CHAIN_STATUS c AUX_CHAIN_STATUS.PENDING || cvStartBit d c 3 then
        startScan c (cvSet c AUX_CHAIN_STATUS.PENDING 0 d)
      else d

/-! ### AUX_CONVERT (R358) -/

/-- Its completion: one result in RESULT, or a record for each input in BUFFER. -/
def convFinish (c : Cmd) (d : Dev) : Dev :=
  let res (i : Nat) : List Nat :=
    match ((List.range ((c.data.length - 1) / 4)).find? (fun k => c.data.getD (1 + 4 * k) 0 == i)) with
    | some k => [c.data.getD (2 + 4 * k) 0, c.data.getD (3 + 4 * k) 0, c.data.getD (4 + 4 * k) 0]
    | none => []
  let rec_ (i : Nat) : Bytes :=
    leBytes 4 ((res i).getD 0 0) ++ leBytes 1 i ++ leBytes 1 ((res i).getD 1 0) ++ zeros 2 ++ leBytes 8 ((res i).getD 2 0)
  let ins := bitsOf (leAt c.entry 8 4) 32
  match ins with
  | [i] => completeOk c (rec_ i) d
  | _ => completeOk c (leBytes 4 ins.length) (hostWrite (leAt c.entry 16 8) (ins.flatMap rec_) d)

/-- A visit for the command has ended with a result. -/
def convResult (c i : Nat) (value : Int) (tags instant : Nat) (d : Dev) : Dev :=
  match d.post.cmds.find? (fun x => x.order == (chain d c).cmd && x.op == 0x81) with
  | none => d
  | some x =>
    if x.data.getD 0 0 = 2 then onChain c (fun y => { y with job := 0 }) d else
    let x := { x with data := x.data ++ [i, ux 32 value, tags, instant] }
    let d := onChain c (fun y => { y with job := 0 }) (updCmd x d)
    if (convLeft x).isEmpty then convFinish x d
    else if x.data.getD 0 0 = 1 && !d.aux.chains.any (fun y => y.job == 3 && y.cmd == x.order) then complete x stABORTED 0 [] d
    else d

/-- Every idle chain that the commands concern starts. -/
def kickChains (d : Dev) : Dev :=
  (List.range 4).foldl (fun d c =>
    if domUp d (dANA (c / 2)) && (chain d c).job == 0 && (convFor d c).isSome then nextVisit c d else d) d

def auxConvert (c : Cmd) (d : Dev) : Dev :=
  let ins := bitsOf (leAt c.entry 8 4) 32
  match ins.find? (fun i => !domUp d (dANA (i / 16)) || !iEnable (inRec d i)) with
  | some i => complete c stSTATE (dANA (i / 16)) [] d
  | none => kickChains (updCmd { c with data := [0] } d)

/-- ABORT of a started AUX_CONVERT: it ends after the visit in progress (R358). -/
def auxAbort (c : Cmd) (d : Dev) : Dev :=
  if d.aux.chains.any (fun y => y.job == 3 && y.cmd == c.order) then updCmd { c with data := setAt c.data 0 1 } d
  else complete c stABORTED 0 [] d

/-! ### Codes (R347 to R352) -/

/-- A raw code within 24 bits signed, and the code at gain 128 (R345, R346). -/
def rawOk (x : Int) : Int := clampI (-8388608) 8388607 x
def rawFull (x : Int) : Bool := decide (x ≤ -8388608) || decide (8388607 ≤ x)
def atGain (g : Nat) (raw : Int) : Int := raw * 2 ^ (7 - g)

def threeWireN (d : Dev) (i : Nat) : Int := (mget d.aux.leadN i : Int) - 2147483648

/-- RANGE_STEP of the next result, taken once (R347). -/
def takeStep (i : Nat) (d : Dev) : Dev := aux (fun a => { a with stepped := putBit a.stepped i false }) d

/-- The result of the visit in progress is formed and delivered; the visit ends, or the chain stays on its input (R348, R349). -/
def endVisit (c : Nat) (d : Dev) : Dev :=
  let x := chain d c
  let i := cvInput d c
  let r := inRec d i
  let n := if iWire r then atGain x.mainGain x.main - 2 * threeWireN d i else atGain x.mainGain x.main
  let v := formValue r n d.fresh
  let tags := b2n (iBurnout r && decide (0x7FF000 ≤ x.main)) + 4 * b2n (bitOf d.aux.stepped i) + 8 * b2n x.mainOver + 16 * b2n v.2 +
    64 * b2n (x.job == 2)
  let d := deliverAux i v.1 tags x.mainGain x.at_ (takeStep i (useFresh d))
  let d := onChain c (fun y => { y with step := false, endAt := d.now + 1 })
    (if x.step then aux (fun a => { a with stepped := putBit a.stepped i true }) d else d)
  let d := if x.job = 2 && x.push then
      uqSend x.queue (ux 32 v.1 + 2 ^ 32 * i + 2 ^ 37 * tags + 2 ^ 44 * (rn d .AUX_RESULT_SEQ i % 1024) + 2 ^ 54) d else d
  let d := if x.job = 3 then convResult c i v.1 tags x.at_ d else d
  if x.job = 1 && cvStartBit d c 3 && scanList d c == [i] && !iWire r && (convFor d c).isNone then
    (if cvState d c = 1 then d
     else setCvState c (if iGain r = x.gain then 3 else 2) (onChain c (fun x => { x with gain := iGain r }) d))
  else nextVisit c d

/-- GAIN of the input's next code after a main code of chain `c`; RANGE_STEP is for the result of that code (R347, R352). -/
def autorange (c i : Nat) (raw : Int) (ovf : Bool) (d : Dev) : Dev :=
  let r := inRec d i
  if !iAuto r then d
  else
    let g := iGain r
    let low := decide (raw.natAbs < 3145728)
    let run := if low then mget d.aux.low i + 1 else 0
    let up := !ovf && low && decide (iAutoUp r ≤ run)
    let g2 := if ovf then iGainMin r
      else if 7340032 < raw.natAbs then (if iGainMin r < g then g - 1 else g)
      else if up && decide (g < iGainMax r) then g + 1 else g
    let d := aux (fun a => { a with low := mset i (if up then 0 else run) a.low }) d
    if g2 = g then d
    else onChain c (fun x => { x with step := true })
      (aux (fun a => { a with low := mset i 0 a.low }) (winPut .auxIn (32 * i + 3) (BitVec.ofNat 8 g2) d))

/-- AUX_CODE: chain `c` takes a code; the filter yields `raw`, and `over` says that the modulator overloaded during its window
(R345, R348, R352). The result is delivered in the step of its last code. -/
def auxCode (c : Nat) (raw : Int) (ovf : Bool) (d : Dev) : Dev :=
  if !domUp d (dANA (c / 2)) || cvState d c < 2 then d
  else
    let i := cvInput d c
    let raw := rawOk raw
    let ovf := ovf || rawFull raw
    let x := chain d c
    if cvLeadPhase d c then
      let d := onChain c (fun x => { x with mainOver := x.mainOver || ovf }) (wn .AUX_LEAD i (ux 24 raw) d)
      endVisit c (aux (fun a => { a with
        leadN := mset i (atGain x.gain raw + 2147483648).toNat a.leadN
        lead := mset i (iLeadEvery (inRec d i) - 1) a.lead }) d)
    else
      let d := onChain c (fun y => { y with main := raw, mainGain := x.gain, mainOver := ovf, at_ := samplingInstant d c })
        (wn .AUX_RAW i (ux 24 raw) d)
      let due := iWire (inRec d i) && mget d.aux.lead i == 0
      let d := autorange c i raw ovf d
      if due then setCvState c 1 (cvSet c AUX_CHAIN_STATUS.PHASE 1 d)
      else endVisit c (aux (fun a => { a with lead := mset i (mget a.lead i - 1) a.lead }) d)

/-- AUX_SETTLE_DONE: SETTLE_US has passed, the filter resets and the modulator runs (R348). -/
def auxSettleDone (c : Nat) (d : Dev) : Dev :=
  if domUp d (dANA (c / 2)) && cvState d c = 1 then setCvState c 2 d else d

/-- AUX_FORCE: a forced result from the filter's present output while FILTERING, or from the last code while RUNNING; the conversion
goes on (R351). -/
def auxForce (c : Nat) (d : Dev) : Dev :=
  let i := cvInput d c
  let r := inRec d i
  let x := chain d c
  let present := rawOk (Config.filterOutput d.fresh)
  if !domUp d (dANA (c / 2)) || cvState d c < 2 then d
  else
    let running := cvState d c == 3
    let lead := cvLeadPhase d c
    let main := if running || lead then x.main else present
    let g := if running || lead then x.mainGain else x.gain
    let nl := if lead then atGain x.gain present
      else if mget d.aux.leadN i = 0 then rawOk (Config.filterOutput (d.fresh + 1)) else threeWireN d i
    let n := if iWire r then atGain g main - 2 * nl else atGain g main
    let d := useFresh (useFresh d)
    let v := formValue r n d.fresh
    let ovf := rawFull main || (if running then x.mainOver else (lead && x.mainOver) || Config.filterOver d.fresh)
    let tags := b2n (iBurnout r && decide (0x7FF000 ≤ main)) + 2 * b2n (!running) + 4 * b2n (bitOf d.aux.stepped i) + 8 * b2n ovf +
      16 * b2n v.2 + 32
    deliverAux i v.1 tags g (if running then x.at_ else samplingInstant d c) (takeStep i (useFresh d))

/-! ### Starts (R356, R357) -/

/-- A start of a chain: a second one of the same cycle, by the pin and by the timetable, counts as one (R356). -/
def auxStart (c : Nat) (d : Dev) : Dev :=
  let again := (chain d c).startAt == d.now + 1
  let d := onChain c (fun x => { x with startAt := d.now + 1, begunAt := if x.job = 0 then d.now + 1 else x.begunAt }) d
  if again then d
  else if (chain d c).job = 0 then startScan c d
  else if rb d .AUX_CHAIN_STATUS c AUX_CHAIN_STATUS.PENDING then
    occur (Src.AUX_START_DROP c) c 0 0 (incSat .AUX_START_DROP c d)
  else cvSet c AUX_CHAIN_STATUS.PENDING 1 d

/-- AUX_CONV_PIN: a level at AUX_CONV[c] has been stable for 100 ns (R356). -/
def auxConvPin (c : Nat) (level : Bool) (d : Dev) : Dev :=
  if !domUp d (dANA (c / 2)) || (chain d c).pin = level then d
  else
    let d := onChain c (fun x => { x with pin := level }) d
    if cvStartBit d c 0 && (cvStartBit d c 1 != level) then auxStart c d else d

/-- The release of an AUX_CONV event, TARGET naming the chains (R87, R356). -/
def auxConvEvent (mask : Nat) (d : Dev) : Dev :=
  (List.range 4).foldl (fun d c =>
    if bitOf mask c && domUp d (dANA (c / 2)) && cvStartBit d c 2 then auxStart c d else d) d

/-- AUX_URGENT: one visit to an input of an idle chain, or a drop: also where a result was delivered in this cycle. A start of this cycle
that found the chain idle becomes pending (R357). -/
def auxUrgent (c i queue : Nat) (push : Bool) (d : Dev) : Dev :=
  let x := chain d c
  let met := x.job == 1 && x.begunAt == d.now + 1
  if !domUp d (dANA (c / 2)) then d
  else if (x.job != 0 && !met) || x.endAt == d.now + 1 || i / 8 != c || !iEnable (inRec d i) then
    occur (Src.AUX_URGENT_DROP c) c 0 0 (incSat .AUX_URGENT_DROP c d)
  else
    let d := if met then cvSet c AUX_CHAIN_STATUS.PENDING 1 (chainIdle c d) else d
    startVisit c i 2 (onChain c (fun x => { x with queue := queue, push := push }) d)

/-! ### AUX_CONFIG (R350, R355) -/

/-- The first reserved field or encoding of a record that is not as it must be: its offset in the record (R45 order 6). -/
def auxRecField (r : Bytes) : Option Nat :=
  let b (k : Nat) : Nat := leAt r k 1
  let chk : List (Nat × Bool) :=
    if b 0 = 1 then
      [(1, b 1 < 4), (2, b 2 < 2), (3, b 3 < 16), (4, b 4 < 4), (5, zeroIn r 5 8), (12, zeroIn r 12 32)]
    else if b 0 = 2 then
      [(1, b 1 < 32), (2, b 2 < 128), (3, b 3 < 8), (4, !bitOf (b 4) 3 && !bitOf (b 4) 7), (6, b 6 < 3), (7, b 7 < 8),
       (8, leAt r 8 2 < 128), (10, b 10 < 32), (12, leAt r 12 4 ≤ 65000), (23, b 23 == 0)]
    else if b 0 = 3 then [(1, b 1 < 8), (2, b 2 < 2), (3, b 3 < 32), (4, zeroIn r 4 32)]
    else if b 0 = 4 then [(1, b 1 < 2), (2, b 2 < 3), (3, zeroIn r 3 32)]
    else [(0, false)]
  (chk.find? (fun x => !x.2)).map (·.1)

/-- The die a record's element lies on. -/
def auxRecDie (r : Bytes) : Nat :=
  if leAt r 0 1 = 1 then leAt r 1 1 / 2 else if leAt r 0 1 = 2 then leAt r 1 1 / 16
  else if leAt r 0 1 = 3 then leAt r 1 1 / 4 else leAt r 1 1 % 2

/-- An input's record within a configuration (R355). -/
def inputOk (d : Dev) (i : Nat) : Bool :=
  let r := inRec d i
  (if iAuto r then decide (iGainMin r ≤ iGain r) && decide (iGain r ≤ iGainMax r) && iAutoUp r != 0
   else iGainMin r == 0 && iGainMax r == 0 && iAutoUp r == 0) &&
  (if iExcEn r then iExcCode r != 0 && decide (iExcCode r ≤ 100) && cvOwns d (i / 8) (iExc r) else iExcCode r == 0) &&
  (if iWire r then iLead r / 8 == i / 8 && iLead r != i && iLeadEvery r != 0 else iLead r == 0 && iLeadEvery r == 0) &&
  leAt r 12 4 != 0 &&
  (iKind r != 2 || (iExcEn r && leAt r 24 4 != 0 && leAt r 28 4 != 0))

/-- Whether the configuration `d` meets every condition that concerns a record (R355). -/
def auxRecOk (d : Dev) (r : Bytes) : Bool :=
  let n := leAt r 1 1
  if leAt r 0 1 = 1 then
    let osr := leAt r 8 4
    decide (128 ≤ osr) && decide (osr ≤ 409600) && osr % 64 == 0 &&
    (rf d .AUX_CHAIN_CFG n AUX_CHAIN_CFG.EXC_OWN).land (rf d .AUX_CHAIN_CFG (2 * (n / 2) + (1 - n % 2)) AUX_CHAIN_CFG.EXC_OWN) == 0 &&
    (List.range 8).all (fun k => leAt (inRec d (8 * n + k)) 0 1 != 2 || inputOk d (8 * n + k))
  else if leAt r 0 1 = 2 then inputOk d n
  else if leAt r 0 1 = 3 then leAt r 3 1 / 16 == n / 4
  else true

/-- The configuration with a record applied. -/
def auxApply (r : Bytes) (d : Dev) : Dev :=
  let n := leAt r 1 1
  if leAt r 0 1 = 1 then
    sf .AUX_CHAIN_OSR n AUX_CHAIN_OSR.OSR (leAt r 8 4) (sf .AUX_CHAIN_CFG n AUX_CHAIN_CFG.EXC_OWN (leAt r 4 1)
      (sf .AUX_CHAIN_CFG n AUX_CHAIN_CFG.START (leAt r 3 1) (sf .AUX_CHAIN_CFG n AUX_CHAIN_CFG.FILTER (leAt r 2 1) d)))
  else if leAt r 0 1 = 2 then winWrite .auxIn (32 * n) r (aux (fun a => { a with gains := mset n (iGain r) a.gains }) d)
  else if leAt r 0 1 = 3 then sf .AUX_GUARD n AUX_GUARD.SOURCE (leAt r 3 1) (sf .AUX_GUARD n AUX_GUARD.EN (leAt r 2 1) d)
  else sf .AUX_BRIDGE n AUX_BRIDGE.MODE (leAt r 2 1) d

/-- AUX_EXC shows the owner of each source (R354, R362). -/
def showOwners (d : Dev) : Dev :=
  (List.range 4).foldl (fun d s =>
    let c := 2 * (s / 2)
    let own := cvOwns d c s || cvOwns d (c + 1) s
    let d := sf .AUX_EXC s AUX_EXC.CHAIN (b2n (!cvOwns d c s && own)) (sf .AUX_EXC s AUX_EXC.OWNED (b2n own) d)
    if own then d else sf .AUX_EXC s AUX_EXC.CODE 0 d) d

/-- What a change of configuration does to a chain that is on an input (R350), and to a chain whose scans are now continuous. -/
def auxChanged (old : Dev) (c : Nat) (d : Dev) : Dev :=
  if (chain d c).job = 0 then (if cvStartBit d c 3 then startScan c d else d)
  else
    let i := cvInput d c
    let a := inRec old i
    let b := inRec d i
    let restart := (iExcEn a != iExcEn b || iExc a != iExc b || iExcCode a != iExcCode b) ||
      (iBridge b && rf old .AUX_BRIDGE (c / 2) AUX_BRIDGE.MODE != rf d .AUX_BRIDGE (c / 2) AUX_BRIDGE.MODE) ||
      iFlag a 4 != iFlag b 4 || iBurnout a != iBurnout b || iWire a != iWire b || iLead a != iLead b ||
      rf old .AUX_CHAIN_CFG c AUX_CHAIN_CFG.FILTER != rf d .AUX_CHAIN_CFG c AUX_CHAIN_CFG.FILTER ||
      rn old .AUX_CHAIN_OSR c != rn d .AUX_CHAIN_OSR c
    let d := if iGain a = iGain b then d
      else onChain c (fun x => { x with gain := iGain b }) (if cvState d c = 3 then setCvState c 2 d else d)
    driveSources c (some b) (if restart then setCvState c 1 (if iWire b then d else cvSet c AUX_CHAIN_STATUS.PHASE 0 d) else d)

/-- An input whose record changes: its lead measurement is due, and RANGE_STEP marks the result after a change of GAIN (R347, R348). -/
def inputChanged (old : Dev) (i : Nat) (d : Dev) : Dev :=
  if inRec old i = inRec d i then d
  else aux (fun a => { a with
    lead := mset i 0 a.lead, low := mset i 0 a.low
    stepped := if iGain (inRec old i) = iGain (inRec d i) then a.stepped else putBit a.stepped i true }) d

def auxConfig (c : Cmd) (d : Dev) : Dev :=
  let recs := (List.range (c.block.length / 32)).map (fun k => (k, (c.block.drop (32 * k)).take 32))
  let off (x : Nat) : Nat := min 255 (0x40 + x)
  match recs.find? (fun x => (auxRecField x.2).isSome) with
  | some x => complete c stPARAM (off (32 * x.1 + (auxRecField x.2).getD 0)) [] d
  | none =>
    match recs.find? (fun x => !domUp d (dANA (auxRecDie x.2))) with
    | some x => complete c stSTATE (dANA (auxRecDie x.2)) [] d
    | none =>
      let new := recs.foldl (fun d x => auxApply x.2 d) d
      match recs.find? (fun x => !auxRecOk new x.2 || recs.any (fun y => y.1 != x.1 && leAt y.2 0 2 == leAt x.2 0 2)) with
      | some x => complete c stPARAM (off (32 * x.1)) [] d
      | none =>
        let n := (List.range 32).foldl (fun e i => inputChanged d i e) new
        completeOk c [] ((List.range 4).foldl (fun e k => if domUp d (dANA (k / 2)) then auxChanged d k e else e) (showOwners n))

/-! ### RATIO_SET (R359) -/

def ratioSet (c : Cmd) (d : Dev) : Dev :=
  let o := leAt c.entry 8 1 % 8
  let flags := leAt c.entry 11 1 % 8
  if !domUp d (dANA (o / 4)) then complete c stSTATE (dANA (o / 4)) [] d
  else
    let d := sf .AUX_RATIO_CFG o AUX_RATIO_CFG.FLAGS flags (sf .AUX_RATIO_CFG o AUX_RATIO_CFG.NUM (leAt c.entry 10 1)
      (sf .AUX_RATIO_CFG o AUX_RATIO_CFG.KIND (leAt c.entry 9 1) d))
    let d := wn .AUX_RATIO_TIMEOUT o (leAt c.entry 24 4) (wn .AUX_RATIO_OFFSET o (leAt c.entry 16 4) (wn .AUX_RATIO_SCALE o (leAt c.entry 12 4) d))
    let d := sf .AUX_RATIO_STATE o AUX_RATIO_STATE.FAULT 0 (sf .AUX_RATIO_STATE o AUX_RATIO_STATE.CLAMPED (b2n (flags % 2 == 0))
      (wn .AUX_RATIO_FAULT o (leAt c.entry 20 2) d))
    let d := if leAt c.entry 9 1 = 0 then sf .AUX_RATIO_STATE o AUX_RATIO_STATE.CODE (ratioCode d o 0) d else d
    completeOk c [] d

/-! ### The temperatures of a line (R142) -/

/-- The temperature latched for segment `s` by its DARK record in bank `b`, in 1/256 °C, and whether it is stale. -/
def latchTemp (d : Dev) (b s : Nat) : Int × Bool :=
  let rec_ := tget d 3 b (16 * 262144 + 8 * s) 8
  let i := rec_ / 65536 % 32
  let held := mget d.aux.latest i
  (if held = 0 then sx 16 rec_ else sx 32 (held - 2 ^ 32),
    held == 0 || decide (rfIn d .PIPE_TEMP_AGE 0 PIPE_TEMP_AGE.MAX_AGE * 1000000 < d.now + 1 - mget d.aux.since i))

/-- The temperatures latched at the hand-over of line `n` for every segment of the image, each given with its half; a half with a stale one
counts the line and sets its flag. -/
def latchTemps (n : Nat) (segs : List (Nat × Nat)) (b : Nat) (d : Dev) : List (Nat × Int × Bool) × Dev :=
  (segs.map (fun x => (x.1, latchTemp d b x.1)),
    [0, 1].foldl (fun e h =>
      if segs.any (fun x => x.2 == h && (latchTemp d b x.1).2) then occur (Src.DARK_TEMP_STALE h) h n 0 (incSat .PIPE_TEMP_STALE h e)
      else e) d)

/-! ### Resets (R361) -/

/-- The die's front end stops: visits, pending starts and lead codes are lost, sources are off, outputs clamp to 0 V. -/
def auxReset (n : Nat) (d : Dev) : Dev :=
  let d := [2 * n, 2 * n + 1].foldl (fun d c => wn .AUX_CHAIN_STATUS c 0 (driveSources c none (onChain c (fun x => { idleChain with pin := x.pin }) d))) d
  let d := { d with post := { d.post with cmds := d.post.cmds.map (fun x =>
    if x.op = 0x81 && x.started && (bitsOf (leAt x.entry 8 4) 32).any (fun i => i / 16 == n) then { x with data := [2] } else x) } }
  let mine (k : Nat) : Bool := decide (16 * n ≤ k) && decide (k < 16 * n + 16)
  let drop (m : List (Nat × Nat)) : List (Nat × Nat) := m.filter (fun x => !mine x.1)
  let d := aux (fun a => { a with
    stepped := ((List.range 16).foldl (fun m k => putBit m (16 * n + k) false) a.stepped)
    low := drop a.low, lead := drop a.lead, leadN := drop a.leadN, latest := drop a.latest, since := drop a.since }) d
  (List.range 4).foldl (fun d k =>
    sf .AUX_RATIO_STATE (4 * n + k) AUX_RATIO_STATE.FAULT 0 (sf .AUX_RATIO_STATE (4 * n + k) AUX_RATIO_STATE.CLAMPED 1 d)) d

/-- The die's front end is released: the kept configuration is restored, GAIN as AUX_CONFIG set it, each output drives its last CODE and a
continuous chain starts. -/
def auxReleased (n : Nat) (d : Dev) : Dev :=
  let d := (List.range 4).foldl (fun d k =>
    sf .AUX_RATIO_STATE (4 * n + k) AUX_RATIO_STATE.CLAMPED (b2n (!ratioFlag d (4 * n + k) 0)) d) (showOwners d)
  let d := (List.range 16).foldl (fun d k =>
    if leAt (inRec d (16 * n + k)) 0 1 = 2 then
      winPut .auxIn (32 * (16 * n + k) + 3) (BitVec.ofNat 8 (mget d.aux.gains (16 * n + k))) d else d) d
  let d := [2 * n, 2 * n + 1].foldl (fun d c => if cvStartBit d c 3 then startScan c d else d) d
  kickChains d

/-- An AUX_CONVERT that a reset cut restarts from its first input after the replay (R361). -/
def convRestart (d : Dev) : Dev :=
  kickChains { d with post := { d.post with cmds := d.post.cmds.map (fun x =>
    if x.op = 0x81 && x.started && x.data.getD 0 0 = 2 then { x with data := [0] } else x) } }

end Sys2Proof.Machine
end

