-- ==== Sys2Proof/Machine/Dma.lean ====
section
/-!
DEFINITION. Machine/Dma.lean: the host channels of the DMA engine: descriptors, streams, credits, check values, pause, errors
(R291 to R308).
-/
namespace Sys2Proof.Machine

def noChan : Chan := Chan.none_
def chan (d : Dev) (c : Nat) : Chan := d.chans.getD c noChan
def onChan (c : Nat) (f : Chan → Chan) (d : Dev) : Dev := { d with chans := modAt d.chans c f }

def chDISABLED : Nat := 0
def chIDLE : Nat := 1
def chACTIVE : Nat := 2
def chWAIT : Nat := 3
def chPAUSING : Nat := 4
def chPAUSED : Nat := 5
def chHALTED : Nat := 6

def chState (d : Dev) (c : Nat) : Nat := rf d .DMA_CH_STATUS c DMA_CH_STATUS.STATE
def setCh (c st : Nat) (d : Dev) : Dev := sf .DMA_CH_STATUS c DMA_CH_STATUS.STATE st d
def chSize (d : Dev) (c : Nat) : Nat := rf d .DMA_CH_RING_SIZE c DMA_CH_RING_SIZE.SIZE
def chHead (d : Dev) (c : Nat) : Nat := rn d .DMA_CH_HEAD c
def chCredits (d : Dev) (c : Nat) : Nat := rf d .DMA_CH_CREDITS c DMA_CH_CREDITS.COUNT

/-- Whether TAIL is ahead of HEAD. -/
def chWork (d : Dev) (c : Nat) : Bool := (chan d c).tail != chHead d c

/-! ### Descriptors (R296, R297) -/

def dSrc (b : Bytes) : Nat := leAt b 0 8
def dDst (b : Bytes) : Nat := leAt b 8 8
def dLen (b : Bytes) : Nat := leAt b 24 4
def dSrcStride (b : Bytes) : Int := sx 32 (leAt b 28 4)
def dDstStride (b : Bytes) : Int := sx 32 (leAt b 32 4)
def dLimit (b : Bytes) : Nat := leAt b 36 4
def dSrcW (b : Bytes) : Nat := 2 ^ (leAt b 40 1 % 8)
def dDstW (b : Bytes) : Nat := 2 ^ (leAt b 41 1 % 8)
def dSrcHbm (b : Bytes) : Bool := bitOf (leAt b 40 1) 4
def dDstHbm (b : Bytes) : Bool := bitOf (leAt b 41 1) 4
def dIdx (b : Bytes) : Nat := leAt b 42 1 % 4
def dCrc (b : Bytes) : Nat := leAt b 42 1 / 4 % 4
def dCont (b : Bytes) : Bool := bitOf (leAt b 42 1) 4
def dPaced (b : Bytes) : Bool := bitOf (leAt b 42 1) 5
def dIrq (b : Bytes) : Bool := bitOf (leAt b 42 1) 6
def dIdxHbm (b : Bytes) : Bool := bitOf (leAt b 43 1) 0
def dPace (b : Bytes) : Nat := leAt b 44 4

/-- Elements of the source and of the destination. -/
def srcElems (b : Bytes) : Nat := dLen b / dSrcW b
def dstElems (b : Bytes) : Nat := dLen b / dDstW b

/-- Lowest address, and one past the highest, that a side can address (R297 order 5). -/
def sideRange (base : Nat) (stride : Int) (elems width : Nat) : Int × Int :=
  let last : Int := (base : Int) + stride * ((elems : Int) - 1)
  (min (base : Int) last, max (base : Int) last + width)

/-- Whether an address range lies in one allocated reference region (R161). -/
def inRegion (d : Dev) (r : Int × Int) : Bool :=
  (List.range 16).any (fun k =>
    let b : Int := rf d .CMPR_REGION_BASE k CMPR_REGION_BASE.OFFSET
    let n : Int := rf d .CMPR_REGION_SIZE k CMPR_REGION_SIZE.BYTES
    decide (0 < n) && decide (b ≤ r.1) && decide (r.2 ≤ b + n))

/-- A side's range by R297: an indexed side is bounded by IDX_LIMIT. -/
def srcRange (b : Bytes) : Int × Int := sideRange (dSrc b) (dSrcStride b) (if dIdx b = 1 then dLimit b else srcElems b) (dSrcW b)
def dstRange (b : Bytes) : Int × Int := sideRange (dDst b) (dDstStride b) (if dIdx b = 2 then dLimit b else dstElems b) (dDstW b)
def idxRange (b : Bytes) : Int × Int := sideRange (leAt b 16 8) 4 (if dIdx b = 1 then srcElems b else dstElems b) 4

/-- The first failing check of a descriptor: 0, or its cause (R297). `last` is the CRC setting of the descriptor before, plus 1. -/
def descCheck (d : Dev) (b : Bytes) (state last : Nat) : Nat :=
  let idx := dIdx b
  let okSpace (hbm : Bool) (r : Int × Int) : Bool := if hbm then inRegion d r else decide (0 ≤ r.1) && decide (r.2 ≤ 2 ^ 64)
  if state ≠ 0 then 0x10
  else if leAt b 40 1 % 8 = 7 || leAt b 41 1 % 8 = 7 || 2 ≤ leAt b 40 1 / 16 || 2 ≤ leAt b 41 1 / 16 || bitOf (leAt b 40 1) 3 ||
      bitOf (leAt b 41 1) 3 || idx = 3 || dCrc b = 3 || 2 ≤ leAt b 43 1 || !zeroIn b 63 64 || (2 ≤ leAt b 62 1) ||
      (idx = 0 && (leAt b 16 8 ≠ 0 || leAt b 43 1 ≠ 0 || dLimit b ≠ 0)) || leAt b 16 8 % 4 ≠ 0 || (!dPaced b && dPace b ≠ 0) ||
      (dCont b && last ≠ dCrc b + 1) then 0x10
  else if dLen b = 0 || (dPaced b && dPace b = 0) || (idx ≠ 0 && dLimit b = 0) || dLen b % max (dSrcW b) (dDstW b) ≠ 0 then 0x10
  else if dPaced b && srcElems b < dPace b then 0x11
  else if !okSpace (dSrcHbm b) (srcRange b) || !okSpace (dDstHbm b) (dstRange b) || (idx ≠ 0 && dIdxHbm b && !inRegion d (idxRange b)) then 0x11
  else 0

/-! ### The stream (R298, R299) -/

/-- Entry `i` of the descriptor's index table. -/
def idxEntry (d : Dev) (x : Chan) (i : Nat) : Nat :=
  if dIdxHbm x.desc then leNat (Mem.readBytes d.hbm (leAt x.desc 16 8 + 4 * i) 4) else leAt x.idx (4 * i) 4

/-- Bytes `lo` to `hi - 1` of the stream. -/
def streamBytes (d : Dev) (x : Chan) (lo hi : Nat) : Bytes :=
  let b := x.desc
  if !dSrcHbm b then (fitBytes hi x.src).drop lo
  else
    (List.range' lo (hi - lo)).map (fun o =>
      let i := o / dSrcW b
      let k := if dIdx b = 1 then idxEntry d x i else i
      d.hbm.read ((dSrc b : Int) + k * dSrcStride b + (o % dSrcW b : Nat)).toNat)

/-- The first element of the indexed side whose entry is at or above IDX_LIMIT, as a stream offset (R299). -/
def idxFault (d : Dev) (x : Chan) : Option Nat :=
  let b := x.desc
  if dIdx b = 0 then none
  else
    let n := if dIdx b = 1 then srcElems b else dstElems b
    ((List.range n).find? (fun i => decide (dLimit b ≤ idxEntry d x i))).map (fun i => i * (if dIdx b = 1 then dSrcW b else dDstW b))

/-- CRC-64 as ECMA-182 (R302). -/
def crc64 (v : Nat) (b : Bytes) : Nat := b.foldl (crcByteM 64 0x42F0E1EBA9EA3693) v

/-- The running check value over more bytes, and its initial value and final exclusive-or. -/
def crcRun (kind v : Nat) (b : Bytes) : Nat :=
  if kind = 1 then b.foldl (crcByteR 0x82F63B78) v else if kind = 2 then crc64 v b else v
def crcInit (kind : Nat) : Nat := if kind = 1 then 0xFFFFFFFF else 0
def crcFinal (kind v : Nat) : Nat := if kind = 1 then v.xor 0xFFFFFFFF else if kind = 2 then v else 0

/-- The whole destination elements of the stream up to `hi` are written, those not yet written (R298). -/
def streamWrite (c hi : Nat) (d : Dev) : Dev :=
  let x := chan d c
  let b := x.desc
  let hi := hi / dDstW b * dDstW b
  if hi ≤ x.wrote then d
  else
    let bytes := streamBytes d x x.wrote hi
    let m0 := x.wrote / dDstW b
    let n := (hi - x.wrote) / dDstW b
    let d := (List.range n).foldl (fun d i =>
      let m := m0 + i
      let k := if dIdx b = 2 then idxEntry d x m else m
      let a := ((dDst b : Int) + k * dDstStride b).toNat
      let e := (bytes.drop (i * dDstW b)).take (dDstW b)
      if dDstHbm b then { d with hbm := d.hbm.writeBytes a e } else hostWrite a e d) d
    wn .DMA_CH_CRC c (crcRun (dCrc b) (rn d .DMA_CH_CRC c) bytes)
      (wn .DMA_CH_DONE_BYTES c hi (onChan c (fun x => { x with wrote := hi }) d))

/-! ### Credits (R300, R301) -/

/-- Groups of the descriptor in progress. -/
def groupsOf (b : Bytes) : Nat := if dPaced b then (srcElems b + dPace b - 1) / dPace b else 0

/-- Stream bytes that the credits of the descriptor in progress have paid for (R301). -/
def paidBytes (x : Chan) : Nat := if dPaced x.desc then min (dLen x.desc) (x.paid * dPace x.desc * dSrcW x.desc) else dLen x.desc

/-- Whether an index entry ends the descriptor among what has been paid for (R299). -/
def faultDue (d : Dev) (x : Chan) : Bool :=
  match idxFault d x with
  | some f => decide (f < paidBytes x)
  | none => false

/-- Stream bytes that can be written with what has been paid for: up to an index entry that ends the descriptor (R299, R301). -/
def writable (d : Dev) (x : Chan) : Nat :=
  match idxFault d x with
  | some f => min f (paidBytes x)
  | none => paidBytes x

/-- Credits present pay for groups of the descriptor in progress; it waits while one is missing (R301, R303). -/
def consume (c : Nat) (d : Dev) : Dev :=
  let x := chan d c
  if x.desc.isEmpty || !(chState d c == chACTIVE || chState d c == chWAIT) then d
  else
    let need := groupsOf x.desc
    let n := min (need - x.paid) (chCredits d c)
    let paid := x.paid + n
    let d := sf .DMA_CH_CREDITS c DMA_CH_CREDITS.COUNT (chCredits d c - n) (onChan c (fun x => { x with paid := paid }) d)
    let y := chan d c
    if paid < need && !faultDue d y then setCh c chWAIT (streamWrite c (writable d y) d)
    else setCh c chACTIVE d

/-- A credit is added, or dropped at a full counter (R300). -/
def addCredit (c : Nat) (d : Dev) : Dev :=
  if chState d c = chDISABLED then d
  else if chCredits d c = 65535 then occur Src.DMA_CREDIT_DROP c 0 0 (incSat .DMA_CH_CREDIT_DROP c d)
  else consume c (sf .DMA_CH_CREDITS c DMA_CH_CREDITS.COUNT (chCredits d c + 1) d)

/-- A DMA_PACE event is released (R300, R308). -/
def dmaPace (c : Nat) (d : Dev) : Dev :=
  let ignore (d : Dev) : Dev := occur Src.DMA_PACE_IGNORED c 0 0 (incSat .DMA_CH_PACE_IGNORED c d)
  if !domUp d dDMA && decide (c < 48) then onChan c (fun x => { x with held := min 65535 (x.held + 1) }) d
  else if 48 ≤ c || rf d .DMA_CH_CFG c DMA_CH_CFG.CREDIT_SRC ≠ 1 then ignore d
  else addCredit c d

/-- DMA_TIMER_CREDIT: PERIOD ns have passed on a timer-sourced channel (R300). -/
def dmaTimerCredit (c : Nat) (d : Dev) : Dev :=
  if domUp d dDMA && rf d .DMA_CH_CFG c DMA_CH_CFG.CREDIT_SRC == 2 then addCredit c d else d

/-! ### Completion (R295, R302, R303, R306) -/

/-- The write-back of bytes 48 to 63 of the slot at an address. -/
def writeBack (c addr check done state cause : Nat) (re : Bool) (d : Dev) : Dev :=
  let b := leBytes 8 check ++ leBytes 4 done ++ leBytes 1 state ++ leBytes 1 cause ++ leBytes 1 (b2n re) ++ [0#8]
  if rb d .DMA_CH_RING_BASE c DMA_CH_RING_BASE.SPACE then { d with hbm := d.hbm.writeBytes (addr + 48) b } else hostWrite (addr + 48) b d

/-- An IDLE channel whose TAIL is ahead of HEAD is ACTIVE: it fetches the descriptor at HEAD (R303). -/
def wake (c : Nat) (d : Dev) : Dev := if chState d c = chIDLE && chWork d c then setCh c chACTIVE d else d

/-- A descriptor has been written back: HEAD advances, chained channels gain a credit, the channel goes on (R303). -/
def descOver (c : Nat) (bad : Bool) (d : Dev) : Dev :=
  let x := chan d c
  let d := if x.reissue then d else wn .DMA_CH_HEAD c ((chHead d c + 1) % ringL (chSize d c)) d
  let d := onChan c (fun x => { x with
    desc := [], idx := [], src := [], wrote := 0, paid := 0, reissue := false, lastCrc := if bad then 0 else dCrc x.desc + 1 }) d
  let d := (List.range 48).foldl (fun d k =>
    if rf d .DMA_CH_CFG k DMA_CH_CFG.CREDIT_SRC = 3 && rf d .DMA_CH_CFG k DMA_CH_CFG.CHAIN_FROM = c then addCredit k d else d) d
  if chState d c = chPAUSING then
    let from_ := if chWork d c || !(chan d c).again.isEmpty then chACTIVE else chIDLE
    occur Src.DMA_PAUSED c (rn d .DMA_CH_CUR_DESC c) 0 (setCh c chPAUSED (onChan c (fun x => { x with from_ := from_ }) d))
  else setCh c (if chWork d c || !(chan d c).again.isEmpty then chACTIVE else chIDLE) d

/-- A descriptor ends BAD (R297, R306): write-back, a DMA_BAD record, the counter and the event. -/
def descBad (c addr cause : Nat) (d : Dev) : Dev :=
  let x := chan d c
  let body := leBytes 1 c ++ leBytes 1 cause ++ zeros 6 ++ leBytes 8 addr
  let check := if x.desc.isEmpty then 0 else crcFinal (dCrc x.desc) (rn d .DMA_CH_CRC c)
  let d := writeBack c addr check x.wrote 2 cause x.reissue d
  let d := stageOrWait kDMA_BAD body d
  descOver c true (occur Src.DMA_BAD c addr cause (incSat .DMA_CH_BAD c d))

/-- The address of the slot at HEAD. -/
def headAddr (d : Dev) (c : Nat) : Nat :=
  rf d .DMA_CH_RING_BASE c DMA_CH_RING_BASE.BASE * 64 + 64 * (chHead d c % max 1 (chSize d c))

/-- DMA_DESCRIPTOR_START: the descriptor at HEAD, or the next one to re-issue, is fetched and checked (R297, R303, R307). A fetch
from host memory answers `desc`; `idx` and `src` are what its index table and source read as in host memory, the source in stream
order. -/
def dmaDescriptorStart (c : Nat) (desc : Fetch) (idx src : Bytes) (d : Dev) : Dev :=
  let x := chan d c
  let re := x.again.head?
  let st := chState d c
  if !domUp d dDMA || !(st == chIDLE || st == chACTIVE) || !x.desc.isEmpty || (re.isNone && !chWork d c) then d
  else
    let addr := re.getD (headAddr d c)
    let d := wn .DMA_CH_CUR_DESC c addr (wn .DMA_CH_DONE_BYTES c 0 (setCh c chACTIVE d))
    let d := onChan c (fun x => { x with again := x.again.drop 1, addr := addr, reissue := re.isSome, wrote := 0, paid := 0 }) d
    let got := if rb d .DMA_CH_RING_BASE c DMA_CH_RING_BASE.SPACE then Fetch.ok (Mem.readBytes d.hbm addr 64) else desc
    match got with
    | .failed _ =>
      let d := stageOrWait kDMA_BAD (leBytes 1 c ++ leBytes 1 8 ++ zeros 6 ++ leBytes 8 addr) d
      occur Src.DMA_HALT c addr 8 (sf .DMA_CH_STATUS c DMA_CH_STATUS.HALT_CAUSE 8 (setCh c chHALTED
        (onChan c (fun x => { x with reissue := false }) d)))
    | .ok b =>
      let state := leAt b 60 1
      -- a slot to re-issue that is neither BAD without REISSUED nor READY is passed over (R307)
      if re.isSome && !(state == 0 || (state == 2 && !bitOf (leAt b 62 1) 0)) then
        let d := onChan c (fun x => { x with reissue := false }) d
        setCh c (if chWork d c || !(chan d c).again.isEmpty then chACTIVE else chIDLE) d
      else
        let last := (chan d c).lastCrc
        let v := if dCont b && last = dCrc b + 1 then rn d .DMA_CH_CRC c else crcInit (dCrc b)
        let d := wn .DMA_CH_CRC c v (onChan c (fun x => { x with desc := b, idx := idx, src := src, crc0 := v }) d)
        match descCheck d b (if re.isSome then 0 else state) last with
        | 0 => consume c d
        | k => descBad c addr k d

/-- DMA_DESCRIPTOR_DONE: the last write of the descriptor in progress is complete, or an index entry ended it (R295, R299, R302). -/
def dmaDescriptorDone (c : Nat) (d : Dev) : Dev :=
  let x := chan d c
  let st := chState d c
  if !domUp d dDMA || x.desc.isEmpty || !(st == chACTIVE || st == chPAUSING) || (x.paid < groupsOf x.desc && !faultDue d x) then d
  else match idxFault d x with
    | some f => descBad c x.addr 7 (streamWrite c f d)
    | none =>
      let d := streamWrite c (dLen x.desc) d
      let d := writeBack c x.addr (crcFinal (dCrc x.desc) (rn d .DMA_CH_CRC c)) (dLen x.desc) 1 0 x.reissue d
      descOver c false (if dIrq x.desc then occur Src.DMA_DONE c x.addr 0 d else d)

/-- DMA_READ_ERROR: a read of the descriptor in progress fails with a cause, after `got` stream bytes have been read (R306). In
WAIT_CREDIT only entries of the index table are read ahead (R299). -/
def dmaReadError (c cause got : Nat) (d : Dev) : Dev :=
  let x := chan d c
  let st := chState d c
  if !domUp d dDMA || x.desc.isEmpty || !(st == chACTIVE || st == chWAIT || st == chPAUSING) then d
  else descBad c x.addr cause (streamWrite c (min got (writable d x)) d)

/-! ### Control (R293, R303, R304) -/

/-- A write of DMA_CH_TAIL (R293). -/
def dmaTail (c count : Nat) (d : Dev) : Dev :=
  if 48 ≤ c then occur Src.DMA_CFG_LOCKED c 0 0 d
  else
    let n := chSize d c
    if chState d c ≠ chDISABLED && decide (count < ringL n) && notBehind n count (chan d c).tail &&
        decide (ringDiff n count (chHead d c) ≤ n) then
      wake c (onChan c (fun x => { x with tail := count }) d)
    else occur Src.DMA_TAIL_INVALID c 0 0 d

/-- Whether the ring's place is valid: in host memory, or in one allocated region (R293, R303). -/
def ringPlaceOk (d : Dev) (c : Nat) : Bool :=
  let b := rf d .DMA_CH_RING_BASE c DMA_CH_RING_BASE.BASE * 64
  !rb d .DMA_CH_RING_BASE c DMA_CH_RING_BASE.SPACE || inRegion d ((b : Int), (b : Int) + 64 * chSize d c)

/-- A write of DMA_CH_CTRL.ENABLE (R303). -/
def dmaEnable (c : Nat) (en : Bool) (d : Dev) : Dev :=
  let st := chState d c
  let locked (d : Dev) : Dev := occur Src.DMA_CFG_LOCKED c 0 0 d
  if 48 ≤ c then locked d
  else if en then
    (if st ≠ chDISABLED then d
     else if chSize d c = 0 || !ringPlaceOk d c then locked d
     else
       let d := sf .DMA_CH_CTRL c DMA_CH_CTRL.ENABLE 1 (setCh c chIDLE (wn .DMA_CH_HEAD c 0 (wn .DMA_CH_CREDITS c 0 (wn .DMA_CH_CRC c 0 d))))
       onChan c (fun x => { noChan with held := x.held }) d)
  else if st = chIDLE || st = chPAUSED || st = chHALTED then
    sf .DMA_CH_CTRL c DMA_CH_CTRL.ENABLE 0 (sf .DMA_CH_CTRL c DMA_CH_CTRL.PAUSE 0 (setCh c chDISABLED (wn .DMA_CH_CREDITS c 0
      (onChan c (fun x => { noChan with held := x.held }) d))))
  else locked d

/-- A write of DMA_CH_CTRL.PAUSE (R303, R304). -/
def dmaPauseWrite (c : Nat) (pause : Bool) (d : Dev) : Dev :=
  let st := chState d c
  if 48 ≤ c then occur Src.DMA_CFG_LOCKED c 0 0 d
  else
    let d := sf .DMA_CH_CTRL c DMA_CH_CTRL.PAUSE (b2n pause) d
    if pause then
      (if st = chACTIVE || st = chWAIT then setCh c chPAUSING (onChan c (fun x => { x with from_ := st }) d)
       else if st = chIDLE then occur Src.DMA_PAUSED c (rn d .DMA_CH_CUR_DESC c) 0 (setCh c chPAUSED (onChan c (fun x => { x with from_ := chIDLE }) d))
       else d)
    else if st = chPAUSING || st = chPAUSED then
      wake c (consume c (setCh c (chan d c).from_ d))
    else d

/-- DMA_PAUSED: every read issued before the pause has been written out, up to a stream offset (R303, R304). -/
def dmaPaused (c upTo : Nat) (d : Dev) : Dev :=
  if !domUp d dDMA || chState d c ≠ chPAUSING then d
  else
    let x := chan d c
    let b := x.desc
    let unit := max (dSrcW b) (dDstW b)
    let d := if b.isEmpty then d else streamWrite c (min upTo (writable d x) / unit * unit) d
    occur Src.DMA_PAUSED c (rn d .DMA_CH_CUR_DESC c) 0 (setCh c chPAUSED d)

/-- A write of DMA_CH_CTRL.RESTART (R303). -/
def dmaRestart (c : Nat) (d : Dev) : Dev :=
  if 48 ≤ c then occur Src.DMA_CFG_LOCKED c 0 0 d
  else if chState d c = chHALTED then wake c (setCh c chIDLE (sf .DMA_CH_STATUS c DMA_CH_STATUS.HALT_CAUSE 0 d)) else d

/-! ### Resets and replay (R307, R308) -/

/-- After a reset short of COLD every channel is restored, its descriptor in progress runs again from stream byte 0, and the held
DMA_PACE releases are added (R308). -/
def dmaRestore (d : Dev) : Dev :=
  (List.range 48).foldl (fun d c =>
    let x := chan d c
    let d := if x.desc.isEmpty then d else
      wn .DMA_CH_CRC c x.crc0 (wn .DMA_CH_DONE_BYTES c 0 (onChan c (fun x => { x with wrote := 0 }) d))
    let d := consume c d
    let n := x.held
    let d := onChan c (fun x => { x with held := 0 }) d
    if n = 0 || chState d c = chDISABLED then d
    else if rf d .DMA_CH_CFG c DMA_CH_CFG.CREDIT_SRC = 1 then Nat.repeat (addCredit c) n d
    else Nat.repeat (fun d => occur Src.DMA_PACE_IGNORED c 0 0 (incSat .DMA_CH_PACE_IGNORED c d)) n d) d

/-- Descriptors to re-issue: DMA_BAD records since the last REPLAY_DONE with a cause that R305 marks, in record order (R307). -/
def reissues (d : Dev) : List (Nat × Nat) :=
  let recs := (d.post.journal.reverse ++ d.post.backlog)
  let since := (recs.reverse.takeWhile (fun r => r.kind ≠ kREPLAY_DONE)).reverse
  (since.filter (fun r => r.kind = kDMA_BAD && decide (1 ≤ leAt r.body 1 1) && decide (leAt r.body 1 1 ≤ 6))).map
    (fun r => (leAt r.body 0 1, leAt r.body 8 8))

/-- The re-issues are given to their channels, before those go on from HEAD (R307). -/
def queueReissues (d : Dev) : Dev :=
  (reissues d).foldl (fun d r =>
    if chState d r.1 = chDISABLED || 48 ≤ r.1 then d
    else onChan r.1 (fun x => { x with again := x.again ++ [r.2] }) d) d

end Sys2Proof.Machine
end

