-- ==== Sys2Proof/Machine/Queues.lean ====
section
/-!
DEFINITION. Machine/Queues.lean: the level, spill, return, the drives of the restante, mirroring, the restante's commands, the
reduction ladder and the pacing of a transport (R262 to R290).
-/
namespace Sys2Proof.Machine

def que (f : Que → Que) (d : Dev) : Dev := { d with que := f d.que }

def setPort (p : Nat) (f : Fld) (x : Nat) (d : Dev) : Dev := sf .RP_PORT_STATUS p f x d

/-- Ports of a bifurcation code (R271). -/
def rpPorts (d : Dev) : Nat := [1, 2, 3, 4].getD (rf d .RP_CFG 0 RP_CFG.BIFURCATION) 0

/-- Port `p` exists and the root port runs (R271). -/
def rpRuns (d : Dev) (p : Nat) : Bool := domUp d dRP && rb d .RP_CFG 0 RP_CFG.ENABLED && decide (p < rpPorts d)

/-- Lanes of port `p` by bifurcation code (R271). -/
def rpLanes (d : Dev) (p : Nat) : Nat :=
  ([[8], [4, 4], [4, 2, 2], [2, 2, 2, 2]].getD (rf d .RP_CFG 0 RP_CFG.BIFURCATION) []).getD p 0

/-- The registers that show the drives' rates and the space they give. -/
def showDrives (d : Dev) : Dev :=
  showSpace ((List.range 4).foldl (fun d p => wn .RP_PORT_RATE p (if rpState d p = rpMember then driveRate d p else 0) d) d)

/-! ### Spill (R268, R269, R279) -/

/-- Whether a parcel may be spilled (R268): resident, not held, in the middle of its queue, of a capture reserved on the restante. -/
def spillable (d : Dev) (p : Parcel) : Bool :=
  p.resident && p.unit == 0 && p.spilling == 0 && !p.sent && !p.host && decide (p.num + 4 ≤ produced d p.ctx) && p.rest

/-- Bytes of a context resident in HBM. -/
def residentBytes (d : Dev) (c : Nat) : Nat :=
  ((d.strm.parcels.filter (fun p => p.ctx == c && p.resident)).map (·.size)).foldl (· + ·) 0

/-- The parcel to spill next: of the context with the most resident bytes, the lower on a tie, the highest-numbered (R268). -/
def spillChoice (d : Dev) : Option Parcel :=
  (d.strm.parcels.filter (spillable d)).foldl (fun a p => match a with
    | none => some p
    | some q =>
      let bp := residentBytes d p.ctx
      let bq := residentBytes d q.ctx
      if p.ctx = q.ctx then (if q.num < p.num then some p else some q)
      else if bq < bp || (bp = bq && p.ctx < q.ctx) then some p else some q) none

/-- The lowest run of `k` consecutive free blocks of a write unit (R273; log entry 107). -/
def freeRun (d : Dev) (u k : Nat) : Option Nat :=
  let used := (unitIndex d u).map (·.block)
  ((0 :: used.map (· + 1)).filter (fun b => (List.range k).all (fun i => !used.contains (b + i)) && decide ((b + k) * mib ≤ unitCap d u))).foldl
    (fun a b => match a with
      | none => some b
      | some x => some (min x b)) none

/-- Blocks that a parcel of `size` bytes occupies. -/
def blocksOf (size : Nat) : Nat := (size + mib - 1) / mib

/-- Whether a write unit has free blocks for a parcel. -/
def unitHasRoom (d : Dev) (u size : Nat) : Bool := (freeRun d u (blocksOf size)).isSome

/-- The next write sequence of a block. -/
def nextSeq (d : Dev) : Nat := (d.que.drives.flatMap (·.index)).foldl (fun m e => max m e.seq) 0 + 1

/-- The index entries that the write of a parcel to unit `u` makes: the next parcel of its context joins a block whose parcels it
continues, while the block has room; otherwise it takes free blocks (R273; log entry 107). -/
def placeBlocks (d : Dev) (u : Nat) (p : Parcel) : List IndexEntry :=
  let joins (e : IndexEntry) : Bool := e.ctx == p.ctx && e.res == p.res && e.size == p.size &&
    decide ((e.count + 1) * p.size ≤ mib) && (p.num == e.first + e.count || p.num + 1 == e.first)
  match (unitIndex d u).find? joins with
  | some e => [{ e with first := min e.first p.num, count := e.count + 1, seq := nextSeq d }]
  | none => match freeRun d u (blocksOf p.size) with
    | some b => (List.range (blocksOf p.size)).map (fun i => ⟨b + i, p.ctx, p.res, p.size, p.num, 1, nextSeq d + i⟩)
    | none => []

/-- Entries written into an index. -/
def putEntries (l : List IndexEntry) (x : Drive) : Drive :=
  { x with index := l ++ x.index.filter (fun e => l.all (fun y => y.block ≠ e.block)) }

/-- Spill writes start on write units that have none in flight, while the engine is active and outside the close of R67 (R268, R279). -/
def spillStart (d : Dev) : Dev :=
  if !rb d .QUE_SPILL_STATUS 0 QUE_SPILL_STATUS.ACTIVE || !domUp d dRP || d.post.closing then d
  else if !(writeUnits d).any (fun u => unitHasRoom d u mib) then
    (if d.que.full then d else occur0 Src.RESTANTE_FULL (que (fun q => { q with full := true }) d))
  else
    (writeUnits d).foldl (fun d u =>
      if d.strm.parcels.any (fun p => p.spilling == u + 1) then d
      else match spillChoice d with
        | none => d
        | some p => if unitHasRoom d u p.size then onParcel p.ctx p.num (fun p => { p with spilling := u + 1 }) d else d)
      (que (fun q => { q with full := false }) d)

/-- The parcel number through which a context's parcels have reached the restante or the host (R62). -/
def heldThrough (d : Dev) (c : Nat) : Nat := through d c (fun p => p.host || p.unit != 0)

/-- SPILL_WRITE_DONE: the data and index writes of the parcel that write unit `u` takes have completed with FUA, or failed (R269). -/
def spillWriteDone (u : Nat) (ok : Bool) (d : Dev) : Dev :=
  match d.strm.parcels.find? (fun p => p.spilling == u + 1) with
  | none => d
  | some p =>
    if !domUp d dRP || !(writeUnits d).contains u then d
    else if !ok then
      spillStart (onParcel p.ctx p.num (fun p => { p with spilling := 0 })
        ((unitPorts d u).foldl (fun d k => if rpState d k = rpMember then incSat .RP_PORT_WRITE_ERR k d else d) d))
    else
      let mask := (unitPorts d u).foldl (fun m k => if rpState d k = rpMember then putBit m k true else m) 0
      let l := placeBlocks d u p
      let d0 := (unitPorts d u).foldl (fun d k => onDrive k (fun x => if bitOf mask k then putEntries l x else { x with stale := true }) d) d
      let d1 := onParcel p.ctx p.num (fun p => { p with spilling := 0, unit := u + 1, held := mask, resident := false }) d0
      let body := pairBytes p.ctx (heldThrough d1 p.ctx)
      spillStart (showCtx p.ctx (showDrives (stageOrWait kSPILL body d1)))

/-! ### Return (R270) -/

/-- Bytes in the return area. -/
def returnUsed (d : Dev) : Nat :=
  ((d.strm.parcels.filter (fun p => p.back && !p.host)).map (·.size)).foldl (· + ·) 0

/-- A LOSS record for a run of parcels (R62, R275). -/
def lossBody (c cause lo hi : Nat) : Bytes :=
  leBytes 2 c ++ leBytes 1 cause ++ zeros 5 ++ leBytes 7 lo ++ [0#8] ++ leBytes 7 hi ++ [0#8]

/-- Parcels of a context that are lost, in rising order, as runs of consecutive numbers. -/
def lossRuns : List Nat → List (Nat × Nat)
  | [] => []
  | n :: t => match lossRuns t with
    | (a, b) :: r => if a = n + 1 then (n, b) :: r else (n, n) :: (a, b) :: r
    | [] => [(n, n)]

/-- Numbers in rising order. -/
def insertNat (n : Nat) : List Nat → List Nat
  | [] => [n]
  | x :: t => if n ≤ x then n :: x :: t else x :: insertNat n t
def sortNat (l : List Nat) : List Nat := l.foldr insertNat []

/-- Parcels are lost: LOSS records for each context and run, RESTANTE_LOSS, and delivery skips their numbers (R275). Where no parcel is
lost no flag is set (DEDUCED, log entry 82). -/
def loseParcels (test : Parcel → Bool) (cause : Nat) (d : Dev) : Dev :=
  let gone := d.strm.parcels.filter test
  let ctxs := sortNat (gone.foldl (fun l p => if l.contains p.ctx then l else p.ctx :: l) [])
  let d := strm (fun s => { s with parcels := s.parcels.filter (fun p => !test p) }) d
  let d := ctxs.foldl (fun d c =>
    (lossRuns (sortNat ((gone.filter (fun p => p.ctx == c)).map (·.num)))).foldl (fun d r => stageOrWait kLOSS (lossBody c cause r.1 r.2) d) d) d
  let d := ctxs.foldl (fun d c => showCtx c d) (freeBlocks d)
  if gone.isEmpty then d else occur Src.RESTANTE_LOSS gone.length cause 0 (showDrives d)

/-- RESTANTE_RETURN_DONE: the next parcel of a context that is read back arrives: whether some copy could be read, whether one passed its
CHECK, and where none did what was read, no bytes standing for what is stored (R270). -/
def restanteReturnDone (c : Nat) (readable good : Bool) (read_ : Bytes) (d : Dev) : Dev :=
  match lowest d c (fun p => !p.host) with
  | none => d
  | some first =>
    match lowest d c (fun p => heldBy d p && !p.resident && !p.back && !p.host) with
    | none => d
    | some p =>
      if !domUp d dRP || first.num + 64 ≤ p.num || 4294967296 < returnUsed d + p.size then d
      else if !readable then
        loseParcels (fun q => q.ctx == c && q.num == p.num) 3
          ((bitsOf p.held 4).foldl (fun d k => incSat .RP_PORT_READ_ERR k d) d)
      else
        let got := if good then [] else dataErr (if read_.isEmpty then p.data else read_)
        showCtx c (onParcel c p.num (fun p => { p with back := true, ret := got }) d)

/-! ### Drives (R271 to R280) -/

/-- Whether a pair holds both its drives. -/
def pairWhole (d : Dev) (u : Nat) : Bool := rpState d u == rpMember && rpState d (u + 1) == rpMember

/-- The pair of a port lacks blocks on one of its drives (R275, R277). -/
def pairStale (d : Dev) (u : Nat) : Bool := (unitPorts d u).any (fun p => (drive d p).stale)

/-- The per-context registers of every context with a parcel on port `p`. -/
def showHeld (p : Nat) (d : Dev) : Dev :=
  (sortNat (d.strm.parcels.foldl (fun l q => if bitOf q.held p && !l.contains q.ctx then q.ctx :: l else l) [])).foldl
    (fun d c => showCtx c d) d

/-- RP_REBUILD_LEFT shows what is left to copy in both pairs; what is left of pair `j` changes. -/
def setRebuild (j n : Nat) (d : Dev) : Dev :=
  let d := que (fun q => { q with rebuild := setAt q.rebuild j n }) d
  wn .RP_REBUILD_LEFT 0 (d.que.rebuild.foldl (· + ·) 0) d

/-- Restante reservations or the rate of R58 that the drives no longer bear: captures reserved on the restante end, the newest
reservation first (R275 step 5). -/
def breakReserves (d : Dev) : Dev :=
  let order := (d.post.reserve.filter (fun r => r.restante && !r.ended)).reverse
  (order.foldl (fun (a : Dev × List Nat) r =>
    let d := a.1
    let alive := d.post.reserve.filter (fun x => x.restante && !a.2.contains x.num)
    let res := (alive.map (·.bytes)).foldl (· + ·) 0
    let w := (alive.map (·.w)).foldl (· + ·) 0
    let bad := decide (restCap d < heldBytes d + restBound d + res) || (!sheetMode d && decide (restRate d * 1000000 * 15 < w * 16))
    if bad && alive.any (fun x => x.num == r.num) then
      match d.strm.captures.find? (fun c => c.res == r.num) with
      | some c => (occur Src.RESERVE_BROKEN r.num 0 0 (onCap c.lead (fun c => { c with stop := 2 }) d), r.num :: a.2)
      | none => a
    else a) (d, [])).1

/-- A drive has left MEMBER (R275). -/
def leaveMember (p cause : Nat) (d : Dev) : Dev :=
  let u := unitOf d p
  let other := (unitPorts d u).filter (fun k => k != p && rpState d k == rpMember)
  -- spill writes cut by it leave their parcels resident
  let d := strm (fun s => { s with parcels := s.parcels.map (fun q =>
    if q.spilling = u + 1 && other.isEmpty then { q with spilling := 0 } else q) }) d
  let d := setPort p RP_PORT_STATUS.REBUILDING 0 (onDrive p (fun x => { x with seen := 2 }) d)
  let d :=
    if other.isEmpty then
      loseParcels (fun q => bitOf q.held p && putBit q.held p false == 0 && !q.host && !q.back && !q.resident) cause d
    else
      let d := strm (fun s => { s with parcels := s.parcels.map (fun q =>
        if bitOf q.held p && other.any (bitOf q.held) then { q with held := putBit q.held p false } else q) }) d
      let d := setRebuild (p / 2) 0 (onDrive p (fun x => { x with stale := true }) d)
      let d := (unitPorts d u).foldl (fun d k => setPort k RP_PORT_STATUS.REBUILDING 0 (setPort k RP_PORT_STATUS.DEGRADED 1 d)) d
      occur Src.MIRROR_DEGRADED (p / 2) 0 0 d
  breakReserves (showDrives (showHeld p d))

/-- The header of an index that this device writes (R273). -/
def indexHead (pairs : Nat) : IndexHead := ⟨0x54534552, 1, unitId, pairs, crc32c (Config.indexBytes unitId pairs)⟩

/-- The copy of a degraded pair starts once both its drives are MEMBER (R277). -/
def startRebuild (u : Nat) (d : Dev) : Dev :=
  if !pairStale d u || (unitPorts d u).length < 2 then d
  else
    let d := (unitPorts d u).foldl (fun d k => setPort k RP_PORT_STATUS.DEGRADED 1 d) d
    if !pairWhole d u then d
    else setRebuild (u / 2) (unitHeld d u)
      ((unitPorts d u).foldl (fun d k => setPort k RP_PORT_STATUS.REBUILDING (b2n (drive d k).stale) d) d)

/-- A drive becomes MEMBER: its header's pairing counts where its partner is not MEMBER, its index is read, blocks of lost parcels are
freed, held parcels are counted, and the copy of a degraded pair starts (R273, R274, R275, R277). -/
def enterMember (p : Nat) (d : Dev) : Dev :=
  let j := p / 2
  let partner := if p % 2 = 0 then p + 1 else p - 1
  let pairs := ((drive d p).head.map (·.pairs)).getD (rf d .RP_PAIRING 0 RP_PAIRING.PAIRS)
  let d := if rpState d partner = rpMember then d
    else sf .RP_PAIRING 0 RP_PAIRING.PAIRS (putBit (rf d .RP_PAIRING 0 RP_PAIRING.PAIRS) j (bitOf pairs j)) d
  let d := setPort p RP_PORT_STATUS.CAUSE 0 (setPort p RP_PORT_STATUS.STATE rpMember (wn .RP_PORT_CAP p (drive d p).cap d))
  let d := freeBlocks (onDrive p (fun x => { x with seen := 1, head := some (x.head.getD (indexHead pairs)) }) d)
  occur Src.DRIVE_ADDED p 0 0 (showDrives (showHeld p (startRebuild (unitOf d p) d)))

/-- What port `p` holds is not the drive that stood there: parcels that the device had counted on that one alone are lost (R275), and
nothing of it is held (log entry 108). -/
def driveSwapped (p : Nat) (d : Dev) : Dev :=
  let d := if (drive d p).seen = 1 then
      loseParcels (fun q => bitOf q.held p && putBit q.held p false == 0 && !q.host && !q.back && !q.resident) 1 d else d
  let d := strm (fun s => { s with parcels := (s.parcels.map (fun q =>
      if bitOf q.held p then
        { q with held := putBit q.held p false, unit := if putBit q.held p false = 0 then 0 else q.unit } else q)).filter (fun q =>
      q.resident || q.back || q.held != 0) }) d
  showHeld p (onDrive p (fun x => { x with head := none, index := [], stale := false, seen := 2 }) d)

/-- A FOREIGN drive is adopted: a new index header is written and all blocks are free; in a pair it lacks what its partner holds
(R274, R277, R280). -/
def adopt (p : Nat) (d : Dev) : Dev :=
  let lone := (unitPorts d (unitOf d p)).all (fun k => k == p || rpState d k != rpMember)
  enterMember p (onDrive p (fun x => { x with
    head := some (indexHead (rf d .RP_PAIRING 0 RP_PAIRING.PAIRS)), index := [], stale := !lone }) (driveSwapped p d))

/-- DRIVE_PRESENT: RP_PRSNT_N has been low for 100 ms (R274). -/
def drivePresent (p : Nat) (d : Dev) : Dev :=
  if !rpRuns d p || rpState d p ≠ 0 then d
  else que (fun q => { q with pwr := putBit q.pwr p true })
    (setPort p RP_PORT_STATUS.CAUSE 0 (setPort p RP_PORT_STATUS.PRESENT 1 (setPort p RP_PORT_STATUS.STATE 1 d)))

/-- RP_PERST_N_HIGH: 100 ms after RP_PWR_EN rose, or after a DRIVE_SCAN pulse began (R274). -/
def rpPerstHigh (p : Nat) (d : Dev) : Dev :=
  if !rpRuns d p || rpState d p ≠ 1 || !bitOf d.que.pwr p then d
  else que (fun q => { q with perst := putBit q.perst p true, pulse := putBit q.pulse p false }) d

/-- DRIVE_LINK_UP: the link is up, at a trained rate code and a width within the port's lanes, and 100 ms have passed: the BARs are
assigned (R271, R272, R274, R278). -/
def driveLinkUp (p rate width : Nat) (d : Dev) : Dev :=
  if !rpRuns d p || rpState d p ≠ 1 || !bitOf d.que.perst p then d
  else
    let w := min width (rpLanes d p)
    onDrive p (fun x => { x with code := rate, width := w, bar := 0x1000000000 + p * 0x400000000 })
      (setPort p RP_PORT_STATUS.STATE 2 (setPort p RP_PORT_STATUS.RATE rate (setPort p RP_PORT_STATUS.WIDTH w d)))

/-- A port fails with a cause (R274). -/
def driveFail (p cause : Nat) (d : Dev) : Dev :=
  occur Src.DRIVE_FAILED p cause 0 (setPort p RP_PORT_STATUS.STATE 6 (setPort p RP_PORT_STATUS.CAUSE cause d))

/-- DRIVE_TRAIN_TIMEOUT: no link within 1 s (R274). -/
def driveTrainTimeout (p : Nat) (d : Dev) : Dev :=
  if rpRuns d p && rpState d p = 1 then driveFail p 3 d else d

/-- The namespace in use: the lowest-numbered active one with 4,096 B of data in a block and no metadata. A namespace is its number, those
two sizes and its bytes (R272). -/
def nsChoice (l : List (List Nat)) : Option (List Nat) :=
  (l.filter (fun x => x.getD 1 0 == 4096 && x.getD 2 0 == 0)).foldl (fun a x => match a with
    | none => some x
    | some y => if x.getD 0 0 < y.getD 0 0 then some x else a) none

/-- Parcel capacity of a namespace: whole blocks from byte 1,074,790,400, at most 16,777,216 (R273). -/
def nsCap (bytes : Nat) : Nat := mib * min 16777216 ((bytes - 1074790400) / mib)

/-- DRIVE_INIT_DONE: initialisation has found the active namespaces, the sizes of the BARs and the index: 0 blank or foreign, 1 this
device's, 2 this device's but unreadable, which makes the MEMBER leave (R272, R273, R274; log entries 108 and 109). -/
def driveInitDone (p : Nat) (nss : List (List Nat)) (bars : List Nat) (index : Nat) (d : Dev) : Dev :=
  let unsuitable (cause : Nat) : Dev :=
    setPort p RP_PORT_STATUS.STATE 3 (setPort p RP_PORT_STATUS.CAUSE cause (driveSwapped p d))
  if !rpRuns d p || rpState d p ≠ 2 then d
  else if bars.any (fun b => decide (2 ^ 34 < b)) then unsuitable 2
  else match nsChoice nss with
    | none => unsuitable 1
    | some x =>
      let d := onDrive p (fun y => { y with nsid := x.getD 0 0, cap := nsCap (x.getD 3 0) }) d
      if index = 0 then
        let d := driveSwapped p d
        occur Src.DRIVE_FOREIGN p 0 0 (wn .RP_PORT_CAP p (drive d p).cap (setPort p RP_PORT_STATUS.STATE 4 d))
      else if index = 1 then enterMember p d
      else leaveMember p 2 (driveFail p 7 (enterMember p d))

/-- DRIVE_CMD_TIMEOUT: a command timeout (0) or a controller fatal status (1), where one controller reset is tried first; or an
uncorrectable AER error (2), which is logged (R271, R274; log entry 110). -/
def driveCmdTimeout (p what : Nat) (restored : Bool) (d : Dev) : Dev :=
  if !rpRuns d p || rpState d p ≠ rpMember then d
  else if what = 2 then setPort p RP_PORT_STATUS.CAUSE 8 d
  else
    let d := if what = 1 then d else incSat .RP_PORT_TIMEOUTS p d
    if restored then d else leaveMember p 2 (driveFail p (if what = 1 then 5 else 4) d)

/-- DRIVE_REMOVED: RP_PRSNT_N high, or Data Link Layer Link Active falls while presence stays as given (R274). -/
def driveRemoved (p : Nat) (present : Bool) (d : Dev) : Dev :=
  if !rpRuns d p || rpState d p = 0 then d
  else
    let was := rpState d p == rpMember
    let d := setPort p RP_PORT_STATUS.STATE 0 (setPort p RP_PORT_STATUS.CAUSE 6 (setPort p RP_PORT_STATUS.PRESENT (b2n present)
      (setPort p RP_PORT_STATUS.RATE 0 (setPort p RP_PORT_STATUS.WIDTH 0 d))))
    let d := que (fun q => { q with pwr := putBit q.pwr p false, perst := putBit q.perst p false, pulse := putBit q.pulse p false }) d
    let d := onDrive p (fun x => { x with bar := 0 }) d
    let d := occur Src.DRIVE_REMOVED p 0 0 d
    if was then leaveMember p 1 d else d

/-- MIRROR_REBUILD_DONE: every held block of a degraded pair has been copied (R277). -/
def mirrorRebuildDone (u : Nat) (d : Dev) : Dev :=
  let lo := u / 2 * 2
  if !paired d lo || !pairWhole d lo || ! [lo, lo + 1].any (fun k => rb d .RP_PORT_STATUS k RP_PORT_STATUS.REBUILDING) then d
  else
    let l := unitIndex d lo
    let d := [lo, lo + 1].foldl (fun d k => onDrive k (fun x => { x with index := l, stale := false })
      (setPort k RP_PORT_STATUS.REBUILDING 0 (setPort k RP_PORT_STATUS.DEGRADED 0 d))) d
    let d := strm (fun s => { s with parcels := s.parcels.map (fun q =>
      if q.unit = lo + 1 then { q with held := putBit (putBit q.held lo true) (lo + 1) true } else q) }) d
    occur Src.MIRROR_REBUILT (lo / 2) 0 0 (setRebuild (lo / 2) 0 d)

/-- The copies of degraded pairs go on, with the bandwidth that spill and return leave (R277; log entry 106). -/
def rebuildStep (d : Dev) : Dev :=
  if d.que.rebuild.all (· == 0) then d
  else
    let d := [0, 1].foldl (fun d j => setRebuild j (d.que.rebuild.getD j 0 - Config.rebuilt (d.fresh + j)) d) d
    { d with fresh := d.fresh + 2 }

/-- States in which a port has settled (R280). -/
def rpSettled (d : Dev) (p : Nat) : Bool := [0, 3, 4, 5, 6].contains (rpState d p)

/-- Ports whose state satisfies a test, as a mask. -/
def portMask (_ : Dev) (t : Nat → Bool) : Nat := (List.range 4).foldl (fun m p => if t p then putBit m p true else m) 0

/-- DRIVE_SCAN (R280): ports are pulsed, foreign drives named are adopted; it completes by DRIVE_SCAN_SETTLED. -/
def driveScan (c : Cmd) (d : Dev) : Dev :=
  let mask := leAt c.entry 8 1 % 16
  let d := (List.range 4).foldl (fun d p =>
    if rpState d p = 3 || rpState d p = 6 then
      que (fun q => { q with perst := putBit q.perst p false, pulse := putBit q.pulse p true }) (setPort p RP_PORT_STATUS.STATE 1 d)
    else if bitOf mask p && rpState d p = 4 then adopt p d
    else d) d
  updCmd { c with data := [1] } d

/-- DRIVE_SCAN_SETTLED: every port has been settled for 100 ms, or 5 s have passed (R280). -/
def driveScanSettled (timeout : Bool) (d : Dev) : Dev :=
  if !(timeout || (List.range 4).all (rpSettled d)) || !domUp d dRP then d
  else match d.post.cmds.find? (fun c => c.op == 0x90 && c.started) with
    | none => d
    | some c =>
      completeOk c (leBytes 1 (portMask d (fun p => rb d .RP_PORT_STATUS p RP_PORT_STATUS.PRESENT)) ++
        leBytes 1 (portMask d (fun p => rpState d p == 5)) ++ leBytes 1 (portMask d (fun p => rpState d p == 4)) ++
        leBytes 1 (portMask d (fun p => rpState d p == 3 || rpState d p == 6))) d

/-- MIRROR_SET: the pairing is written into the index headers of the MEMBER drives (R276). -/
def mirrorSet (c : Cmd) (d : Dev) : Dev :=
  let m := leAt c.entry 8 1 % 4
  if d.strm.parcels.any (heldBy d) || sRes d ≠ 0 || (bitsOf m 2).any (fun j => !pairWhole d (2 * j)) then complete c stSTATE dRP [] d
  else
    let write (d : Dev) (p : Nat) : Dev :=
      if rpState d p = rpMember then onDrive p (fun x => { x with head := some (indexHead m), stale := false }) d else d
    completeOk c [] (showDrives (wn .RP_PAIRING 0 m ((List.range 4).foldl write d)))

/-! ### The restante's commands (R281, R282) -/

/-- Bytes written across buffers in list order. -/
def scatter : List (Nat × Nat) → Bytes → Dev → Dev
  | [], _, d => d
  | (a, n) :: t, b, d => scatter t (b.drop n) (hostWrite a (b.take n) d)

/-- RESTANTE_READ: of the parcels in its range the drives read back the first `readable`; `copies` tells, by number, what was read of
parcels whose copy fails CHECK, and every other is as it is stored (R281). -/
def restanteRead (readable : Nat) (copies : List (Nat × Bytes)) (c : Cmd) (d : Dev) : Dev :=
  let b := c.block
  let first := leAt b 0 7
  let count := leAt b 8 4
  let bufs := (List.range ((b.length - 16) / 16)).map (fun i => (leAt b (16 + 16 * i) 8, leAt b (24 + 16 * i) 4))
  let held (n : Nat) : Option Parcel := d.strm.parcels.find? (fun p => p.ctx == c.ctx && p.num == n && heldBy d p)
  let ps := (List.range count).map (fun i => held (first + i))
  if ps.any (·.isNone) then complete c stSTATE dRP [] d
  else
    let ps := ps.filterMap id
    if (bufs.map (·.2)).foldl (· + ·) 0 < (ps.map (·.size)).foldl (· + ·) 0 then complete c stBOUND 0 [] d
    else
      let out := ps.take readable
      let bytes := out.flatMap (fun p => fitBytes p.size (((copies.find? (fun x => x.1 == p.num)).map (·.2)).getD p.data))
      complete c (if readable < count then stINTEGRITY else stOK) 0
        (leBytes 4 out.length ++ zeros 4 ++ leBytes 8 bytes.length) (scatter bufs bytes d)

/-- RESTANTE_RELEASE: held parcels in the range are released, unless one is still to be returned to an open context; a parcel already in the
return area goes on to its buffer (R282). -/
def restanteRelease (c : Cmd) (d : Dev) : Dev :=
  let first := leAt c.entry 8 7
  let count := leAt c.entry 16 4
  let inRange (p : Parcel) : Bool := p.ctx == c.ctx && heldBy d p && decide (first ≤ p.num) && decide (p.num < first + count)
  let open_ := decide (ctxState d c.ctx ≠ 0)
  if open_ && d.strm.parcels.any (fun p => inRange p && !p.host && !p.back) then complete c stSTATE dRP [] d
  else
    let was := heldBytes d
    let out (p : Parcel) : Bool := inRange p && !(open_ && p.back && !p.host)
    let d := freeBlocks (strm (fun s => { s with parcels := (s.parcels.filter (fun p => !out p)).map (fun p =>
      if inRange p then { p with unit := 0, held := 0 } else p) }) d)
    completeOk c (leBytes 8 (was - heldBytes d)) (showCtx c.ctx (showDrives d))

/-! ### The level, the ladder and pacing (R266, R268, R285 to R288) -/

def que_level (d : Dev) : Nat := rf d .QUE_LEVEL 0 QUE_LEVEL.LEVEL

/-- The advance is released (R288). -/
def paceRelease (d : Dev) : Dev :=
  match d.que.withheld with
  | none => d
  | some (k, _) =>
    let d := sf .QUE_PACE_STATUS 0 QUE_PACE_STATUS.PAUSED 0 (que (fun q => { q with withheld := none }) d)
    axPaceGo d.esc.srcNum (occur Src.PACE_RESUME k 0 0 d)

/-- QUEUE_LEVEL_UPDATE: the level computation of every 1 µs (R266, R268, R288). -/
def queueLevelUpdate (d : Dev) : Dev :=
  if !domUp d dFABRIC then d
  else
    let v := levelOf d
    let d := sf .QUE_LEVEL 0 QUE_LEVEL.LEVEL v (showSpace d)
    let act := rb d .QUE_SPILL_STATUS 0 QUE_SPILL_STATUS.ACTIVE
    let d :=
      if !act && decide (rf d .QUE_SPILL_CFG 0 QUE_SPILL_CFG.ON ≤ v) then
        occur Src.SPILL_ON v 0 0 (sf .QUE_SPILL_STATUS 0 QUE_SPILL_STATUS.ACTIVE 1 (que (fun q => { q with full := false }) d))
      else if act && decide (v ≤ rf d .QUE_SPILL_CFG 0 QUE_SPILL_CFG.OFF) then
        occur Src.SPILL_OFF v 0 0 (sf .QUE_SPILL_STATUS 0 QUE_SPILL_STATUS.ACTIVE 0 d)
      else d
    let d := if v ≤ rf d .QUE_PACE_CFG 0 QUE_PACE_CFG.LOW then paceRelease d else d
    spillStart (if domUp d dRP then rebuildStep d else d)

/-- RD (R285). -/
def rungD (d : Dev) : Nat := rf d .QUE_LADDER_STATUS 0 QUE_LADDER_STATUS.RUNG

/-- Captures that have begun and not ended. -/
def runningCaps (d : Dev) : List Capture := d.strm.captures.filter (fun c => c.first != 0)

/-- RD changes (R286). -/
def setRung (line new : Nat) (forced : Bool) (d : Dev) : Dev :=
  let old := rungD d
  if old = new then d
  else
    let d := sf .QUE_LADDER_STATUS 0 QUE_LADDER_STATUS.RUNG new (sf .QUE_LADDER_STATUS 0 QUE_LADDER_STATUS.FORCED (b2n forced)
      (sf .QUE_LADDER_STATUS 0 QUE_LADDER_STATUS.UP_COUNT 0 (que (fun q => { q with lastStep := line + 1 }) d)))
    let d := if forced then occur Src.LADDER_FORCED old new 0 (incSat .QUE_FORCED 0 d)
      else if old < new then incSat .QUE_STEPS_DOWN 0 d else incSat .QUE_STEPS_UP 0 d
    occur Src.LADDER_STEP old new 0 d

/-- The guard of R286: free space below 64 lines of the running captures at their own rung. -/
def guardHolds (d : Dev) : Bool :=
  let need := ((runningCaps d).map (fun c => c.fs.getD (min (rungD d) c.floor) 0)).foldl (· + ·) 0
  decide (hFree d < 64 * need)

/-- The rung decided in the hand-over cycle of line `n`, in web mode (R286). -/
def ladder (n : Nat) (d : Dev) : Dev :=
  let maxf := maxFloor d
  let d := sf .QUE_LADDER_STATUS 0 QUE_LADDER_STATUS.MAXF maxf d
  let rdv := rungD d
  let lv := que_level d
  let up := if rdv = 0 then 0 else
    if lv ≤ rf d .QUE_LADDER_WM (rdv - 1) QUE_LADDER_WM.UP then
      min 65535 (rf d .QUE_LADDER_STATUS 0 QUE_LADDER_STATUS.UP_COUNT + 1) else 0
  let d := sf .QUE_LADDER_STATUS 0 QUE_LADDER_STATUS.UP_COUNT up d
  if maxf < rdv then setRung n maxf false d
  else if guardHolds d then setRung n maxf true d
  else if rdv < maxf && decide (rf d .QUE_LADDER_WM rdv QUE_LADDER_WM.DOWN ≤ lv) &&
      (d.que.lastStep == 0 || decide (rf d .QUE_LADDER_TIME 0 QUE_LADDER_TIME.STEP_LINES + d.que.lastStep ≤ n + 1)) then
    setRung n (rdv + 1) false d
  else if decide (0 < rdv) && decide (rf d .QUE_LADDER_TIME 0 QUE_LADDER_TIME.UP_LINES ≤ up) then setRung n (rdv - 1) false d
  else d

/-- In sheet mode RD is 0 (R288). -/
def ladderRest (n : Nat) (d : Dev) : Dev :=
  setRung n 0 false (sf .QUE_LADDER_STATUS 0 QUE_LADDER_STATUS.MAXF (maxFloor d) d)

/-- Pacing at the hand-over of line `k`, in sheet mode: the advance to the next line, at place `next`, is withheld (R288). -/
def paceHandover (k : Nat) (next : Int) (d : Dev) : Dev :=
  if d.que.withheld.isSome then d
  else if rf d .QUE_PACE_CFG 0 QUE_PACE_CFG.HIGH ≤ que_level d || guardHolds d then
    let d := sf .QUE_PACE_STATUS 0 QUE_PACE_STATUS.PAUSED 1 (incSat .QUE_PACE_STOPS 0
      (que (fun q => { q with withheld := some (k + 1, next) }) d))
    axPace d.esc.srcNum (axisReach d next) (occur Src.PACE_STOP k 0 0 d)
  else d

/-- Whether a release at position `p` is withheld by pacing: until the re-approach has begun (R336). -/
def paceHolds (d : Dev) (p : Int) : Bool :=
  let back := match (axis d d.esc.srcNum).pace with
    | some x => decide (x.phase < 4)
    | none => false
  match d.que.withheld with
  | some (_, q) => decide (q ≤ p)
  | none => back && (match (axis d d.esc.srcNum).pace with
    | some x => decide (x.x ≤ axisReach d p)
    | none => false)

/-- Whether the products of line number `n` at the floor rung find no room in HBM: the parcels that the contexts of its captures have open
or must open, or the bytes of that line and of those still in the stages, go beyond Htot, or those parcels go beyond the descriptor pool
(R265, R287; log entries 73 and 104). -/
def starved (n : Nat) (d : Dev) : Bool :=
  let caps := (runningCaps d).filter (fun c => covers c n)
  let lines := (d.esc.lines.filter (fun l => !l.complete)).length + 1
  let bytes := (caps.map (fun c => c.fs.getD c.floor 0 * lines)).foldl (· + ·) 0
  let pend (c : Nat) : Nat := ((findCtx d c).map (fun x => x.pend.length)).getD 0
  let ctxs := caps.flatMap (fun c => (List.range (setEntries c.set)).map (fun e => c.lead + e))
  let parcels := (ctxs.map (fun c => (pend c / max 1 (ctxSize d c - 64) + 1) * ctxSize d c)).foldl (· + ·) 0
  let descs := (ctxs.map (fun c => pend c / max 1 (ctxSize d c - 64) + 1)).foldl (· + ·) 0
  decide (hTot d < hbmUsed d + max parcels ((ctxs.map pend).foldl (· + ·) bytes)) || decide (4194304 < descUsed d + descs)

end Sys2Proof.Machine
end

