-- ==== Sys2Proof/Machine/Security.lean ====
section
/-!
DEFINITION. Machine/Security.lean: Franking: the option record, firmware slots and their verification, fuse requests, checkpoint
blocks, certificates and attestation (R377, R391 to R411).
-/
namespace Sys2Proof.Machine

def sec (f : Sec → Sec) (d : Dev) : Dev := { d with sec := f d.sec }

/-! ### The option record (R377, R401, R403) -/

/-- Whether a copy passes: MAGIC, FORMAT, CHECK, reserved fields and permitted values (R377). -/
def optionOk (b : Bytes) : Bool :=
  let x (off n : Nat) : Nat := leAt b off n
  b.length == 256 && x 0 4 == 0x4E54504F && x 4 2 == 1 && x 252 4 == crc32c (b.take 252) &&
  decide (x 8 1 < 8) && decide (x 9 1 < 16) && decide (1 ≤ x 10 1) && decide (x 10 1 ≤ 6) && decide (x 11 1 < 16) &&
  decide (1 ≤ x 12 2) && decide (x 12 2 ≤ 10000) && decide (106 ≤ x 14 1) && decide (x 14 1 ≤ 125) && decide (x 15 1 < 2) &&
  decide (1 ≤ x 16 2) && decide (x 16 2 ≤ 1000) && zeroIn b 18 252

def optSeq (b : Bytes) : Nat := leAt b 6 2
def optSlot (b : Bytes) : Nat := leAt b 15 1 % 2

/-- The copy that holds the highest SEQ among those that pass, and its position; SEQ is compared modulo 2^16 (R377). -/
def bestOption (d : Dev) : Option (Nat × Bytes) :=
  let a := if nvsFails d 3 0 then [] else d.sec.copies.getD 0 []
  let b := if nvsFails d 3 1 then [] else d.sec.copies.getD 1 []
  if optionOk a && optionOk b then
    (if (optSeq a + 65536 - optSeq b) % 65536 < 32768 then some (0, a) else some (1, b))
  else if optionOk a then some (0, a)
  else if optionOk b then some (1, b)
  else none

/-- The record Franking forms where neither copy passes: the reset values of SEC_OPTION_STAGE with SEQ 0 (R401). -/
def optionDefault : Bytes := (List.range 256).map (fun i => Win.dflt .optionStage i)

/-- A record with SEQ, ACTIVE_SLOT and CHECK in place. -/
def optionForm (b : Bytes) (seq slot : Nat) : Bytes :=
  let r := putBytes (putBytes (fitBytes 256 b) 6 (leBytes 2 seq)) 15 [BitVec.ofNat 8 ((leAt b 15 1) / 2 * 2 + slot % 2)]
  putBytes r 252 (leBytes 4 (crc32c (r.take 252)))

/-- The record FW_ACTIVATE writes (R401). -/
def optionActivate (d : Dev) (slot : Nat) : Bytes :=
  match bestOption d with
  | some (_, b) => optionForm b ((optSeq b + 1) % 65536) slot
  | none => optionForm optionDefault 0 slot

/-- The record an option commit writes: the staged bytes with SEQ, ACTIVE_SLOT and CHECK replaced (R403). -/
def optionCommitRec (d : Dev) : Bytes :=
  let b := winRead d .optionStage 0 256
  match bestOption d with
  | some (_, o) => optionForm b ((optSeq o + 1) % 65536) (optSlot o)
  | none => optionForm b 0 0

/-- A copy is written to the position that does not hold the highest SEQ (R401). -/
def optionStore (r : Bytes) (d : Dev) : Dev :=
  let at_ := match bestOption d with
    | some (i, _) => 1 - i
    | none => 0
  nvsFresh 3 at_ (sec (fun s => { s with copies := setAt s.copies at_ r }) d)

/-! ### Firmware slots (R394, R395) -/

def slotState (d : Dev) (s : Nat) : Nat := (d.sec.slots.getD s (0, [])).1
def slotImage (d : Dev) (s : Nat) : Bytes := (d.sec.slots.getD s (0, [])).2
def setSlot (s st : Nat) (img : Bytes) (d : Dev) : Dev := sec (fun x => { x with slots := setAt x.slots s (st, img) }) d

def fwSvn (img : Bytes) : Nat := leAt img 10 1
def fwBurn (img : Bytes) : Bool := bitOf (leAt img 7 1) 0
def fwRootKey (img : Bytes) : Bytes := (img.drop 256).take 1952

/-- Order 1 of R395: the offset of the first field that is not as R394 gives it. -/
def fwHeaderBad (img : Bytes) : Option Nat :=
  let x (off n : Nat) : Nat := leAt img off n
  let chk : List (Nat × Bool) :=
    [(0, x 0 4 == 0x4D495746), (4, x 4 2 == 1), (6, x 6 1 == 1), (7, x 7 1 < 2), (10, x 10 1 ≤ 64), (11, x 11 1 == 0),
     (16, x 16 4 == img.length && decide (x 16 4 ≤ 67108864)),
     (20, x 20 4 != 0 && x 20 4 % 64 == 0 && x 20 4 + 5568 == x 16 4), (88, zeroIn img 88 256), (2208, zeroIn img 2208 2240),
     (5549, zeroIn img 5549 5568)]
  (chk.find? (fun c => !c.2)).map (·.1)

/-- Orders 2 and 3 of R395. -/
def fwSigOk (img : Bytes) : Bool :=
  digest (fwRootKey img) == Config.rootDigest && Config.mldsaVerify (fwRootKey img) (img.take 2240) ((img.drop 2240).take 3309)

/-- Order 4 of R395. -/
def fwDigestOk (img : Bytes) : Bool := digest (img.drop 5568) == (img.drop 24).take 64

/-- The state a slot's image has after the checks of R395: 1 VALID, else that of the first failure. -/
def fwState (svn : Nat) (img : Bytes) : Nat :=
  if (fwHeaderBad img).isSome then 2
  else if !fwSigOk img then 3
  else if !fwDigestOk img then 4
  else if fwSvn img < svn then 5
  else 1

/-- The slot that runs, if one does. -/
def runSlot (d : Dev) : Option Nat :=
  if rb d .SEC_STATUS 0 SEC_STATUS.RUNNING then some (rf d .SEC_STATUS 0 SEC_STATUS.RUNNING_SLOT) else none

/-- Commands of the kind that excludes another, in flight (R399). -/
def fwInFlight (d : Dev) (except_ : Nat) : Bool :=
  d.post.cmds.any (fun c => (c.op == 0xA0 || c.op == 0xA1) && c.order != except_)

/-- The option commit in progress (R403). -/
def committing (d : Dev) : Bool := rb d .SEC_OPTION_STATUS 0 SEC_OPTION_STATUS.BUSY

/-- The SEC block's views of slots, option copies and work in progress (R412). -/
def showSec (d : Dev) : Dev :=
  if !domUp d dFRANK then d
  else
    let d := sf .SEC_STATUS 0 SEC_STATUS.SLOT0_STATE (slotState d 0) (sf .SEC_STATUS 0 SEC_STATUS.SLOT1_STATE (slotState d 1) d)
    let best := bestOption d
    let slot := match best with
      | some (_, b) => optSlot b
      | none => 0
    let seq := match best with
      | some (_, b) => optSeq b
      | none => 0
    let busy := d.sec.optPend.isSome || d.post.cmds.any (fun c => (c.op == 0xA0 || c.op == 0xA1) && c.started)
    let d := sf .SEC_STATUS 0 SEC_STATUS.BUSY (b2n busy) (sf .SEC_STATUS 0 SEC_STATUS.ACTIVE_SLOT slot d)
    let d := sf .SEC_OPTION_STATUS 0 SEC_OPTION_STATUS.SEQ seq d
    let d := [0, 1].foldl (fun d s =>
      let shown := slotState d s == 1 || slotState d s == 5
      let i := slotImage d s
      let v (x : Nat) : Nat := if shown then x else 0
      wn .SEC_SLOT_BUILD s (v (leAt i 12 4)) (sf .SEC_SLOT_VERSION s SEC_SLOT_VERSION.BURN (v (b2n (fwBurn i)))
        (sf .SEC_SLOT_VERSION s SEC_SLOT_VERSION.SVN (v (fwSvn i)) (sf .SEC_SLOT_VERSION s SEC_SLOT_VERSION.VERSION (v (leAt i 8 2)) d)))) d
    let num := match d.sec.ckpts with
      | b :: _ => leAt b 8 8
      | [] => 0
    wn .SEC_CKPT_NUM 0 num d

/-- FRANK is released: the views and UNIT_ID appear; an image found in STAGING is taken as EMPTY (R393, R400). -/
def frankReleased (d : Dev) : Dev :=
  let d := sec (fun s => { s with frankAt := d.now, slots := s.slots.map (fun x => if x.1 = 6 then (0, []) else x) }) d
  showSec (wn .SEC_UNIT_ID_LO 0 (leAt unitId 0 8) (wn .SEC_UNIT_ID_HI 0 (leAt unitId 8 8) d))

/-- Both slots verified, an uncorrectable line making one BAD_DIGEST (R431): their states, the slot to run, and the first one where the second runs instead (R396, R397). -/
def verifySlots (svn : Nat) (d : Dev) : Dev × Option Nat × Option (Nat × Nat) :=
  let d := [0, 1].foldl (fun d s =>
    if slotState d s = 0 then d else setSlot s (if nvsFails d 2 s then 4 else fwState svn (slotImage d s)) (slotImage d s) d) d
  let first := match bestOption d with
    | some (_, b) => optSlot b
    | none => 0
  let fails := ([0, 1].filter (fun s => slotState d s == 3)).length
  let d := if fails = 0 then d else addSat .SEC_SIG_FAILS 0 fails d
  if slotState d first = 1 then (d, some first, none)
  else if slotState d (1 - first) = 1 then (d, some (1 - first), some (first, slotState d first))
  else (d, none, none)

/-! ### FW_STAGE (R399, R405) -/

/-- The fuse requests of R405: the offset of the first field that is not as it must be. -/
def fuseReqBad (img : Bytes) : Option Nat :=
  let x (off n : Nat) : Nat := leAt img off n
  let chk : List (Nat × Bool) :=
    [(0, x 0 4 == 0x4D495746), (4, x 4 2 == 1), (6, x 6 1 == 2), (7, zeroIn img 7 16), (16, x 16 4 == 320 && img.length == 320),
     (20, x 20 4 == 0), (24, zeroIn img 24 256)] ++
    (List.range 51).map (fun s => (256 + s, decide (x (256 + s) 1 ≤ 5))) ++ [(307, zeroIn img 307 320)]
  (chk.find? (fun c => !c.2)).map (·.1)

/-- The REACH counts after a fuse request: each is raised to the request where it is below it (R405). -/
def raiseReach (img : Bytes) (m : List (Nat × Nat)) : List (Nat × Nat) :=
  (List.range 51).foldl (fun m s => if mget m s < leAt img (256 + s) 1 then mset s (leAt img (256 + s) 1) m else m) m

/-- The sources a fuse request raises. -/
def raisedBy (img : Bytes) (m : List (Nat × Nat)) : Nat :=
  ((List.range 51).filter (fun s => decide (mget m s < leAt img (256 + s) 1))).length

/-- Whether FW_STAGE is a fuse request that is carried out: it reaches order 2 of R399 and passes it. -/
def fuseRequest (d : Dev) (c : Cmd) : Bool :=
  leAt c.block 6 1 == 2 && crown d && !fwInFlight d c.order && !committing d && (fuseReqBad c.block).isNone

/-- The slot FW_STAGE writes: the one that does not run; in Crown mode the one ACTIVE_SLOT does not name (R399). -/
def stageSlot (d : Dev) : Nat :=
  match runSlot d with
  | some s => 1 - s
  | none => match bestOption d with
    | some (_, b) => 1 - optSlot b
    | none => 1

def pOff (off : Nat) : Nat := min 255 (0x40 + off)

/-- FW_STAGE: the image is checked and the target slot marked STAGING; its write ends with NVS_WRITE_DONE (R399). -/
def fwStage (f : Fuses) (c : Cmd) (d : Dev) : Dev :=
  if !domUp d dFRANK || fwInFlight d c.order || committing d || (leAt c.block 6 1 == 2 && !crown d) then complete c stSTATE dFRANK [] d
  else if leAt c.block 6 1 = 2 then
    match fuseReqBad c.block with
    | some off => complete c stPARAM (pOff off) [] d
    | none => completeOk c (leBytes 1 0xFF ++ zeros 7 ++ leBytes 8 (raisedBy c.block f.reach)) d
  else
    match fwHeaderBad c.block with
    | some off => complete c stPARAM (pOff off) [] d
    | none =>
      if !fwSigOk c.block then complete c stSIGNATURE 0 [] (incSat .SEC_SIG_FAILS 0 d)
      else if !fwDigestOk c.block then complete c stINTEGRITY 0 [] d
      else if fwSvn c.block < f.svn then complete c stPARAM 0x4A [] d
      else
        let s := stageSlot d
        showSec (setSlot s 6 [] (updCmd { c with data := [1, s] } d))

/-- The write of the staged image ends; `ok` says that its read-back agrees with BODY_DIGEST (R399). -/
def slotWritten (ok : Bool) (d : Dev) : Dev :=
  match d.post.cmds.find? (fun c => c.op == 0xA0 && c.started && !c.data.isEmpty) with
  | none => d
  | some c =>
    let s := c.data.getD 1 0
    if ok then showSec (completeOk c (leBytes 1 s) (nvsFresh 2 s (setSlot s 1 c.block d)))
    else showSec (complete c stINTEGRITY 0 [] (setSlot s 0 [] d))

/-! ### FW_ACTIVATE and the option commit (R401, R403, R404) -/

def fwActivate (c : Cmd) (d : Dev) : Dev :=
  let s := leAt c.entry 8 1 % 2
  if !domUp d dFRANK || slotState d s ≠ 1 || fwInFlight d c.order || committing d then complete c stSTATE dFRANK [] d
  else showSec (sec (fun x => { x with optPend := some (c.order + 1, optionActivate d s) }) (updCmd { c with data := [1] } d))

/-- OPTION_COMMIT: the staged record is formed and checked; its write ends with NVS_WRITE_DONE (R403, R404). -/
def optionCommit (d : Dev) : Dev :=
  if !domUp d dFRANK then d
  else if committing d || fwInFlight d d.post.fetches then occur Src.SEC_BUSY 0x01700100 1 0 d
  else
    let r := optionCommitRec d
    if !optionOk r then sf .SEC_OPTION_STATUS 0 SEC_OPTION_STATUS.RESULT 2 d
    else
      showSec (sf .SEC_OPTION_STATUS 0 SEC_OPTION_STATUS.BUSY 1 (sf .SEC_OPTION_STATUS 0 SEC_OPTION_STATUS.RESULT 0
        (sec (fun x => { x with optPend := some (0, r) }) d)))

/-- The write of an option record copy ends; `ok` says that its read-back agrees (R401, R403). -/
def optionWritten (ok : Bool) (d : Dev) : Dev :=
  match d.sec.optPend with
  | none => d
  | some (who, r) =>
    let d := sec (fun x => { x with optPend := none }) (if ok then optionStore r d else d)
    if who = 0 then
      showSec (sf .SEC_OPTION_STATUS 0 SEC_OPTION_STATUS.BUSY 0
        (sf .SEC_OPTION_STATUS 0 SEC_OPTION_STATUS.RESULT (if ok then 1 else 3) d))
    else
      match d.post.cmds.find? (fun c => c.order + 1 == who) with
      | none => showSec d
      | some c =>
        if !ok then showSec (complete c stINTEGRITY 0 [] d)
        else
          let fl := leAt c.entry 9 1
          let d := if bitOf fl 1 then { d with rst := { d.rst with starts := 0 } } else d
          showSec (completeOk c [] (sec (fun x => { x with restart := x.restart || bitOf fl 0 }) d))

/-! ### IDENTIFY and CERT_READ (R402, R408) -/

def identify (f : Fuses) (c : Cmd) (d : Dev) : Dev :=
  let ver (s : Nat) : Nat := if slotState d s = 1 then leAt (slotImage d s) 8 2 else 0
  let best := bestOption d
  let slot := match best with
    | some (_, b) => optSlot b
    | none => 0
  let seq := match best with
    | some (_, b) => optSeq b
    | none => 0
  let job := match activeImage d with
    | some i => if crown d then 0 else imgJob i
    | none => 0
  let run := match runSlot d with
    | some s => 1 + 2 * s
    | none => 0
  completeOk c (leBytes 2 (ver 0) ++ leBytes 2 (ver 1) ++ leBytes 1 (slotState d 0 + 16 * slotState d 1) ++
    leBytes 1 (run + 4 * slot + 8 * b2n (crown d)) ++ leBytes 1 f.svn ++ leBytes 1 seq ++ leBytes 8 job) d

/-- The first DER element of a string: the root certificate of the chain. -/
def derFirst (b : Bytes) : Bytes :=
  let l := leAt b 1 1
  let n := if l < 128 then 2 + l
    else (List.range (l - 128)).foldl (fun a k => a * 256 + leAt b (2 + k) 1) 0 + 2 + (l - 128)
  b.take n

/-- The identity certificate chain in the format of SPDM: length, root hash and certificates (R393, R410). -/
def spdmChain : Bytes :=
  leBytes 2 (68 + Config.certChain.length) ++ zeros 2 ++ digest (derFirst Config.certChain) ++ Config.certChain

/-- The item CERT_READ reads, or none where NVS no longer holds it. -/
def certItem (d : Dev) (kind num : Nat) : Option Bytes :=
  if kind = 0 then some spdmChain
  else if kind = 1 then some identityKey
  else d.sec.ckpts.find? (fun b => leAt b 8 8 == num)

def certRead (c : Cmd) (d : Dev) : Dev :=
  if !domUp d dFRANK then complete c stSTATE dFRANK [] d
  else match certItem d (leAt c.entry 8 1) (leAt c.entry 16 8) with
    | none => complete c stSTATE dFRANK [] d
    | some b =>
      if leAt c.entry 32 4 < b.length then complete c stBOUND 32 [] d
      else completeOk c (leBytes 4 b.length) (hostWrite (leAt c.entry 24 8) b d)

/-! ### Checkpoints (R64, R407) -/

/-- Franking starts to sign a block over the records staged so far (R407). -/
def ckptStart (d : Dev) : Dev :=
  if d.sec.signing != 0 || !domUp d dFRANK || !domUp d dPOST || d.post.seq ≤ d.sec.ckptSeq then d
  else sec (fun s => { s with signing := d.post.seq + 1 }) d

/-- CHECKPOINT_INTERVAL: while any context is open, a checkpoint starts at least once each second (R64). -/
def ckptInterval (d : Dev) : Dev := if d.strm.ctxs.isEmpty then d else ckptStart d

/-- The 64 B records from sequence number `a` to `b` that are held, in order. -/
def ledgerRange (d : Dev) (a b : Nat) : List LRec :=
  (d.post.journal.reverse ++ d.post.backlog).filter (fun r => decide (a ≤ r.seq) && decide (r.seq ≤ b))

/-- CHECKPOINT_SIGNED: the block is signed and kept, and its CHECKPOINT record is staged (R62, R407). -/
def checkpointSigned (d : Dev) : Dev :=
  if d.sec.signing = 0 || !domUp d dFRANK || !domUp d dPOST || !canStage kCHECKPOINT [] d then d
  else
    let last := d.sec.signing - 1
    let prev := d.sec.ckpts.headD []
    let num := leAt prev 8 8 + 1
    let b := leBytes 4 0x54504B43 ++ leBytes 2 1 ++ zeros 2 ++ leBytes 8 num ++ leBytes 7 (d.sec.ckptSeq + 1) ++ [0#8] ++
      leBytes 7 last ++ [0#8] ++ leBytes 8 d.now ++ (if prev.isEmpty then zeros 64 else digest prev) ++
      digest ((ledgerRange d (d.sec.ckptSeq + 1) last).flatMap lrecBytes) ++ unitId ++ zeros 8
    let block := b ++ fitBytes 3309 (Config.mldsaSign d.fresh b)
    let d := sec (fun s => { s with ckpts := (block :: s.ckpts).take 256, ckptSeq := last, signing := 0 }) (useFresh d)
    let d := stage kCHECKPOINT (leBytes 8 num ++ shake256 32 block) d
    showSec (wn .LEDG_CKPT_SEQ 0 d.post.seq d)

/-! ### Attestation (R409 to R411); the layouts are those of DMTF DSP0274 (log entry 19) -/

/-- Codes of SPDM messages. -/
def spdmErr (ver code data : Nat) : Bytes := [BitVec.ofNat 8 ver, 0x7F#8, BitVec.ofNat 8 code, BitVec.ofNat 8 data]
def spdmInvalid (ver : Nat) : Bytes := spdmErr ver 0x01 0
def spdmUnexpected (ver : Nat) : Bytes := spdmErr ver 0x04 0

/-- The combined SPDM prefix of a signing context, 100 bytes: the version string four times, then the context right-aligned. -/
def spdmPrefix (ver : Nat) (ctx : Bytes) : Bytes :=
  let v := [0x64#8, 0x6D#8, 0x74#8, 0x66#8, 0x2D#8, 0x73#8, 0x70#8, 0x64#8, 0x6D#8, 0x2D#8, 0x76#8, 0x31#8, 0x2E#8,
    BitVec.ofNat 8 (0x30 + ver % 16), 0x2E#8, 0x2A#8]
  v ++ v ++ v ++ v ++ zeros (36 - ctx.length) ++ ctx

/-- "responder-challenge_auth signing" and "responder-measurements signing". -/
def ctxResponder : Bytes := [0x72#8, 0x65#8, 0x73#8, 0x70#8, 0x6F#8, 0x6E#8, 0x64#8, 0x65#8, 0x72#8, 0x2D#8]
def ctxSigning : Bytes := [0x20#8, 0x73#8, 0x69#8, 0x67#8, 0x6E#8, 0x69#8, 0x6E#8, 0x67#8]
def ctxChallenge : Bytes :=
  ctxResponder ++ [0x63#8, 0x68#8, 0x61#8, 0x6C#8, 0x6C#8, 0x65#8, 0x6E#8, 0x67#8, 0x65#8, 0x5F#8, 0x61#8, 0x75#8, 0x74#8, 0x68#8] ++ ctxSigning
def ctxMeasure : Bytes :=
  ctxResponder ++ [0x6D#8, 0x65#8, 0x61#8, 0x73#8, 0x75#8, 0x72#8, 0x65#8, 0x6D#8, 0x65#8, 0x6E#8, 0x74#8, 0x73#8] ++ ctxSigning

/-- A signature over a transcript (R410). -/
def spdmSign (d : Dev) (ver : Nat) (ctx log_ : Bytes) : Bytes :=
  fitBytes 3309 (Config.mldsaSign d.fresh (spdmPrefix ver ctx ++ digest log_))

/-- The value of a measurement block, with its DMTF type, or none where it is absent (R411). -/
def measValue (f : Fuses) (d : Dev) (eff : Nat → Nat) (i : Nat) : Option (Nat × Bytes) :=
  let img := match runSlot d with
    | some s => slotImage d s
    | none => []
  if i = 4 then some (0x00, digest Config.frankingRom)
  else if i = 5 then some (0x03, winRead d .option 0 256)
  else if i = 6 then some (0x02, (List.range 51).map (fun s => BitVec.ofNat 8 (eff s)))
  else if crown d || img.isEmpty then none
  else if i = 1 then some (0x01, (img.drop 24).take 64)
  else if i = 2 then some (0x06, (img.drop 8).take 2 ++ (img.drop 12).take 4)
  else if i = 3 then some (0x07, leBytes 1 (fwSvn img) ++ leBytes 1 f.svn)
  else none

/-- A measurement block: index, DMTF specification, and the raw bit stream. -/
def measBlock (f : Fuses) (d : Dev) (eff : Nat → Nat) (i : Nat) : Bytes :=
  match measValue f d eff i with
  | some (t, v) => leBytes 1 i ++ leBytes 1 1 ++ leBytes 2 (v.length + 3) ++ leBytes 1 (t + 128) ++ leBytes 2 v.length ++ v
  | none => []

/-- All blocks that are present, and their number. -/
def measAll (f : Fuses) (d : Dev) (eff : Nat → Nat) : Bytes × Nat :=
  let bs := ((List.range 6).map (fun k => measBlock f d eff (k + 1))).filter (fun b => !b.isEmpty)
  (bs.flatMap id, bs.length)

/-- The answer to one SPDM message, and the device with its connection advanced. -/
def spdmAnswer (f : Fuses) (eff : Nat → Nat) (q : Bytes) (d : Dev) : Bytes × Dev :=
  let ver := leAt q 0 1
  let code := leAt q 1 1
  let p1 := leAt q 2 1
  let p2 := leAt q 3 1
  let head (c a b : Nat) : Bytes := [BitVec.ofNat 8 ver, BitVec.ofNat 8 c, BitVec.ofNat 8 a, BitVec.ofNat 8 b]
  let nonce := fitBytes 32 (Config.spdmNonce d.fresh)
  let ext13 (off : Nat) : Bytes := if ver = 0x13 then fitBytes 8 ((q.drop off).take 8) else []
  let conn (n : Nat) (r : Bytes) : Bytes × Dev :=
    (r, sec (fun s => { s with spdmStep := max s.spdmStep n, spdmLog := s.spdmLog ++ q ++ r }) d)
  let chal (r : Bytes) : Bytes × Dev := (r, sec (fun s => { s with chalLog := s.chalLog ++ q ++ r }) d)
  if code = 0x84 then
    let r := [0x10#8, 0x04#8, 0#8, 0#8, 0#8, 2#8] ++ leBytes 2 0x1200 ++ leBytes 2 0x1300
    (r, sec (fun s => { s with spdmVer := 0, spdmStep := 1, spdmLog := q ++ r, chalLog := [], measLog := [], large := [], chunk := 0 }) d)
  else if !(code == 0xE1 || code == 0xE3 || code == 0x81 || code == 0x82 || code == 0x83 || code == 0xE0 || code == 0x86) then
    (spdmErr (if d.sec.spdmVer = 0 then ver else d.sec.spdmVer) 0x07 code, d)
  else if d.sec.spdmStep = 0 then (spdmUnexpected ver, d)
  else if ver ≠ 0x12 ∧ ver ≠ 0x13 ∨ (d.sec.spdmVer ≠ 0 ∧ ver ≠ d.sec.spdmVer) then (spdmErr 0x12 0x41 0, d)
  else if code = 0xE1 then
    (if d.sec.spdmStep ≠ 1 then (spdmUnexpected ver, d)
     else
       let r := head 0x61 0 0 ++ [0#8, 18#8, 0#8, 0#8] ++ leBytes 4 (2 + 4 + 16 + 0x20000) ++ leBytes 4 4096 ++ leBytes 4 16384
       let a := conn 2 r
       (a.1, sec (fun s => { s with spdmVer := ver, spdmDts := leAt q 12 4 }) a.2))
  else if code = 0xE3 then
    (if d.sec.spdmStep ≠ 2 then (spdmUnexpected ver, d)
     else
       let na := leAt q 28 1
       let nh := leAt q 29 1
       let ext (k n : Nat) : List Nat := (List.range n).map (fun i => leAt q (32 + 4 * k + 4 * i) 4)
       if !(ext 0 na).contains 0x00010003 || !(ext na nh).contains 0x00020003 then (spdmInvalid ver, d)
       else
         conn 3 (head 0x63 0 0 ++ leBytes 2 44 ++ [1#8, 0#8] ++ leBytes 4 1 ++ zeros 8 ++ zeros 12 ++ [1#8, 1#8, 0#8, 0#8] ++
           leBytes 4 0x00010003 ++ leBytes 4 0x00020003))
  else if d.sec.spdmStep < 3 then (spdmUnexpected ver, d)
  else if code = 0x81 then chal (head 0x01 (if ver = 0x13 then 1 else 0) 1 ++ digest spdmChain)
  else if code = 0x82 then
    let off := leAt q 4 2
    let n := leAt q 6 2
    let len := spdmChain.length
    (if p1 % 16 ≠ 0 ∨ len ≤ off then (spdmInvalid ver, d)
     else
       let part := (spdmChain.drop off).take n
       chal (head 0x02 0 0 ++ leBytes 2 part.length ++ leBytes 2 (len - off - part.length) ++ part))
  else if code = 0x83 then
    (if p1 % 16 ≠ 0 then (spdmInvalid ver, d)
     else
       let sums := if p2 = 0 then [] else digest (measAll f d eff).1
       let r := head 0x03 0 1 ++ digest spdmChain ++ nonce ++ sums ++ leBytes 2 0 ++ ext13 36
       let s := spdmSign d ver ctxChallenge (d.sec.spdmLog ++ d.sec.chalLog ++ q ++ r)
       (r ++ s, sec (fun s => { s with chalLog := [] }) (useFresh d)))
  else if code = 0xE0 then
    let sig := bitOf p1 0
    let all := measAll f d eff
    let one := measBlock f d eff p2
    (if p2 ≠ 0 && p2 ≠ 0xFF && one.isEmpty then (spdmInvalid ver, d)
     else
       let rec_ := if p2 = 0 then [] else if p2 = 0xFF then all.1 else one
       let cnt := if p2 = 0 then 0 else if p2 = 0xFF then all.2 else 1
       let r := head 0x60 (if p2 = 0 then all.2 else 0) 0 ++ leBytes 1 cnt ++ leBytes 3 rec_.length ++ rec_ ++ nonce ++ leBytes 2 0 ++
         ext13 (if sig then 37 else 4)
       if sig then
         let s := spdmSign d ver ctxMeasure (d.sec.spdmLog ++ d.sec.measLog ++ q ++ r)
         (r ++ s, sec (fun s => { s with measLog := [] }) (useFresh d))
       else (r, sec (fun s => { s with measLog := s.measLog ++ q ++ r }) (useFresh d)))
  else
    let seq := leAt q 4 2
    (if d.sec.large.isEmpty || p2 ≠ d.sec.handle % 256 || seq ≠ d.sec.chunk then (spdmInvalid ver, d)
     else
       let room := min 4096 d.sec.spdmDts - (if seq = 0 then 16 else 12)
       let part := d.sec.large.take room
       let rest_ := d.sec.large.drop room
       (head 0x06 (b2n rest_.isEmpty) p2 ++ leBytes 2 seq ++ zeros 2 ++ leBytes 4 part.length ++
          (if seq = 0 then leBytes 4 d.sec.large.length else []) ++ part,
        sec (fun s => { s with large := rest_, chunk := s.chunk + 1 }) d))

/-- A response beyond the requester's transfer size is fetched by chunks (R409). -/
def spdmFit (r : Bytes × Dev) : Bytes × Dev :=
  let s := r.2.sec
  let dts := if s.spdmDts = 0 then 4096 else min 4096 s.spdmDts
  if r.1.length ≤ dts || leAt r.1 1 1 == 0x06 then r
  else (spdmErr (leAt r.1 0 1) 0x0F 0 ++ leBytes 1 (s.handle + 1),
    sec (fun x => { x with large := r.1, chunk := 0, handle := (s.handle + 1) % 256 }) r.2)

/-- A DOE data object: vendor 0x0001, type, length in words, and content. -/
def doeObject (type : Nat) (body : Bytes) : Bytes :=
  let n := (body.length + 3) / 4
  leBytes 2 1 ++ leBytes 1 type ++ [0#8] ++ leBytes 4 (n + 2) ++ fitBytes (4 * n) body

/-- SPDM_REQUEST: a DOE request object is answered by Franking (R409). -/
def spdmRequest (f : Fuses) (eff : Nat → Nat) (q : Bytes) (d : Dev) : Dev :=
  if !domUp d dFRANK || !(domUp d dEP || crown d) then d
  else
    let d := incSat .SEC_SPDM_REQUESTS 0 d
    let body := (q.drop 8).take (4 * (leAt q 4 4 % 2 ^ 18) - 8)
    if leAt q 0 2 = 1 && leAt q 2 1 = 0 then
      let i := leAt body 0 1
      emit (.sent "DOE" 0 (doeObject 0 (leBytes 2 1 ++ leBytes 1 (min i 1) ++ leBytes 1 (if i = 0 then 1 else 0)))) d
    else
      let r := if leAt q 0 2 = 1 && leAt q 2 1 = 1 then spdmFit (spdmAnswer f eff body d)
        else (spdmErr 0x12 0x07 (leAt body 1 1), d)
      let d := if leAt r.1 1 1 = 0x7F then incSat .SEC_SPDM_ERRORS 0 r.2 else r.2
      emit (.sent "DOE" 1 (doeObject 1 r.1)) d

end Sys2Proof.Machine
end

