-- ==== Sys2Proof/Machine/Reset.lean ====
section
/-!
DEFINITION. Machine/Reset.lean: reset sources, reaches and sets, what each domain loses, the Winder's release, starts, Crown mode,
POWER_FAIL and the replay (R67 to R69, R363 to R386, R430).
-/
namespace Sys2Proof.Machine

def rst (f : Rst → Rst) (d : Dev) : Dev := { d with rst := f d.rst }

/-! ### Sources, reaches and sets (R366, R368, R369) -/

/-- Default reach and own domain of a source; SOFTWARE's reach and domain are those of its request. -/
def srcDefault (s : Nat) : Nat × Option Nat :=
  if s = 0 then (5, none)
  else if s ≤ 24 then (if s ≤ 2 then 5 else if s = 3 then 4 else 1, some (s - 1))
  else match s with
    | 26 | 27 | 36 => (4, some dEP)
    | 28 => (3, none)
    | 29 => (1, some dPOST)
    | 30 => (1, some dESC)
    | 31 => (1, some dREGUL)
    | 32 => (1, some dREMON)
    | 33 | 43 | 45 => (4, some dFRANK)
    | 34 => (1, none)
    | 38 | 39 | 40 | 41 => (2, some (dDIG (s - 38)))
    | 44 => (3, some dESC)
    | 46 => (5, some dAON)
    | 47 => (4, some dPOST)
    | 48 => (3, some dFABRIC)
    | _ => (4, none)

/-- Sources that stay asserted only until every domain of their set is isolated. -/
def srcPulse (s : Nat) : Bool := (decide (28 ≤ s) && decide (s ≤ 34)) || (decide (43 ≤ s) && decide (s ≤ 50))

/-- A set of domains as bits. -/
def domMask (l : List Nat) : Nat := l.foldl (fun m n => putBit m n true) 0

def pathDoms : List Nat := [dFABRIC, dPIPE 0, dPIPE 1, dCOMPARE, dDMA, dRP] ++ (List.range 8).map (· + 16)

/-- The set of a reset of a reach from domain `dom` (R366). -/
def reachSet (reach : Nat) (dom : Option Nat) : Nat :=
  let own := match dom with
    | some n => [n]
    | none => []
  if reach ≤ 1 then domMask own
  else if reach = 2 then
    match dom with
    | some n => if 16 ≤ n then domMask [dANA ((n - 16) / 2), dDIG ((n - 16) / 2)] else domMask (pathDoms ++ own)
    | none => domMask pathDoms
  else if reach = 3 then domMask (pathDoms ++ own)
  else if reach = 4 then domMask ((List.range 22).map (· + 2))
  else domMask (List.range 24)

/-- Effective reach of a source by the reset table (R369); `req` is SOFTWARE's requested reach. -/
def effReach (d : Dev) (s req : Nat) : Nat := max (if s = 34 then req else (srcDefault s).1) (mget d.rst.table s)

/-! ### What a domain loses (R361, R364 to R367, R387, R430) -/

/-- The BAR0 block a domain's registers lie in; the FE dies' DIG blocks count from 9 (R21). -/
def domBlocks (n : Nat) : List Nat :=
  if n = dFRANK then [23] else if n = dFABRIC then [2, 15, 17, 22, 25] else if n = dPOST then [6] else if n = dREGUL then [19]
  else if n = dREMON then [20] else if n = dDMA then [16] else if n = 8 ∨ n = 9 then [13] else if n = dCOMPARE then [14] else if n = dRP then [18]
  else if n = 14 ∨ n = 15 then [24] else if n < 16 then [] else if n % 2 = 1 then [9] else [21]

/-- Registers that keep their contents through a reset of their domain short of COLD, or that its release or the replay rebuilds: the
spec names them or the work whose promise needs them (R68, R70, R260, R308, R341, R361, R430; log entry 21). -/
def domKeeps (n : Nat) : List Reg :=
  if n = dFABRIC then
    [.EVT_STATUS, .EVT_ENABLE, .EVT_WRAPPED, .EVT_LOG_BASE, .EVT_LOG_CFG, .EVT_LOG_WRITTEN, .EVT_LOG_READ, .EVT_PULSE, .EVT_ROUTE,
     .EVT_COUNT, .PROD_CAPTURES, .PROD_CTX_STATUS, .PROD_CTX_PARCEL, .PROD_CTX_PRODUCED, .PROD_CTX_LINE, .QUE_HBM_CAP, .QUE_HBM_USED,
     .QUE_HBM_RESERVED, .QUE_DESC_USED, .QUE_LADDER_STATUS, .QUE_CTX_HBM, .QUE_CTX_DRIVE, .QUE_CTX_HELD]
  else if n = dPOST then [.LEDG_STATUS, .LEDG_NVS_SEQ, .LEDG_CKPT_SEQ, .LEDG_REPLAYS, .LEDG_DURABLE]
  else if n = dREGUL then [.CAL_STATUS, .CAL_RUN_NUM, .CAL_SEG_STATUS, .CAL_TEMP_REF, .CAL_MARK_OPEN]
  else if n = dREMON then [.AX_CTRL, .AX_STATUS, .AX_POS, .AX_POS_FRAC, .AX_VEL, .AX_REMAIN]
  else if n = dCOMPARE then [.CMPR_REGION_BASE, .CMPR_REGION_SIZE]
  else if n = dDMA then
    [.DMA_CH_RING_BASE, .DMA_CH_RING_SIZE, .DMA_CH_CFG, .DMA_CH_TIMER, .DMA_CH_CTRL, .DMA_CH_HEAD, .DMA_CH_STATUS, .DMA_CH_CREDITS,
     .DMA_CH_DONE_BYTES, .DMA_CH_CRC, .DMA_CH_CUR_DESC]
  else if 16 ≤ n ∧ n % 2 = 0 then
    [.AUX_CHAIN_CFG, .AUX_CHAIN_OSR, .AUX_GUARD, .AUX_BRIDGE, .AUX_RATIO_CFG, .AUX_RATIO_SCALE, .AUX_RATIO_OFFSET, .AUX_RATIO_TIMEOUT,
     .AUX_RATIO_STATE, .AUX_RATIO_FAULT]
  else []

/-- The address of instance `i` of a register. -/
def regAddr (r : Reg) (i : Nat) : Nat := r.info.base + (i / max 1 r.info.n2) * r.info.stride1 + (i % max 1 r.info.n2) * r.info.stride2

/-- The domain an address of BAR0 belongs to (R21). -/
def addrDom (a : Nat) : Nat :=
  let b := a / 2 ^ 20
  let half := a / 2 ^ 19 % 2
  if b ≤ 1 then dAON
  else if b = 3 ∨ b = 5 then dEP
  else if b = 4 ∨ b = 6 then dPOST
  else if b = 7 ∨ b = 8 then dESC
  else if 9 ≤ b ∧ b ≤ 12 then dDIG (b - 9)
  else if b = 13 then dPIPE half
  else if b = 14 then dCOMPARE
  else if b = 16 then dDMA
  else if b = 18 then dRP
  else if b = 19 then dREGUL
  else if b = 20 then dREMON
  else if b = 21 then dANA half
  else if b = 23 then dFRANK
  else if b = 24 then dMEM half
  else dFABRIC

/-- The registers of domain `n` that a reset of it returns to their reset values. -/
def domRegs (n : Nat) : List Reg := ((domBlocks n).flatMap blockRegs).filter (fun r => !(domKeeps n).contains r)

/-- Whether a key of the register map is an instance that a reset of domain `n` clears. -/
def domClears (n k : Nat) : Bool :=
  match (domRegs n).find? (fun r => r.ctorIdx == k % 1024) with
  | some r => addrDom (regAddr r (k / 1024)) == n
  | none => false

/-- Whether a key of the register map is an instance of a register of domain `n`, kept or not. -/
def keyIn (n k : Nat) : Bool :=
  match ((List.range 26).flatMap blockRegs).find? (fun r => r.ctorIdx == k % 1024) with
  | some r => addrDom (regAddr r (k / 1024)) == n
  | none => false

/-- The registers of a domain return to their reset values; every held word of its 64-bit registers is discarded, also where the
register keeps its contents (R4, R9). -/
def clearRegs (n : Nat) (d : Dev) : Dev :=
  { d with
    regs := d.regs.filter (fun x => !domClears n x.1)
    inforce := d.inforce.filter (fun x => !domClears n x.1)
    hiLatch := d.hiLatch.filter (fun x => !keyIn n x.1)
    loHeld := d.loHeld.filter (fun x => !keyIn n x.1) }

/-- Motion commands that a reset cuts are marked; the replay completes them INTERRUPTED (R68, R341). -/
def cutCmds (ops : List Nat) (axes : Nat → Bool) (d : Dev) : Dev :=
  { d with post := { d.post with cmds := d.post.cmds.map (fun c =>
      if ops.contains c.op && c.started && axes (leAt c.entry 8 1) then { c with data := [cutMark] } else c) } }

/-- The axes of a die lose power: DISABLED, reference NONE, their commands cut; the step generator, in FEn_DIG, keeps the position through
a reset of FEn_ANA alone (R341). -/
def axesDie (keep : Bool) (n : Nat) (d : Dev) : Dev :=
  [2 * n, 2 * n + 1].foldl (fun d a =>
    let p := if keep then (axis d a).pos else 0
    showAxis a (sf .AXH_STATUS a AXH_STATUS.DRIVE 0 (sf .AXH_STATUS a AXH_STATUS.BRAKE 0 (wn .AX_STATUS a 0 (gearOff a (onAxis a (fun _ => { restAxis with
      pos := p, cur := ⟨p, 0, []⟩, next := ⟨p, 0, []⟩, comp := ⟨p, 0, []⟩ }) d))))))
    (cutCmds [0x70, 0x71, 0x72, 0x73] (fun a => a / 2 == n) d)

/-- The link of die `n` retrains after a flit's eighth failed resend: its axes miss a set-point, and a replay that comes while their moves
are still in flight completes them INTERRUPTED (R14, R341). -/
def flitRetrain (n : Nat) (ok : Bool) (d : Dev) : Dev :=
  let e := flitResend n ok d
  if domUp d (dDIG n) && rb d .FE_STATUS n FE_STATUS.LINK_UP && decide (8 ≤ flitFails n ok d) then
    [2 * n, 2 * n + 1].foldl (fun d a => axCut false a d) (cutCmds [0x70, 0x71, 0x73] (fun a => a / 2 == n) e)
  else e

/-- Lines whose samples are in the pipeline are lost: they count as skipped (R71, R153). -/
def dropOpenLines (d : Dev) : Dev :=
  let n := (d.esc.lines.filter (fun l => !l.complete)).length
  freeUnused (esc (fun e => { e with lines := e.lines.filter (·.complete), skippedLines := e.skippedLines + n })
    { d with fe := { d.fe with samples := [] } })

/-- The open page ends without a mark, and trigger units and sequencers start afresh (log entry 22). -/
def pagesLost (d : Dev) : Dev :=
  let done := match d.pages.cur with
    | some p => [{ p with last := lastLine d + 1 }]
    | none => []
  let p : Pages := { Dev.blank.pages with num := d.pages.num, past := d.pages.past ++ done, prevPos := d.pages.prevPos }
  { d with pages := p }

/-- The host link has trained at `rate` and `width` lanes, the rate no greater than HOST_RATE_MAX of the option record in force
(R27, R377; log entry 23). -/
def linkTrained (rate width : Nat) (d : Dev) : Dev :=
  sf .GLB_STATUS 0 GLB_STATUS.LINK_RATE (min rate (winGet d .option 10).toNat) (sf .GLB_STATUS 0 GLB_STATUS.LINK_WIDTH width d)

/-- In Crown mode the link trains at 2.5 GT/s and one lane (R383). -/
def crownLink (d : Dev) : Dev := sf .GLB_STATUS 0 GLB_STATUS.LINK_RATE 1 (sf .GLB_STATUS 0 GLB_STATUS.LINK_WIDTH 1 d)

/-- What domain `n` loses when its wrapper closes and its switch opens, in a reset short of COLD. -/
def domReset (n : Nat) (d : Dev) : Dev :=
  let d := clearRegs n d
  let d := { d with rst := { d.rst with fw := d.rst.fw.filter (fun x => x.1 ≠ n) } }
  if n = dFRANK then
    let keep : Sec := { Dev.blank.sec with
      slots := d.sec.slots, copies := d.sec.copies, ckpts := d.sec.ckpts, ckptSeq := d.sec.ckptSeq, nvsBad := d.sec.nvsBad
      fwCopy := d.sec.fwCopy, fwDigest := d.sec.fwDigest, fwBad := d.sec.fwBad }
    let d := sec (fun _ => keep) d
    { d with wins := d.wins.filter (fun x => x.1 / 2 ^ 32 ≠ Win.optionStage.ctorIdx)
             post := { d.post with cmds := d.post.cmds.filter (fun c => c.sq ≠ crownSq) } }
  else if n = dFABRIC then
    pagesLost { d with sync := Dev.blank.sync, evt := { d.evt with uq := List.replicate 16 [] } }
  else if n = dPOST then
    sf .LEDG_STATUS 0 LEDG_STATUS.CLOSED 0 (sf .LEDG_STATUS 0 LEDG_STATUS.TORN 0
      { d with post := { d.post with heldDb := [], closing := false, replayStep := 0, cqSince := [], cqFirst := [] } })
  else if n = dREGUL then calReset d
  else if n = dREMON then
    let d := cutCmds [0x70, 0x71, 0x73] (fun _ => true) { d with mot := { d.mot with regs := [] } }
    (List.range 8).foldl (fun d a => axCut true a (if (axis d a).home.isSome then setAxRef a 0 d else d)) d
  else if n = 8 ∨ n = 9 then
    dropOpenLines { d with pipe := { d.pipe with hist := d.pipe.hist.filter (fun h => match segRec d h.seg with
      | some r => segHalf r + 8 ≠ n
      | none => false) } }
  else if n = dCOMPARE then
    let c : Cmpr := { Dev.blank.cmpr with refs := d.cmpr.refs }
    let d := { d with cmpr := c }
    dropLines (freeUnused (esc (fun e => { e with lines := e.lines.map (fun l => { l with verdict := true }) }) d))
  else if n = 14 ∨ n = 15 then sf .MEM_STATUS (n - 14) MEM_STATUS.SELF_REFRESH 1 d
  else if n = dEP then
    let d := sf .GLB_STATUS 0 GLB_STATUS.LINK_RATE 0 (sf .GLB_STATUS 0 GLB_STATUS.LINK_WIDTH 0 d)
    { d with post := { d.post with busMaster := false, msixEnable := false }
             wins := d.wins.filter (fun x => x.1 / 2 ^ 32 ≠ Win.msixTable.ctorIdx && x.1 / 2 ^ 32 ≠ Win.msixPba.ctorIdx) }
  else if n = dRP then
    { d with que := { d.que with pwr := 0, perst := 0, pulse := 0, rebuild := [0, 0], drives := d.que.drives.map (fun x => { x with bar := 0 }) }
             strm := { d.strm with parcels := d.strm.parcels.map (fun p => { p with spilling := 0 }) } }
  else if 16 ≤ n ∧ n % 2 = 1 then
    let k := (n - 17) / 2
    let d := dieSegsAbsent k true 6 d
    let d := { d with fe := { d.fe with
      heads := d.fe.heads.map (fun h => if h.bus = k then { h with addr := 0, seg := 0 } else h)
      winLine := d.fe.winLine.filter (fun x => portDie x.1 ≠ k), winNext := d.fe.winNext.filter (fun x => portDie x.1 ≠ k)
      winAt := d.fe.winAt.filter (fun x => portDie x.1 ≠ k) } }
    let d := (List.range 4).foldl (fun d j => dropRun (4 * k + j) d) d
    axesDie false k d
  else if 16 ≤ n then
    let k := (n - 16) / 2
    axesDie true k (if k < 2 then auxReset k d else d)
  else d

/-- A COLD reset: everything but NVS, fuses and the drives' contents starts afresh; RST_CAUSE and the reset counters stay (R367, R69). -/
def coldReset (d : Dev) : Dev :=
  let keep : List Reg := [.RST_CAUSE, .RST_LAST, .RST_LAST_TIME, .RST_COUNT_BLOCK, .RST_COUNT_DIE, .RST_COUNT_PATH, .RST_COUNT_WARM, .RST_ISOLATIONS]
  let held := (d.strm.parcels.filter (fun p => p.unit != 0 && decide (p.num ≤ mget d.post.durNvs p.ctx))).map (fun p =>
    { p with res := 0, resident := false, spilling := 0, back := false, sent := false, host := false, rest := false, ret := [] })
  { Dev.blank with
    fresh := d.fresh, host := d.host, outbox := d.outbox, rq := d.rq, rst := { d.rst with fw := [] }
    regs := d.regs.filter (fun x => keep.any (fun r => r.ctorIdx == x.1 % 1024))
    evt := { Dev.blank.evt with nvsLog := d.evt.nvsLog }
    esc := { Dev.blank.esc with chanA := d.esc.chanA, chanB := d.esc.chanB, chanZ := d.esc.chanZ }
    sync := Dev.blank.sync
    fe := { Dev.blank.fe with heads := d.fe.heads.map (fun h => { h with addr := 0, seg := 0 }) }
    post := { Dev.blank.post with journal := d.post.journal, durNvs := d.post.durNvs, fetches := d.post.fetches }
    strm := { Dev.blank.strm with parcels := held }
    que := { Dev.blank.que with drives := d.que.drives.map (fun x => { Drive.none_ with head := x.head, index := x.index, stale := x.stale }) }
    cal := { Dev.blank.cal with base := d.cal.base }
    sec := { Dev.blank.sec with slots := d.sec.slots, copies := d.sec.copies, ckpts := d.sec.ckpts, ckptSeq := d.sec.ckptSeq, nvsBad := d.sec.nvsBad } }

/-! ### Isolation (R364, R370, R375, R376) -/

/-- The wrappers of a set of domains close, they are held in reset and their switches open. -/
def isolate (doms : Nat) (d : Dev) : Dev :=
  let up := (bitsOf doms 24).filter (fun n => bitOf (rn d .RST_DOMAIN_POWER 0) n)
  let d := rst (fun r => { r with quiet := up.foldl (fun m n => putBit m n false) r.quiet }) d
  if bitOf doms dAON then
    wn .RST_DOMAIN_RESET 0 doms (coldReset d)
  else
    let d := up.foldl (fun d n => wn .RST_DOMAIN_POWER 0 (putBit (rn d .RST_DOMAIN_POWER 0) n false) d) d
    let d := (bitsOf doms 24).foldl (fun d n => wn .RST_DOMAIN_RESET 0 (putBit (rn d .RST_DOMAIN_RESET 0) n true) d) d
    up.foldl (fun d n => domReset n d) d

def releasing (d : Dev) : Bool := rb d .RST_STATUS 0 RST_STATUS.RELEASING

/-- The order in which the Winder takes domains (R379). -/
def releaseOrder : List Nat :=
  [0, 1, 2, 3, 12, 14, 15, 4, 5, 6, 7, 8, 9, 10, 11, 13] ++ (List.range 4).flatMap (fun n => [dDIG n, dANA n])

/-- A release begins once no contributing source is asserted and every domain of the set is isolated (R370); every domain of the set
is held in reset until its own release, also after power-on. A release of reach WARM
or COLD is a start: the fuses are copied into the reset table, and START_TIMEOUT is armed (R369, R379, R381). -/
def tryRelease (f : Fuses) (d : Dev) : Dev :=
  if d.rst.reach = 0 || !d.rst.now_.isEmpty || d.rst.quiet != 0 || releasing d then d
  else
    let start := decide (4 ≤ d.rst.reach)
    let d := rst (fun r => { r with
      left := releaseOrder.filter (fun n => bitOf r.doms n), read_ := false
      table := if start then f.reach else r.table, verified := if start then false else r.verified, armed := start || r.armed }) d
    let failed := (bitsOf (rn d .RST_DOMAIN_FAILED 0) 24).filter (fun n => !bitOf d.rst.doms n)
    let d := wn .RST_DOMAIN_FAILED 0 (domMask failed) (sf .RST_STATUS 0 RST_STATUS.RELEASING 1
      (wn .RST_DOMAIN_RESET 0 (rn d .RST_DOMAIN_RESET 0 ||| d.rst.doms) d))
    if start then
      sf .RST_STATUS 0 RST_STATUS.CROWN_REASON 0 (sf .RST_STATUS 0 RST_STATUS.CROWN 0 (sf .RST_STATUS 0 RST_STATUS.BOOT_COMPLETE 0 d))
    else d

/-- Pulse sources whose domains are all isolated deassert (R368), and so do those that have deasserted while they waited. -/
def endPulses (f : Fuses) (d : Dev) : Dev :=
  tryRelease f (rst (fun r => { r with now_ := r.now_.filter (fun a => !((srcPulse a.src || a.gone) && a.doms.land r.quiet == 0)) }) d)

/-! ### A source asserts (R368 to R374) -/

/-- RST_LAST and RST_STATUS show the reset in progress. -/
def showReset (d : Dev) : Dev :=
  sf .RST_LAST 0 RST_LAST.REACH d.rst.reach (sf .RST_LAST 0 RST_LAST.DOMAINS d.rst.doms
    (sf .RST_STATUS 0 RST_STATUS.REACH d.rst.reach d))

/-- A reset begins, or takes in a further source before its release. -/
def joinReset (f : Fuses) (a : Asserted) (d : Dev) : Dev :=
  let none_ := d.rst.reach == 0
  -- sources of one cycle count as the first ones together
  let first := none_ || rn d .RST_LAST_TIME 0 == d.now
  let d := rst (fun r => { r with
    now_ := r.now_ ++ [a], reach := max r.reach a.reach, doms := r.doms.lor a.doms
    cmds := r.cmds ++ (if a.cmd = 0 then [] else [(a.cmd, a.reach)])
    cause := if first then rn d .RST_CAUSE 0 else r.cause }) d
  let d := if first then wn .RST_LAST_TIME 0 d.now (sf .RST_LAST 0 RST_LAST.SOURCE
    (if none_ then a.src else min a.src (rf d .RST_LAST 0 RST_LAST.SOURCE)) d) else d
  let d := showReset d
  let d := if 3 ≤ d.rst.reach then showReset (isolate d.rst.doms d)
    else rst (fun r => { r with quiet := (bitsOf a.doms 24).foldl (fun m n => if domUp d n then putBit m n true else m) r.quiet }) d
  endPulses f d

/-- Reset source `s` asserts; `req` and `dom` are those of a RESET command (R370 to R372). -/
def assertSource (f : Fuses) (s req : Nat) (dom : Option Nat) (d : Dev) : Dev :=
  let own := if s = 34 then dom else (srcDefault s).2
  let reach := effReach d s req
  let a : Asserted := ⟨s, reach, reachSet reach own, if s = 34 then d.rst.cmd else 0, false⟩
  let d := if s = 0 then
      wn .RST_CAUSE 0 1 (wn .RST_COUNT_BLOCK 0 0 (wn .RST_COUNT_DIE 0 0 (wn .RST_COUNT_PATH 0 0 (wn .RST_COUNT_WARM 0 0
        (wn .RST_ISOLATIONS 0 0 d)))))
    else mark .RST_CAUSE s 1 (wn .RST_CAUSE 0 (putBit (rn d .RST_CAUSE 0) s true) d)
  let d := if s = 28 then
      { d with post := { d.post with busMaster := false, msixEnable := false }
               wins := d.wins.filter (fun x => x.1 / 2 ^ 32 ≠ Win.msixTable.ctorIdx && x.1 / 2 ^ 32 ≠ Win.msixPba.ctorIdx) }
    else d
  if s != 34 && (d.rst.now_.any (fun x => x.src == s) || d.rst.later.any (fun x => x.src == s)) then
    rst (fun r => { r with later := r.later.map (fun x => if x.src = s then { x with gone := false } else x) }) d
  else if !releasing d then joinReset f a d
  else if d.rst.reach < a.reach then
    joinReset f a (sf .RST_STATUS 0 RST_STATUS.RELEASING 0 (isolate (d.rst.doms.lor a.doms) (rst (fun r => { r with left := [] }) d)))
  else if a.doms.land (domMask d.rst.left) = a.doms then
    endPulses f (rst (fun r => { r with now_ := r.now_ ++ [a], cmds := r.cmds ++ (if a.cmd = 0 then [] else [(a.cmd, a.reach)]) }) d)
  else rst (fun r => { r with later := r.later ++ [a] }) d

/-- RESET_DEASSERT: source `s` deasserts (R368, R370); one that waits for a release still acts as a new reset after it (R371). -/
def resetDeassert (f : Fuses) (s : Nat) (d : Dev) : Dev :=
  if srcPulse s then d
  else tryRelease f (rst (fun r => { r with
    now_ := r.now_.filter (fun a => a.src ≠ s)
    later := r.later.map (fun a => if a.src = s then { a with gone := true } else a) }) d)

/-- DOMAIN_IDLE: a domain that was asked to go idle is idle, and its wrapper closes (R375). -/
def domainIdle (f : Fuses) (n : Nat) (d : Dev) : Dev :=
  if bitOf d.rst.quiet n then endPulses f (isolate (domMask [n]) d) else d

/-- RST_IDLE_TIMEOUT: the wrappers of the domains that have not gone idle close, and their open transfers are completed (R375, R376). -/
def idleTimeout (f : Fuses) (d : Dev) : Dev :=
  let q := bitsOf d.rst.quiet 24
  if q.isEmpty then d
  else
    let d := isolate (domMask q) d
    endPulses f (q.foldl (fun d (n : Nat) => occur Src.BLOCK_ISOLATED n 0 0 (incSat .RST_ISOLATIONS 0 d)) d)

/-! ### The Winder (R379 to R385) -/

/-- Both banks of the pipeline's table classes are restored from the copy of the one in force (R153). -/
def restoreTables (d : Dev) : Dev :=
  [2, 3, 4, 5, 6, 11].foldl (fun d c =>
    let from_ := c * 2 ^ 32 + bankIn d c * 2 ^ 28
    let to_ := c * 2 ^ 32 + bankOut d c * 2 ^ 28
    let src := d.tables.filter (fun x => decide (from_ ≤ x.1) && decide (x.1 < from_ + 2 ^ 28))
    let rest_ := d.tables.filter (fun x => !(decide (to_ ≤ x.1) && decide (x.1 < to_ + 2 ^ 28)))
    { d with tables := src.foldl (fun m x => m.write (x.1 - from_ + to_) x.2) rest_ }) d

/-- A domain whose copy in HBM cannot be restored starts from its reset values (R432): event configuration, table banks and drift,
DMA channels, the auxiliary front end. -/
def dropCopy (n : Nat) (d : Dev) : Dev :=
  let clear (l : List Reg) (d : Dev) : Dev :=
    { d with regs := d.regs.filter (fun x => !(l.any (fun r => r.ctorIdx == x.1 % 1024 && addrDom (regAddr r (x.1 / 1024)) == n))) }
  let d := rst (fun r => { r with badCopy := putBit r.badCopy n false }) d
  if n = dFABRIC then
    let d := clear [.EVT_ENABLE, .EVT_ROUTE, .EVT_PULSE, .EVT_LOG_BASE, .EVT_LOG_CFG, .EVT_LOG_WRITTEN] d
    { d with evt := { d.evt with logRead := 0 } }
  else if n = 8 ∨ n = 9 then
    { d with tables := d.tables.filter (fun x => ! [2, 3, 4, 5, 6, 11].contains (x.1 / 2 ^ 32)) }
  else if n = dDMA then { (clear (blockRegs 16) d) with chans := List.replicate 48 Chan.none_ }
  else if n = 16 ∨ n = 18 then
    let k := (n - 16) / 2
    let d := clear (domKeeps n) d
    { d with wins := d.wins.filter (fun x => !(x.1 / 2 ^ 32 == Win.auxIn.ctorIdx && x.1 % 2 ^ 32 / 512 == k)) }
  else d

/-- FW_FALLBACK occurs once FABRIC runs (R396). -/
def flushFallback (d : Dev) : Dev :=
  match d.sec.fallback with
  | some (s, st) => if domUp d dFABRIC then occur Src.FW_FALLBACK s st 0 (sec (fun x => { x with fallback := none }) d) else d
  | none => d

/-- A released FE die has its link and PLL; once both its domains run, it is a discovery point (R120). -/
def dieReleased (k : Nat) (d : Dev) : Dev :=
  if domUp d (dDIG k) && domUp d (dANA k) then (List.range 4).foldl (fun d b => discover b d) d else d

/-- Whether the copy of the firmware still has the digest that Franking keeps (R373, R432). -/
def fwGood (d : Dev) : Bool := !d.sec.fwBad && digest d.sec.fwCopy == d.sec.fwDigest

/-- The domains whose processors load firmware: POST, ESC, REGUL and REMON (R373). -/
def loadsFw (n : Nat) : Bool := [dPOST, dESC, dREGUL, dREMON].contains n

/-- A processor loads its firmware from the copy that Franking verified (R373, R396). -/
def loadFw (n : Nat) (d : Dev) : Dev :=
  if loadsFw n then rst (fun r => { r with fw := (n, d.sec.fwCopy) :: r.fw.filter (fun x => x.1 ≠ n) }) d else d

/-- What a domain does when it is released; `rate` and `width` are what the host link trains at when it is EP. -/
def domRelease (n rate width : Nat) (d0 : Dev) : Dev :=
  let cold := d0.rst.reach == 5
  let d := loadFw n (if bitOf d0.rst.badCopy n then dropCopy n d0 else d0)
  if n = dFRANK then frankReleased d
  else if n = dFABRIC then
    let d := (List.range 1536).foldl (fun d s =>
      if evEnabled d s && evFlag d s then signalRoute s (rd d .EVT_ROUTE s) d else d) d
    let d := match activeImage d with
      | some _ => trigActivate (stampNow d) (pagesResume d)
      | none => d
    flushFallback (showSpace (showOuts d))
  else if n = dPOST then
    sf .LEDG_STATUS 0 LEDG_STATUS.REPLAYING 1 { d with post := { d.post with replayStep := 0, replayReach := d.rst.reach } }
  else if n = dREGUL then showCal (baseRelease d)
  else if n = 8 ∨ n = 9 then
    let d := if cold then d else restoreTables d
    match activeImage d with
    | some i => showStore i (n - 8) d
    | none => d
  else if n = dDMA then dmaRestore d
  else if n = 14 ∨ n = 15 then
    sf .MEM_STATUS (n - 14) MEM_STATUS.SELF_REFRESH 0 (sf .MEM_STATUS (n - 14) MEM_STATUS.READY 1 d)
  else if n = dEP then
    let d := linkTrained rate width d
    (if cold then { d with post := { d.post with busMaster := true } } else d)
  else if n = dRP then
    showDrives (sf .RP_CFG 0 RP_CFG.ENABLED 1 (sf .RP_CFG 0 RP_CFG.BIFURCATION ((winGet d .option 9).toNat % 16) d))
  else if 16 ≤ n ∧ n % 2 = 1 then
    let k := (n - 17) / 2
    let d := sf .FE_PHASE k FE_PHASE.PHASE (ux 16 (Config.pllPhase d.fresh)) (useFresh (deskewLoad k d))
    dieReleased k (sf .FE_STATUS k FE_STATUS.PLL_LOCK 1 (sf .FE_STATUS k FE_STATUS.LINK_UP 1 d))
  else if 16 ≤ n then
    let k := (n - 16) / 2
    dieReleased k (if k < 2 then auxReleased k d else d)
  else d

/-- The option record and the failed-start counter are read; the start goes on or enters Crown mode (R378, R381, R382). -/
def readOption (d : Dev) : Dev :=
  let best := bestOption d
  let b : Bytes := match best with
    | some (_, b) => b
    | none => []
  let d := { d with wins := d.wins.filter (fun x => x.1 / 2 ^ 32 ≠ Win.option.ctorIdx) }
  let d := winWrite .option 0 b d
  let d := wn .RST_FAILED_STARTS 0 d.rst.starts d
  let why := if d.rst.starts = 3 then 1 else if best.isNone then 2 else if d.rst.crown then 4 else 0
  if why = 0 then rst (fun r => { r with starts := r.starts + 1, read_ := true, crown := false }) d
  else
    sf .RST_STATUS 0 RST_STATUS.CROWN_REASON why (sf .RST_STATUS 0 RST_STATUS.CROWN 1 (crownLink
      (rst (fun r => { r with left := r.left.filter (fun n => decide (n ≤ 2)), armed := false, read_ := true, crown := false }) d)))

/-- The release is complete (R371, R374, R386); a record of a reset of reach WARM or COLD goes to NVS (R436). -/
def releaseDone (f : Fuses) (d : Dev) : Dev :=
  let reach := d.rst.reach
  let post := bitOf d.rst.doms dPOST
  let later := d.rst.later
  let d := rst (fun r => { r with reach := 0, left := [], later := [] }) d
  let d := sf .RST_STATUS 0 RST_STATUS.REACH 0 (sf .RST_STATUS 0 RST_STATUS.RELEASING 0 d)
  let d := if reach = 1 then incSat .RST_COUNT_BLOCK 0 d else if reach = 2 then incSat .RST_COUNT_DIE 0 d
    else if reach = 3 then incSat .RST_COUNT_PATH 0 d else if reach = 4 then incSat .RST_COUNT_WARM 0 d else d
  let d := occur Src.RESET_DONE reach 0 0 d
  let d := if reach < 4 then d else
    let r : EvRec := ⟨Src.RESET_DONE, rn d .EVT_COUNT Src.RESET_DONE, false, d.now, trackPos d, reach, 0, 0⟩
    { d with evt := { d.evt with nvsLog := (r :: d.evt.nvsLog).take 64 } }
  let d := if !post && domUp d dPOST then
      sf .LEDG_STATUS 0 LEDG_STATUS.REPLAYING 1 { d with post := { d.post with replayStep := 0, replayReach := reach } } else d
  let d := if post then d else rst (fun r => { r with cmds := [] }) (d.rst.cmds.foldl (fun d x => endCmd x.1 stOK 0 (leBytes 1 x.2) d) d)
  let d := rst (fun r => { r with doms := 0 }) d
  later.foldl (fun d a => joinReset f a d) d

/-- The next domain is passed: released, left off or failed. -/
def nextDomain (f : Fuses) (d : Dev) : Dev := if d.rst.left.isEmpty then releaseDone f d else d

/-- Whether the release can take its next domain: no source holds it, and at a start POST and the processors wait for verified
firmware (R370, R379). -/
def mayRelease (d : Dev) (n : Nat) : Bool :=
  releasing d && d.rst.now_.isEmpty && (d.rst.reach < 4 || d.rst.verified || !(decide (4 ≤ n) && decide (n ≤ 7)))

/-- Domains that stay off by the option record in force: RP with a reserved bifurcation, and dies that FE_ENABLE leaves out (R378, R379). -/
def leftOff (d : Dev) (n : Nat) : Bool :=
  if n = dRP then decide (3 < (winGet d .option 9).toNat)
  else decide (16 ≤ n) && !bitOf (winGet d .option 11).toNat ((n - 16) / 2)

/-- The order number of a domain (R379). -/
def stepOf (n : Nat) : Nat := releaseOrder.idxOf n + 1

/-- At a start the option record is read before FRANK is released. -/
def beforeFrank (d : Dev) : Dev :=
  match d.rst.left with
  | n :: _ => if 4 ≤ d.rst.reach && !d.rst.read_ && n != 0 && n != 1 then readOption d else d
  | [] => d

/-- WINDER_RELEASE_STEP: the next domain's switch closes, its power is good and it is released (R379). Where the reset leaves FRANK
running, a processor is released only with its firmware copy intact; otherwise FRANK_VIOLATION asserts (R373). -/
def winderStep (f : Fuses) (rate width : Nat) (d0 : Dev) : Dev :=
  match d0.rst.left with
  | [] => d0
  | n0 :: _ =>
    if !mayRelease d0 n0 then d0
    else
      let d := beforeFrank d0
      match d.rst.left with
      | [] => nextDomain f d
      | n :: t =>
        if loadsFw n && !bitOf d.rst.doms dFRANK && !fwGood d then assertSource f 43 0 none d
        else
        let d := rst (fun r => { r with left := t }) d
        if leftOff d n then nextDomain f d
        else
          let d := wn .RST_DOMAIN_RESET 0 (putBit (rn d .RST_DOMAIN_RESET 0) n false)
            (wn .RST_DOMAIN_POWER 0 (putBit (rn d .RST_DOMAIN_POWER 0) n true) (sf .RST_STATUS 0 RST_STATUS.STEP (stepOf n) d))
          nextDomain f (domRelease n rate width d)

/-- DOMAIN_POWER_TIMEOUT: the next domain's power-good has not come within 1 ms; it is left off (R380). -/
def powerTimeout (f : Fuses) (d0 : Dev) : Dev :=
  match d0.rst.left with
  | [] => d0
  | n0 :: _ =>
    if !mayRelease d0 n0 then d0
    else
      let d := beforeFrank d0
      match d.rst.left with
      | [] => nextDomain f d
      | n :: t =>
        if leftOff d n then nextDomain f (rst (fun r => { r with left := t }) d)
        else
          let other (m : Nat) : Bool := decide (16 ≤ n) && decide (16 ≤ m) && (m - 16) / 2 == (n - 16) / 2
          let off := (List.range 24).filter (fun m => other m && m != n && domUp d m)
          let d := rst (fun r => { r with left := t.filter (fun m => !other m) }) d
          let d := isolate (domMask off) d
          let d := wn .RST_DOMAIN_FAILED 0 (putBit (rn d .RST_DOMAIN_FAILED 0) n true) d
          nextDomain f (occur Src.DOMAIN_POWER_FAIL n 0 0 d)

/-- FW_VERIFIED: Franking has verified both slots; the first valid one runs, or the start enters Crown mode (R382, R396, R397). -/
def fwVerified (f : Fuses) (d : Dev) : Dev :=
  if !domUp d dFRANK || d.rst.verified then d
  else
    let r := verifySlots f.svn d
    let d := wn .SEC_VERIFY_TIME 0 ((r.1.now - r.1.sec.frankAt) / 1000) (rst (fun x => { x with verified := true }) r.1)
    if crown d then showSec d
    else match r.2.1 with
      | some s =>
        let d := sf .SEC_STATUS 0 SEC_STATUS.RUNNING_SLOT s (sf .SEC_STATUS 0 SEC_STATUS.RUNNING 1 d)
        let i := slotImage d s
        flushFallback (showSec (sec (fun x => { x with
          fallback := r.2.2, fwCopy := i.drop 5568, fwDigest := (i.drop 24).take 64, fwBad := false }) d))
      | none =>
        let d := sf .RST_STATUS 0 RST_STATUS.CROWN_REASON 3 (sf .RST_STATUS 0 RST_STATUS.CROWN 1 (crownLink d))
        let d := isolate (domMask ((List.range 21).map (· + 3))) (rst (fun x => { x with left := [], armed := false }) d)
        showSec (if releasing d then releaseDone f d else d)

/-- Hub domains that a start must have released before boot-complete: all but RP (R380, R381). -/
def hubUp (d : Dev) : Bool := ((List.range 16).filter (fun n => n ≠ dRP)).all (fun n => domUp d n) &&
  !((d.rst.left).any (fun n => decide (n < 16)))

/-- BOOT_COMPLETE: every hub domain of the start is released, the processors are ready and the Ledger is rebuilt (R381). -/
def bootComplete (d : Dev) : Dev :=
  if !d.rst.armed || crown d || !hubUp d || !(if d.post.replayReach = 5 then !replaying d else decide (2 ≤ d.post.replayStep) || !replaying d) then d
  else
    occur0 Src.BOOT_COMPLETE (sf .RST_STATUS 0 RST_STATUS.BOOT_COMPLETE 1 (rst (fun r => { r with armed := false, starts := 0 }) d))

/-- START_TIMEOUT: no boot-complete 2 s after the start's first release step (R381). -/
def startTimeout (f : Fuses) (d : Dev) : Dev :=
  if !d.rst.armed || crown d then d
  else
    let d := rst (fun r => { r with armed := false }) d
    assertSource f 49 0 none (if domUp d dFABRIC then occur0 Src.START_FAILED d else d)

/-- The SVN fuse count after SVN_BURN: raised to the SVN of a running image with BURN 1 (R398). -/
def burnSvn (f : Fuses) (d : Dev) : Nat :=
  match runSlot d with
  | some s =>
    if rb d .RST_STATUS 0 RST_STATUS.BOOT_COMPLETE && fwBurn (slotImage d s) && decide (f.svn < fwSvn (slotImage d s)) then
      max f.svn (min 64 (fwSvn (slotImage d s))) else f.svn
  | none => f.svn

/-- SVN_BURN: where the fuse is raised, slots with an older image are marked ROLLBACK (R398). -/
def svnBurn (f : Fuses) (d : Dev) : Dev :=
  let n := burnSvn f d
  if n = f.svn then d
  else
    let d := [0, 1].foldl (fun d s =>
      if slotState d s = 1 && decide (fwSvn (slotImage d s) < n) then setSlot s 5 (slotImage d s) d else d) d
    occur Src.SVN_RAISED n 0 0 (showSec d)

/-! ### The RESET command (R386) -/

/-- RESET: the checks of its own, then SOFTWARE asserts with the effective reach. -/
def resetCmd (f : Fuses) (c : Cmd) (d : Dev) : Dev :=
  let reach := leAt c.entry 8 1
  let tgt := leAt c.entry 9 1
  let fl := leAt c.entry 10 1
  if reach = 1 && tgt ≤ 2 then complete c stPARAM 9 [] d
  else if (if reach = 1 then 23 else if reach = 2 then 3 else 0) < tgt then complete c stPARAM 9 [] d
  else if reach < 4 && fl != 0 then complete c stPARAM 10 [] d
  else
    let dom := if reach = 1 then some tgt else if reach = 2 then some (dDIG tgt) else none
    let d := rst (fun r => { r with
      cmd := c.order + 1, crown := r.crown || bitOf fl 1, starts := if bitOf fl 0 then 0 else r.starts }) d
    assertSource f 34 reach dom d

/-- SOFTWARE asserts with reach WARM after a FW_ACTIVATE with RESTART 1 whose completion has been written (R401). -/
def restartSource (f : Fuses) (d : Dev) : Dev :=
  if d.sec.restart && !d.post.formed.any (fun c => c.op == 0xA1) then assertSource f 34 4 none (sec (fun s => { s with restart := false }) (rst (fun r => { r with cmd := 0 }) d))
  else d

/-! ### POWER_FAIL (R67, R388) -/

/-- The whole backlog reaches NVS. -/
def drainLedger (d : Dev) : Dev := Nat.repeat ledgerNvsWrite (d.post.backlog.length + d.post.waiting.length) d

/-- POWER_FAIL_ASSERT: work stops, DMA already started ends, and the closing records reach NVS (R67); every axis faults (R388). -/
def powerFail (d : Dev) : Dev :=
  if d.rst.fail || !bitOf (winGet d .option 8).toNat 1 then d
  else
    let d := rst (fun r => { r with fail := true }) d
    let d := (List.range 8).foldl (fun d a => if domUp d (dDIG (a / 2)) then axFaultWith a 0 d else d) d
    if !domUp d dPOST then d
    else
      let d := { d with post := { d.post with closing := true } }
      let n0 := d.post.backlog.length + d.post.waiting.length
      let d := drainLedger d
      let sent := d.strm.parcels.filter (fun p => p.sent && !p.host)
      let d := sent.foldl (fun d p => parcelReachedHost p.ctx d) d
      let d := (List.range 4).foldl (fun d u => spillWriteDone u true d) d
      let n := n0 + d.post.backlog.length + 1
      drainLedger (stage kPOWER_CLOSE (leBytes 4 n) d)

/-- POWER_FAIL_DEASSERT: the supplies are still in range, and a WARM reset follows (R67). -/
def powerBack (f : Fuses) (d : Dev) : Dev :=
  if d.rst.fail then assertSource f 50 0 none (rst (fun r => { r with fail := false }) d) else d

/-! ### The replay (R68, R69) -/

/-- The largest parcel number that DELIVER and SPILL records of the journal give for a context. -/
def journalNum (d : Dev) (c : Nat) : Nat :=
  d.post.journal.foldl (fun a r =>
    if r.kind = kDELIVER || r.kind = kSPILL then (recPairs r.body).foldl (fun a p => if p.1 = c then max a p.2 else a) a else a) 0

/-- Durable values as the records in NVS that were read give them since each context was last opened (R66, R69). -/
def rebuildDurable (d : Dev) : Dev :=
  d.post.durNvs.foldl (fun d x => wn .LEDG_DURABLE x.1 (min x.2 (journalNum d x.1)) d) d

/-- Records of which a later one of the same kind covers what an earlier one covered (R62). -/
def cumulative (k : Nat) : Bool := k == kADMIT || k == kCOMPLETE || k == kDELIVER || k == kSPILL

/-- How many of the newest records the scan of R68 leaves out: those that `torn` gives, and every one from the first record behind the
last CHECKPOINT that fails CHECK because both its copies in staging failed (R432). -/
def unread (torn : Nat) (d : Dev) : Nat :=
  let recs := d.post.backlog.reverse ++ d.post.journal
  let since := (recs.zipIdx.find? (fun x => decide (d.post.backlog.length ≤ x.2) && x.1.kind == kCHECKPOINT)).elim recs.length (·.2)
  let bad := (recs.zipIdx.filter (fun x => decide (x.2 ≤ since) && d.post.stageBad.contains x.1.seq)).map (·.2 + 1)
  bad.foldl max torn

/-- The scan of R68 ends before the newest `n` records, which stand last in staging, then in NVS: the Ledger ends there. The work of R70
stands, so what the unread cumulative records of staging covered is recorded afresh (DEDUCED, log entry 76). -/
def scanEnds (n : Nat) (d : Dev) : Dev :=
  let k := d.post.backlog.length
  let lost := d.post.backlog.drop (k - n)
  (lost.filter (fun r => cumulative r.kind)).foldl (fun d r => stage r.kind r.body d)
    { d with post := { d.post with backlog := d.post.backlog.take (k - n), journal := d.post.journal.drop (n - k) } }

/-- REPLAY: steps 1 and 2 of R68, or after COLD the rebuild of R69. `torn` is how many of the newest records the scan does not reach
because a record failed CHECK otherwise; 0 where none did. -/
def replay (torn : Nat) (d : Dev) : Dev :=
  if !domUp d dPOST || !replaying d || 2 ≤ d.post.replayStep then d
  else
    let n := unread torn d
    let d1 := sf .LEDG_STATUS 0 LEDG_STATUS.TORN (b2n (n != 0)) { d with post := { d.post with stageBad := [] } }
    let d1 := if n = 0 then d1 else occur0 Src.LEDGER_TORN (scanEnds n d1)
    if d.post.replayReach = 5 then
      let last := max ((d1.post.journal.head?.map (·.seq)).getD 0) d.sec.ckptSeq
      let ck := ((d1.post.journal.find? (fun r => r.kind == kCHECKPOINT)).map (·.seq)).getD 0
      let d1 := wn .LEDG_NVS_SEQ 0 ((d1.post.journal.head?.map (·.seq)).getD 0) (wn .LEDG_CKPT_SEQ 0 ck (rebuildDurable d1))
      releaseHeldDb (sf .LEDG_STATUS 0 LEDG_STATUS.REPLAYING 0 (sec (fun s => { s with ckptSeq := last })
        { d1 with post := { d1.post with seq := last, replayStep := 7 } }))
    else
      let body := leBytes 8 d.post.replayReach ++ leBytes 8 d.rst.cause
      if !canStage kRESET body d then d
      else
        let d1 := stage kRESET body (incSat .LEDG_REPLAYS 0 d1)
        releaseHeldDb { d1 with post := { d1.post with replayStep := 2 } }

/-- A started command at step 6 of the replay: goes on, starts afresh, or ends INTERRUPTED where its outside effect was cut (R68). -/
def resumeCmd (reach doms : Nat) (c : Cmd) (d : Dev) : Dev :=
  if !c.started then d
  else if c.data.head? = some cutMark || (c.op = 0xA1 && bitOf doms dFRANK) then
    complete c stINTERRUPTED reach (if c.op = 0x61 then calResult (c.data.getD 1 0) 5 0 0 else []) d
  else if c.op = 0x07 then
    (match d.rst.cmds.find? (fun x => x.1 == c.order + 1) with
     | some x => completeOk c (leBytes 1 x.2) (rst (fun r => { r with cmds := r.cmds.filter (fun y => y.1 ≠ x.1) }) d)
     | none => d)
  else if (c.op = 0xA0 && bitOf doms dFRANK) || (c.op = 0x62 && (bitOf doms dFRANK || bitOf doms dREGUL || bitOf doms dPOST)) ||
      ((c.op = 0x90 || c.op = 0x91) && bitOf doms dRP) then updCmd { c with started := false, data := [] } d
  else d

/-- REPLAY_RESUME: once Bus Master Enable is 1 and BAR0 is assigned, completions, parcels and descriptors are re-issued, commands go on
and fetching resumes (R68 steps 3 to 7). -/
def replayResume (d : Dev) : Dev :=
  if !domUp d dPOST || !domUp d dEP || !replaying d || d.post.replayStep ≠ 2 || !canStage kREPLAY_DONE [] d then d
  else
    let reach := d.post.replayReach
    let doms := rf d .RST_LAST 0 RST_LAST.DOMAINS
    let d := { d with post := { d.post with busMaster := true, replayStep := 7 } }
    let d := d.post.written.reverse.foldl (fun d x =>
      hostWrite (rf d .RING_CQ_BASE x.cq RING_CQ_BASE.BASE * 32 + 32 * (x.count % max 1 (cqSize d x.cq))) x.bytes d) d
    let parcels := (d.strm.parcels.filter (fun p => p.sent && !p.host)).length
    let descs := (reissues d).length
    let d := convRestart (d.post.cmds.foldl (fun d c => resumeCmd reach doms c d) (queueReissues d))
    let d := stage kREPLAY_DONE (leBytes 4 reach ++ leBytes 4 d.post.written.length ++ leBytes 4 parcels ++ leBytes 4 descs) d
    occur0 Src.REPLAY_DONE (sf .LEDG_STATUS 0 LEDG_STATUS.REPLAYING 0 d)

/-! ### Crown mode (R384) -/

/-- Opcodes the mailbox accepts. -/
def crownOps : List Nat := [0x01, 0x06, 0x07, 0xA0, 0xA1, 0xA2, 0xF0, 0xF1]

end Sys2Proof.Machine
end

