-- ==== Sys2Proof/Machine/Integrity.lean ====
section
/-!
DEFINITION. Machine/Integrity.lean: the event matrix as host software writes it, the event log, urgent queues as they are read,
MSI-X, memory integrity and its injection, junction temperatures, features, and the commands that read logs (R28, R53, R263, R414
to R418, R425, R427, R431 to R436, R456).
-/
namespace Sys2Proof.Machine

/-! ### Flags, enables, counters (R414 to R418, R427) -/

/-- EVT_SW_SET: SW_SET 1 makes a SW_EVENT source occur; for any other source the write is discarded (R414). -/
def evtSwSet (s : Nat) (d : Dev) : Dev :=
  if Src.SW_EVENT 0 ≤ s ∧ s < 1536 then occur s 0 0 0 d else occur Src.EVT_CFG_INVALID s 0 0 d

/-- EVT_CLEAR_COUNT: the counter of a source returns to 0 and keeps the occurrences of the cycle (R427, R429). -/
def evtClearCount (s : Nat) (d : Dev) : Dev := if s < 1536 then zeroed .EVT_COUNT s d else d

/-- A W1C write of word `w` of a register of flags whose settings are marked under `c`: a bit set in the cycle stays 1 (R416). -/
def clearFlags (r c : Reg) (n w v : Nat) (d : Dev) : Dev :=
  let gone := (List.range n).foldl (fun a b => if bitOf v b && ups d c (n * w + b) == 0 then a + 2 ^ b else a) 0
  wr r w (rd d r w &&& ~~~ (BitVec.ofNat 64 gone)) d

/-- EVT_STATUS_CLEAR: a bit that stays counts as going from 0 to 1, so it signals an enabled source's vector unless the occurrence in
this cycle has (R416, R418). -/
def evtStatusClear (w v : Nat) (d : Dev) : Dev :=
  (List.range 32).foldl (fun e b =>
    let s := 32 * w + b
    if bitOf v b && evFlag e s && evEnabled e s && domUp e dFABRIC && ups e .EVT_ROUTE s == 0 then signalRoute s (routeWord e s) e else e)
    (clearFlags .EVT_STATUS .EVT_COUNT 32 w v d)

/-- EVT_ENABLE_WRITE: the word is replaced, and a source newly enabled whose flag is set signals its vector (R418). -/
def evtEnableWrite (w v : Nat) (d0 : Dev) : Dev :=
  let d := wn .EVT_ENABLE w (v % 2 ^ 32) d0
  (List.range 32).foldl (fun d b =>
    let s := 32 * w + b
    if bitOf v b && !evEnabled d0 s && evFlag d s then signalRoute s (rd d .EVT_ROUTE s) d else d) d

/-- A write of a route: discarded where it would set RING_EN for RING_EVENT (R420); occurrences of its cycle follow the former route
(R417). -/
def evtRouteWrite (s : Nat) (v : Word) (d : Dev) : Dev :=
  if s = Src.RING_EVENT ∧ EVT_ROUTE.RING_EN.get v = 1 then occur Src.EVT_CFG_INVALID s 0 0 d
  else wn .EVT_ROUTE s (v.toNat % 2 ^ 26) { d with cyc := { cycNow d with routes := (cycNow d).routes ++ [(s, rd d .EVT_ROUTE s)] } }

/-! ### The event log ring (R425) -/

/-- EVT_LOG_READ: host software has consumed records up to a count, by the rules of R39. -/
def evtLogRead (count : Nat) (d : Dev) : Dev :=
  let n := rf d .EVT_LOG_CFG 0 EVT_LOG_CFG.SIZE
  if rb d .EVT_LOG_CFG 0 EVT_LOG_CFG.ENABLE && decide (count < ringL n) && notBehind n count d.evt.logRead &&
      notBehind n (rn d .EVT_LOG_WRITTEN 0) count then
    { d with evt := { d.evt with logRead := count } }
  else occur0 Src.EVT_CFG_INVALID d

/-- EVT_LOG_CFG_WRITE: SIZE is kept while ENABLE stays 1; enabling with SIZE 0 is discarded whole; the counts start at 0 when the
ring is enabled (R425, R437; log entry 24). -/
def evtLogCfgWrite (size : Nat) (en : Bool) (d : Dev) : Dev :=
  if en && decide (size % 65536 = 0) then occur0 Src.EVT_CFG_INVALID d
  else
    let was := rb d .EVT_LOG_CFG 0 EVT_LOG_CFG.ENABLE
    let d := if was then d else sf .EVT_LOG_CFG 0 EVT_LOG_CFG.SIZE size d
    let d := sf .EVT_LOG_CFG 0 EVT_LOG_CFG.ENABLE (b2n en) d
    if en && !was then
      wn .EVT_LOG_WRITTEN 0 0 { d with evt := { d.evt with logRead := 0, lost := false, dropping := false } }
    else d

/-! ### Urgent queues (R263) -/

/-- The data word of the head entry of an urgent queue: VALID and the payload, or 0. -/
def uqHead (d : Dev) (q : Nat) : Nat :=
  match (d.evt.uq.getD q []).head? with
  | some p => p % 2 ^ 56 + 2 ^ 63
  | none => 0

/-- The head entry leaves its queue. -/
def uqDrop (q : Nat) (d : Dev) : Dev :=
  let e := d.evt.uq.getD q []
  match e with
  | [] => d
  | _ :: t => sf .QUE_UQ_LEVEL q QUE_UQ_LEVEL.ENTRIES t.length { d with evt := { d.evt with uq := setAt d.evt.uq q t } }

/-- UQ_POP: a 64-bit read pops and returns the head entry, or VALID 0; like every 64-bit read it ends the use of the latch (R8). -/
def uqPop (q : Nat) (d : Dev) : Dev := uqDrop q (emit (.readData (uqHead d q)) (dropLatch .QUE_UQ_POP q d))

/-! ### MSI-X (R418, R438) -/

/-- The vectors that have an enabled source whose flag is set. -/
def flaggedVectors (d : Dev) : List Nat :=
  (List.range 1536).foldl (fun l s =>
    let v := rf d .EVT_ROUTE s EVT_ROUTE.VECTOR
    if evEnabled d s && evFlag d s && rf d .EVT_ROUTE s EVT_ROUTE.VEC_EN = 1 && !l.contains v then l ++ [v] else l) []

/-- MSIX_ENABLE: MSI-X Enable of the function changes from 0 to 1. -/
def msixEnable (d : Dev) : Dev :=
  if d.post.msixEnable then d
  else
    let d := { d with post := { d.post with msixEnable := true } }
    (flaggedVectors d).foldl (fun d v => signal v d) d

/-- MSIX_UNMASK: a vector is unmasked; the message leaves if its pending bit is set. -/
def msixUnmask (v : Nat) (d : Dev) : Dev :=
  let off := 16 * v + 12
  let was := bitOf (winGet d .msixPba (v / 8)).toNat (v % 8)
  let d := winPut .msixTable off (BitVec.ofNat 8 (putBit (winGet d .msixTable off).toNat 0 false)) d
  if was && d.post.msixEnable then emit (.msix v) (setPending v false d) else d

/-! ### Memory integrity (R431 to R434) -/

/-- A corrected error: written back, counted, recorded. -/
def eccCorrected (m addr syn : Nat) (d : Dev) : Dev :=
  let d := addSat .DIAG_ECC_COUNT m 1 d
  let d := if m < 2 then addSat .MEM_CORRECTED m 1 d else d
  occur Src.ECC_CORRECTED m addr syn d

/-- An image leaves the device (R91, R432). -/
def unloadImage (n : Nat) (d : Dev) : Dev :=
  let d := esc (fun e => { e with images := setAt e.images n none }) d
  sf .TTBL_IMAGE n TTBL_IMAGE.LOADED 0 (wn .TTBL_IMAGE_LEN n 0 d)

/-- An activation that waits ends with status STATE: its image is no longer loaded (R90). -/
def endActivate (p : ActPend) (d : Dev) : Dev :=
  let d := sf .TTBL_IMAGE p.image TTBL_IMAGE.PENDING 0 (esc (fun e => { e with actPend := none }) d)
  match findCmd d p.sq p.tag with
  | some c => complete c stSTATE dESC [] d
  | none => d

/-- An uncorrectable HBM error by content (R432): 0 parcel data of a context and parcel number, 1 reference page, 2 source read of a
channel's descriptor, 3 descriptor pool or Ledger staging, where `b` 1 says that both copies fail and `a` is 2,048 or more for a staging
record, the one at place `a` - 2,048 from the oldest, else the context whose parcels the pool's descriptor holds, 4 a stored image, 5 the firmware copy, 6 the kept copy of a
domain. A reference page acts when a line needs it, the firmware copy at the next release. -/
def hbmUncorr (content a b : Nat) (d : Dev) : Dev :=
  if content = 0 then
    onCtx a (fun x => if b = produced d a + 1 && !x.pend.isEmpty then { x with err := true } else x)
      (onParcel a b (fun p => { p with data := dataErr p.data }) d)
  else if content = 2 then dmaReadError a 5 0 d
  else if content = 3 then
    (if b ≠ 1 then d
     else if 2048 ≤ a then { d with post := { d.post with
       stageBad := ((d.post.backlog.drop (a - 2048)).take 1).map (·.seq) ++ d.post.stageBad } }
     else match lowest d a (fun p => !p.host) with
       | some p => loseParcels (fun q => q.ctx == a && q.num == p.num) 4 d
       | none => d)
  else if content = 4 then
    (if activeNum d = a ∧ !activeNone d then
      strm (fun s => { s with captures := s.captures.map (fun c => { c with stop := 2 }) }) (esc (fun e => { e with imageBad := true }) d)
     else unloadImage a (match d.esc.actPend with
       | some p => if p.image = a then endActivate p d else d
       | none => d))
  else if content = 5 then { d with sec := { d.sec with fwBad := true } }
  else if content = 6 then rst (fun r => { r with badCopy := putBit r.badCopy a true }) d
  else d

/-- An uncorrectable error acts as its storage has it (R431). `a` and `b` say what was hit: for HBM the content follows `a`; a ring
for MEMORY 13, a queue for 14, a table class for 15, a segment for 16, or 48 where the line is not judged, a channel for 17; of NVS the
piece `content` and its number `a`, as `Sec.nvsBad` has them. -/
def eccUncorr (f : Fuses) (m addr syn content a b : Nat) (d : Dev) : Dev :=
  let d := addSat .DIAG_ECC_UNCORR m 1 d
  let d := if m < 2 then ws64 .MEM_LAST_ADDR m addr (addSat .MEM_UNCORRECTED m 1 d) else d
  let parity := m = 9 ∨ m = 10 ∨ m = 12 ∨ m = 13 ∨ m = 14
  let d := occur (if parity then Src.PARITY_ERROR else Src.ECC_UNCORRECTED) m addr syn d
  let assert (s : Nat) (d : Dev) : Dev := assertSource f s 0 none d
  if m < 2 then hbmUncorr content a b d
  else if m = 2 then { d with sec := { d.sec with nvsBad := (content, a) :: d.sec.nvsBad.filter (· ≠ (content, a)) } }
  else if 3 ≤ m ∧ m ≤ 7 then assert (26 + m) d
  else if 8 ≤ m ∧ m ≤ 12 then assert (36 + m) d
  else if m = 14 then
    (if (d.evt.uq.getD a []).isEmpty then d else incSat .QUE_UQ_DROP a (uqDrop a d))
  else if m = 15 then pipe (fun p => { p with restoring := if p.restoring.contains a then p.restoring else a :: p.restoring }) d
  else if m = 16 then
    (if a < 48 then
      (match segRec d a, d.esc.lines.getLast? with
       | some r, some l => maskLine r l.num d
       | _, _ => d)
     else match d.cmpr.jlines.find? (·.judged) with
       | some j =>
         occur Src.REF_LATE j.line 0 0 (incSat .CMPR_REF_LATE 0 (cmpr (fun x => { x with
           jlines := x.jlines.map (fun y => if y.line = j.line then { y with judged := false, runs := [] } else y) }) d))
       | none => d)
  else if m = 17 then dmaReadError a 5 0 d
  else d

/-- What an armed injection adds to the errors a scrub finds in its memory (R434): found 1 corrected, 2 uncorrectable. -/
def injected (m : Nat) (d : Dev) : List (List Nat) × Dev :=
  if rb d .DIAG_INJECT 0 DIAG_INJECT.ARMED && rf d .DIAG_INJECT 0 DIAG_INJECT.MEMORY = m then
    ([[if rb d .DIAG_INJECT 0 DIAG_INJECT.DOUBLE || decide (12 ≤ m ∧ m ≤ 14) then 2 else 1, 0, 0, 1, 48, 0]],
     sf .DIAG_INJECT 0 DIAG_INJECT.ARMED 0 d)
  else ([], d)

/-- One error found: `[kind, address, syndrome, content, a, b]`, kind 1 corrected, else uncorrectable. -/
def eccFound (f : Fuses) (m : Nat) (x : List Nat) (d : Dev) : Dev :=
  if x.getD 0 0 = 1 then eccCorrected m (x.getD 1 0) (x.getD 2 0) d
  else eccUncorr f m (x.getD 1 0) (x.getD 2 0) (x.getD 3 0) (x.getD 4 0) (x.getD 5 0) d

/-- SCRUB_PASS: a pass of an HBM stack completes; the errors it found are given (R433). An armed injection shows at the first scrub
of its memory (log entry 25). -/
def scrubPass (f : Fuses) (stack : Nat) (errors : List (List Nat)) (d : Dev) : Dev :=
  if !domUp d (dMEM stack) then d
  else
    let i := injected stack d
    let d := (errors ++ i.1).foldl (fun d x => eccFound f stack x d) i.2
    occur Src.SCRUB_PASS stack 0 0 (incWrap .MEM_SCRUB_PASSES stack d)

/-- ARRAY_SCRUB: every 100 ms the arrays of the dies are scrubbed; each error found names its memory first (R431, R433). -/
def arrayScrub (f : Fuses) (errors : List (List Nat)) (d : Dev) : Dev :=
  let ok := errors.filter (fun x => decide (2 ≤ x.getD 0 0 ∧ x.getD 0 0 ≤ 17))
  let d := ok.foldl (fun d x => eccFound f (x.getD 0 0) (x.drop 1) d) d
  (List.range 18).foldl (fun d m =>
    if m < 2 then d
    else
      let i := injected m d
      i.1.foldl (fun d x => eccFound f m x d) i.2) d

/-- DIAG_INJECT: a write of the register (R434). -/
def diagInject (m : Nat) (double arm : Bool) (d : Dev) : Dev :=
  let bad := m = 2 ∨ m = 9 ∨ m = 10 ∨ rb d .DIAG_INJECT 0 DIAG_INJECT.ARMED
  if decide bad then occur Src.EVT_CFG_INVALID m 0 0 d
  else
    let d := sf .DIAG_INJECT 0 DIAG_INJECT.DOUBLE (b2n double) (sf .DIAG_INJECT 0 DIAG_INJECT.MEMORY m d)
    if arm then sf .DIAG_INJECT 0 DIAG_INJECT.ARMED 1 d else d

/-- BANK_RESTORE_DONE: a bank has been restored from its HBM copy (R431). -/
def bankRestoreDone (cls : Nat) (d : Dev) : Dev := pipe (fun p => { p with restoring := p.restoring.filter (· ≠ cls) }) d

/-! ### Junction temperatures (R456) -/

/-- Whether sensor `s` is powered: hub, FE0 to FE3, HBM west and east, NVS. -/
def tjPowered (d : Dev) (s : Nat) : Bool :=
  if s = 0 then true
  else if s ≤ 4 then bitOf (rn d .RST_DOMAIN_POWER 0) (dANA (s - 1)) || bitOf (rn d .RST_DOMAIN_POWER 0) (dDIG (s - 1))
  else if s ≤ 6 then bitOf (rn d .RST_DOMAIN_POWER 0) (dMEM (s - 5))
  else bitOf (rn d .RST_DOMAIN_POWER 0) dNVS

/-- TJ_UPDATE: the eight sensors' readings, in 1/256 °C, and the highest (R456). -/
def tjUpdate (temps : List Int) (d : Dev) : Dev :=
  (List.range 8).foldl (fun d s =>
    let t := clampI (-32768) 32767 (temps.getD s 0)
    if tjPowered d s then
      let d := sf .GLB_TJ s GLB_TJ.VALID 1 (sf .GLB_TJ s GLB_TJ.TEMP (ux 16 t) d)
      if sx 16 (rf d .GLB_TJ_MAX 0 GLB_TJ_MAX.TEMP) < t then sf .GLB_TJ_MAX 0 GLB_TJ_MAX.TEMP (ux 16 t) d else d
    else sf .GLB_TJ s GLB_TJ.VALID 0 d) (mark .GLB_TJ_MAX 0 1 d)

/-- GLB_TJ_CLEAR: GLB_TJ_MAX takes the reading of an update of the same cycle, the lowest value else (R456). -/
def tjClear (d : Dev) : Dev :=
  if ups d .GLB_TJ_MAX 0 = 0 then wn .GLB_TJ_MAX 0 0x8000 d
  else
    let valid := (List.range 8).filter (fun s => rb d .GLB_TJ s GLB_TJ.VALID)
    wn .GLB_TJ_MAX 0 (ux 16 ((valid.map (fun s => sx 16 (rf d .GLB_TJ s GLB_TJ.TEMP))).foldl max (-32768))) d

/-! ### Features (R28) -/

/-- VALUE and VALUE2 of a feature, or none where it is reserved. -/
def featureValue (d : Dev) (n : Nat) : Option (Nat × Nat) :=
  if n = 1 then
    some (rf d .GLB_STATUS 0 GLB_STATUS.LINK_RATE + 256 * rf d .GLB_STATUS 0 GLB_STATUS.LINK_WIDTH, 0)
  else if n = 2 then some (d.now, ux 64 (trackPos d))
  else if n = 3 then
    let dies := ((List.range 4).filter (fun k =>
      bitOf (rn d .RST_DOMAIN_POWER 0) (dANA k) && bitOf (rn d .RST_DOMAIN_POWER 0) (dDIG k))).foldl (fun a k => a + 2 ^ k) 0
    let ports := ((List.range 4).filter (fun p => rpState d p = rpMember)).foldl (fun a p => a + 2 ^ p) 0
    some (dies + 16 * ports, hbmVisible)
  else if n = 4 then some (8589934592, hTot d)
  else if 0x10 ≤ n ∧ n ≤ 0x13 then some (rn d .GLB_SCRATCH (n - 0x10), 0)
  else none

/-- RESULT of the two feature commands. -/
def featureResult (x : Nat × Nat) : Bytes := leBytes 8 x.1 ++ leBytes 8 x.2

/-- GET_FEATURE. -/
def getFeature (c : Cmd) (d : Dev) : Dev :=
  match featureValue d (leAt c.entry 8 2) with
  | some x => completeOk c (featureResult x) d
  | none => complete c stPARAM 8 [] d

/-- SET_FEATURE: only the scratch features can be written. -/
def setFeature (c : Cmd) (d : Dev) : Dev :=
  let n := leAt c.entry 8 2
  if 0x10 ≤ n ∧ n ≤ 0x13 then
    let d := wn .GLB_SCRATCH (n - 0x10) (leAt c.entry 16 8) d
    completeOk c (featureResult (leAt c.entry 16 8, 0)) d
  else complete c stPARAM 8 [] d

/-! ### Logs (R53, R435, R436) -/

/-- The records LEDGER_READ copies: of those held, in sequence order, from the first at or above FIRST_SEQ. -/
def ledgerPick (d : Dev) (first count : Nat) : List LRec :=
  let held := d.post.journal.reverse ++ (if crown d then [] else d.post.backlog)
  (held.filter (fun r => decide (first ≤ r.seq))).take count

/-- LEDGER_READ. -/
def ledgerRead (c : Cmd) (d : Dev) : Dev :=
  let l := ledgerPick d (leAt c.entry 8 7) (leAt c.entry 16 4)
  let d := hostWrite (leAt c.entry 24 8) (l.flatMap lrecBytes) d
  let seq := match l.head? with
    | some r => r.seq
    | none => 0
  completeOk c (leBytes 4 l.length ++ zeros 4 ++ leBytes 7 seq) d

/-- The bytes of a loopback pattern. -/
def loopBytes (pattern n : Nat) : Bytes :=
  if pattern = 0 then zeros n
  else if pattern = 1 then List.replicate n 0xFF#8
  else (List.range n).map (Config.loopPattern pattern)

/-- The bytes that differ between two strings. -/
def mismatches (a b : Bytes) : Nat := ((a.zip b).filter (fun x => x.1 != x.2)).length

/-- DIAG_LOOPBACK: the pattern is written to BUFFER, read back and compared; what the read answers is given. -/
def diagLoopback (c : Cmd) (back : Fetch) (d : Dev) : Dev :=
  if !crown d && !domUp d (dMEM 0) then complete c stSTATE (dMEM 0) [] d
  else if !crown d && !domUp d (dMEM 1) then complete c stSTATE (dMEM 1) [] d
  else
    let b := loopBytes (leAt c.entry 8 1) (leAt c.entry 24 4)
    let d := hostWrite (leAt c.entry 16 8) b d
    match back with
    | .failed cause => complete c stDMA_ERR cause [] d
    | .ok r => completeOk c (leBytes 4 (crc32c b) ++ leBytes 4 (mismatches b (fitBytes b.length r))) d

/-- DIAG_LOG_READ: whole records, oldest first, as many as LENGTH holds. -/
def diagLogRead (c : Cmd) (d : Dev) : Dev :=
  let log := leAt c.entry 8 1
  if crown d && log ≠ 2 then complete c stSTATE dFABRIC [] d
  else
    let l := if log = 0 then d.evt.history else if log = 1 then d.evt.eccLog else d.evt.nvsLog
    let b := (l.reverse.take (leAt c.entry 24 4 / 64)).flatMap (fun r => evRecBytes r false false)
    completeOk c (leBytes 8 b.length) (hostWrite (leAt c.entry 16 8) b d)

end Sys2Proof.Machine
end

