-- ==== Sys2Proof/Machine/Timetable.lean ====
section
/-!
DEFINITION. Machine/Timetable.lean: the checks of a timetable image (R29, R84 to R89, R103 to R106, R117, R152, R191, R193 to R200,
R209, R284, R309, R310, R317, R464) and TTBL_LOAD, TTBL_ACTIVATE and TTBL_UNLOAD (R89 to R91).
-/
namespace Sys2Proof.Machine

/-- One check: whether it holds, the status of a failure, and the offset of the failing field. -/
abbrev Chk := Bool × Nat × Nat

/-- The failing check with the lowest offset. -/
def firstBad (l : List Chk) : Option (Nat × Nat) :=
  l.foldl (fun r c =>
    if c.1 then r
    else match r with
      | some x => if c.2.2 < x.2 then some (c.2.1, c.2.2) else r
      | none => some (c.2.1, c.2.2)) none

/-- A check whose failure is PARAM, or BOUND. -/
def chkP (ok : Bool) (off : Nat) : Chk := (ok, stPARAM, off)
def chkB (ok : Bool) (off : Nat) : Chk := (ok, stBOUND, off)

/-- A count: 0 is PARAM, above its bound BOUND (R10, R89). -/
def chkCount (v bound off : Nat) : List Chk := [chkP (decide (v ≠ 0)) off, chkB (decide (v ≤ bound)) off]

/-- Bytes `lo` to `hi - 1` must be 0; the offset is that of the first one that is not. -/
def chkZero (i : Bytes) (lo hi : Nat) : Chk :=
  chkP (zeroIn i lo hi) lo

/-! ### Directory and sections (R84, R85, R464) -/

/-- The directory entry of a section: where the entry is, OFFSET, LENGTH, COUNT. -/
structure Sect where
  dir : Nat
  kind : Nat
  off : Nat
  len : Nat
  count : Nat

def sectAt (i : Bytes) (e : Nat) : Sect :=
  let b := 64 + 16 * e
  ⟨b, leAt i b 2, leAt i (b + 4) 4, leAt i (b + 8) 4, leAt i (b + 12) 4⟩

def sects (i : Bytes) : List Sect := (List.range (min 12 (leAt i 6 2))).map (sectAt i)

def sectOf (i : Bytes) (kind : Nat) : Option Sect := (sects i).find? (fun s => s.kind == kind)

/-- Bound of a section's COUNT (R85, R88, R103, R193, R209, R310, R317). -/
def countBound (kind : Nat) : Nat :=
  match kind with
  | 1 => 16777216
  | 2 => 64
  | 3 => 65536
  | 4 => 256
  | 5 => 1024
  | 6 => 1024
  | 7 => 1024
  | 8 => 128
  | _ => 48

/-- Bytes of a record of a section of fixed-size records; 0 for the others. -/
def recSize (kind : Nat) : Nat :=
  match kind with
  | 1 => 32
  | 2 => 32
  | 6 => 512
  | 7 => 16
  | 8 => 64
  | 9 => 64
  | _ => 0

/-- The offsets and lengths of the records of a section whose records state their length at byte `at_`, each padded to 64 B. -/
def walkRecs (i : Bytes) (at_ : Nat) : Nat → Nat → List (Nat × Nat)
  | 0, _ => []
  | n + 1, off =>
    let l := (leAt i (off + at_) 4 + 63) / 64 * 64
    (off, l) :: walkRecs i at_ n (off + l)

/-- Where a record of a section states its length. -/
def lenField (kind : Nat) : Nat := if kind = 3 then 4 else if kind = 4 then 12 else 8

/-- The records of a section: offset and padded length. -/
def recsOf (i : Bytes) (s : Sect) : List (Nat × Nat) :=
  if recSize s.kind ≠ 0 then (List.range s.count).map (fun r => (s.off + recSize s.kind * r, recSize s.kind))
  else walkRecs i (lenField s.kind) s.count s.off

/-- The records of a kind; none where the image has no such section. -/
def recsKind (i : Bytes) (kind : Nat) : List Nat :=
  match sectOf i kind with
  | some s => (recsOf i s).map (·.1)
  | none => []

/-- Order 5 on SECTIONS, the directory, and where sections lie. -/
def dirChecks (i : Bytes) : List Chk :=
  let len := leAt i 8 4
  let l := sects i
  chkCount (leAt i 6 2) 12 6 ++
  ((List.range 12).filter (fun e => decide (min 12 (leAt i 6 2) ≤ e))).map (fun e => chkZero i (64 + 16 * e) (80 + 16 * e)) ++
  [6, 7, 9].map (fun k => chkP (l.any (fun s => s.kind == k)) 64) ++
  l.flatMap (fun s =>
    [chkP (decide (1 ≤ s.kind ∧ s.kind ≤ 9)) s.dir, chkZero i (s.dir + 2) (s.dir + 4),
     chkP (l.all (fun t => !(t.kind == s.kind && decide (t.dir < s.dir)))) s.dir,
     chkP (decide (s.off % 64 = 0 ∧ 256 ≤ s.off)) (s.dir + 4),
     chkP (decide (s.len ≠ 0 ∧ s.off + s.len ≤ len)) (s.dir + 8),
     chkP (l.all (fun t => t.dir == s.dir || decide (t.off + t.len ≤ s.off ∨ s.off + s.len ≤ t.off) || decide (s.dir < t.dir)))
       (s.dir + 4)] ++ chkCount s.count (countBound s.kind) (s.dir + 12))

/-- Order 5 on the lengths of sections and of the records in them. -/
def lengthChecks (i : Bytes) : List Chk :=
  (sects i).flatMap (fun s =>
    let l := recsOf i s
    chkP (decide (s.len = (l.map (·.2)).foldl (· + ·) 0)) (s.dir + 8) ::
    (if recSize s.kind ≠ 0 then [] else l.map (fun x => chkP (decide (64 ≤ x.2)) (x.1 + lenField s.kind))))

/-! ### Events (R86, R87) -/

/-- What an event's kind allows: the largest TARGET, and the bytes of ARGS it uses. -/
def evtTargets (k : Nat) : Nat :=
  match k with
  | 1 => 10
  | 2 => 15
  | 3 => 15
  | 5 => 15
  | 6 => 7
  | 7 => 15
  | 8 => 63
  | 10 => 255
  | _ => 0

def evtArgs (k : Nat) : Nat :=
  match k with
  | 1 => 2
  | 2 => 5
  | 3 => 1
  | 4 => 8
  | 6 => 2
  | 7 => 1
  | 9 => 1
  | _ => 0

/-- Order 5 of one event record at offset `o`. -/
def event5 (i : Bytes) (o : Nat) : List Chk :=
  let k := leAt i (o + 8) 1
  if k = 2 then [chkP (decide (leAt i (o + 16) 4 ≠ 0)) (o + 16)]
  else if k = 4 then
    [chkP (decide (leAt i (o + 16) 4 ≠ 0)) (o + 16), chkP (decide (leAt i (o + 20) 4 ≠ 0)) (o + 20),
     chkB (decide (leAt i (o + 16) 4 ≤ 16777216 * leAt i (o + 20) 4) || decide (leAt i (o + 20) 4 = 0)) (o + 16)]
  else []

/-- Order 6 of one event record at offset `o`. -/
def event6 (i : Bytes) (o : Nat) : List Chk :=
  let k := leAt i (o + 8) 1
  let t := leAt i (o + 10) 2
  [chkP (decide (1 ≤ k ∧ k ≤ 10)) (o + 8), chkZero i (o + 9) (o + 10),
   chkP (decide (t ≤ evtTargets k) && !(k == 1 && t == 0)) (o + 10), chkZero i (o + 12) (o + 16),
   chkZero i (o + 16 + evtArgs k) (o + 32)] ++
  (if k = 2 then [chkP (decide (leAt i (o + 20) 1 < 2)) (o + 20)] else []) ++
  (if k = 3 ∨ k = 7 then [chkP (decide (leAt i (o + 16) 1 < 2)) (o + 16)] else []) ++
  (if k = 1 then [chkP ((genContent i t (leAt i (o + 16) 2)).isSome) (o + 16)] else [])

/-- The order of the POS fields of events (R86); LINE_EVENTS' offsets lie within a line pitch. -/
def orderChecks (i : Bytes) (line : Bool) (l : List Nat) : List Chk :=
  let pos (o : Nat) : Int := sx 64 (leAt i o 8)
  (l.zip (l.drop 1)).map (fun x => chkP (decide (pos x.1 ≤ pos x.2)) x.2) ++
  (if line then l.map (fun o =>
    chkP (decide (0 ≤ pos o) && decide (pos o ≤ (imgPitchN i / max 1 (imgPitchD i) : Nat) - 1)) o) else [])

/-! ### Table contents (R88, R105, R106, R117, R152, R191, R309) -/

/-- Lane rates of LANE_RATE in 1/8 Gb/s (R103). -/
def laneGbps8 (code : Nat) : Nat :=
  match code with
  | 0 => 10
  | 1 => 20
  | 2 => 25
  | 3 => 32
  | _ => 40

/-- The segments of an image that run a phase table. -/
def tableUsers (i : Bytes) (t : Nat) : List Bytes := ((segList i).map (·.2)).filter (fun r => rTable r == t)

/-- The phase tables an image names. -/
def namedTables (i : Bytes) : List Nat := (List.range 16).filter (fun t => !(tableUsers i t).isEmpty)

/-- A phase table by its bytes, `g off n` being `n` of them: every condition of R105 and R106, with the run-length condition of R117
as BOUND; offsets count from the table's start. -/
def pgenChecks (g : Nat → Nat → Nat) (users : List Bytes) (rate : Nat) : List Chk :=
  let run := g 0 4
  let per := g 4 2
  let nl := g 20 1
  let np := g 21 1
  let free := g 23 1
  let lt (k : Nat) := g (32 + 8 * k) 4
  let pt (k : Nat) := g (1952 + 8 * k) 2
  let fl (k : Nat) := g (1952 + 8 * k + 3) 1
  let shs := (List.range (min 16 np)).filter (fun k => bitOf (fl k) 1)
  let shr := (List.range (min 16 np)).filter (fun k => bitOf (fl k) 0)
  let digital := users.any (fun r => rVideoMode r == 1)
  let direct := users.any (fun r => rVideoMode r == 2)
  let cds := users.any (fun r => rVideoMode r != 2)
  let zero (lo hi : Nat) : Chk := chkP (decide (g lo (hi - lo) = 0)) lo
  [chkP (decide (run ≠ 0)) 0, chkB (decide (run * rate ≤ 16000000000)) 0,
   chkP (decide (128 ≤ per ∧ per ≤ 4096 ∧ per % 8 = 0) && (!digital || decide (256 ≤ per ∧ per % 16 = 0))) 4, zero 6 8,
   chkP (decide (g 8 4 + 1024 ≤ g 12 4)) 12, chkP (decide (g 12 4 + g 16 4 * per ≤ run)) 16,
   chkP (decide (1 ≤ g 16 4 ∧ g 16 4 ≤ 1048576)) 16,
   chkP (users.all (fun r => decide (rSamples r 0 ≤ g 16 4 ∧ rSamples r 1 ≤ g 16 4))) 16,
   chkP (decide (1 ≤ nl ∧ nl ≤ 240)) 20, chkP (decide (1 ≤ np ∧ np ≤ 16)) 21, chkP (decide (g 22 1 < 64)) 22,
   chkP (decide (free < 64)) 23, chkP (decide (g 24 1 < 64) && (g 24 1 &&& free) == 0) 24, zero 25 32, zero 2080 4096,
   chkP (shs.length == 1) 1952,
   chkP ((!cds || (shr.length == 1 && shr.all (fun a => shs.all (fun b => decide (a < b))))) && (!direct || shr.isEmpty)) 1952] ++
  (List.range 240).flatMap (fun k =>
    let o := 32 + 8 * k
    if k < nl then
      [chkP (decide (lt k < run) && (k == 0 || decide (lt (k - 1) < lt k))) o, chkP (decide (g (o + 4) 1 < 64)) (o + 4),
       chkP (decide (g (o + 5) 1 < 64) && (g (o + 5) 1 &&& free) == 0) (o + 5), zero (o + 6) (o + 8)]
    else [zero o (o + 8)]) ++
  (List.range 16).flatMap (fun k =>
    let o := 1952 + 8 * k
    if k < np then
      [chkP (decide (pt k < per) && (k == 0 || decide (pt (k - 1) < pt k))) o, chkP (decide (g (o + 2) 1 < 64)) (o + 2),
       chkP (decide (fl k < 8)) (o + 3), zero (o + 4) (o + 8)]
    else [zero o (o + 8)])

/-- Whether a phase table of a PGEN bank is valid against an image. -/
def pgenOk (d : Dev) (bank t : Nat) (i : Bytes) : Bool :=
  (firstBad (pgenChecks (fun o n => tget d 1 bank (4096 * t + o) n) (tableUsers i t) (imgLineRate i))).isNone

/-- A device whose bank 0 of class `c` holds a content, for the checks of a table that has not been stored. -/
def withBank (c : Nat) (content : Bytes) (d : Dev) : Dev := { d with tables := Mem.writeBytes [] (bankAddr c 0 0) content }

/-- A generation's content at offset `o` against its image. A failure in PGEN names its field; in another class the start of the
content (log entry 26). -/
def contentChecks (d : Dev) (i : Bytes) (c o : Nat) (content : Bytes) : List Chk :=
  if c = 1 then
    (namedTables i).flatMap (fun t =>
      (pgenChecks (fun a n => leAt content (4096 * t + a) n) (tableUsers i t) (imgLineRate i)).map (fun x =>
        (x.1, x.2.1, o + 4096 * t + x.2.2)))
  else
    let s := withBank c content d
    if c = 2 then
      [chkP ((segList i).all (fun x => offgainSegOk s 0 x.1 x.2)) o,
       chkB (decide (storeUse s 0 i 0 ≤ 4194304 ∧ storeUse s 0 i 1 ≤ 4194304)) o]
    else if c ≤ 6 then [chkP (pipeTableOk s c 0 i) o]
    else [chkP (cmprTableOk s c 0) o]

/-- Order 5 of a record of TABLE_GENERATIONS: CONTENT_LEN and LENGTH. A reserved CLASS has no size; it fails at order 6. -/
def gen5 (i : Bytes) (o : Nat) : List Chk :=
  let c := leAt i o 1
  let n := leAt i (o + 8) 4
  chkCount n (if 1 ≤ c ∧ c ≤ 9 then classSize c else n) (o + 8) ++ [chkP (decide (leAt i (o + 4) 4 = (64 + n + 63) / 64 * 64)) (o + 4)]

/-- Order 6 of the records of TABLE_GENERATIONS. -/
def gen6 (i : Bytes) (l : List Nat) : List Chk :=
  l.flatMap (fun o =>
    let c := leAt i o 1
    let n := leAt i (o + 8) 4
    [chkP (decide (1 ≤ c ∧ c ≤ 9) && bitOf (imgOwner i) c) o, chkZero i (o + 1) (o + 2),
     chkP (l.all (fun p => decide (o ≤ p) || !(leAt i p 1 == c && leAt i (p + 2) 2 == leAt i (o + 2) 2))) (o + 2),
     chkZero i (o + 12) (o + 64), chkZero i (o + 64 + n) (o + leAt i (o + 4) 4)])

/-- The records of INDEX_TABLES: order 5, then order 6. -/
def index5 (i : Bytes) (o : Nat) : List Chk :=
  let n := leAt i (o + 4) 4
  chkCount n 262144 (o + 4) ++ [chkP (decide (leAt i (o + 12) 4 = (64 + 4 * n + 63) / 64 * 64)) (o + 12)]

def index6 (i : Bytes) (l : List Nat) : List Chk :=
  l.flatMap (fun o =>
    [chkP (l.all (fun p => decide (o ≤ p) || leAt i p 2 != leAt i o 2)) o, chkZero i (o + 2) (o + 4), chkZero i (o + 16) (o + 64),
     chkZero i (o + 64 + 4 * leAt i (o + 4) 4) (o + leAt i (o + 12) 4)])

/-! ### Product sets and the ladder (R209, R210, R284) -/

def prod5 (i : Bytes) (o : Nat) : List Chk :=
  chkCount (leAt i o 1) 31 o ++ [chkP (decide (leAt i (o + 4) 4 ≠ 0)) (o + 4)] ++
  (List.range (min 31 (leAt i o 1))).flatMap (fun e =>
    let b := o + 16 + 16 * e
    let k := leAt i b 1
    (if k = 4 ∨ k = 8 then chkCount (leAt i (b + 4) 4) 65536 (b + 4) else []) ++
    (if k = 3 then chkCount (leAt i (b + 8) 2) 256 (b + 8) ++ chkCount (leAt i (b + 10) 2) 4096 (b + 10) else []))

def prod6 (i : Bytes) (o : Nat) : List Chk :=
  let n := min 31 (leAt i o 1)
  [chkZero i (o + 1) (o + 4), chkZero i (o + 8) (o + 16), chkZero i (o + 16 + 16 * n) (o + 512)] ++
  (List.range n).flatMap (fun e =>
    let b := o + 16 + 16 * e
    let k := leAt i b 1
    let fl := leAt i (b + 1) 1
    [chkP (decide (1 ≤ k ∧ k ≤ 10)) b,
     chkP (decide (fl < 8) && (!bitOf fl 0 || [1, 2, 3, 8].contains k) && (!bitOf fl 2 || [1, 2, 7].contains k)) (b + 1),
     chkP (if k = 2 then decide (1 ≤ leAt i (b + 2) 1 ∧ leAt i (b + 2) 1 ≤ 3) else decide (leAt i (b + 2) 1 = 0)) (b + 2),
     chkZero i (b + 3) (b + 4), chkZero i (b + 12) (b + 16)] ++
    (if k = 4 ∨ k = 8 then [] else [chkZero i (b + 4) (b + 8)]) ++ (if k = 3 then [] else [chkZero i (b + 8) (b + 12)]))

/-- LADDER: one record for each product set, each F at least 1 and at most the F before it. -/
def ladderChecks (i : Bytes) : List Chk :=
  match sectOf i 7, sectOf i 6 with
  | some s, some p =>
    chkP (decide (s.count = p.count)) (s.dir + 12) ::
    (recsKind i 7).flatMap (fun o => (List.range 4).map (fun r =>
      chkP (decide (leAt i (o + 4 * r) 4 ≠ 0) && (r == 0 || decide (leAt i (o + 4 * r) 4 ≤ leAt i (o + 4 * r - 4) 4))) (o + 4 * r)))
  | _, _ => []

/-! ### Triggers, sequencers and the page rule (R193 to R200) -/

def trig5 (i : Bytes) (o : Nat) : List Chk :=
  let t := leAt i o 1
  if t = 1 then
    [chkP (decide (leAt i (o + 16) 8 ≠ 0)) (o + 16), chkP (decide (leAt i (o + 24) 8 ≠ 0)) (o + 24),
     chkP (!bitOf (leAt i (o + 5) 1) 1 || decide (leAt i (o + 32) 8 ≠ 0)) (o + 32)]
  else if t = 2 then
    [chkP (decide (leAt i (o + 4) 4 ≠ 0)) (o + 4), chkP (!bitOf (leAt i (o + 10) 1) 1 || decide (leAt i (o + 16) 8 ≠ 0)) (o + 16)]
  else if t = 3 then
    chkCount (leAt i (o + 32) 4) (leAt i (o + 36) 4) (o + 32) ++ chkCount (leAt i (o + 36) 4) 16777216 (o + 36) ++
    (if leAt i (o + 4) 1 = 3 then chkCount (leAt i (o + 40) 4) (leAt i (o + 36) 4) (o + 40) else []) ++
    [chkP (decide (leAt i (o + 2) 1 ≠ 3) || decide (leAt i (o + 24) 8 ≠ 0)) (o + 24),
     chkP (!bitOf (leAt i (o + 6) 1) 0 || decide (leAt i (o + 52) 4 ≠ 0)) (o + 52)]
  else []

/-- A trigger unit's record (R194 to R196). -/
def unit6 (i : Bytes) (l : List Nat) (o : Nat) : List Chk :=
  let g (a n : Nat) := leAt i (o + a) n
  let binary := g 3 1 = 0 ∨ g 3 1 = 3
  let mean := g 3 1 = 2 ∧ g 4 1 = 0
  [chkP (decide (g 1 1 < 32) && l.all (fun p => decide (o ≤ p) || !(leAt i p 1 == 1 && leAt i (p + 1) 1 == g 1 1))) (o + 1),
   chkP (decide (1 ≤ g 2 1 ∧ g 2 1 ≤ 4) && !(decide binary && (g 2 1 == 2 || g 2 1 == 4))) (o + 2),
   chkP (decide (g 3 1 ≤ 3)) (o + 3),
   chkP (decide (g 4 1 < (if g 3 1 = 0 then 16 else if g 3 1 = 1 then 32 else if g 3 1 = 2 then 3 else 8))) (o + 4),
   chkP (decide (g 5 1 < 4)) (o + 5),
   chkP (decide (g 6 1 ≤ 2) && (if g 3 1 = 2 then decide (1 ≤ g 6 1) else decide (g 6 1 ≤ 1))) (o + 6),
   chkP (decide (g 7 1 < 4) && (decide mean || g 7 1 == 0)) (o + 7),
   chkP (!decide binary || g 8 4 == 0) (o + 8),
   chkP (if binary then g 12 4 == 0 else decide (sx 32 (g 8 4) < sx 32 (g 12 4))) (o + 12),
   chkP (decide (g 16 8 ≤ g 24 8)) (o + 24),
   chkP (bitOf (g 5 1) 1 || g 32 8 == 0) (o + 32),
   chkP (decide (g 40 4 < 2 ^ 18) && (decide mean || g 40 4 == 0)) (o + 40),
   chkP (decide (g 44 4 < 2 ^ 18) && (if mean then decide (g 40 4 ≤ g 44 4) else g 44 4 == 0)) (o + 44),
   chkZero i (o + 48) (o + 64)]

/-- A sequencer state's record (R198). -/
def seq6 (i : Bytes) (l : List Nat) (o : Nat) : List Chk :=
  let g (a n : Nat) := leAt i (o + a) n
  let state (st : Nat) : Bool := l.any (fun p => leAt i p 1 == 2 && leAt i (p + 1) 1 == g 1 1 && leAt i (p + 2) 1 == st)
  [chkP (decide (g 1 1 < 4)) (o + 1),
   chkP (decide (g 2 1 < 16) && l.all (fun p => decide (o ≤ p) ||
     !(leAt i p 1 == 2 && leAt i (p + 1) 1 == g 1 1 && leAt i (p + 2) 1 == g 2 1))) (o + 2),
   chkP (decide (g 3 1 < 32) && l.any (fun p => leAt i p 1 == 1 && leAt i (p + 1) 1 == g 3 1)) (o + 3),
   chkP (decide (g 8 1 < 16) && state (g 8 1)) (o + 8), chkP (decide (g 9 1 < 16) && state (g 9 1)) (o + 9),
   chkP (decide (g 10 1 < 4)) (o + 10), chkP (decide (g 11 1 ≤ 2)) (o + 11),
   chkP (bitOf (g 10 1) 1 || g 16 8 == 0) (o + 16), chkZero i (o + 24) (o + 64)]

/-- The page rule's record (R200). -/
def rule6 (i : Bytes) (o : Nat) : List Chk :=
  let g (a n : Nat) := leAt i (o + a) n
  let num (src n : Nat) : Bool := if src = 0 then decide (n < 32) else if src = 1 then decide (n < 4) else n == 0
  [chkP (decide (g 1 1 ≤ 1)) (o + 1), chkP (decide (g 2 1 ≤ 4) && !(g 2 1 == 3 && g 1 1 == 1)) (o + 2),
   chkP (num (g 2 1) (g 3 1)) (o + 3),
   chkP (decide (g 4 1 ≤ 5) && (if g 1 1 = 0 then g 4 1 == 5 else g 4 1 != 5)) (o + 4), chkP (num (g 4 1) (g 5 1)) (o + 5),
   chkP (decide (g 6 1 < 8) && !(bitOf (g 6 1) 2 && g 1 1 == 0)) (o + 6), chkP (decide (g 7 1 < 4)) (o + 7),
   chkP (g 2 1 == 3 || g 24 8 == 0) (o + 24), chkP (g 4 1 == 3 || g 40 4 == 0) (o + 40), chkZero i (o + 46) (o + 48),
   chkZero i (o + 56) (o + 64)]

def trig6 (i : Bytes) : List Chk :=
  let l := recsKind i 8
  match sectOf i 8 with
  | none => []
  | some s =>
    chkP ((l.filter (fun o => leAt i o 1 == 3)).length == 1) s.off ::
    l.flatMap (fun o =>
      let t := leAt i o 1
      if t = 1 then unit6 i l o else if t = 2 then seq6 i l o else if t = 3 then rule6 i o else [chkP false o])

/-! ### The segment map (R103, R104, R117) -/

def seg5 (i : Bytes) (o : Nat) : List Chk :=
  let r := (i.drop o).take 64
  let used (n : Nat) := bitOf (leAt r 3 1) n
  let cnt (n a bound : Nat) : List Chk := if used n then chkCount (leAt r a 4) bound (o + a) else []
  [16, 18, 20].map (fun a => chkP (decide (leAt r a 2 ≠ 0)) (o + a)) ++ chkCount (leAt r 24 4) 262144 (o + 24) ++
  cnt 0 28 1048576 ++ cnt 1 32 1048576 ++ cnt 2 36 1048576 ++
  (if used 2 then
    let p := (leAt r 36 4 * rLaneBits r + 7) / 8
    let g := laneGbps8 (leAt r 41 1)
    [chkB (decide ((leAt r 44 4 * g + (p + 10) * 80) * imgLineRate i ≤ 1000000000 * g)) (o + 44)]
   else [])

def seg6 (i : Bytes) (l : List Nat) (o : Nat) : List Chk :=
  let g (a n : Nat) := leAt i (o + a) n
  let mask := g 8 8 % 2 ^ 48
  let on (b : Nat) : Bool := bitOf (g 3 1) b
  let n (b a : Nat) : Nat := if on b then g a 4 else 0
  let gens (m : Nat) : List Nat := ((bitsOf m 48).map portGen).eraseDups
  [chkP (decide (g 0 1 < 48) && l.all (fun p => decide (o ≤ p) || leAt i p 1 != g 0 1)) o,
   chkP (decide (g 1 1 < 16) && l.all (fun p => decide (o ≤ p) || leAt i (p + 1) 1 == g 1 1 ||
     !((gens (leAt i (p + 8) 8)).any (fun x => (gens mask).contains x)))) (o + 1),
   chkP (decide (1 ≤ g 2 1 ∧ g 2 1 ≤ 4)) (o + 2), chkP (decide (g 3 1 < 16) && (on 0 || on 1 || on 2)) (o + 3),
   chkP (decide (g 4 1 < 64)) (o + 4), chkP (decide (g 5 1 < 4)) (o + 5),
   chkP (decide (mask ≠ 0) && decide (g 8 8 < 2 ^ 48) && l.all (fun p => decide (o ≤ p) || (leAt i (p + 8) 8 &&& mask) == 0)) (o + 8),
   chkZero i (o + 22) (o + 24),
   chkP (decide ((n 0 28 + n 1 32 + n 2 36) * (bitsOf mask 48).length = g 24 4 * g 2 1)) (o + 24),
   chkP (on 0 || g 28 4 == 0) (o + 28), chkP (on 1 || g 32 4 == 0) (o + 32), chkP (on 2 || g 36 4 == 0) (o + 36),
   chkP (decide (g 40 1 ≤ 3) && (on 2 || g 40 1 == 0)) (o + 40), chkP (decide (g 41 1 ≤ 4) && (on 2 || g 41 1 == 0)) (o + 41),
   chkP (decide (g 42 1 ≤ 2) && (on 0 || on 1 || g 42 1 == 0)) (o + 42), chkP (decide (g 43 1 ≤ 1)) (o + 43),
   chkP (decide (g 44 4 ≤ 1000000) && (on 2 || g 44 4 == 0)) (o + 44), chkZero i (o + 48) (o + 64)]

/-! ### Motion tables (R317) -/

/-- The tables of MOTION_SEGMENTS: unique numbers, and each within its rules. -/
def motionChecks (i : Bytes) : List Chk :=
  let l := recsKind i 5
  l.flatMap (fun o =>
    let b := (i.drop o).take (leAt i (o + 8) 4)
    [chkP (l.all (fun p => decide (o ≤ p) || leAt i p 2 != leAt i o 2)) o,
     chkZero i (o + leAt i (o + 8) 4) (o + (leAt i (o + 8) 4 + 63) / 64 * 64)] ++
    (match tableBad b with
     | some k => [chkP false (o + k)]
     | none => []))

/-! ### Budget (R29) -/

/-- Samples per line a segment's ports deliver on its enabled sources. -/
def segSamples (r : Bytes) : Nat := (rSamples r 0 + rSamples r 1 + rSamples r 2) * (rPorts r).length

/-- BUDGET, with the offset of the field that the first row of R29 whose figure exceeds its limit at MAX_LINE_RATE comes from. -/
def budget (i : Bytes) : Option (Nat × Nat) :=
  let rate := imgLineRate i
  let recs := (recsKind i 9).map (fun o => (o, (i.drop o).take 64))
  let chan (digital : Bool) (lim : Nat) : Option Nat :=
    ((recs.filter (fun x => (rVideoMode x.2 == 1) == digital)).find? (fun x =>
      decide (lim < rSamples x.2 0 * rate) || decide (lim < rSamples x.2 1 * rate))).map (fun x =>
        x.1 + (if lim < rSamples x.2 0 * rate then 28 else 32))
  let half (h : Nat) : Nat := ((recs.filter (fun x => segHalf x.2 == h)).map (fun x => segSamples x.2)).foldl (· + ·) 0
  let cols := (recs.map (fun x => rColumns x.2)).foldl (· + ·) 0
  let start := match sectOf i 9 with
    | some s => s.off
    | none => 0
  match chan false 125000000, chan true 62500000 with
  | some o, _ => some (stBUDGET, o)
  | _, some o => some (stBUDGET, o)
  | _, _ =>
    match recs.find? (fun x => decide (320000000 < rSamples x.2 2 * rate)) with
    | some x => some (stBUDGET, x.1 + 36)
    | none =>
      if 16000000000 < half 0 * rate ∨ 16000000000 < half 1 * rate then some (stBUDGET, start)
      else if 262144 < cols then some (stBUDGET, start)
      else (recs.find? (fun x => decide (4 < rPlanes x.2))).map (fun x => (stBUDGET, x.1 + 2))

/-! ### TTBL_LOAD (R89) -/

/-- Order 2. -/
def order2 (i : Bytes) (len : Nat) : List Chk :=
  [chkP (decide (leAt i 0 4 = 0x31545644)) 0, chkP (decide (leAt i 4 2 = 1)) 4, chkP (decide (leAt i 8 4 = len)) 8,
   chkP (decide (leAt i 21 1 < 8)) 21, chkZero i 56 64]

/-- Order 5 on the header's values. -/
def header5 (i : Bytes) : List Chk :=
  [chkP (decide (imgLineRate i ≠ 0)) 16, chkP (decide (imgRatioN i ≠ 0)) 24,
   chkB (decide (imgRatioN i ≤ 16777216 * imgRatioD i) || decide (imgRatioD i = 0)) 24, chkP (decide (imgRatioD i ≠ 0)) 28,
   chkP (decide (imgPitchN i ≠ 0)) 32, chkP (decide (imgPitchD i ≠ 0)) 36]

/-- Order 6 on the header's values. -/
def header6 (i : Bytes) : List Chk :=
  [chkP (decide (imgLineRate i ≤ 2000000)) 16, chkP (decide (imgSrcKind i ≤ 2)) 20,
   chkP (!bitOf (imgOwner i) 0 && decide (imgOwner i < 2048)) 22]

/-- Failures of table contents that are BOUND belong to order 5, the others to order 6. -/
def contents (d : Dev) (i : Bytes) : List Chk :=
  (recsKind i 3).flatMap (fun o => contentChecks d i (leAt i o 1) (o + 64) ((i.drop (o + 64)).take (leAt i (o + 8) 4))) ++
  (recsKind i 4).flatMap (fun o => match findIndex (leAt i o 2) 1 (i.drop o) with
    | some b => contentChecks d i 10 (o + 64) b
    | none => [])

def order5 (d : Dev) (i : Bytes) : List Chk :=
  (recsKind i 1).flatMap (event5 i) ++ (recsKind i 2).flatMap (event5 i) ++ (recsKind i 3).flatMap (gen5 i) ++
  (recsKind i 4).flatMap (index5 i) ++ (recsKind i 5).flatMap (fun o => chkCount (leAt i (o + 4) 4) 4096 (o + 4)) ++ (recsKind i 6).flatMap (prod5 i) ++ (recsKind i 8).flatMap (trig5 i) ++
  (recsKind i 9).flatMap (seg5 i) ++ (contents d i).filter (fun x => x.2.1 == stBOUND)

def order6 (d : Dev) (i : Bytes) : List Chk :=
  header6 i ++ (recsKind i 1).flatMap (event6 i) ++ orderChecks i false (recsKind i 1) ++ (recsKind i 2).flatMap (event6 i) ++
  orderChecks i true (recsKind i 2) ++ gen6 i (recsKind i 3) ++ index6 i (recsKind i 4) ++ motionChecks i ++
  (recsKind i 6).flatMap (prod6 i) ++ ladderChecks i ++ trig6 i ++ (recsKind i 9).flatMap (seg6 i (recsKind i 9)) ++
  (contents d i).filter (fun x => x.2.1 != stBOUND)

/-- The first failure of an image: status, offset, order, and DETAIL: 0x40 for what is found inside the image, order 7 included (R89; R47
has the row of R29 there: log entry 27). Within order 5 the records are examined once the header and the directory hold, since they
are found through it. -/
def imageBad (d : Dev) (i : Bytes) (len : Nat) : Option (Nat × Nat × Nat × Nat) :=
  let at_ (o : Nat) (x : Nat × Nat) : Nat × Nat × Nat × Nat := (x.1, x.2, o, 0x40)
  match firstBad (order2 i len) with
  | some x => some (at_ 2 x)
  | none =>
    if crc32c (putBytes i 12 (zeros 4)) ≠ leAt i 12 4 then some (stINTEGRITY, 12, 3, 0x40)
    else
      let held := (d.esc.images.map (fun x => (x.getD []).length)).foldl (· + ·) 0
      if d.esc.images.all (·.isSome) ∨ 1073741824 < held + len then some (stBOUND, 0, 4, 0x48)
      else match firstBad (header5 i ++ dirChecks i) with
        | some x => some (at_ 5 x)
        | none => match firstBad (lengthChecks i ++ order5 d i) with
          | some x => some (at_ 5 x)
          | none => match firstBad (order6 d i) with
            | some x => some (at_ 6 x)
            | none => (budget i).map (at_ 7)

/-- The image numbers without an image. -/
def freeImages (d : Dev) : List Nat := (List.range 4).filter (fun n => (d.esc.images.getD n none).isNone)

/-- TTBL_LOAD: what the fetch of the image answers is given; R89 does not say which free number an image takes (log entry 15). -/
def ttblLoad (c : Cmd) (img : Fetch) (d : Dev) : Dev :=
  needDom dESC c (fun d =>
    match img with
    | .failed cause => complete c stDMA_ERR cause [] d
    | .ok b =>
      let len := leAt c.block 8 4
      let i := fitBytes len b
      match imageBad d i len with
      | some (st, off, o, det) =>
        let d := if o = 4 then d else
          sf .TTBL_LOAD_ERR 0 TTBL_LOAD_ERR.ORDER o (sf .TTBL_LOAD_ERR 0 TTBL_LOAD_ERR.STATUS st
            (sf .TTBL_LOAD_ERR 0 TTBL_LOAD_ERR.OFFSET off d))
        complete c st det [] d
      | none =>
        let n := (pickFree d (freeImages d)).getD 0
        let d := esc (fun e => { e with images := setAt e.images n (some i) }) (useFresh d)
        completeOk c (leBytes 1 n) (sf .TTBL_IMAGE n TTBL_IMAGE.LOADED 1 (wn .TTBL_IMAGE_LEN n len d))) d

/-! ### TTBL_ACTIVATE and TTBL_UNLOAD (R90, R91) -/

/-- The bytes of PRODUCT_ROUTING and LADDER of an image. -/
def routing (i : Bytes) : Bytes × Bytes := ((section_ i 6).1, (section_ i 7).1)

/-- TTBL_UNLOAD. -/
def ttblUnload (c : Cmd) (d : Dev) : Dev :=
  needDom dESC c (fun d =>
    let n := leAt c.entry 8 1
    let pend := match d.esc.actPend with
      | some p => p.image == n
      | none => false
    if (d.esc.images.getD n none).isNone || (!activeNone d && activeNum d == n) || pend then complete c stSTATE dESC [] d
    else completeOk c [] (unloadImage n d)) d

/-- ABORT of a TTBL_ACTIVATE that waits: the activation is withdrawn (R51). -/
def actAbort (c : Cmd) (d : Dev) : Dev :=
  match d.esc.actPend with
  | some p =>
    if p.sq = c.sq ∧ p.tag = c.tag then
      sf .TTBL_IMAGE p.image TTBL_IMAGE.PENDING 0 (esc (fun e => { e with actPend := none }) d)
    else d
  | none => d

end Sys2Proof.Machine
end

