-- ==== Sys2Proof/Machine/Release.lean ====
section
/-!
DEFINITION. Machine/Release.lean: the comparator bank at work: what a timetable event does at its release, the release of slots and
their refill, and the end of an output's pulse (R81, R86, R87, R92, R93, R224, R365).
-/
namespace Sys2Proof.Machine

/-- What a timetable event does at its release, by kind (R87). -/
def eventEffect (e : TEvent) (d : Dev) : Dev :=
  let a (o n : Nat) : Nat := leAt e.args o n
  match e.kind with
  | 1 => genRelease e.target (a 0 2) d
  | 2 => outPulse e.target (a 0 4) (bitOf (a 4 1) 0) d
  | 3 => outLevel e.target (bitOf (a 0 1) 0) d
  | 4 => applyRatio (a 0 4) (a 4 4) d
  | 5 => auxConvEvent (e.target % 16) d
  | 6 => axEventMove e.target (a 0 2) d
  | 7 => calMark e.target (a 0 1 == 0) d
  | 8 => dmaPace e.target d
  | 9 => syncArmEvent (a 0 1) d
  | 10 => occurAt Src.TT_MARK d.now (trackPos d) e.target 0 0 d
  | _ => d

/-- Whether a position has been reached, where releases are not held back: the track does not run in reverse (R81), and pacing does
not withhold the position (R336). -/
def reached (d : Dev) (p : Int) : Bool := !d.esc.reverse && decide (p ≤ trackPos d) && !paceHolds d p

/-- The first element that passes a test, and the list without it. -/
def takeFirst {V : Type} (t : V → Bool) : List V → Option (V × List V)
  | [] => none
  | x :: l =>
    if t x then some (x, l)
    else match takeFirst t l with
      | some (y, r) => some (y, x :: r)
      | none => none

/-- The timetable slot that releases next: of those reached, ONCE_EVENTS before LINE_EVENTS, each in list order (R86). -/
def dueSlot (d : Dev) : Option (TEvent × List TEvent) :=
  match takeFirst (fun e => e.once && reached d e.pos) d.esc.slots with
  | some x => some x
  | none => takeFirst (fun e => reached d e.pos) d.esc.slots

/-- A slot has released its event. -/
def releaseSlot (x : TEvent × List TEvent) (d : Dev) : Dev :=
  eventEffect x.1 (showBank (esc (fun e => { e with slots := x.2 }) d))

/-- SLOT_RELEASE: the next slot whose position is reached acts: timetable slots first, then actuation slots (R86, R92). -/
def slotRelease (d : Dev) : Dev :=
  match dueSlot d with
  | some x => releaseSlot x d
  | none =>
    match takeFirst (fun a => reached d a.pos) d.esc.acts with
    | some x => actFire x.1 (showBank (esc (fun e => { e with acts := x.2 }) d))
    | none => d

/-- Slots are filled with the next events, at most `n` of them; one already reached is released at once and counted late (R92). -/
def refill : Nat → Dev → Dev
  | 0, d => d
  | n + 1, d =>
    match activeImage d with
    | none => d
    | some i =>
      if 384 ≤ d.esc.slots.length then d
      else match nextEvent d i with
        | none => d
        | some (ev, once) =>
          let d := esc (advanceCursor i once) d
          if reached d ev.pos then refill n (eventEffect ev (incSat .ESC_EVT_LATE 0 d))
          else refill n (showBank (esc (fun e => { e with slots := e.slots ++ [ev] }) d))

/-- SLOT_REFILL: the cores, where they run, load up to 384 events into freed slots (R92, R365). -/
def slotRefill (d : Dev) : Dev := if domUp d dESC then refill 384 d else d

/-- EVOUT_PULSE_END: the pulse on an output has ended, and it shows its kept level (R224). -/
def evoutPulseEnd (o : Nat) (d : Dev) : Dev :=
  showOuts { d with sync := { d.sync with outs := modAt d.sync.outs o (evOutSettle d.now) } }

end Sys2Proof.Machine
end

