-- ==== Sys2Proof/Machine/Handover.lean ====
section
/-!
DEFINITION. Machine/Handover.lean: the hand-over of a line, captured or skipped, the activation of an image, and the hand-over host
software asks for (R30, R71, R79, R80, R90, R95 to R99, R106, R153, R287, R365, R432).
-/
namespace Sys2Proof.Machine

/-! ### Tables that come into force (R106, R152, R191, R309) -/

/-- The segments of an image whose phase table in a PGEN bank is not valid. -/
def badPgen (d : Dev) (bank : Nat) (i : Bytes) : List (Nat × Bytes) := (segList i).filter (fun x => !pgenOk d bank (rTable x.2) i)

/-- PGEN_INVALID for each of the segments, of each die that holds a port of it. -/
def pgenInvalid (l : List (Nat × Bytes)) (d : Dev) : Dev :=
  l.foldl (fun d x => (List.range 4).foldl (fun d k =>
    if (rPorts x.2).any (fun p => portDie p == k) then occur (Src.PGEN_INVALID k) k x.1 0 d else d) d) d

/-- Phase tables in force against an image that activates, where the host owns PGEN. -/
def recheckPgen (i : Bytes) (d : Dev) : Dev :=
  let l := if bitOf (imgOwner i) 1 then [] else badPgen d (bankIn d 1) i
  pgenInvalid l (fe (fun x => { x with badTable := l.foldl (fun m y => m + 2 ^ y.1) 0 }) d)

/-- A host commit whose table is not valid against an image is refused: its bank does not swap, and its source sets its flag.
Conditions that name the active image need one (log entry 28). -/
def refuseCommit (i : Option Bytes) (d : Dev) (c : Nat) : Dev :=
  if !bitOf (rf d .TTBL_GEN_STATUS 0 TTBL_GEN_STATUS.PENDING) c || d.esc.genPend.any (fun g => g.cls == c) then d
  else
    let b := bankOut d c
    if c = 1 then
      match i with
      | some i =>
        let l := badPgen d b i
        if l.isEmpty then d else pgenInvalid l (clearCommit c d)
      | none => d
    else if c ≤ 6 then
      match i with
      | some i => if pipeTableOk d c b i then d else occur Src.PIPE_TABLE_INVALID c 0 0 (clearCommit c d)
      | none => if pipeTableOkIdle d c b then d else occur Src.PIPE_TABLE_INVALID c 0 0 (clearCommit c d)
    else if cmprTableOk d c b then d
    else occur (if c = 10 then Src.DMA_TABLE_INVALID else Src.CMPR_TABLE_INVALID) c 0 0 (clearCommit c d)

/-- What a swap of a class entails: which segments lose their alignment history, and what is masked (R140, R148, R152). -/
def afterSwap (i : Option Bytes) (old d : Dev) (c : Nat) : Dev :=
  if bankIn old c = bankIn d c then d
  else
    let d := if c = 1 then fe (fun x => { x with badTable := 0 }) d else d
    let d := if c = 5 ∨ c = 6 then pipe (fun p => { p with planeMarks := p.planeMarks ++ [rn d .ESC_LINE 0] }) d else d
    match i with
    | some i =>
      let d := if c = 2 then
          let l := offgainChanged d i (bankIn old 2) (bankIn d 2)
          esc (fun e => { e with discard := e.discard ++ l.filter (fun s => !e.discard.contains s) }) d
        else d
      if c = 2 ∨ c = 5 then markTables i d else d
    | none => d

/-- Everything a hand-over brings into force: RWS values, host commits and GEN events, then an accepted drift content; segments enter
and leave delivery (R95). `activates` says that it is an image's activation. -/
def bringIn (activates : Bool) (d0 : Dev) : Dev :=
  let i := activeImage d0
  let d1 := if rb d0 .TTBL_SHADOW_CTRL 0 TTBL_SHADOW_CTRL.HOLD then d0 else (List.range' 1 10).foldl (refuseCommit i) d0
  let d2 := shadowHandover activates d1
  let d3 := (List.range' 1 10).foldl (afterSwap i d1) d2
  let swapped := [2, 4, 5].filter (fun c => bankIn d1 c ≠ bankIn d3 c)
  segsHandover (calTables swapped (calInForce d3))

/-- The count of hand-overs (R90, R99). -/
def countHandover (d : Dev) : Dev := wn .TTBL_HANDOVERS 0 (rn d .TTBL_HANDOVERS 0 + 1) d

/-! ### Activation (R74, R83, R90, R97) -/

/-- Events of the former image that lie before A are released, those in slots first; the count bounds those not yet in slots. -/
def releaseBefore : Nat → Int → Dev → Dev
  | 0, _, d => d
  | n + 1, a, d =>
    match takeFirst (fun e => e.once && decide (e.pos < a)) d.esc.slots with
    | some x => releaseBefore n a (releaseSlot x d)
    | none => match takeFirst (fun e => decide (e.pos < a)) d.esc.slots with
      | some x => releaseBefore n a (releaseSlot x d)
      | none => match (activeImage d).bind (fun i => (nextEvent d i).map (fun x => (i, x))) with
        | some (i, ev, once) =>
          if d.esc.slots.isEmpty && decide (ev.pos < a) then
            releaseBefore n a (eventEffect ev (incSat .ESC_EVT_LATE 0 (esc (advanceCursor i once) d)))
          else d
        | none => d

/-- A bound on the events of the active image that lie before `a`: those in slots, the rest of ONCE_EVENTS, and LINE_EVENTS of every line
from the next one taken on. -/
def releaseBound (d : Dev) (a : Int) : Nat :=
  d.esc.slots.length + (match activeImage d with
    | some i => (section_ i 1).2 +
        (section_ i 2).2 * ((a - linePlace d i d.esc.lineEvK).toNat * imgPitchD i / max 1 (imgPitchN i) + 2)
    | none => 0)

/-- No image is active any more: host software owns every class but DRIFT (R94). -/
def deactivate (d : Dev) : Dev :=
  let n := activeNum d
  let d := sf .TTBL_GEN_OWNER 0 TTBL_GEN_OWNER.TT 0x800 d
  let d := sf .TTBL_IMAGE n TTBL_IMAGE.ACTIVE 0 (sf .TTBL_STATUS 0 TTBL_STATUS.NONE 1 d)
  showBank (esc (fun e => { e with slots := [], imageBad := false }) d)

/-- The pending image takes effect at A, the track position now: ownership first, then its source and ratio where they differ (log
entry 71), segments, page rule, triggers and events. The command completes. -/
def activate (p : ActPend) (d0 : Dev) : Dev :=
  let a := trackPos d0
  let old := activeImage d0
  let d := releaseBefore (releaseBound d0 a) a d0
  match d.esc.images.getD p.image none with
  | none => endActivate p d
  | some i =>
    let d := maskLagged (fun s => (old.bind (fun b => segRecOf b s)) ≠ segRecOf i s) d
    let d := takeOwnership (imgOwner i) (if old.isSome then deactivate d else d)
    let d := sf .TTBL_IMAGE p.image TTBL_IMAGE.PENDING 0 (sf .TTBL_IMAGE p.image TTBL_IMAGE.ACTIVE 1
      (sf .TTBL_STATUS 0 TTBL_STATUS.ACT_LATE (b2n p.late) (sf .TTBL_STATUS 0 TTBL_STATUS.NONE 0 (sf .TTBL_STATUS 0 TTBL_STATUS.ACTIVE_NUM p.image (ws64 .TTBL_ACT_POS 0 a d)))))
    let d := esc (fun e => { e with
      actPend := none, actPos := a, lineK := firstLine i, onceNext := 0, lineEvK := firstLine i, lineEvNext := 0, slots := []
      imageBad := false }) d
    let d := changeSource (imgSrcKind i) (imgSrcNum i) d
    let same := decide (d.esc.srcKind = d0.esc.srcKind) && decide (d.esc.srcNum = d0.esc.srcNum) &&
      decide (ratioN d = imgRatioN i) && decide (ratioD d = imgRatioD i)
    let d := if same then d else applyRatio (imgRatioN i) (imgRatioD i) d
    let d := sf .ESC_SOURCE 0 ESC_SOURCE.KIND (imgSrcKind i) (sf .ESC_SOURCE 0 ESC_SOURCE.NUM (imgSrcNum i)
      (sfIn .ESC_SOURCE 0 ESC_SOURCE.KIND (imgSrcKind i) (sfIn .ESC_SOURCE 0 ESC_SOURCE.NUM (imgSrcNum i) d)))
    let d := segsActivate old (some i) d
    let d := recheckPgen i (recheckTables i d)
    let d := trigActivate ⟨d.now, a, lastLine d⟩ (pagesActivate a d)
    let d := calActivate old (some i) d
    let d := match findCmd d p.sq p.tag with
      | some c => completeOk c [] d
      | none => d
    showNextLine d

/-! ### The hand-over of a line (R30, R79, R80, R95, R153, R287) -/

/-- A line position that passes while the cores are in reset: its number is spent, and nothing else happens (R365). -/
def passLine (d : Dev) : Dev :=
  let d := maskLagged (fun _ => true) d
  let d := wn .ESC_LINE 0 ((rn d .ESC_LINE 0 + 1) % 2 ^ 56) d
  showNextLine (esc (fun e => { e with lineK := e.lineK + 1, skippedLines := e.skippedLines + 1 }) d)

/-- Why a line is not captured: a generator's run has not ended, a pipeline half is in reset, a table of the pipeline is being
restored, or its products find no room (R30, R107, R153, R287, R431). The overspeed is recorded, and so is want of room. -/
def skips (n start : Nat) (d : Dev) : Bool × Dev :=
  let ovf := overrunGens start d
  let down := !domUp d (dPIPE 0) || !domUp d (dPIPE 1) || d.pipe.restoring.any (fun c => [2, 3, 4, 5, 6, 11].contains c)
  if !ovf.isEmpty then (true, occur Src.OVERSPEED n 0 0 (ovf.foldl (fun d g => incSat .PG_OVERRUN g d) d))
  else if down then (true, d)
  else if starved n d then (true, occur Src.QUE_STARVED n 0 0 (incSat .QUE_STARVED_LINES 0 d))
  else (false, d)

/-- A captured line: its exposure starts, and what is in force for it is kept with it (R80, R96, R142, R156). -/
def captureLine (n k start : Nat) (place pos : Int) (d0 : Dev) : Dev :=
  let i := (activeImage d0).getD []
  let masked := maskedNow d0 ||| tableMasked d0
  let d := notePolls n masked (countMasked masked d0)
  let t := latchTemps n ((segList i).map (fun x => (x.1, segHalf x.2))) (bankIn d 3) d
  let r := startRuns n start t.2
  let pg := d.pages.cur
  let line : LineRec := {
    num := n, k := k, place := place, pos := pos, start := start, skipped := min 65535 d.esc.skippedLines
    gens := (List.range 12).map (fun c => rf d .TTBL_GEN_INFORCE c TTBL_GEN_INFORCE.GEN)
    banks := (List.range 12).map (bankIn d)
    shadow := d.inforce, masked := masked, runs := r.2, complete := false, verdict := false
    page := (pg.map (·.num)).getD 0, inPage := pg.isSome, pageLine := n - (pg.map (·.first)).getD n
    rung := rungD d, reversed := d.esc.revSince, ratioChanged := d.esc.ratioSince, suspect := suspectNow masked d
    temps := t.1, discard := d.esc.discard, warp := warpNow d
    unreg := !rb d .CMPR_REG_APPLIED 0 CMPR_REG_APPLIED.REGISTERED, marks := calMarks d, img := i }
  esc (fun e => { e with
    lines := e.lines ++ [line], discard := [], revSince := false, ratioSince := false, skippedLines := 0 }) r.1

/-- The hand-over of the next line of the active image `i0`, whose start is committed. An activation due at it applies first. -/
def lineHandover (start : Nat) (i0 : Bytes) (d0 : Dev) : Dev :=
  let n := rn d0 .ESC_LINE 0
  let k := d0.esc.lineK
  let place := linePlace d0 i0 k
  let before := if firstLine i0 < k then some (linePlace d0 i0 (k - 1)) else none
  let pos := startPos d0 start
  let due := match d0.esc.actPend with
    | some p => if p.pos ≤ place then some p else none
    | none => none
  let was := d0
  let d0 := handoverBegins d0
  let d := match due with
    | some p => activate p d0
    | none => esc (fun e => { e with lineK := k + 1 }) d0
  let d := bringIn due.isSome d
  let d := pagesAt n place before pos (stopsAt n d)
  let d := match activeImage d with
    | some i => if sheetMode d then paceHandover n (linePlace d i d.esc.lineK) (ladderRest n d) else ladder n d
    | none => d
  let d := capturesAt n place pos (rungD d) d
  let d := edgeApply n d
  let d := regStart n d.pages.cur (regApply n ((d.pages.cur.map (·.num)).getD 0) d)
  let d := calStart n d
  let s := skips n start d
  let d := if s.1 then
      esc (fun e => { e with skippedLines := e.skippedLines + 1 }) (maskLagged (fun _ => true) s.2)
    else captureLine n k start place pos s.2
  let d := wn .ESC_LINE 0 ((n + 1) % 2 ^ 56) (countHandover d)
  let d := endCaptures (finishPages was.inforce (bankIn was 8) (bankIn was 9) (showNextLine d))
  if due.isSome then refill 384 d else d

/-- The active image cannot be read: every capture ends, no image is active, and it is unloaded (R432). -/
def badHandover (d : Dev) : Dev :=
  let n := activeNum d
  let d := stopsAt (rn d .ESC_LINE 0) (handoverBegins d)
  let old := activeImage d
  endCaptures (countHandover (bringIn false (segsActivate old none (unloadImage n (deactivate d)))))

/-- The activation of a pending image where none is active: a hand-over that belongs to no line (R90). -/
def activateNow (p : ActPend) (d : Dev) : Dev :=
  refill 384 (countHandover (bringIn true (activate p (handoverBegins d))))

/-- The time, in units of 1/16 ns, at which the interpolated position reaches `p` after an edge at `te` that brought the track to `t`, to
the nearest 62.5 ps; none where it does not before the next edge (R78, R80). -/
def crossing (d : Dev) (te : Nat) (t quanta p : Int) : Option Nat :=
  if p ≤ t then some (16 * te)
  else if p - t ≤ max 0 (quanta - 1) && decide (0 < velocity d) then
    some (16 * te + (rdiv ((p - t) * 1048576) (velocity d).toNat).toNat)
  else none

/-- The start that R80 predicts for a line at `p` that has not been reached. With device time as the source the next counts are known
beforehand (R72). -/
def predicted (d : Dev) (p : Int) : Option Nat :=
  if d.esc.srcKind = 2 then
    (List.range 26).findSome? (fun j =>
      let acc := d.esc.rem + ratioN d * j
      let t := d.esc.track + (acc / ratioD d : Nat)
      (crossing d (d.now + j) t ((acc % ratioD d + ratioN d) / ratioD d : Nat) p).map (fun c => min c (16 * (d.now + j + 1))))
  else match d.esc.edges with
    | (te, _) :: _ => crossing d te d.esc.track (nextQuanta d) p
    | [] => none

/-- Whether an exposure start is one that the Escapement commits now for a line at `p` (R80): the predicted one, 21 ns to 23 ns ahead; for
a line reached at an edge that has just been counted, from 19 ns + FILT to 28 ns + FILT after that edge; for one that was held back
when its position was reached, 21 ns to 23 ns ahead. -/
def startOk (d : Dev) (p : Int) (start : Nat) : Bool :=
  let ahead := decide (16 * d.now + 336 ≤ start ∧ start ≤ 16 * d.now + 368)
  if d.esc.track < p then ahead && predicted d p == some start
  else match d.esc.edges with
    | (te, _) :: _ =>
      let filt := if d.esc.srcKind = 0 then rf d .ENC_CFG d.esc.srcNum ENC_CFG.FILT else 0
      if d.now ≤ te + 7 + filt then decide (16 * (te + 19 + filt) ≤ start ∧ start ≤ 16 * (te + 28 + filt)) else ahead
    | [] => ahead

/-- HANDOVER: the next line position is reached, with the exposure start in units of 1/16 ns that R80 commits now; or, with no image
active, the position of a pending activation is. Nothing happens where the position is not reached or is withheld. -/
def handover (start : Nat) (d : Dev) : Dev :=
  match activeImage d with
  | none =>
    match d.esc.actPend with
    | some p =>
      if domUp d dESC && !d.esc.reverse && decide (p.pos ≤ trackPos d) then
        activateNow p d
      else d
    | none => d
  | some i =>
    let place := linePlace d i d.esc.lineK
    if d.esc.reverse || paceHolds d place then d
    else if !domUp d dESC then (if place ≤ trackPos d then passLine d else d)
    else if !startOk d place start then d
    else if d.esc.imageBad then badHandover d
    else lineHandover start i d

/-- TTBL_ACTIVATE: refused, or pending until the hand-over that brings it into force, at which the command completes; at once where no
image is active and the position has passed (R90). -/
def ttblActivate (c : Cmd) (d : Dev) : Dev :=
  needDom dESC c (fun d =>
    let n := leAt c.entry 8 1
    let pos := sx 64 (leAt c.entry 16 8)
    match d.esc.images.getD n none with
    | none => complete c stSTATE dESC [] d
    | some i =>
      let differs := match activeImage d with
        | some a => decide (routing a ≠ routing i)
        | none => true
      if d.esc.actPend.isSome || (!d.strm.captures.isEmpty && differs) then complete c stSTATE dESC [] d
      else
        let late := decide (pos < trackPos d)
        let d := sf .TTBL_IMAGE n TTBL_IMAGE.PENDING 1 (esc (fun e => { e with actPend := some ⟨n, pos, late, c.sq, c.tag⟩ }) d)
        let d := if late then occur Src.TTBL_LATE n 0 0 (sf .TTBL_STATUS 0 TTBL_STATUS.ACT_LATE 1 d) else d
        if late && activeNone d then activateNow ⟨n, pos, late, c.sq, c.tag⟩ d else d) d

/-- TTBL_HANDOVER_NOW: one hand-over while no image is active, else it is denied (R99). -/
def handoverNow (d : Dev) : Dev :=
  if activeNone d then countHandover (bringIn false (handoverBegins d)) else occur0 Src.HANDOVER_NOW_DENIED d

end Sys2Proof.Machine
end

