-- ==== Sys2Proof/Machine/Lines.lean ====
section
/-!
DEFINITION. Machine/Lines.lean: the end of a line: its last sample leaves stage 9, and its verdict path ends (R97, R154, R169, R183).
-/
namespace Sys2Proof.Machine

/-- The oldest captured line that has not left stage 9. -/
def nextLine (d : Dev) : Option LineRec := d.esc.lines.find? (fun l => !l.complete)

/-- What is recorded for a line. -/
def onLine (n : Nat) (f : LineRec → LineRec) (d : Dev) : Dev :=
  esc (fun e => { e with lines := e.lines.map (fun l => if l.num = n then f l else l) }) d

/-- Whether a class of the comparator waits to be restored from its copy in HBM (R431). -/
def cmprRestoring (d : Dev) : Bool := d.pipe.restoring.any (fun c => [7, 8, 9, 10].contains c)

/-- The corrected line goes to every stage that takes it (R154, R158, R169, R188, R206, R246). -/
def deliverCorrected (l : LineRec) (c : Corrected) (late : Bool) (d : Dev) : Dev :=
  let pg := if l.inPage then l.page else 0
  let lin : Row := ⟨l.num, pg, c.header, c.linear, c.mask, c.linClip.map (·.count true)⟩
  let ren : Row := ⟨l.num, pg, c.header, c.rendered, c.mask, c.renClip.map (·.count true)⟩
  let edges := lineEdges (pageRuleOf l.img) c
  let j := judgeLine l c late d
  let d := keepCrop lin ren (deliverLine lin ren edges j.2.1 j.1)
  let d := lineScalars l c edges (edgeLine l c d)
  afterLine l (calLine l c j.2.2 d)

/-- LINE_COMPLETE: C(k) of the oldest captured line, `latency` ns after E(k). `late` says that some expected value of the line was
not ready when it was wanted (R169); expected values are not ready while a table of the comparator is being restored (R431). What the
alignment masks counts as masked too (R129, R140). -/
def lineComplete (late : Bool) (latency : Nat) (d : Dev) : Dev :=
  match nextLine d with
  | none => d
  | some l =>
    if !domUp d (dPIPE 0) || !domUp d (dPIPE 1) || !lineReady d l l.img || !d.esc.lines.all (fun x => decide (l.num ≤ x.num) || x.verdict) then d
    else
      let r := correctLine l l.img d
      let d := fe (fun x => { x with samples := x.samples.filter (fun s => s.line ≠ l.num) }) r.1
      let d := [0, 1].foldl (fun d h => wn .PIPE_LATENCY_MAX h (max (rn d .PIPE_LATENCY_MAX h) (sat32 latency)) d) d
      let d := deliverCorrected { l with masked := r.2.masked } r.2 (late || cmprRestoring d) d
      let d := countMasked (r.2.masked ^^^ (r.2.masked &&& l.masked)) d
      let d := onLine l.num (fun x => { x with complete := true, masked := r.2.masked }) d
      let d := freeBanks [2, 3, 4, 5, 6, 11] l.num d
      endCaptures (flushMarks d.strm.marks.length d)

/-- VERDICT_PATH: the verdict path of the oldest line that has left stage 9 ends (R183). -/
def verdictPath (d : Dev) : Dev :=
  match d.esc.lines.find? (fun l => l.complete && !l.verdict) with
  | none => d
  | some l =>
    let j := d.cmpr.jlines.find? (fun x => x.line == l.num)
    let d := cmpr (fun x => { x with jlines := x.jlines.filter (fun y => y.line ≠ l.num) }) d
    let d := match j with
      | some j => trackLine l j (d.pages.past.any (fun p => p.num == j.page && p.last != 0 &&
          d.esc.lines.all (fun x => decide (p.last ≤ x.num) || decide (x.num = l.num) || (x.complete && x.verdict)))) d
      | none => d
    let d := onLine l.num (fun x => { x with verdict := true }) d
    let d := freeBanks [7, 8, 9, 10] l.num d
    endCaptures (dropLines (finishPages l.shadow (l.banks.getD 8 0) (l.banks.getD 9 0) d))

end Sys2Proof.Machine
end

