-- ==== Sys2Proof/Machine/Commands.lean ====
section
/-!
DEFINITION. Machine/Commands.lean: the fetch of a command and its checks up to order 7 of R45, the mailbox of Crown mode, and ABORT
(R44, R45, R51, R56, R63, R384).
-/
namespace Sys2Proof.Machine

/-! ### The parameters of each opcode (R48) -/

/-- The assigned opcodes (R48). -/
def opcodes : List Nat :=
  [0x01, 0x02, 0x03, 0x04, 0x05, 0x06, 0x07, 0x08, 0x20, 0x21, 0x22, 0x23, 0x24, 0x25, 0x40, 0x41, 0x42, 0x43, 0x44, 0x60, 0x61, 0x62,
   0x70, 0x71, 0x72, 0x73, 0x80, 0x81, 0x82, 0x90, 0x91, 0x92, 0x93, 0xA0, 0xA1, 0xA2, 0xF0, 0xF1]

/-- How an opcode takes a parameter block: whether it requires one, its bound (0: none declared), least length and multiple. -/
def opBlock (op : Nat) : Option (Nat × Nat × Nat) :=
  if op = 0x20 then some (16, 16, 1)
  else if op = 0x24 then some (65552, 16, 16)
  else if op = 0x42 then some (0, 16, 16)
  else if op = 0x62 then some (8388608, 128, 1)
  else if op = 0x70 then some (65664, 144, 16)
  else if op = 0x80 then some (1600, 32, 32)
  else if op = 0x91 then some (0, 32, 16)
  else if op = 0xA0 then some (67108864, 320, 1)
  else none

/-- Bits of byte `o` above its field of `w` bits are 0. -/
def chkBits (e : Bytes) (o w : Nat) : Chk := chkP (decide (leAt e o 1 < 2 ^ w)) o

/-- A byte holds an encoding below a limit. -/
def chkEnc (e : Bytes) (o lim : Nat) : Chk := chkP (decide (leAt e o 1 < lim)) o

/-- An address field of 8 bytes is aligned. -/
def chkAlign (e : Bytes) (o a : Nat) : Chk := chkP (decide (leAt e o 8 % a = 0)) o

/-- A field of `n` bytes is 0. -/
def chkNone (e : Bytes) (o n : Nat) : Chk := chkP (decide (leAt e o n = 0)) o

/-- A 4-byte length is a multiple of `m`. -/
def chkMult (e : Bytes) (o m : Nat) : Chk := chkP (decide (leAt e o 4 % m = 0)) o

/-- A host range of `n` bytes from an address does not pass 2^64 - 1. -/
def chkRange (a n o : Nat) : Chk := chkB (decide (a + n ≤ 2 ^ 64)) o

/-- Fields every entry has: reserved bits, and CONTEXT where the opcode names none (R44, R52). -/
def headChecks (op : Nat) (e : Bytes) : List Chk :=
  let named := opHasCtx op && !(op == 0x05 && bitOf (leAt e 8 1) 0 && !bitOf (leAt e 1 1) 0)
  [chkBits e 1 2, if named then chkP (decide (leAt e 4 2 < 2048)) 4 else chkZero e 4 6, chkZero e 6 8]

/-- The parameters of a MOVE, `e` beginning with its parameter byte 8 (R320). -/
def moveChecks (e : Bytes) : List Chk :=
  let kind := leAt e 1 1 % 4
  let gear := decide (kind = 2)
  let blend := bitOf (leAt e 1 1) 2
  let stop := bitOf (leAt e 1 1) 3
  [chkBits e 0 3, chkP (decide (leAt e 1 1 < 16 ∧ kind ≠ 3 ∧ (gear ∨ !stop))) 1,
   chkP (kind == 0 || leAt e 2 2 == 0) 2, chkP (blend || leAt e 4 4 == 0) 4,
   chkP (if gear then decide (leAt e 8 1 < 8) else leAt e 8 1 == 0) 8, chkZero e 9 12,
   chkP (gear || leAt e 12 4 == 0) 12, chkP (gear || leAt e 16 4 == 0) 16, chkP (gear || leAt e 20 4 == 0) 20,
   chkP ((gear && !stop) || leAt e 24 8 == 0) 24, chkZero e 32 56]

def moveZero (e : Bytes) : List Chk :=
  let gear := decide (leAt e 1 1 % 4 = 2)
  let stop := bitOf (leAt e 1 1) 3
  [chkP (!bitOf (leAt e 1 1) 2 || leAt e 4 4 != 0) 4, chkP (!gear || leAt e 12 4 != 0) 12, chkP (!gear || leAt e 16 4 != 0) 16,
   chkP (!gear || leAt e 20 4 != 0) 20, chkP (!gear || stop || decide (2 * leAt e 20 4 ≤ leAt e 24 8 ∧ leAt e 24 8 ≠ 0)) 24]

def moveBound (e : Bytes) : List Chk :=
  [chkB (decide (leAt e 1 1 % 4 ≠ 2) || decide (leAt e 12 4 ≤ 65536 * leAt e 16 4)) 12]

/-- Checks of a list shifted to another origin. -/
def shiftChks (o : Nat) (l : List Chk) : List Chk := l.map (fun c => (c.1, c.2.1, c.2.2 + o))

/-- The range of NUM of RATIO_SET by its KIND (R359). -/
def ratioNums (kind : Nat) : Nat := if kind = 0 then 1 else if kind = 2 then 64 else 32

/-- Order 3 for inline parameters: reserved fields, encodings, alignments and multiples. -/
def inlineChecks (op : Nat) (e : Bytes) : List Chk :=
  if op = 0x01 || op = 0x44 then [chkZero e 8 64]
  else if op = 0x02 then [chkZero e 10 64]
  else if op = 0x03 then [chkZero e 10 16, chkZero e 24 64]
  else if op = 0x04 then [chkBits e 8 6, chkZero e 9 10, chkZero e 12 64]
  else if op = 0x05 then [chkBits e 8 1, chkZero e 9 64]
  else if op = 0x06 then [chkZero e 15 16, chkZero e 20 24, chkAlign e 24 64, chkZero e 36 64]
  else if op = 0x07 then [chkP (decide (1 ≤ leAt e 8 1 ∧ leAt e 8 1 ≤ 5)) 8, chkBits e 10 2, chkZero e 11 64]
  else if op = 0x08 then [chkAlign e 8 64, chkZero e 16 64]
  else if op = 0x21 then [chkEnc e 8 4, chkZero e 9 16, chkZero e 24 64]
  else if op = 0x22 then [chkEnc e 8 4, chkZero e 9 64]
  else if op = 0x23 then [chkZero e 16 64]
  else if op = 0x25 then [chkBits e 8 4, chkZero e 9 64]
  else if op = 0x40 then [chkEnc e 10 4, chkBits e 11 1, chkZero e 12 16, chkZero e 20 24, chkZero e 32 64]
  else if op = 0x41 then [chkEnc e 8 3, chkZero e 9 16, chkP (leAt e 8 1 == 0 || leAt e 16 7 == 0) 16, chkZero e 23 64]
  else if op = 0x43 then
    [chkP (decide (1 ≤ leAt e 8 1 ∧ leAt e 8 1 ≤ 10)) 8, chkZero e 9 12, chkMult e 12 4096, chkZero e 20 64]
  else if op = 0x60 then [chkZero e 14 16, chkEnc e 16 4, chkBits e 17 1, chkZero e 18 20, chkZero e 28 64]
  else if op = 0x61 then [chkZero e 14 16, chkBits e 16 1, chkZero e 17 20, chkZero e 28 32, chkZero e 40 64]
  else if op = 0x70 then chkP (decide (leAt e 9 1 % 4 ≠ 1)) 1 :: shiftChks 8 (moveChecks (e.drop 8))
  else if op = 0x71 then [chkBits e 8 3, chkEnc e 9 5, chkZero e 10 64]
  else if op = 0x72 then [chkBits e 8 3, chkEnc e 9 3, chkBits e 10 1, chkZero e 11 64]
  else if op = 0x73 then [chkBits e 8 3, chkBits e 9 1, chkZero e 10 64]
  else if op = 0x81 then
    [chkP (leAt e 8 4 != 0) 8, chkZero e 12 16, chkAlign e 16 16,
     chkP (if (bitsOf (leAt e 8 4) 32).length = 1 then leAt e 16 8 == 0 else leAt e 16 8 != 0) 16, chkZero e 24 64]
  else if op = 0x82 then
    [chkBits e 8 3, chkEnc e 9 5, chkP (decide (leAt e 10 1 < ratioNums (leAt e 9 1))) 10, chkBits e 11 3,
     chkZero e 22 24, chkP (bitOf (leAt e 11 1) 1 || leAt e 24 4 == 0) 24, chkZero e 28 64]
  else if op = 0x90 then [chkBits e 8 4, chkZero e 9 64]
  else if op = 0x92 then [chkZero e 15 16, chkZero e 20 64]
  else if op = 0x93 then [chkBits e 8 2, chkZero e 9 64]
  else if op = 0xA1 then [chkBits e 8 1, chkBits e 9 2, chkZero e 10 64]
  else if op = 0xA2 then
    [chkEnc e 8 3, chkZero e 9 16, chkP (leAt e 8 1 == 2 || leAt e 16 8 == 0) 16, chkAlign e 24 64, chkZero e 36 64]
  else if op = 0xF0 then [chkEnc e 8 4, chkZero e 9 16, chkAlign e 16 64, chkMult e 24 64, chkZero e 28 64]
  else if op = 0xF1 then [chkEnc e 8 3, chkZero e 9 16, chkAlign e 16 64, chkZero e 28 64]
  else []

/-- The entries of a buffer list from byte `lo` of a block (R50, R281). -/
def bufChecks (b : Bytes) (lo align : Nat) : List Chk :=
  (List.range ((b.length - lo) / 16)).flatMap (fun i =>
    let o := lo + 16 * i
    [chkAlign b o align, chkMult b (o + 8) 64, chkZero b (o + 12) (o + 16)])

def bufZero (b : Bytes) (lo : Nat) : List Chk :=
  (List.range ((b.length - lo) / 16)).map (fun i => chkP (leAt b (lo + 16 * i + 8) 4 != 0) (lo + 16 * i + 8))

def bufBound (b : Bytes) (lo : Nat) : List Chk :=
  (List.range ((b.length - lo) / 16)).map (fun i => chkRange (leAt b (lo + 16 * i) 8) (leAt b (lo + 16 * i + 8) 4) (lo + 16 * i))

/-- Order 6: the fields of a block, by block offset. Content that is the block itself is checked by its own command (R239, R399). -/
def blockChecks (op : Nat) (b : Bytes) : List Chk :=
  if op = 0x20 then [chkAlign b 0 64, chkZero b 12 16]
  else if op = 0x24 then [chkBits b 0 4, chkBits b 1 1, chkZero b 2 8, chkAlign b 8 64] ++ bufChecks b 16 64
  else if op = 0x42 then bufChecks b 0 4096
  else if op = 0x70 then
    chkP (decide (leAt b 1 1 % 4 = 1)) 1 :: moveChecks b ++ [chkZero b 56 64] ++
      (match tableBad (b.drop 64) with
       | some o => [chkP false (64 + o)]
       | none => [])
  else if op = 0x80 then
    (List.range (b.length / 32)).map (fun k =>
      match auxRecField ((b.drop (32 * k)).take 32) with
      | some o => chkP false (32 * k + o)
      | none => chkP true 0)
  else if op = 0x91 then [chkZero b 7 8, chkZero b 12 16] ++ bufChecks b 16 4096
  else []

/-- Order 7, first part: length and count fields in use are not 0. Offsets of block fields count from 0x40. -/
def zeroChecks (op : Nat) (e b : Bytes) : List Chk :=
  let nz (o n : Nat) : Chk := chkP (leAt e o n != 0) o
  if op = 0x06 then [nz 16 4, nz 32 4]
  else if op = 0x20 then [chkP (leAt b 8 4 != 0) 0x48]
  else if op = 0x23 then [nz 8 8]
  else if op = 0x24 then shiftChks 0x40 (bufZero b 16)
  else if op = 0x40 then [nz 16 4]
  else if op = 0x42 then shiftChks 0x40 (bufZero b 0)
  else if op = 0x43 then [nz 12 4, nz 16 4]
  else if op = 0x60 || op = 0x61 then [nz 20 4, nz 24 4]
  else if op = 0x70 then (if b.isEmpty then shiftChks 8 (moveZero (e.drop 8)) else shiftChks 0x40 (moveZero b))
  else if op = 0x82 then [chkP (!bitOf (leAt e 11 1) 1 || leAt e 24 4 != 0) 24]
  else if op = 0x91 then chkP (leAt b 8 4 != 0) 0x48 :: shiftChks 0x40 (bufZero b 16)
  else if op = 0x92 then [nz 16 4]
  else if op = 0xA2 then [nz 32 4]
  else if op = 0xF0 || op = 0xF1 then [nz 24 4]
  else []

/-- Order 7, second part: bounds, and host ranges. -/
def boundChecks (d : Dev) (op : Nat) (e b : Bytes) : List Chk :=
  let le (o n bound : Nat) : Chk := chkB (decide (leAt e o n ≤ bound)) o
  if op = 0x06 then
    [le 16 4 65536, chkB (decide (64 * leAt e 16 4 ≤ leAt e 32 4)) 32,
     chkRange (leAt e 24 8) (64 * (ledgerPick d (leAt e 8 7) (leAt e 16 4)).length) 24]
  else if op = 0x20 then [chkB (decide (leAt b 8 4 ≤ 268435456)) 0x48, chkRange (leAt b 0 8) (leAt b 8 4) 0x40]
  else if op = 0x24 then shiftChks 0x40 (bufBound b 16)
  else if op = 0x42 then shiftChks 0x40 (bufBound b 0)
  else if op = 0x43 then [le 12 4 67108864, le 16 4 1000000]
  else if op = 0x60 || op = 0x61 then [le 20 4 65536, le 24 4 3600000]
  else if op = 0x70 then (if b.isEmpty then shiftChks 8 (moveBound (e.drop 8)) else shiftChks 0x40 (moveBound b))
  else if op = 0x81 then [chkRange (leAt e 16 8) (16 * (bitsOf (leAt e 8 4) 32).length) 16]
  else if op = 0x82 then [chkB (!bitOf (leAt e 11 1) 1 || decide (leAt e 24 4 ≤ 3600000)) 24]
  else if op = 0x91 then chkB (decide (leAt b 8 4 ≤ 65536)) 0x48 :: shiftChks 0x40 (bufBound b 16)
  else if op = 0xA2 then
    [chkRange (leAt e 24 8) ((certItem d (leAt e 8 1) (leAt e 16 8)).getD []).length 24]
  else if op = 0xF0 then [le 24 4 (if crown d then 65536 else 67108864), chkRange (leAt e 16 8) (leAt e 24 4) 16]
  else if op = 0xF1 then
    (let l := if leAt e 8 1 = 0 then d.evt.history else if leAt e 8 1 = 1 then d.evt.eccLog else d.evt.nvsLog
     [chkRange (leAt e 16 8) (64 * min (leAt e 24 4 / 64) l.length) 16])
  else []

/-! ### The checks of R45 -/

/-- Some other command of the ring with this TAG is in flight (R55): a completion for an entry that could not be read stands for no
command (R45). -/
def tagBusy (d : Dev) (sq tag : Nat) : Bool :=
  d.post.cmds.any (fun c => c.sq == sq && c.tag == tag) || d.post.formed.any (fun c => c.sq == sq && c.tag == tag && !(c.op == 0 && c.status == stDMA_ERR))

/-- Checks 1 to 4 of an entry: the status and DETAIL of the first that fails. -/
def entryFails (d : Dev) (sq : Nat) (e : Bytes) : Option (Nat × Nat) :=
  let op := leAt e 0 1
  let pblk := bitOf (leAt e 1 1) 0
  let len := leAt e 16 4
  if !opcodes.contains op || (sq = crownSq && !crownOps.contains op) then some (stOPCODE, 0)
  else if sq ≠ crownSq && tagBusy d sq (leAt e 2 2) then some (stTAG_BUSY, 0)
  else
    let body : List Chk :=
      if pblk then [chkP (opBlock op).isSome 1, chkAlign e 8 64, chkP (len != 0) 16, chkZero e 20 64]
      else chkP ((opBlock op).isNone || op == 0x70) 1 :: (if (opBlock op).isNone || op == 0x70 then inlineChecks op e else [])
    match firstBad (headChecks op e ++ body) with
    | some x => some x
    | none =>
      match (if pblk then opBlock op else none) with
      | none => none
      | some (bound, least, mult) =>
        if bound ≠ 0 && bound < len then some (stBOUND, 16)
        else if 2 ^ 64 < leAt e 8 8 + len then some (stBOUND, 8)
        else if len < least || len % mult ≠ 0 then some (stPARAM, 16)
        else none

/-- Check 6: the length a block's own fields require, then its fields (R162, R320). -/
def blockFails (op : Nat) (b : Bytes) : Option (Nat × Nat) :=
  if op = 0x24 && (if bitOf (leAt b 1 1) 0 then b.length != 16 else decide (b.length < 32)) then some (stPARAM, 16)
  else if op = 0x70 && leAt b 1 1 % 4 = 1 && b.length ≠ 64 + leAt b 72 4 then some (stPARAM, 16)
  else (firstBad (blockChecks op b)).map (fun x => (x.1, min 0xFF (0x40 + x.2)))

/-- Check 7. -/
def lengthFails (d : Dev) (op : Nat) (e b : Bytes) : Option (Nat × Nat) :=
  let lim (x : Nat × Nat) : Nat × Nat := (x.1, min 0xFF x.2)
  match firstBad (zeroChecks op e b) with
  | some x => some (lim x)
  | none => (firstBad (boundChecks d op e b)).map lim

/-- A command is fetched with its entry and, where it has one, its block: it completes at the first check up to order 7 that fails,
else it is in flight and waits to start. -/
def admitCmd (sq num : Nat) (e0 : Bytes) (block : Fetch) (d0 : Dev) : Dev :=
  let e := fitBytes 64 e0
  let op := leAt e 0 1
  let ctx := leAt e 4 2 % 2048
  let d := { d0 with post := { d0.post with fetches := d0.post.fetches + 1 } }
  let cmd (b : Bytes) : Cmd :=
    ⟨sq, num, leAt e 2 2, ctx, op, bitOf (leAt e 1 1) 1, e, b, d0.post.fetches, false,
      if op = 0x05 then syncTargets d (bitOf (leAt e 8 1) 0) ctx else []⟩
  let enter (b : Bytes) : Dev :=
    match lengthFails d op e b with
    | some (st, det) => complete (cmd b) st det [] d
    | none => { d with post := { d.post with cmds := d.post.cmds ++ [cmd b] } }
  match entryFails d0 sq e with
  | some (st, det) => complete (cmd []) st det [] d
  | none =>
    if !bitOf (leAt e 1 1) 0 then enter []
    else match block with
      | .failed cause => complete (cmd []) stDMA_ERR cause [] d
      | .ok b0 =>
        let b := fitBytes (leAt e 16 4) b0
        match blockFails op b with
        | some (st, det) => complete (cmd b) st det [] d
        | none => enter b

/-- Whether the Postmaster fetches from a ring now: it runs, outside replay and the close of R67, the ring is enabled and does not
drain, its doorbell is ahead of what has been fetched, and the ADMIT record can be staged (R37, R39, R63, R67, R68). -/
def mayFetch (d : Dev) (sq : Nat) : Bool :=
  decide (sq < 64) && domUp d dPOST && domUp d dEP && d.post.busMaster && !d.post.closing && !replaying d &&
  sqEnabled d sq && !d.post.draining.contains sq && decide (rn d .RING_SQ_FETCHED sq ≠ mget d.post.dbSq sq) &&
  canStage kADMIT (leBytes 1 sq ++ zeros 3 ++ leBytes 4 ((rn d .RING_SQ_FETCHED sq + 1) % ringL (sqSize d sq))) d

/-- COMMAND_FETCH: the next entry of ring `sq`, as read, and the block it names, as read (R45, R63). -/
def commandFetch (sq : Nat) (entry block : Fetch) (d0 : Dev) : Dev :=
  if !mayFetch d0 sq then d0
  else
    let num := rn d0 .RING_SQ_FETCHED sq
    let next := (num + 1) % ringL (sqSize d0 sq)
    let d := stage kADMIT (leBytes 1 sq ++ zeros 3 ++ leBytes 4 next) (wn .RING_SQ_FETCHED sq next d0)
    match entry with
    | .failed cause =>
      let c : Cmd := ⟨sq, num, 0, 0, 0, false, [], [], d.post.fetches, false, []⟩
      complete c stDMA_ERR cause (leBytes 4 num) { d with post := { d.post with fetches := d.post.fetches + 1 } }
    | .ok e => admitCmd sq num e block d

/-- CROWN_GO: a write of RST_CROWN_GO (R384). -/
def crownGo (block : Fetch) (d : Dev) : Dev :=
  if !crown d || rb d .RST_CROWN_STATUS 0 RST_CROWN_STATUS.BUSY then
    (if domUp d dFABRIC then occur0 Src.CROWN_GO_DENIED d else d)
  else
    admitCmd crownSq 0 (winRead d .crownCmd 0 64) block
      (sf .RST_CROWN_STATUS 0 RST_CROWN_STATUS.BUSY 1 (sf .RST_CROWN_STATUS 0 RST_CROWN_STATUS.DONE 0 d))

/-! ### ABORT (R51) -/

/-- What ABORT does to a started target, and the outcome. -/
def abortStarted (t : Cmd) (d : Dev) : Dev × Nat :=
  if t.op = 0x42 then (postAbort t d, 0)
  else if [0x05, 0x06, 0x08, 0x91, 0xA2, 0xF0, 0xF1].contains t.op then (complete t stABORTED 0 [] d, 0)
  else if t.op = 0x21 then (complete t stABORTED 0 [] (actAbort t d), 0)
  else if t.op = 0x70 || t.op = 0x71 || t.op = 0x73 then
    (let r := axAbort t d
     (r.1, if r.2 then 0 else 2))
  else if t.op = 0x60 then (calAbort t d, 0)
  else if t.op = 0x81 then (auxAbort t d, 0)
  else (d, 2)

/-- ABORT: its outcome stands in RESULT byte 16. A target whose completion is formed but not yet written has the outcome 0x01, as one
formed in the same cycle has (R51; DEDUCED, log entry 81). -/
def abortCmd (c : Cmd) (d : Dev) : Dev :=
  match findCmd d (leAt c.entry 8 1 % 64) (leAt c.entry 10 2) with
  | none => completeOk c (leBytes 1 1) d
  | some t =>
    if t.order = c.order then completeOk c (leBytes 1 1) d
    else if !t.started then completeOk c (leBytes 1 0) (complete t stABORTED 0 [] d)
    else
      let r := abortStarted t d
      completeOk c (leBytes 1 r.2) r.1

end Sys2Proof.Machine
end

