-- ==== Sys2Proof/Machine/Bar0.lean ====
section
/-!
DEFINITION. Machine/Bar0.lean: what an access through BAR0 or BAR2 does: where it lands, the access codes, 64-bit registers, and the
acts of the registers that are more than storage (R4 to R9, R20 to R24, and the register rules of every chapter).
-/
namespace Sys2Proof.Machine

/-! ### Where an access lands (R21, R22) -/

/-- What one 32-bit word of BAR0 is. -/
inductive Place where
  /-- The low or high word of a register instance. -/
  | reg (r : Reg) (i : Nat) (high : Bool)
  /-- Bytes of a byte window, and whether host software may write them. -/
  | bytes (w : Win) (off : Nat) (writable : Bool)
  /-- The bank not in force of a table class, by class byte. -/
  | table (c off : Nat)
  | drift (off : Nat)
  | baseline (off : Nat)
  | unmapped
  deriving DecidableEq, Repr

/-- The instance of a register that an address lies in, and whether in its high word. -/
def regHit (r : Reg) (a : Nat) : Option (Nat × Bool) :=
  let x := r.info
  let off := a - x.base
  let i1 := if x.stride1 = 0 then 0 else min (off / x.stride1) (x.n1 - 1)
  let o1 := off - i1 * x.stride1
  let i2 := if x.stride2 = 0 then 0 else min (o1 / x.stride2) (x.n2 - 1)
  let o2 := o1 - i2 * x.stride2
  if x.base ≤ a && o2 < (if x.wide then 8 else 4) then some (i1 * x.n2 + i2, decide (4 ≤ o2)) else none

/-- The register an address lies in. -/
def findReg (a : Nat) : Option (Reg × Nat × Bool) :=
  let b := a / 2 ^ 20
  (blockRegs (if 9 ≤ b ∧ b ≤ 12 then 9 else b)).findSome? (fun r => (regHit r a).map (fun x => (r, x.1, x.2)))

/-- A page of a table window (R151, R190, R309). -/
def tablePlace (c page off : Nat) : Place :=
  if page * 262144 + off < classSize c then .table c (page * 262144 + off) else .unmapped

/-- Where the 32-bit word at an address lies; what is no register, window or table is unmapped. -/
def placeOf_ (d : Dev) (a : Nat) : Place :=
  let b := a / 2 ^ 20
  let o := a % 2 ^ 20
  match findReg a with
  | some (r, i, h) => .reg r i h
  | none =>
    let win := decide (0x40000 ≤ o ∧ o < 0x80000)
    if b = 0 ∧ 0x100 ≤ o ∧ o < 0x200 then .bytes .option (o - 0x100) false
    else if b = 1 ∧ 0x400 ≤ o ∧ o < 0x440 then .bytes .crownCmd (o - 0x400) true
    else if b = 1 ∧ 0x480 ≤ o ∧ o < 0x4A0 then .bytes .crownCpl (o - 0x480) false
    else if b = 3 ∧ o < 0x8000 then .bytes .msixTable o true
    else if b = 3 ∧ 0x10000 ≤ o ∧ o < 0x10100 then .bytes .msixPba (o - 0x10000) false
    else if 9 ≤ b ∧ b ≤ 12 ∧ 0x40000 ≤ o ∧ o < 0x50000 then .table 1 (o - 0x40000)
    else if b = 13 ∧ win then
      tablePlace (rf d .PIPE_WIN_SEL 0 PIPE_WIN_SEL.CLASS) (rf d .PIPE_WIN_SEL 0 PIPE_WIN_SEL.PAGE) (o - 0x40000)
    else if b = 14 ∧ win then
      tablePlace (rf d .CMPR_WIN_SEL 0 CMPR_WIN_SEL.CLASS) (rf d .CMPR_WIN_SEL 0 CMPR_WIN_SEL.PAGE) (o - 0x40000)
    else if b = 16 ∧ win then tablePlace 10 (rf d .DMA_WIN_SEL 0 DMA_WIN_SEL.PAGE) (o - 0x40000)
    else if b = 19 ∧ 0x2000 ≤ o ∧ o < 0x3000 then .bytes .calLog (o - 0x2000) false
    else if b = 19 ∧ win then .drift (o - 0x40000)
    else if b = 19 ∧ 0x80000 ≤ o then .baseline (o - 0x80000)
    else if b = 21 ∧ 0x1000 ≤ o % 0x80000 ∧ o % 0x80000 < 0x1400 ∧ o % 0x40 < 0x20 then
      .bytes .auxIn (512 * (o / 0x80000) + 32 * ((o % 0x80000 - 0x1000) / 0x40) + o % 0x40) false
    else if b = 23 ∧ 0x200 ≤ o ∧ o < 0x300 then .bytes .optionStage (o - 0x200) true
    else .unmapped

/-! ### What a read returns -/

/-- PORT_STATUS, PORT_I3C and PORT_SERIAL of a port (R130). -/
def portWord (d : Dev) (p : Nat) : Word :=
  match segOfPort d p with
  | none => PORT_STATUS.CLOCKS.put (b2n (rb d .PG_STATUS (portGen p) PG_STATUS.OUT_EN)) 0
  | some (s, _) =>
    let x := seg d s
    PORT_STATUS.SEG.put s (PORT_STATUS.ASSIGNED.put 1 (PORT_STATUS.STATE.put (segCode x.st) (PORT_STATUS.POWER.put (b2n x.powered)
      (PORT_STATUS.CLOCKS.put (b2n (rb d .PG_STATUS (portGen p) PG_STATUS.OUT_EN)) (PORT_STATUS.CAUSE.put x.cause 0)))))

/-- The head bound to the segment of a port. -/
def portHead (d : Dev) (p : Nat) : Option Head :=
  (segOfPort d p).bind (fun x => d.fe.heads.find? (fun h => h.seg == x.1 + 1))

/-- The content of a register: most are held as they stand; some are formed when read. -/
def regValue (f : Fuses) (d : Dev) (r : Reg) (i : Nat) : Word :=
  match r with
  | .GLB_STATUS =>
    GLB_STATUS.BOOT_COMPLETE.put (rf d .RST_STATUS 0 RST_STATUS.BOOT_COMPLETE) (GLB_STATUS.CROWN.put (b2n (crown d))
      (GLB_STATUS.REPLAYING.put (if crown d then 0 else rf d .LEDG_STATUS 0 LEDG_STATUS.REPLAYING) (rd d r i)))
  | .GLB_TIME => BitVec.ofNat 64 (d.now / 40 * 40)
  | .RST_REACH =>
    RST_REACH.DEFAULT.put (if i = 34 then 1 else (srcDefault i).1) (RST_REACH.FUSED.put (mget d.rst.table i)
      (RST_REACH.EFFECTIVE.put (effReach d i 1) 0))
  | .ESC_TRACK_POS => BitVec.ofNat 64 (ux 64 (trackPos d))
  | .I3C_STATUS => I3C_STATUS.BOUND.put ((d.fe.heads.filter (fun h => h.bus == i && h.seg != 0)).length) 0
  | .RING_SQ_STATUS => RING_SQ_STATUS.IN_FLIGHT.put (sqInFlight d i) (rd d r i)
  | .RING_SQ_CREDIT => BitVec.ofNat 64 (sqCredit d i)
  | .RING_TOTAL_IN_FLIGHT =>
    RING_TOTAL_IN_FLIGHT.IN_FLIGHT.put (d.post.cmds.length + d.post.formed.length) (RING_TOTAL_IN_FLIGHT.QUOTAS.put (quotaSum d) 0)
  | .QUE_CMD_LEVEL => QUE_CMD_LEVEL.ENTRIES.put (d.post.cmds.length + d.post.formed.length) 0
  | .QUE_UQ_POP => BitVec.ofNat 64 (uqHead d i)
  | .PORT_STATUS => portWord d i
  | .PORT_I3C => PORT_I3C.ADDR.put (((portHead d i).map (·.addr)).getD 0) 0
  | .PORT_SERIAL => BitVec.ofNat 64 (((segOfPort d i).map (fun x => boundSerial d x.1)).getD 0)
  | .SEC_STATUS => SEC_STATUS.FUSE_SVN.put f.svn (rd d r i)
  | r => r.info.fields.foldl (fun w x => if x.acc = .wo then x.fld.put 0 w else w) (rd d r i)

/-- The byte of a place that is not a register. -/
def placeByte (d : Dev) : Place → Nat → Byte
  | .bytes w off _, k => winGet d w (off + k)
  | .table c off, k => d.tables.read (bankAddr c (bankOut d c) (off + k))
  | .drift off, k => driftWindow d (rf d .CAL_WIN_SEL 0 CAL_WIN_SEL.VIEW) (rf d .CAL_WIN_SEL 0 CAL_WIN_SEL.PAGE * 262144 + off + k)
  | .baseline off, k => baseWindow d (off + k)
  | _, _ => 0#8

/-! ### The acts of registers -/

/-- Bit b of `v` clears the b-th counter of a list (R429). -/
def clearCounters (l : List Reg) (i v : Nat) (d : Dev) : Dev :=
  l.zipIdx.foldl (fun d x => if bitOf v x.2 then zeroed x.1 i d else d) d

/-- The counters that a clearing register names, in order. -/
def clearList : Reg → List Reg
  | .RST_CLEAR => [.RST_COUNT_BLOCK, .RST_COUNT_DIE, .RST_COUNT_PATH, .RST_COUNT_WARM, .RST_ISOLATIONS]
  | .EVT_CLEAR => [.EVT_LOG_DROP, .EVT_RING_UNSENT]
  | .ESC_CLEAR => [.ESC_ACT_DROP, .ESC_EVT_LATE]
  | .ENC_CLEAR => [.ENC_ILLEGAL]
  | .PORT_CLEAR => [.PORT_MASKED_LINES]
  | .VID_CLEAR => [.VID_CLIPS]
  | .LANE_CLEAR => [.LANE_CODE_ERR, .LANE_CRC_ERR, .LANE_FRAME_ERR, .LANE_NOFRAME, .LANE_EXTRA, .LANE_SEQ_SKIP]
  | .PG_CLEAR => [.PG_OVERRUN]
  | .I3C_CLEAR => [.I3C_ERRORS, .I3C_HOTJOINS, .I3C_IBIS]
  | .CMPR_CLEAR =>
    [.CMPR_DEFECTS, .CMPR_BLOBS_SMALL, .CMPR_REF_LATE, .CMPR_MODEL_MISMATCH, .CMPR_REG_SKIP, .CMPR_REG_INVALID, .CMPR_REG_LIMIT,
     .CMPR_OVERFLOW, .CMPR_PAGES_NOREF]
  | .CMPR_ACT_CLEAR => [.CMPR_ACT_MARGIN, .CMPR_ACT_FIRED, .CMPR_ACT_MERGED]
  | .PROD_CLEAR =>
    [.PROD_PAGES_LATE, .PROD_PAGES_SHORT, .PROD_PAGES_FORCED, .PROD_PAGES_OVERLAP, .PROD_CLOSE_IDLE, .PROD_EDGE_FAIL]
  | .DMA_CH_CLEAR => [.DMA_CH_BAD, .DMA_CH_CREDIT_DROP, .DMA_CH_PACE_IGNORED]
  | .QUE_CLEAR => [.QUE_STEPS_DOWN, .QUE_STEPS_UP, .QUE_FORCED, .QUE_PACE_STOPS, .QUE_STARVED_LINES]
  | .RP_PORT_CLEAR => [.RP_PORT_WRITE_ERR, .RP_PORT_READ_ERR, .RP_PORT_TIMEOUTS]
  | .CAL_CLEAR => [.CAL_RUNS_ACCEPTED, .CAL_RUNS_REJECTED, .CAL_RUNS_OTHER, .CAL_TRIGGERS]
  | .AX_CLEAR => [.AX_STALLS, .AX_LIM_TRIPS, .AX_LIM_CHATTER, .AX_STARVED, .AX_OVERCURRENT, .AX_TON_LIMITED, .AX_BLEND_SKIPPED]
  | .AUX_CHAIN_CLEAR => [.AUX_START_DROP, .AUX_URGENT_DROP]
  | .SYNC_CLEAR => [.SYNC_FIRES, .SYNC_FIRE_IGNORED, .SYNC_CRC_ERR, .SYNC_BAD_FRAME, .EVOUT_CONFLICT]
  | .SEC_CLEAR => [.SEC_SIG_FAILS, .SEC_SPDM_REQUESTS, .SEC_SPDM_ERRORS]
  | .MEM_CLEAR => [.MEM_CORRECTED, .MEM_UNCORRECTED]
  | _ => []

/-- PIPE_CLEAR of half `h` (R157). -/
def pipeClear (h v : Nat) (d : Dev) : Dev :=
  let all (r : Reg) (n : Nat) (d : Dev) : Dev := (List.range n).foldl (fun d k => zeroed r (n * h + k) d) d
  let d := if bitOf v 0 then all .PIPE_SAT 4 d else d
  let d := if bitOf v 1 then all .PIPE_CLIP_LO 4 (all .PIPE_CLIP_HI 4 d) else d
  let d := if bitOf v 2 then all .PIPE_LUT_CLAMP 4 d else d
  clearCounters [.PIPE_ALIGN_GAPS, .PIPE_TEMP_STALE, .PIPE_LATENCY_MAX] h (v / 8) d

/-- The word after a write under the access codes of R4. -/
def coded (r : Reg) (old v : Word) : Word :=
  r.info.fields.foldl (fun w x =>
    match x.acc with
    | .rw | .rws => x.fld.put (x.fld.get v) w
    | .w1c => x.fld.put (x.fld.get (old &&& ~~~ v)) w
    | .w1s => x.fld.put (x.fld.get (old ||| v)) w
    | _ => w) old

/-- Whether a field of a write would take a reserved encoding (R6). -/
def reservedWrite (r : Reg) (v : Word) : Bool :=
  r.info.fields.any (fun x => !x.legal.isEmpty && (x.acc = .rw || x.acc = .rws || x.acc = .wo) &&
    !x.legal.any (fun l => decide (l.1 ≤ x.fld.get v ∧ x.fld.get v ≤ l.2)))

/-- A register that is storage only takes the value; a shadowed one comes into force at a hand-over (R4, R95). -/
def regPlain (r : Reg) (i : Nat) (v : Word) (d : Dev) : Dev :=
  let d := wr r i (coded r (rd d r i) v) d
  if r.info.fields.any (fun x => x.acc = .rws) then esc (fun e => { e with rwsDirty := true }) d else d

/-- The thresholds of an axis after a write of AX_MSTEP_THR (R328). -/
def thrList (d : Dev) (a k : Nat) (v : Word) : List Nat :=
  (List.range 4).flatMap (fun j =>
    let w := if j = k then v else rd d .AX_MSTEP_THR (4 * a + j)
    [AX_MSTEP_THR.THR_LO.get w, AX_MSTEP_THR.THR_HI.get w])

/-- Whether a list of numbers never decreases. -/
def rises (l : List Nat) : Bool := (l.zip (l.drop 1)).all (fun x => decide (x.1 ≤ x.2))

/-- A write of EVOUT_CFG: OPEN_DRAIN is kept while DRIVE_EN is 1; IDLE is the kept level until a LEVEL action (R224, R234). -/
def evoutCfg (o : Nat) (v : Word) (d : Dev) : Dev :=
  let old := rf d .EVOUT_CFG o EVOUT_CFG.OPEN_DRAIN
  let locked := rb d .EVOUT_CFG o EVOUT_CFG.DRIVE_EN
  let d := regPlain .EVOUT_CFG o (if locked then EVOUT_CFG.OPEN_DRAIN.put old v else v) d
  let idle := EVOUT_CFG.IDLE.get v == 1
  let d := showOuts { d with sync := { d.sync with outs := modAt d.sync.outs o (fun x => if x.set then x else { x with kept := idle }) } }
  if locked then occur Src.EVOUT_CFG_LOCKED o 0 0 d else d

/-- A write of DMA_CH_CTRL (R303). -/
def dmaCtrl (c : Nat) (v : Word) (d : Dev) : Dev :=
  if 48 ≤ c then occur Src.DMA_CFG_LOCKED c 0 0 d
  else
    let en := DMA_CH_CTRL.ENABLE.get v == 1
    let pause := DMA_CH_CTRL.PAUSE.get v == 1
    let d := dmaEnable c en d
    let d := if en && rb d .DMA_CH_CTRL c DMA_CH_CTRL.PAUSE != pause then dmaPauseWrite c pause d else d
    if DMA_CH_CTRL.RESTART.get v = 1 then dmaRestart c d else d

/-- A write of AX_CTRL; the level at AX_FAULT_N is the one seen last (R335). -/
def axCtrl (a : Nat) (v : Word) (d : Dev) : Dev :=
  let high := !rb d .AXH_STATUS a AXH_STATUS.FAULT_IN
  let d := if AX_CTRL.CLEAR_FAULT.get v = 1 then axClearFault a high d else d
  axEnable a (AX_CTRL.ENABLE.get v == 1) high d

/-- The channel registers that are locked while a channel is not DISABLED (R303). -/
def dmaLockedReg (r : Reg) : Bool := r = .DMA_CH_RING_BASE || r = .DMA_CH_RING_SIZE || r = .DMA_CH_CFG

/-- The registers of a DMA channel (R291, R311). -/
def dmaReg (r : Reg) : Bool :=
  dmaLockedReg r || r = .DMA_CH_TIMER || r = .DMA_CH_CTRL || r = .DMA_CH_TAIL || r = .DMA_CH_CLEAR

/-- A write that changes more than storage, by register; `v` is what the write holds. -/
def regAct (r : Reg) (i : Nat) (v : Word) (d : Dev) : Dev :=
  let n := v.toNat
  match r with
  -- events
  | .EVT_STATUS => evtStatusClear i n d
  | .EVT_WRAPPED => clearFlags .EVT_WRAPPED .EVT_WRAPPED 32 i n d
  | .RST_CAUSE => clearFlags .RST_CAUSE .RST_CAUSE 51 i n d
  | .EVT_ENABLE => evtEnableWrite i n d
  | .EVT_ROUTE => evtRouteWrite i v d
  | .EVT_CTRL =>
    let s := EVT_CTRL.SOURCE.get v
    let d := if EVT_CTRL.CLEAR_COUNT.get v = 1 then evtClearCount s d else d
    if EVT_CTRL.SW_SET.get v = 1 then evtSwSet s d else d
  | .EVT_LOG_BASE => if rb d .EVT_LOG_CFG 0 EVT_LOG_CFG.ENABLE then d else regPlain r i v d
  | .EVT_LOG_CFG => evtLogCfgWrite (EVT_LOG_CFG.SIZE.get v) (EVT_LOG_CFG.ENABLE.get v == 1) d
  | .EVT_LOG_READ => evtLogRead (n % 2 ^ 32) d
  | .DIAG_INJECT => diagInject (DIAG_INJECT.MEMORY.get v) (DIAG_INJECT.DOUBLE.get v == 1) (DIAG_INJECT.ARM.get v == 1) d
  | .DIAG_CLEAR => if bitOf n 0 then zeroAll .DIAG_ECC_COUNT 18 (zeroAll .DIAG_ECC_UNCORR 18 d) else d
  | .GLB_TJ_CLEAR => if bitOf n 0 then tjClear d else d
  -- rings
  | .RING_SQ_BASE | .RING_SQ_CFG | .RING_SQ_QUOTA =>
    if sqEnabled d i then occur Src.RING_CFG_LOCKED i 0 0 d else regPlain r i v d
  | .RING_CQ_BASE | .RING_CQ_CFG => if cqEnabled d i then occur Src.RING_CFG_LOCKED i 0 0 d else regPlain r i v d
  | .RING_CQ_COALESCE => cqCoalesce i (regPlain r i v d)
  | .RING_SQ_CTRL => if bitOf n 0 then sqEnableWrite i d else sqDisableWrite i d
  | .RING_CQ_CTRL => if bitOf n 0 then cqEnableWrite i d else cqDisableWrite i d
  | .DBELL_SQ => dbellSqWrite i (n % 2 ^ 32) d
  | .DBELL_CQ => dbellCqWrite i (n % 2 ^ 32) d
  -- the Escapement
  | .ESC_RATIO_CTRL => ratioCtrl (bitOf n 0) (bitOf n 1) d
  | .TTBL_HANDOVER_NOW => if bitOf n 0 then handoverNow d else d
  | .TTBL_GEN_COMMIT => genCommit (TTBL_GEN_COMMIT.CLASS.get v) d
  -- ports, pipeline, comparator, pages
  | .PORT_CTRL => if bitOf n 0 || bitOf n 1 then portCtrl i (bitOf n 0) (bitOf n 1) d else d
  | .PG_OUT => if rb d .PG_STATUS i PG_STATUS.OUT_EN then occur (Src.PG_CFG_LOCKED (i / 4)) (i / 4) i 0 d else regPlain r i v d
  | .PIPE_CLEAR => pipeClear i n d
  | .CMPR_REF_NEXT => cmpr (fun x => { x with nextDirty := true }) (regPlain r i v d)
  | .CMPR_ACT_CLEAR =>
    let d := if bitOf n 0 then wr .CMPR_ACT_MARGIN i (Reg.reset .CMPR_ACT_MARGIN i) d else d
    clearCounters [.CMPR_ACT_FIRED, .CMPR_ACT_MERGED] i (n / 2) d
  | .PROD_PAGE_CTRL =>
    let d := if bitOf n 0 then pageCtrl true d else d
    if bitOf n 1 then pageCtrl false d else d
  | .PROD_CLEAR =>
    let d := clearCounters (clearList r) i n d
    if bitOf n 6 then zeroAll .PROD_TRIG_FIRES 32 (zeroAll .PROD_TRIG_HELD 32 d) else d
  | .SYNC_CTRL =>
    let d := if bitOf n 0 then syncCtrlArm (SYNC_CTRL.RULE.get v) d else d
    if bitOf n 1 then syncCtrlDisarm d else d
  | .SYNC_CFG =>
    let d := regPlain r i v d
    let d := if ringMaster d then becomeMaster d else d
    if rb d .SYNC_CFG 0 SYNC_CFG.ENABLE then d else ringDown d
  | .TRIG_PIN_CFG => (fun d => pinLevel i (stampNow d) d) (regPlain r i v d)
  | .BTN_CFG => btnLevel i false (regPlain r i v d)
  | .EVOUT_CFG => evoutCfg i v d
  -- queues and drives
  | .QUE_UQ_CLEAR => (bitsOf n 16).foldl (fun d q => zeroed .QUE_UQ_DROP q d) d
  | .QUE_LADDER_WM =>
    if QUE_LADDER_WM.DOWN.get v ≤ QUE_LADDER_WM.UP.get v then occur0 Src.QUE_CFG_INVALID d else regPlain r i v d
  | .QUE_PACE_CFG =>
    if QUE_PACE_CFG.HIGH.get v ≤ QUE_PACE_CFG.LOW.get v then occur0 Src.QUE_CFG_INVALID d else regPlain r i v d
  | .RP_PORT_RATE_CAP => showDrives (regPlain r i v d)
  -- calibration
  | .CAL_CTRL =>
    let d := regPlain r i v d
    if CAL_CTRL.RESTORE.get v = 1 then calRestore d else d
  -- DMA
  | .DMA_CH_CTRL => dmaCtrl i v d
  | .DMA_CH_TAIL => dmaTail i (n % 2 ^ 32) d
  -- motion
  | .AX_CTRL => axCtrl i v d
  | .AX_MSTEP_THR =>
    if rises (thrList d (i / 4) (i % 4) v) then regPlain r i v d else occur (Src.AX_CFG_INVALID (i / 4)) (i / 4) 0 0 d
  | .AX_GEAR_CTRL =>
    let d := if bitOf n 1 then gearCancel i d else d
    if bitOf n 0 then gearArm i d else d
  | .AXH_SENSE | .AXH_LIM => if axState d i = axDISABLED then regPlain r i v d else occur (Src.AX_CFG_LOCKED i) i 0 0 d
  -- the auxiliary front end
  | .AUX_CHAIN_CTRL => if bitOf n 0 then auxForce i d else d
  | .AUX_URGENT => auxUrgent i (AUX_URGENT.INPUT.get v) (AUX_URGENT.QUEUE.get v) (AUX_URGENT.PUSH.get v == 1) d
  -- Franking
  | .SEC_OPTION_CTRL => if bitOf n 0 then optionCommit d else d
  | r =>
    if (clearList r).isEmpty then regPlain r i v d else clearCounters (clearList r) i n d

/-- A write of a whole register: discarded whole for a reserved encoding (R6, R300) or a lock, else its act. Limits that their table orders
otherwise are taken for one (R261, R289; log entry 102). A write of RST_CROWN_GO is the command CROWN_GO. -/
def regWrite (r : Reg) (i : Nat) (v : Word) (d : Dev) : Dev :=
  let own := (r = .DMA_CH_CFG && DMA_CH_CFG.CHAIN_FROM.get v = i) ||
    (r = .CAL_LIMIT && decide (CAL_LIMIT.GAIN_MAX.get v < CAL_LIMIT.GAIN_MIN.get v)) ||
    (r = .QUE_SPILL_CFG && decide (QUE_SPILL_CFG.ON.get v ≤ QUE_SPILL_CFG.OFF.get v))
  if dmaReg r && 48 ≤ i then occur Src.DMA_CFG_LOCKED i 0 0 d
  else if reservedWrite r v || own then occur0 Src.REG_RESERVED_WRITE d
  else if dmaLockedReg r && chState d i ≠ chDISABLED then occur Src.DMA_CFG_LOCKED i 0 0 d
  else regAct r i v d

/-! ### Bytes that are not registers -/

/-- What a byte of the MSI-X table holds after a write: of a vector's control only its mask bit can be written (R438). -/
def msixByte (off : Nat) (b : Byte) : Byte := if off % 16 = 12 then b &&& 1#8 else if 12 < off % 16 then 0#8 else b

/-- A write into the MSI-X table; vectors that it unmasks send what is pending (R418). -/
def msixWrite (off : Nat) (b : Bytes) (d : Dev) : Dev :=
  let v := off / 16
  let was := msixMasked d v
  let d := winWrite .msixTable off (b.zipIdx.map (fun x => msixByte (off + x.2) x.1)) d
  if was && !msixMasked d v then msixUnmask v d else d

/-- A write of bytes to a place that is no register. -/
def placeWrite (p : Place) (b : Bytes) (d : Dev) : Dev :=
  match p with
  | .bytes .msixTable off _ => msixWrite off b d
  | .bytes w off true => winWrite w off b d
  | .table c off =>
    if bankIsBusy d c then occur Src.SHADOW_BANK_BUSY c 0 0 d
    else { d with tables := Mem.writeBytes d.tables (bankAddr c (bankOut d c) off) b }
  | .drift off => driftWrite off b d
  | _ => d

/-! ### Accesses through BAR0 (R7, R8, R9, R22) -/

/-- An access of a size or alignment that R7 allows. -/
def sizeOk (a size : Nat) : Bool := (size == 4 && a % 4 == 0) || (size == 8 && a % 8 == 0)

/-- The low word of a register as R8 forms it where none is held: RW and RWS fields as read, all others 0. -/
def formLow (d : Dev) (r : Reg) (i : Nat) : Nat :=
  (r.info.fields.foldl (fun w x => if x.acc = .rw || x.acc = .rws then x.fld.put (x.fld.get (rd d r i)) w else w) (0 : Word)).toNat % 2 ^ 32

/-- The flag of an access that reaches nothing sets only while FABRIC itself runs (R22). -/
def barFlag (n : Nat) (d : Dev) : Dev := if domUp d dFABRIC then occur0 n d else d

/-- A 32-bit write. -/
def write32 (a v : Nat) (d : Dev) : Dev :=
  if !domUp d (addrDom a) && a < 0x1A00000 then barFlag Src.BAR0_DOMAIN_OFF d
  else match placeOf_ d a with
    | .unmapped => barFlag Src.BAR0_UNMAPPED d
    | .reg r i high =>
      let d := dropLatch r i d
      if !r.info.wide then regWrite r i (BitVec.ofNat 64 (v % 2 ^ 32)) d
      else if !high then { d with loHeld := spSet none (rkey r i) (some (v % 2 ^ 32)) d.loHeld }
      else
        let low := (spGet none (rkey r i) d.loHeld).getD (formLow d r i)
        regWrite r i (BitVec.ofNat 64 (v % 2 ^ 32 * 2 ^ 32 + low)) { d with loHeld := spSet none (rkey r i) none d.loHeld }
    | p => placeWrite p (leBytes 4 v) d

/-- Whether a naturally aligned 64-bit access is one access: to one 64-bit register, or to bytes of a window (R8, R463). -/
def wholeAt (d : Dev) (a : Nat) : Bool :=
  match placeOf_ d a with
  | .reg r _ _ => r.info.wide
  | .unmapped => false
  | _ => match placeOf_ d (a + 4) with
    | .reg _ _ _ | .unmapped => false
    | _ => true

/-- A 64-bit write: of a 64-bit register, whole; of bytes, all 8; else of two words, the lower first, each as its own target
requires (R463). -/
def write64 (a v : Nat) (d : Dev) : Dev :=
  if !wholeAt d a then write32 (a + 4) (v / 2 ^ 32) (write32 a (v % 2 ^ 32) d)
  else if !domUp d (addrDom a) && a < 0x1A00000 then barFlag Src.BAR0_DOMAIN_OFF d
  else match placeOf_ d a with
    | .reg r i _ => regWrite r i (BitVec.ofNat 64 v) (dropLatch r i { d with loHeld := spSet none (rkey r i) none d.loHeld })
    | p => placeWrite p (leBytes 8 v) d

/-- REGISTER_WRITE, HIGH_WORD_WRITE: a write through BAR0. -/
def bar0Write (a size v : Nat) (d : Dev) : Dev :=
  if !sizeOk a size then occur0 Src.BAR0_ACCESS_SIZE d
  else if size = 8 then write64 a v d else write32 a v d

/-- A 32-bit read: what it returns, and the device after it. -/
def read32 (f : Fuses) (a : Nat) (d : Dev) : Nat × Dev :=
  if !domUp d (addrDom a) && a < 0x1A00000 then (0, barFlag Src.BAR0_DOMAIN_OFF d)
  else match placeOf_ d a with
    | .unmapped => (0, barFlag Src.BAR0_UNMAPPED d)
    | .reg r i high =>
      let v := (regValue f d r i).toNat
      if !r.info.wide then (v % 2 ^ 32, d)
      else if !high then
        let d := { d with hiLatch := spSet none (rkey r i) (some (v / 2 ^ 32)) d.hiLatch }
        (v % 2 ^ 32, if r = .QUE_UQ_POP then uqDrop i d else d)
      else ((spGet none (rkey r i) d.hiLatch).getD (v / 2 ^ 32), dropLatch r i d)
    | p => (leNat ((List.range 4).map (placeByte d p)), d)

/-- A 64-bit read, of one target or of two words, the lower first (R8, R463). -/
def read64 (f : Fuses) (a : Nat) (d : Dev) : Nat × Dev :=
  if !wholeAt d a then
    let x := read32 f a d
    let y := read32 f (a + 4) x.2
    (x.1 + y.1 * 2 ^ 32, y.2)
  else if !domUp d (addrDom a) && a < 0x1A00000 then (0, barFlag Src.BAR0_DOMAIN_OFF d)
  else match placeOf_ d a with
    | .reg r i _ =>
      ((regValue f d r i).toNat, if r = .QUE_UQ_POP then uqDrop i (dropLatch r i d) else dropLatch r i d)
    | p => (leNat ((List.range 8).map (placeByte d p)), d)

/-- BAR0_READ_SPECIAL, LOW_WORD_READ: a read through BAR0, with its answer. -/
def bar0Read (f : Fuses) (a size : Nat) (d : Dev) : Dev :=
  if !sizeOk a size then occur0 Src.BAR0_ACCESS_SIZE (emit (.readData 0) d)
  else
    let x := if size = 8 then read64 f a d else read32 f a d
    emit (.readData x.1) x.2

/-- A write of one register as a command of its own: nothing happens while the register's domain does not run, but the flag (R22). -/
def regCommand (r : Reg) (i : Nat) (act : Dev → Dev) (d : Dev) : Dev :=
  if domUp d (addrDom (regAddr r i)) then act d else barFlag Src.BAR0_DOMAIN_OFF d

/-! ### Configuration space (R1, R24, R383) -/

/-- Vendor ID, Device ID, Revision ID and class code, in and out of Crown mode (R1, R383). No command of the model reads
configuration space. -/
def pciIdentity : Nat × Nat × Nat × Nat := (Config.vendorId, 0x7200, 0xB1, 0x118000)

/-- Sizes of BAR0 and BAR2: a BAR2 that the option record disables, or in Crown mode, is not implemented, with a size of 0. -/
def bar0Size : Nat := 2 ^ 28
def bar2Size (d : Dev) : Nat := if crown d || (winGet d .option 8).toNat % 2 = 0 then 0 else 2 ^ 36

/-! ### BAR2 (R24) -/

/-- BAR2_ACCESS: a write of bytes, or a read of as many. BAR2 takes no access where it is not implemented. -/
def bar2Access (write : Bool) (off : Nat) (b : Bytes) (d : Dev) : Dev :=
  let answer (v : Nat) (d : Dev) : Dev := if write then d else emit (.readData v) d
  if bar2Size d = 0 then d
  else if hbmVisible < off + b.length then barFlag Src.BAR0_UNMAPPED (answer 0 d)
  else if !domUp d (dMEM 0) || !domUp d (dMEM 1) then barFlag Src.BAR0_DOMAIN_OFF (answer 0 d)
  else if write then { d with hbm := Mem.writeBytes d.hbm off b }
  else answer (leNat (Mem.readBytes d.hbm off b.length)) d

end Sys2Proof.Machine
end

