-- ==== Sys2Proof/Machine/Settle.lean ====
section
/-!
DEFINITION. Machine/Settle.lean: what follows every command's own effect (work that event routes ask of the Regulator and the
Remontoire, the calibration run's segments, a checkpoint that is due), and the form every meaning has.
-/
namespace Sys2Proof.Machine

/-- One piece of work an event route asks of another unit (R422). -/
def serve (q : Req) (d : Dev) : Dev :=
  match q with
  | .regulTrigger => regulTriggerAll d
  | .remonStop => remonStopAll d

/-- All work asked is done, in the order asked; what that work asks in turn follows it (log entry 12). -/
def drainRq : Nat → Dev → Dev
  | 0, d => { d with rq := [] }
  | n + 1, d => if d.rq.isEmpty then d else drainRq n (d.rq.foldl (fun d q => serve q d) { d with rq := [] })

/-- A checkpoint starts at the latest with the 65,536th record since the last (R64). -/
def ckptDue (d : Dev) : Dev := if 65536 ≤ d.post.sinceCkpt then ckptStart d else d

/-- What follows a command once. -/
def settleOnce (d : Dev) : Dev := ckptDue (calSettle (drainRq 64 d))

/-- It follows again while it asks for more; nothing is left asked at the end (log entry 12). -/
def settleN : Nat → Dev → Dev
  | 0, d => { d with rq := [] }
  | n + 1, d => if (settleOnce d).rq.isEmpty then settleOnce d else settleN n (settleOnce d)

/-- What follows the effect of any command. -/
def settle (d : Dev) : Dev := settleN 4 d

/-- The form of every meaning: a unit or operand that the device does not have is a fault, else the device changes by `f`. -/
def act (ok : Bool) (f : Dev → Dev) (s : State) : Host.Outcome State Fault Refusal :=
  if ok then .next { s with dev := settle (f s.dev) } else .fault .noSuchUnit

/-- A meaning that also changes fuses: `g` gives the fuses after it. -/
def actFuses (ok : Bool) (g : Fuses → Dev → Fuses) (f : Dev → Dev) (s : State) : Host.Outcome State Fault Refusal :=
  if ok then .next { s with fuses := g s.fuses s.dev, dev := settle (f s.dev) } else .fault .noSuchUnit

end Sys2Proof.Machine
end

