-- ==== Sys2Proof/Machine/ExecControl.lean ====
section
/-!
DEFINITION. Machine/ExecControl.lean: the meanings of the writes of control registers that have a row of their own, and of the requests of the host interface.
-/
namespace Sys2Proof.Machine

/-- CROWN_GO (R384): `block` answers the fetch of the parameter block. -/
def execCrownGo (block : Fetch) (s : State) : Host.Outcome State Fault Refusal :=
  act true (fun d => crownGo block d) s

/-- RATIO_ARM (R82). -/
def execRatioArm (s : State) : Host.Outcome State Fault Refusal :=
  act true (fun d => regCommand .ESC_RATIO_CTRL 0 (ratioCtrl true false) d) s

/-- RATIO_CANCEL (R82). -/
def execRatioCancel (s : State) : Host.Outcome State Fault Refusal :=
  act true (fun d => regCommand .ESC_RATIO_CTRL 0 (ratioCtrl false true) d) s

/-- TTBL_HANDOVER_NOW (R99). -/
def execTtblHandoverNow (s : State) : Host.Outcome State Fault Refusal :=
  act true (fun d => regCommand .TTBL_HANDOVER_NOW 0 handoverNow d) s

/-- TTBL_GEN_COMMIT (R97): bit c of `classes` commits class c. -/
def execTtblGenCommit (classes : Nat) (s : State) : Host.Outcome State Fault Refusal :=
  act (decide (classes < 4096)) (fun d => regCommand .TTBL_GEN_COMMIT 0 (genCommit classes) d) s

/-- PORT_RESUME (R122). -/
def execPortResume (port : Nat) (s : State) : Host.Outcome State Fault Refusal :=
  act (isPort port) (fun d => regCommand .PORT_CTRL port (portCtrl port true false) d) s

/-- PORT_POWER_OFF (R125). -/
def execPortPowerOff (port : Nat) (s : State) : Host.Outcome State Fault Refusal :=
  act (isPort port) (fun d => regCommand .PORT_CTRL port (portCtrl port false true) d) s

/-- CAL_RESTORE (R244). -/
def execCalRestore (s : State) : Host.Outcome State Fault Refusal :=
  act true (fun d => regCommand .CAL_CTRL 0 calRestore d) s

/-- PAGE_CTRL_OPEN (R203). -/
def execPageCtrlOpen (s : State) : Host.Outcome State Fault Refusal :=
  act true (fun d => regCommand .PROD_PAGE_CTRL 0 (pageCtrl true) d) s

/-- PAGE_CTRL_CLOSE (R203). -/
def execPageCtrlClose (s : State) : Host.Outcome State Fault Refusal :=
  act true (fun d => regCommand .PROD_PAGE_CTRL 0 (pageCtrl false) d) s

/-- SYNC_CTRL_ARM (R229). -/
def execSyncCtrlArm (rule : Nat) (s : State) : Host.Outcome State Fault Refusal :=
  act (decide (rule < 4)) (fun d => regCommand .SYNC_CTRL 0 (syncCtrlArm rule) d) s

/-- SYNC_CTRL_DISARM (R229). -/
def execSyncCtrlDisarm (s : State) : Host.Outcome State Fault Refusal :=
  act true (fun d => regCommand .SYNC_CTRL 0 syncCtrlDisarm d) s

/-- DMA_CH_TAIL (R293). -/
def execDmaChTail (chan : Nat) (count : Nat) (s : State) : Host.Outcome State Fault Refusal :=
  act (isChan chan && isWord count) (fun d => regCommand .DMA_CH_TAIL chan (dmaTail chan count) d) s

/-- DMA_CH_ENABLE (R303). -/
def execDmaChEnable (chan : Nat) (enable : Bool) (s : State) : Host.Outcome State Fault Refusal :=
  act (isChan chan) (fun d => regCommand .DMA_CH_CTRL chan (dmaEnable chan enable) d) s

/-- DMA_CH_PAUSE (R304). -/
def execDmaChPause (chan : Nat) (pause : Bool) (s : State) : Host.Outcome State Fault Refusal :=
  act (isChan chan) (fun d => regCommand .DMA_CH_CTRL chan (dmaPauseWrite chan pause) d) s

/-- DMA_CH_RESTART (R303). -/
def execDmaChRestart (chan : Nat) (s : State) : Host.Outcome State Fault Refusal :=
  act (isChan chan) (fun d => regCommand .DMA_CH_CTRL chan (dmaRestart chan) d) s

/-- AX_ENABLE (R335): `faultHigh` is the level at AX_FAULT_N. -/
def execAxEnable (axis : Nat) (enable : Bool) (faultHigh : Bool) (s : State) : Host.Outcome State Fault Refusal :=
  act (isAxis axis) (fun d => regCommand .AX_CTRL axis (axEnable axis enable faultHigh) d) s

/-- AX_CLEAR_FAULT (R335): `faultHigh` is the level at AX_FAULT_N. -/
def execAxClearFault (axis : Nat) (faultHigh : Bool) (s : State) : Host.Outcome State Fault Refusal :=
  act (isAxis axis) (fun d => regCommand .AX_CTRL axis (axClearFault axis faultHigh) d) s

/-- GEAR_ARM (R326). -/
def execGearArm (axis : Nat) (s : State) : Host.Outcome State Fault Refusal :=
  act (isAxis axis) (fun d => regCommand .AX_GEAR_CTRL axis (gearArm axis) d) s

/-- GEAR_CANCEL (R326). -/
def execGearCancel (axis : Nat) (s : State) : Host.Outcome State Fault Refusal :=
  act (isAxis axis) (fun d => regCommand .AX_GEAR_CTRL axis (gearCancel axis) d) s

/-- AUX_FORCE (R351). -/
def execAuxForce (chain : Nat) (s : State) : Host.Outcome State Fault Refusal :=
  act (isChain chain) (fun d => regCommand .AUX_CHAIN_CTRL chain (auxForce chain) d) s

/-- AUX_URGENT (R357). -/
def execAuxUrgent (chain : Nat) (input : Nat) (queue : Nat) (push : Bool) (s : State) : Host.Outcome State Fault Refusal :=
  act (isChain chain && decide (input < 32) && isQueue queue) (fun d => regCommand .AUX_URGENT chain (auxUrgent chain input queue push) d) s

/-- OPTION_COMMIT (R403). -/
def execOptionCommit (s : State) : Host.Outcome State Fault Refusal :=
  act true (fun d => regCommand .SEC_OPTION_CTRL 0 optionCommit d) s

/-- EVT_SW_SET (R414). -/
def execEvtSwSet (source : Nat) (s : State) : Host.Outcome State Fault Refusal :=
  act (isSource source) (fun d => regCommand .EVT_CTRL 0 (evtSwSet source) d) s

/-- EVT_CLEAR_COUNT (R427). -/
def execEvtClearCount (source : Nat) (s : State) : Host.Outcome State Fault Refusal :=
  act (isSource source) (fun d => regCommand .EVT_CTRL 0 (evtClearCount source) d) s

/-- EVT_STATUS_CLEAR (R416). -/
def execEvtStatusClear (word : Nat) (value : Nat) (s : State) : Host.Outcome State Fault Refusal :=
  act (isFlagWord word && isWord value) (fun d => regCommand .EVT_STATUS word (evtStatusClear word value) d) s

/-- EVT_ENABLE_WRITE (R418). -/
def execEvtEnableWrite (word : Nat) (value : Nat) (s : State) : Host.Outcome State Fault Refusal :=
  act (isFlagWord word && isWord value) (fun d => regCommand .EVT_ENABLE word (evtEnableWrite word value) d) s

/-- EVT_LOG_READ (R425). -/
def execEvtLogRead (count : Nat) (s : State) : Host.Outcome State Fault Refusal :=
  act (isWord count) (fun d => regCommand .EVT_LOG_READ 0 (evtLogRead count) d) s

/-- EVT_LOG_CFG_WRITE (R425). -/
def execEvtLogCfgWrite (size : Nat) (enable : Bool) (s : State) : Host.Outcome State Fault Refusal :=
  act (decide (size < 65536)) (fun d => regCommand .EVT_LOG_CFG 0 (evtLogCfgWrite size enable) d) s

/-- DIAG_INJECT (R434). -/
def execDiagInject (memory : Nat) (double : Bool) (arm : Bool) (s : State) : Host.Outcome State Fault Refusal :=
  act (decide (memory < 18)) (fun d => regCommand .DIAG_INJECT 0 (diagInject memory double arm) d) s

/-- UQ_POP (R263). -/
def execUqPop (queue : Nat) (s : State) : Host.Outcome State Fault Refusal :=
  act (isQueue queue) (fun d => regCommand .QUE_UQ_POP queue (uqPop queue) d) s

/-- MSIX_ENABLE (R418). -/
def execMsixEnable (s : State) : Host.Outcome State Fault Refusal :=
  act true (fun d => whenUp dEP msixEnable d) s

/-- MSIX_UNMASK (R418). -/
def execMsixUnmask (vector : Nat) (s : State) : Host.Outcome State Fault Refusal :=
  act (decide (vector < 2048)) (fun d => whenUp dEP (msixUnmask vector) d) s

/-- SPDM_REQUEST (R409). -/
def execSpdmRequest (object : Bytes) (s : State) : Host.Outcome State Fault Refusal :=
  act true (fun d => spdmRequest s.fuses (fun s => effReach d s 1) object d) s

end Sys2Proof.Machine
end

