-- ==== Sys2Proof/Machine/ExecOpcodes.lean ====
section
/-!
DEFINITION. Machine/ExecOpcodes.lean: the meanings of the opcodes of R48, each for the command in flight with a ring and a tag. A command that is not in flight, that has started or that may not start yet (R44, R56) changes nothing.
-/
namespace Sys2Proof.Machine

/-- The fuses after FW_STAGE: a fuse request that is carried out raises REACH counts (R405). -/
def stageFuses (sq tag : Nat) (f : Fuses) (d : Dev) : Fuses :=
  if !(domUp d dPOST || crown d) || d.post.closing then f
  else match findCmd d sq tag with
    | some c =>
      if c.op = 0xA0 && !c.started && mayStart d c && domUp d dFRANK && fuseRequest d c then
        { f with reach := raiseReach c.block f.reach }
      else f
    | none => f

/-- IDENTIFY (R402). -/
def execIdentify (sq : Nat) (tag : Nat) (s : State) : Host.Outcome State Fault Refusal :=
  act (isRing sq && isTag tag) (fun d => withCmd sq tag 0x01 (fun c d => identify s.fuses c d) d) s

/-- GET_FEATURE (R28). -/
def execGetFeature (sq : Nat) (tag : Nat) (s : State) : Host.Outcome State Fault Refusal :=
  act (isRing sq && isTag tag) (fun d => withCmd sq tag 0x02 (fun c d => getFeature c d) d) s

/-- SET_FEATURE (R28). -/
def execSetFeature (sq : Nat) (tag : Nat) (s : State) : Host.Outcome State Fault Refusal :=
  act (isRing sq && isTag tag) (fun d => withCmd sq tag 0x03 (fun c d => setFeature c d) d) s

/-- ABORT (R51). -/
def execAbort (sq : Nat) (tag : Nat) (s : State) : Host.Outcome State Fault Refusal :=
  act (isRing sq && isTag tag) (fun d => withCmd sq tag 0x04 (fun c d => abortCmd c d) d) s

/-- SYNC_DURABLE (R52). -/
def execSyncDurable (sq : Nat) (tag : Nat) (s : State) : Host.Outcome State Fault Refusal :=
  act (isRing sq && isTag tag) (fun d => withCmd sq tag 0x05 (fun c d => syncDurable c d) d) s

/-- LEDGER_READ (R53). -/
def execLedgerRead (sq : Nat) (tag : Nat) (s : State) : Host.Outcome State Fault Refusal :=
  act (isRing sq && isTag tag) (fun d => withCmd sq tag 0x06 (fun c d => ledgerRead c d) d) s

/-- RESET (R386). -/
def execReset (sq : Nat) (tag : Nat) (s : State) : Host.Outcome State Fault Refusal :=
  act (isRing sq && isTag tag) (fun d => withCmd sq tag 0x07 (fun c d => resetCmd s.fuses c d) d) s

/-- RESERVE_QUERY (R54). -/
def execReserveQuery (sq : Nat) (tag : Nat) (s : State) : Host.Outcome State Fault Refusal :=
  act (isRing sq && isTag tag) (fun d => withCmd sq tag 0x08 (fun c d => needDom dFABRIC c (fun d => reserveQuery c d) d) d) s

/-- TTBL_LOAD (R89): `image` answers the read of the image. -/
def execTtblLoad (sq : Nat) (tag : Nat) (image : Fetch) (s : State) : Host.Outcome State Fault Refusal :=
  act (isRing sq && isTag tag) (fun d => withCmd sq tag 0x20 (fun c d => ttblLoad c image d) d) s

/-- TTBL_ACTIVATE (R90). -/
def execTtblActivate (sq : Nat) (tag : Nat) (s : State) : Host.Outcome State Fault Refusal :=
  act (isRing sq && isTag tag) (fun d => withCmd sq tag 0x21 (fun c d => ttblActivate c d) d) s

/-- TTBL_UNLOAD (R91). -/
def execTtblUnload (sq : Nat) (tag : Nat) (s : State) : Host.Outcome State Fault Refusal :=
  act (isRing sq && isTag tag) (fun d => withCmd sq tag 0x22 (fun c d => ttblUnload c d) d) s

/-- REF_ALLOC (R161). -/
def execRefAlloc (sq : Nat) (tag : Nat) (s : State) : Host.Outcome State Fault Refusal :=
  act (isRing sq && isTag tag) (fun d => withCmd sq tag 0x23 (fun c d => needDom dCOMPARE c (fun d => refAlloc c d) d) d) s

/-- REF_LOAD (R162): `content` answers the reads of the source list. -/
def execRefLoad (sq : Nat) (tag : Nat) (content : Fetch) (s : State) : Host.Outcome State Fault Refusal :=
  act (isRing sq && isTag tag) (fun d => withCmd sq tag 0x24 (fun c d => needDom dCOMPARE c (fun d => refLoad content c d) d) d) s

/-- REF_FREE (R163). -/
def execRefFree (sq : Nat) (tag : Nat) (s : State) : Host.Outcome State Fault Refusal :=
  act (isRing sq && isTag tag) (fun d => withCmd sq tag 0x25 (fun c d => needDom dCOMPARE c (fun d => refFree c d) d) d) s

/-- CAPTURE_START (R58). -/
def execCaptureStart (sq : Nat) (tag : Nat) (s : State) : Host.Outcome State Fault Refusal :=
  act (isRing sq && isTag tag) (fun d => withCmd sq tag 0x40 (fun c d => needDom dFABRIC c (fun d => captureStart c d) d) d) s

/-- CAPTURE_STOP (R205). -/
def execCaptureStop (sq : Nat) (tag : Nat) (s : State) : Host.Outcome State Fault Refusal :=
  act (isRing sq && isTag tag) (fun d => withCmd sq tag 0x41 (fun c d => needDom dFABRIC c (fun d => captureStop c d) d) d) s

/-- BUFFER_POST (R50). -/
def execBufferPost (sq : Nat) (tag : Nat) (s : State) : Host.Outcome State Fault Refusal :=
  act (isRing sq && isTag tag) (fun d => withCmd sq tag 0x42 (fun c d => needDom dFABRIC c (fun d => bufferPost c d) d) d) s

/-- CONTEXT_OPEN (R216). -/
def execContextOpen (sq : Nat) (tag : Nat) (s : State) : Host.Outcome State Fault Refusal :=
  act (isRing sq && isTag tag) (fun d => withCmd sq tag 0x43 (fun c d => needDom dFABRIC c (fun d => contextOpen c d) d) d) s

/-- CONTEXT_CLOSE (R217). -/
def execContextClose (sq : Nat) (tag : Nat) (s : State) : Host.Outcome State Fault Refusal :=
  act (isRing sq && isTag tag) (fun d => withCmd sq tag 0x44 (fun c d => needDom dFABRIC c (fun d => contextClose c d) d) d) s

/-- CAL_RUN (R255). -/
def execCalRun (sq : Nat) (tag : Nat) (s : State) : Host.Outcome State Fault Refusal :=
  act (isRing sq && isTag tag) (fun d => withCmd sq tag 0x60 (fun c d => needDom dREGUL c (fun d => calRun c d) d) d) s

/-- CAL_TILE_RUN (R259). -/
def execCalTileRun (sq : Nat) (tag : Nat) (s : State) : Host.Outcome State Fault Refusal :=
  act (isRing sq && isTag tag) (fun d => withCmd sq tag 0x61 (fun c d => needDom dREGUL c (fun d => calTileRun c d) d) d) s

/-- BASELINE_WRITE (R239). -/
def execBaselineWrite (sq : Nat) (tag : Nat) (s : State) : Host.Outcome State Fault Refusal :=
  act (isRing sq && isTag tag) (fun d => withCmd sq tag 0x62 (fun c d => needDom dREGUL c (fun d => baselineWrite c d) d) d) s

/-- MOVE (R320). -/
def execMove (sq : Nat) (tag : Nat) (s : State) : Host.Outcome State Fault Refusal :=
  act (isRing sq && isTag tag) (fun d => withCmd sq tag 0x70 (fun c d => needDom dREMON c (fun d => axMove c d) d) d) s

/-- HOME (R338). -/
def execHome (sq : Nat) (tag : Nat) (s : State) : Host.Outcome State Fault Refusal :=
  act (isRing sq && isTag tag) (fun d => withCmd sq tag 0x71 (fun c d => needDom dREMON c (fun d => axHome c d) d) d) s

/-- STOP (R332). -/
def execStop (sq : Nat) (tag : Nat) (s : State) : Host.Outcome State Fault Refusal :=
  act (isRing sq && isTag tag) (fun d => withCmd sq tag 0x72 (fun c d => needDom dREMON c (fun d => axStopCmd c d) d) d) s

/-- RESUME (R333). -/
def execResume (sq : Nat) (tag : Nat) (s : State) : Host.Outcome State Fault Refusal :=
  act (isRing sq && isTag tag) (fun d => withCmd sq tag 0x73 (fun c d => needDom dREMON c (fun d => axResume c d) d) d) s

/-- AUX_CONFIG (R355). -/
def execAuxConfig (sq : Nat) (tag : Nat) (s : State) : Host.Outcome State Fault Refusal :=
  act (isRing sq && isTag tag) (fun d => withCmd sq tag 0x80 (fun c d => auxConfig c d) d) s

/-- AUX_CONVERT (R358). -/
def execAuxConvert (sq : Nat) (tag : Nat) (s : State) : Host.Outcome State Fault Refusal :=
  act (isRing sq && isTag tag) (fun d => withCmd sq tag 0x81 (fun c d => auxConvert c d) d) s

/-- RATIO_SET (R359). -/
def execRatioSet (sq : Nat) (tag : Nat) (s : State) : Host.Outcome State Fault Refusal :=
  act (isRing sq && isTag tag) (fun d => withCmd sq tag 0x82 (fun c d => ratioSet c d) d) s

/-- DRIVE_SCAN (R280). -/
def execDriveScan (sq : Nat) (tag : Nat) (s : State) : Host.Outcome State Fault Refusal :=
  act (isRing sq && isTag tag) (fun d => withCmd sq tag 0x90 (fun c d => needDom dRP c (fun d => driveScan c d) d) d) s

/-- RESTANTE_READ (R281): `read` tells how many parcels of the range could be read before one that could not, and what was read
of each copy that fails CHECK. -/
def execRestanteRead (sq : Nat) (tag : Nat) (read : Nat × List (Nat × Bytes)) (s : State) : Host.Outcome State Fault Refusal :=
  act (isRing sq && isTag tag) (fun d => withCmd sq tag 0x91 (fun c d => needDom dRP c (fun d => restanteRead read.1 read.2 c d) d) d) s

/-- RESTANTE_RELEASE (R282). -/
def execRestanteRelease (sq : Nat) (tag : Nat) (s : State) : Host.Outcome State Fault Refusal :=
  act (isRing sq && isTag tag) (fun d => withCmd sq tag 0x92 (fun c d => needDom dRP c (fun d => restanteRelease c d) d) d) s

/-- MIRROR_SET (R276). -/
def execMirrorSet (sq : Nat) (tag : Nat) (s : State) : Host.Outcome State Fault Refusal :=
  act (isRing sq && isTag tag) (fun d => withCmd sq tag 0x93 (fun c d => needDom dRP c (fun d => mirrorSet c d) d) d) s

/-- FW_STAGE (R399). -/
def execFwStage (sq : Nat) (tag : Nat) (s : State) : Host.Outcome State Fault Refusal :=
  actFuses (isRing sq && isTag tag) (stageFuses sq tag) (fun d => withCmd sq tag 0xA0 (fun c d => fwStage s.fuses c d) d) s

/-- FW_ACTIVATE (R401). -/
def execFwActivate (sq : Nat) (tag : Nat) (s : State) : Host.Outcome State Fault Refusal :=
  act (isRing sq && isTag tag) (fun d => withCmd sq tag 0xA1 (fun c d => fwActivate c d) d) s

/-- CERT_READ (R408). -/
def execCertRead (sq : Nat) (tag : Nat) (s : State) : Host.Outcome State Fault Refusal :=
  act (isRing sq && isTag tag) (fun d => withCmd sq tag 0xA2 (fun c d => certRead c d) d) s

/-- DIAG_LOOPBACK (R435): `readBack` answers the read of what was written. -/
def execDiagLoopback (sq : Nat) (tag : Nat) (readBack : Fetch) (s : State) : Host.Outcome State Fault Refusal :=
  act (isRing sq && isTag tag) (fun d => withCmd sq tag 0xF0 (fun c d => diagLoopback c readBack d) d) s

/-- DIAG_LOG_READ (R436). -/
def execDiagLogRead (sq : Nat) (tag : Nat) (s : State) : Host.Outcome State Fault Refusal :=
  act (isRing sq && isTag tag) (fun d => withCmd sq tag 0xF1 (fun c d => diagLogRead c d) d) s

end Sys2Proof.Machine
end

