-- ==== Sys2Proof/Machine/ExecPath.lean ====
section
/-!
DEFINITION. Machine/ExecPath.lean: the meanings of what happens along the data path: encoders, the Escapement, ports, lanes, I3C, the pipeline, the Comparator, pages, triggers, parcels, the Ledger and the sync ring.
-/
namespace Sys2Proof.Machine

/-- ENCODER_EDGE (R75): the filtered levels of A and B. -/
def execEncoderEdge (enc : Nat) (a : Bool) (b : Bool) (s : State) : Host.Outcome State Fault Refusal :=
  act (isEncoder enc) (fun d => encoderEdge enc a b d) s

/-- ENC_INDEX (R75): the levels of A and B in the sample in which Z rises. -/
def execEncIndex (enc : Nat) (a : Bool) (b : Bool) (s : State) : Host.Outcome State Fault Refusal :=
  act (isEncoder enc) (fun d => encIndex enc a b d) s

/-- ENC_LOS (R76). -/
def execEncLos (enc : Nat) (s : State) : Host.Outcome State Fault Refusal :=
  act (isEncoder enc) (fun d => encLos enc d) s

/-- TRACK_STILL (R77). -/
def execTrackStill (s : State) : Host.Outcome State Fault Refusal :=
  act true (fun d => trackStill d) s

/-- SLOT_RELEASE (R92). -/
def execSlotRelease (s : State) : Host.Outcome State Fault Refusal :=
  act true (fun d => slotRelease d) s

/-- SLOT_REFILL (R92). -/
def execSlotRefill (s : State) : Host.Outcome State Fault Refusal :=
  act true (fun d => slotRefill d) s

/-- GEN_COPY_DONE (R88). -/
def execGenCopyDone (cls : Nat) (s : State) : Host.Outcome State Fault Refusal :=
  act (isClass cls) (fun d => whenUp dESC (genCopyDone cls) d) s

/-- EVOUT_PULSE_END (R224). -/
def execEvoutPulseEnd (output : Nat) (s : State) : Host.Outcome State Fault Refusal :=
  act (isOutput output) (fun d => evoutPulseEnd output d) s

/-- HANDOVER (R95): `start` is the exposure start in 1/16 ns. -/
def execHandover (start : Nat) (s : State) : Host.Outcome State Fault Refusal :=
  act true (fun d => handover start d) s

/-- PG_RUN_END (R107): what the six channels sampled at the strobes, in microvolts. -/
def execPgRunEnd (gen : Nat) (clamp : Int) (volts : List (List (Int × Int))) (s : State) : Host.Outcome State Fault Refusal :=
  act (isGen gen) (fun d => pgRunEnd gen clamp volts d) s

/-- CLK_FAULT (R127). -/
def execClkFault (gen : Nat) (s : State) : Host.Outcome State Fault Refusal :=
  act (isGen gen) (fun d => clkFault gen d) s

/-- LANE_FRAME_RX (R116). -/
def execLaneFrameRx (port : Nat) (codeErr : Bool) (lengthOk : Bool) (seq : Nat) (ignored : Bytes) (payload : Bytes) (crc : Nat) (s : State) : Host.Outcome State Fault Refusal :=
  act (isPort port) (fun d => laneFrameRx port codeErr lengthOk seq ignored payload crc d) s

/-- LANE_WINDOW_CLOSE (R116). -/
def execLaneWindowClose (port : Nat) (s : State) : Host.Outcome State Fault Refusal :=
  act (isPort port) (fun d => laneWindowClose port d) s

/-- LANE_LOCK (R115). -/
def execLaneLock (port : Nat) (s : State) : Host.Outcome State Fault Refusal :=
  act (isPort port) (fun d => laneLock port d) s

/-- LANE_LOS (R115). -/
def execLaneLos (port : Nat) (s : State) : Host.Outcome State Fault Refusal :=
  act (isPort port) (fun d => laneLos port d) s

/-- FLIT_RESEND (R14): `ok` tells whether the resent flit arrived. -/
def execFlitResend (die : Nat) (ok : Bool) (s : State) : Host.Outcome State Fault Refusal :=
  act (isDie die) (fun d => flitRetrain die ok d) s

/-- DIE_LINK_UP (R14). -/
def execDieLinkUp (die : Nat) (s : State) : Host.Outcome State Fault Refusal :=
  act (isDie die) (fun d => dieLinkUp die d) s

/-- I3C_HOT_JOIN (R120): the addresses of unbound heads that answer no more, and the descriptors of the heads that join. -/
def execI3cHotJoin (bus : Nat) (gone : List Nat) (descs : List Bytes) (s : State) : Host.Outcome State Fault Refusal :=
  act (isBus bus) (fun d => i3cHotJoin bus gone descs d) s

/-- I3C_IBI (R118). -/
def execI3cIbi (bus : Nat) (s : State) : Host.Outcome State Fault Refusal :=
  act (isBus bus) (fun d => i3cIbi bus d) s

/-- I3C_POLL (R121). -/
def execI3cPoll (bus : Nat) (failed : List Nat) (errors : Nat) (s : State) : Host.Outcome State Fault Refusal :=
  act (isBus bus) (fun d => i3cPoll bus failed errors d) s

/-- I3C_POLL_RETRY (R121). -/
def execI3cPollRetry (segment : Nat) (answered : Bool) (s : State) : Host.Outcome State Fault Refusal :=
  act (isSegment segment) (fun d => i3cPollRetry segment answered d) s

/-- SEG_POWER_ENABLE (R124). -/
def execSegPowerEnable (segment : Nat) (s : State) : Host.Outcome State Fault Refusal :=
  act (isSegment segment) (fun d => segPowerEnable segment d) s

/-- SEG_LANES_ACQUIRE (R124). -/
def execSegLanesAcquire (segment : Nat) (s : State) : Host.Outcome State Fault Refusal :=
  act (isSegment segment) (fun d => segLanesAcquire segment d) s

/-- SEG_LOCK_TIMEOUT (R122). -/
def execSegLockTimeout (segment : Nat) (s : State) : Host.Outcome State Fault Refusal :=
  act (isSegment segment) (fun d => segLockTimeout segment d) s

/-- SEG_RELOCK_TIMEOUT (R122). -/
def execSegRelockTimeout (segment : Nat) (s : State) : Host.Outcome State Fault Refusal :=
  act (isSegment segment) (fun d => segRelockTimeout segment d) s

/-- SEG_CLOCKS_OFF (R125). -/
def execSegClocksOff (segment : Nat) (s : State) : Host.Outcome State Fault Refusal :=
  act (isSegment segment) (fun d => segClocksOff segment d) s

/-- LINE_COMPLETE (R154). -/
def execLineComplete (late : Bool) (latency : Nat) (s : State) : Host.Outcome State Fault Refusal :=
  act true (fun d => lineComplete late latency d) s

/-- VERDICT_PATH (R183). -/
def execVerdictPath (s : State) : Host.Outcome State Fault Refusal :=
  act true (fun d => whenUp dCOMPARE verdictPath d) s

/-- REG_BAND_RESULT (R173). -/
def execRegBandResult (s : State) : Host.Outcome State Fault Refusal :=
  act true (fun d => whenUp dCOMPARE regBandResult d) s

/-- EDGE_FIT (R207). -/
def execEdgeFit (s : State) : Host.Outcome State Fault Refusal :=
  act true (fun d => whenUp dFABRIC edgeFit d) s

/-- CROP_FORM (R214). -/
def execCropForm (s : State) : Host.Outcome State Fault Refusal :=
  act true (fun d => whenUp dFABRIC cropForm d) s

/-- TRIGGER_PIN_EDGE (R194). -/
def execTriggerPinEdge (pin : Nat) (level : Bool) (s : State) : Host.Outcome State Fault Refusal :=
  act (isPin pin) (fun d => triggerPinEdge pin level d) s

/-- TRIGGER_TIMEOUT (R196). -/
def execTriggerTimeout (trigger : Nat) (s : State) : Host.Outcome State Fault Refusal :=
  act (isTrigger trigger) (fun d => triggerTimeout trigger d) s

/-- SEQ_TIMER_EXPIRY (R199). -/
def execSeqTimerExpiry (seq : Nat) (s : State) : Host.Outcome State Fault Refusal :=
  act (isSequencer seq) (fun d => seqTimerExpiry seq d) s

/-- BUTTON (R222). -/
def execButton (btn : Nat) (level : Bool) (s : State) : Host.Outcome State Fault Refusal :=
  act (isButton btn) (fun d => button btn level d) s

/-- PARCEL_FLUSH (R221). -/
def execParcelFlush (ctx : Nat) (s : State) : Host.Outcome State Fault Refusal :=
  act (isCtx ctx) (fun d => parcelFlush ctx d) s

/-- PARCEL_DELIVER (R267). -/
def execParcelDeliver (ctx : Nat) (s : State) : Host.Outcome State Fault Refusal :=
  act (isCtx ctx) (fun d => parcelDeliver ctx d) s

/-- PARCEL_REACHED_HOST (R66). -/
def execParcelReachedHost (ctx : Nat) (s : State) : Host.Outcome State Fault Refusal :=
  act (isCtx ctx) (fun d => parcelReachedHost ctx d) s

/-- LEDGER_NVS_WRITE (R64). -/
def execLedgerNvsWrite (s : State) : Host.Outcome State Fault Refusal :=
  act true (fun d => ledgerNvsWrite d) s

/-- CHECKPOINT_SIGNED (R407). -/
def execCheckpointSigned (s : State) : Host.Outcome State Fault Refusal :=
  act true (fun d => checkpointSigned d) s

/-- SYNC_FRAME_RX (R225). -/
def execSyncFrameRx (frame : Bytes) (s : State) : Host.Outcome State Fault Refusal :=
  act true (fun d => syncFrameRx frame d) s

/-- SYNC_ENUM_TIMER (R226). -/
def execSyncEnumTimer (s : State) : Host.Outcome State Fault Refusal :=
  act true (fun d => syncEnumTimer d) s

/-- SYNC_POS_TIMER (R226). -/
def execSyncPosTimer (s : State) : Host.Outcome State Fault Refusal :=
  act true (fun d => syncPosTimer d) s

/-- SYNC_FIRE_APPLY (R230). -/
def execSyncFireApply (s : State) : Host.Outcome State Fault Refusal :=
  act true (fun d => syncFireApply d) s

/-- SYNC_RX_LOS (R232). -/
def execSyncRxLos (s : State) : Host.Outcome State Fault Refusal :=
  act true (fun d => syncRxLos d) s

/-- SYNC_POS_TIMEOUT (R232). -/
def execSyncPosTimeout (s : State) : Host.Outcome State Fault Refusal :=
  act true (fun d => syncPosTimeout d) s

end Sys2Proof.Machine
end

