-- ==== Sys2Proof/Machine/ExecPower.lean ====
section
/-!
DEFINITION. Machine/ExecPower.lean: the meanings of resets, releases, starts, supplies, clocks, the replay and memory integrity.
-/
namespace Sys2Proof.Machine

/-- Whether Tj has reached THERMAL_TRIP of the option record in force (R368, R377, R456). -/
def tooHot (d : Dev) : Bool :=
  let trip := (winGet d .option 14).toNat
  trip != 0 && (List.range 8).any (fun i =>
    rb d .GLB_TJ i GLB_TJ.VALID && decide ((256 * trip : Nat) ≤ sx 16 (rf d .GLB_TJ i GLB_TJ.TEMP)))

/-- POWER_FAIL_ASSERT (R67). -/
def execPowerFailAssert (s : State) : Host.Outcome State Fault Refusal :=
  act true (fun d => powerFail d) s

/-- POWER_FAIL_DEASSERT (R67). -/
def execPowerFailDeassert (s : State) : Host.Outcome State Fault Refusal :=
  act true (fun d => powerBack s.fuses d) s

/-- SUPPLY_OUT_OF_RANGE (R444): the supply of a domain, or, for 24, a rail that POWER_ON watches (R444). -/
def execSupplyOutOfRange (domain : Nat) (s : State) : Host.Outcome State Fault Refusal :=
  act (decide (domain ≤ 24)) (fun d => assertSource s.fuses (if domain = 24 then 0 else 1 + domain) 0 none d) s

/-- RESET_N_LOW (R368). -/
def execResetNLow (s : State) : Host.Outcome State Fault Refusal :=
  act true (fun d => assertSource s.fuses 25 0 none d) s

/-- PCIE_PERST (R368). -/
def execPciePerst (s : State) : Host.Outcome State Fault Refusal :=
  act true (fun d => assertSource s.fuses 26 0 none d) s

/-- PCIE_HOT_RESET (R368). -/
def execPcieHotReset (s : State) : Host.Outcome State Fault Refusal :=
  act true (fun d => assertSource s.fuses 27 0 none d) s

/-- PCIE_FLR (R368). -/
def execPcieFlr (s : State) : Host.Outcome State Fault Refusal :=
  act true (fun d => assertSource s.fuses 28 0 none d) s

/-- WATCHDOG_EXPIRY (R368): the processors of POST, ESC, REGUL, REMON and FRANK. -/
def execWatchdogExpiry (processor : Nat) (s : State) : Host.Outcome State Fault Refusal :=
  act (decide (processor < 5)) (fun d => assertSource s.fuses (29 + processor) 0 none d) s

/-- CLOCK_LOSS (R19): SYSCLK, the PCIe reference, a hub PLL, a PLL of FE die 0 to 3. -/
def execClockLoss (clock : Nat) (s : State) : Host.Outcome State Fault Refusal :=
  act (decide (clock < 7)) (fun d => assertSource s.fuses (35 + clock) 0 none d) s

/-- THERMAL (R368). -/
def execThermal (s : State) : Host.Outcome State Fault Refusal :=
  act true (fun d => if tooHot d then assertSource s.fuses 42 0 none d else d) s

/-- RESET_ASSERT (R370): SOFTWARE asserts by itself only for a restart after FW_ACTIVATE (R401). -/
def execResetAssert (source : Nat) (s : State) : Host.Outcome State Fault Refusal :=
  act (decide (source < 51)) (fun d => if source = 34 then restartSource s.fuses d else assertSource s.fuses source 0 none d) s

/-- RESET_DEASSERT (R370). -/
def execResetDeassert (source : Nat) (s : State) : Host.Outcome State Fault Refusal :=
  act (decide (source < 51)) (fun d => resetDeassert s.fuses source d) s

/-- DOMAIN_IDLE (R375). -/
def execDomainIdle (domain : Nat) (s : State) : Host.Outcome State Fault Refusal :=
  act (decide (domain < 24)) (fun d => domainIdle s.fuses domain d) s

/-- RST_IDLE_TIMEOUT (R375). -/
def execRstIdleTimeout (s : State) : Host.Outcome State Fault Refusal :=
  act true (fun d => idleTimeout s.fuses d) s

/-- WINDER_RELEASE_STEP (R379): the rate and lanes the host link trains at when the step releases EP (R27). -/
def execWinderReleaseStep (rate : Nat) (width : Nat) (s : State) : Host.Outcome State Fault Refusal :=
  act (decide (rate ≤ 6) && decide (width ≤ 16)) (fun d => winderStep s.fuses rate width d) s

/-- DOMAIN_POWER_TIMEOUT (R380). -/
def execDomainPowerTimeout (s : State) : Host.Outcome State Fault Refusal :=
  act true (fun d => powerTimeout s.fuses d) s

/-- FW_VERIFIED (R396). -/
def execFwVerified (s : State) : Host.Outcome State Fault Refusal :=
  act true (fun d => fwVerified s.fuses d) s

/-- BOOT_COMPLETE (R381). -/
def execBootComplete (s : State) : Host.Outcome State Fault Refusal :=
  act true (fun d => bootComplete d) s

/-- START_TIMEOUT (R381). -/
def execStartTimeout (s : State) : Host.Outcome State Fault Refusal :=
  act true (fun d => startTimeout s.fuses d) s

/-- SVN_BURN (R398). -/
def execSvnBurn (s : State) : Host.Outcome State Fault Refusal :=
  actFuses true (fun f d => { f with svn := burnSvn f d }) (fun d => svnBurn s.fuses d) s

/-- REPLAY (R68): `torn` is how many of the newest records the scan does not reach, because one failed its check. -/
def execReplay (torn : Nat) (s : State) : Host.Outcome State Fault Refusal :=
  act true (fun d => replay torn d) s

/-- REPLAY_RESUME (R68). -/
def execReplayResume (s : State) : Host.Outcome State Fault Refusal :=
  act true (fun d => replayResume d) s

/-- BANK_RESTORE_DONE (R431). -/
def execBankRestoreDone (cls : Nat) (s : State) : Host.Outcome State Fault Refusal :=
  act (isClass cls) (fun d => bankRestoreDone cls d) s

/-- SCRUB_PASS (R433): the errors the pass found. -/
def execScrubPass (stack : Nat) (errors : List (List Nat)) (s : State) : Host.Outcome State Fault Refusal :=
  act (decide (stack < 2)) (fun d => scrubPass s.fuses stack errors d) s

/-- ARRAY_SCRUB (R433): the errors the pass found. -/
def execArrayScrub (errors : List (List Nat)) (s : State) : Host.Outcome State Fault Refusal :=
  act true (fun d => arrayScrub s.fuses errors d) s

/-- TJ_UPDATE (R456): the eight readings in 1/256 °C. -/
def execTjUpdate (temps : List Int) (s : State) : Host.Outcome State Fault Refusal :=
  act (decide (temps.length = 8)) (fun d => tjUpdate temps d) s

/-- ENC_FAULT_CLEARS (R76). -/
def execEncFaultClears (enc : Nat) (s : State) : Host.Outcome State Fault Refusal :=
  act (isEncoder enc) (fun d => encFaultClears enc d) s

/-- CHECKPOINT_INTERVAL (R64). -/
def execCheckpointInterval (s : State) : Host.Outcome State Fault Refusal :=
  act true (fun d => ckptInterval d) s

/-- NVS_WRITE_DONE (R403): 0 a firmware slot, 1 a copy of the option record, 2 a baseline record. -/
def execNvsWriteDone (what : Nat) (ok : Bool) (s : State) : Host.Outcome State Fault Refusal :=
  act (decide (what < 3)) (fun d => if what = 0 then slotWritten ok d else if what = 1 then optionWritten ok d else baselineWritten ok d) s

/-- RP_PERST_N_HIGH (R274). -/
def execRpPerstNHigh (port : Nat) (s : State) : Host.Outcome State Fault Refusal :=
  act (isDrive port) (fun d => rpPerstHigh port d) s

end Sys2Proof.Machine
end

