-- ==== Sys2Proof/Machine/ExecRings.lean ====
section
/-!
DEFINITION. Machine/ExecRings.lean: the meanings of the accesses through BAR0 and BAR2, of the rings, of command fetch and of completion writing (R4 to R9, R22, R24, R36 to R45).
-/
namespace Sys2Proof.Machine

/-- REGISTER_WRITE (R4). -/
def execRegisterWrite (addr : Nat) (size : Nat) (value : Nat) (s : State) : Host.Outcome State Fault Refusal :=
  act (inBar0 addr) (fun d => bar0Write addr size value d) s

/-- BAR0_READ_SPECIAL (R22). -/
def execBar0ReadSpecial (addr : Nat) (size : Nat) (s : State) : Host.Outcome State Fault Refusal :=
  act (inBar0 addr) (fun d => bar0Read s.fuses addr size d) s

/-- LOW_WORD_READ (R8). -/
def execLowWordRead (addr : Nat) (s : State) : Host.Outcome State Fault Refusal :=
  act (inBar0 addr) (fun d => bar0Read s.fuses addr 4 d) s

/-- HIGH_WORD_WRITE (R8). -/
def execHighWordWrite (addr : Nat) (value : Nat) (s : State) : Host.Outcome State Fault Refusal :=
  act (inBar0 addr) (fun d => bar0Write addr 4 value d) s

/-- BAR2_ACCESS (R24): a read or a write of as many bytes as `data` has. -/
def execBar2Access (write : Bool) (off : Nat) (data : Bytes) (s : State) : Host.Outcome State Fault Refusal :=
  act true (fun d => bar2Access write off data d) s

/-- SQ_ENABLE (R36). -/
def execSqEnable (sq : Nat) (s : State) : Host.Outcome State Fault Refusal :=
  act (isSq sq) (fun d => regCommand .RING_SQ_CTRL sq (sqEnableWrite sq) d) s

/-- SQ_DISABLE (R37). -/
def execSqDisable (sq : Nat) (s : State) : Host.Outcome State Fault Refusal :=
  act (isSq sq) (fun d => regCommand .RING_SQ_CTRL sq (sqDisableWrite sq) d) s

/-- SQ_DRAIN_DONE (R37). -/
def execSqDrainDone (sq : Nat) (s : State) : Host.Outcome State Fault Refusal :=
  act (isSq sq) (fun d => whenUp dPOST (sqDrainDone sq) d) s

/-- CQ_ENABLE (R36). -/
def execCqEnable (cq : Nat) (s : State) : Host.Outcome State Fault Refusal :=
  act (isSq cq) (fun d => regCommand .RING_CQ_CTRL cq (cqEnableWrite cq) d) s

/-- CQ_DISABLE (R37). -/
def execCqDisable (cq : Nat) (s : State) : Host.Outcome State Fault Refusal :=
  act (isSq cq) (fun d => regCommand .RING_CQ_CTRL cq (cqDisableWrite cq) d) s

/-- DBELL_SQ (R39). -/
def execDbellSq (sq : Nat) (count : Nat) (s : State) : Host.Outcome State Fault Refusal :=
  act (isSq sq && isWord count) (fun d => regCommand .DBELL_SQ sq (dbellSqWrite sq count) d) s

/-- DBELL_CQ (R39). -/
def execDbellCq (cq : Nat) (count : Nat) (s : State) : Host.Outcome State Fault Refusal :=
  act (isSq cq && isWord count) (fun d => regCommand .DBELL_CQ cq (dbellCqWrite cq count) d) s

/-- COMMAND_FETCH (R45): the answers of host memory for the entry and its parameter block. -/
def execCommandFetch (sq : Nat) (entry : Fetch) (block : Fetch) (s : State) : Host.Outcome State Fault Refusal :=
  act (isSq sq) (fun d => commandFetch sq entry block d) s

/-- COMPLETION_WRITE (R40). -/
def execCompletionWrite (cq : Nat) (s : State) : Host.Outcome State Fault Refusal :=
  act (isSq cq) (fun d => completionWrite cq d) s

/-- CQ_HOLDOFF_EXPIRY (R40). -/
def execCqHoldoffExpiry (cq : Nat) (s : State) : Host.Outcome State Fault Refusal :=
  act (isSq cq) (fun d => cqHoldoffExpiry cq d) s

end Sys2Proof.Machine
end

