-- ==== Sys2Proof/Machine/ExecUnits.lean ====
section
/-!
DEFINITION. Machine/ExecUnits.lean: the meanings of what happens in the Regulator, the queues and drives, the DMA engine, the Remontoire and the auxiliary front end.
-/
namespace Sys2Proof.Machine

/-- CAL_DECISION (R252). -/
def execCalDecision (s : State) : Host.Outcome State Fault Refusal :=
  act true (fun d => calDecision d) s

/-- CAL_TIMEOUT (R250). -/
def execCalTimeout (s : State) : Host.Outcome State Fault Refusal :=
  act true (fun d => calTimeout d) s

/-- CAL_HOLDOFF_EXPIRY (R258). -/
def execCalHoldoffExpiry (segment : Nat) (s : State) : Host.Outcome State Fault Refusal :=
  act (isSegment segment) (fun d => calHoldoffExpiry segment d) s

/-- TILE_SETTLE_DONE (R259). -/
def execTileSettleDone (s : State) : Host.Outcome State Fault Refusal :=
  act true (fun d => tileSettleDone d) s

/-- QUEUE_LEVEL_UPDATE (R266). -/
def execQueueLevelUpdate (s : State) : Host.Outcome State Fault Refusal :=
  act true (fun d => queueLevelUpdate d) s

/-- SPILL_WRITE_DONE (R269). -/
def execSpillWriteDone (writeUnit : Nat) (ok : Bool) (s : State) : Host.Outcome State Fault Refusal :=
  act (isDrive writeUnit) (fun d => spillWriteDone writeUnit ok d) s

/-- RESTANTE_RETURN_DONE (R270): whether some copy could be read, and what was read where none passed its CHECK. -/
def execRestanteReturnDone (ctx : Nat) (readable : Bool) (failed : Option Bytes) (s : State) : Host.Outcome State Fault Refusal :=
  act (isCtx ctx) (fun d => restanteReturnDone ctx readable failed.isNone (failed.getD []) d) s

/-- DRIVE_PRESENT (R274). -/
def execDrivePresent (port : Nat) (s : State) : Host.Outcome State Fault Refusal :=
  act (isDrive port) (fun d => drivePresent port d) s

/-- DRIVE_LINK_UP (R274). -/
def execDriveLinkUp (port : Nat) (rate : Nat) (width : Nat) (s : State) : Host.Outcome State Fault Refusal :=
  act (isDrive port) (fun d => driveLinkUp port rate width d) s

/-- DRIVE_TRAIN_TIMEOUT (R274). -/
def execDriveTrainTimeout (port : Nat) (s : State) : Host.Outcome State Fault Refusal :=
  act (isDrive port) (fun d => driveTrainTimeout port d) s

/-- DRIVE_INIT_DONE (R274): the active namespaces, and with the sizes of the BARs what the index is. -/
def execDriveInitDone (port : Nat) (namespaces : List (List Nat)) (found : List Nat × Nat) (s : State) :
    Host.Outcome State Fault Refusal :=
  act (isDrive port && decide (found.2 < 3)) (fun d => driveInitDone port namespaces found.1 found.2 d) s

/-- DRIVE_CMD_TIMEOUT (R274). -/
def execDriveCmdTimeout (port : Nat) (what : Nat) (restored : Bool) (s : State) : Host.Outcome State Fault Refusal :=
  act (isDrive port && decide (what < 3)) (fun d => driveCmdTimeout port what restored d) s

/-- DRIVE_REMOVED (R275). -/
def execDriveRemoved (port : Nat) (present : Bool) (s : State) : Host.Outcome State Fault Refusal :=
  act (isDrive port) (fun d => driveRemoved port present d) s

/-- MIRROR_REBUILD_DONE (R277). -/
def execMirrorRebuildDone (writeUnit : Nat) (s : State) : Host.Outcome State Fault Refusal :=
  act (isDrive writeUnit) (fun d => whenUp dRP (mirrorRebuildDone writeUnit) d) s

/-- DRIVE_SCAN_SETTLED (R280). -/
def execDriveScanSettled (timeout : Bool) (s : State) : Host.Outcome State Fault Refusal :=
  act true (fun d => driveScanSettled timeout d) s

/-- DMA_DESCRIPTOR_START (R297): the answers of the spaces for the descriptor, its index list and the elements it names. -/
def execDmaDescriptorStart (chan : Nat) (desc : Fetch) (index : Bytes) (source : Bytes) (s : State) : Host.Outcome State Fault Refusal :=
  act (isChan chan) (fun d => dmaDescriptorStart chan desc index source d) s

/-- DMA_DESCRIPTOR_DONE (R295). -/
def execDmaDescriptorDone (chan : Nat) (s : State) : Host.Outcome State Fault Refusal :=
  act (isChan chan) (fun d => dmaDescriptorDone chan d) s

/-- DMA_READ_ERROR (R306): the cause of R305 and the stream bytes that came before it. -/
def execDmaReadError (chan : Nat) (cause : Nat) (got : Nat) (s : State) : Host.Outcome State Fault Refusal :=
  act (isChan chan) (fun d => dmaReadError chan cause got d) s

/-- DMA_TIMER_CREDIT (R300). -/
def execDmaTimerCredit (chan : Nat) (s : State) : Host.Outcome State Fault Refusal :=
  act (isChan chan) (fun d => dmaTimerCredit chan d) s

/-- DMA_PAUSED (R303): `upTo` counts the stream bytes moved. -/
def execDmaPaused (chan : Nat) (upTo : Nat) (s : State) : Host.Outcome State Fault Refusal :=
  act (isChan chan) (fun d => dmaPaused chan upTo d) s

/-- SERVO_TICK (R315). -/
def execServoTick (s : State) : Host.Outcome State Fault Refusal :=
  act true (fun d => servoTick d) s

/-- STEP_UPDATE (R315). -/
def execStepUpdate (axis : Nat) (s : State) : Host.Outcome State Fault Refusal :=
  act (isAxis axis) (fun d => stepUpdate axis d) s

/-- LIMIT_SAMPLE (R337): the accepted levels of the two inputs. -/
def execLimitSample (axis : Nat) (neg : Bool) (pos : Bool) (s : State) : Host.Outcome State Fault Refusal :=
  act (isAxis axis) (fun d => limitSample axis neg pos d) s

/-- AX_OVERCURRENT (R331). -/
def execAxOvercurrent (axis : Nat) (s : State) : Host.Outcome State Fault Refusal :=
  act (isAxis axis) (fun d => axOvercurrent axis d) s

/-- AX_BRIDGE_FAULT (R331). -/
def execAxBridgeFault (axis : Nat) (s : State) : Host.Outcome State Fault Refusal :=
  act (isAxis axis) (fun d => axBridgeFault axis d) s

/-- AX_BRAKE_DELAY (R335). -/
def execAxBrakeDelay (axis : Nat) (s : State) : Host.Outcome State Fault Refusal :=
  act (isAxis axis) (fun d => axBrakeDelay axis d) s

/-- AX_HOLD_DELAY (R329). -/
def execAxHoldDelay (axis : Nat) (s : State) : Host.Outcome State Fault Refusal :=
  act (isAxis axis) (fun d => axHoldDelay axis d) s

/-- CHOPPER_CYCLE (R330). -/
def execChopperCycle (axis : Nat) (coil : Nat) (reach : Nat) (sensed : Int) (s : State) : Host.Outcome State Fault Refusal :=
  act (isAxis axis && decide (coil < 2)) (fun d => chopperCycle axis coil reach sensed d) s

/-- AUX_SETTLE_DONE (R348). -/
def execAuxSettleDone (chain : Nat) (s : State) : Host.Outcome State Fault Refusal :=
  act (isChain chain) (fun d => auxSettleDone chain d) s

/-- AUX_CODE (R348). -/
def execAuxCode (chain : Nat) (raw : Int) (ovf : Bool) (s : State) : Host.Outcome State Fault Refusal :=
  act (isChain chain) (fun d => auxCode chain raw ovf d) s

/-- AUX_CONV_PIN (R356). -/
def execAuxConvPin (chain : Nat) (level : Bool) (s : State) : Host.Outcome State Fault Refusal :=
  act (isChain chain) (fun d => auxConvPin chain level d) s

/-- RATIO_TIMEOUT (R360). -/
def execRatioTimeout (output : Nat) (s : State) : Host.Outcome State Fault Refusal :=
  act (decide (output < 8)) (fun d => ratioTimeout output d) s

end Sys2Proof.Machine
end

