-- ==== Sys2Proof/Machine/Dispatch.lean ====
section
/-! DEFINITION. Machine/Dispatch.lean: one arm for each command. -/
namespace Sys2Proof.Machine

def exec (i : Instr) (s : State) : Host.Outcome State Fault Refusal :=
  match i with
  | .registerWrite addr size value => Sys2Proof.Machine.execRegisterWrite addr size value s
  | .bar0ReadSpecial addr size => Sys2Proof.Machine.execBar0ReadSpecial addr size s
  | .lowWordRead addr => Sys2Proof.Machine.execLowWordRead addr s
  | .highWordWrite addr value => Sys2Proof.Machine.execHighWordWrite addr value s
  | .bar2Access write off data => Sys2Proof.Machine.execBar2Access write off data s
  | .sqEnable sq => Sys2Proof.Machine.execSqEnable sq s
  | .sqDisable sq => Sys2Proof.Machine.execSqDisable sq s
  | .sqDrainDone sq => Sys2Proof.Machine.execSqDrainDone sq s
  | .cqEnable cq => Sys2Proof.Machine.execCqEnable cq s
  | .cqDisable cq => Sys2Proof.Machine.execCqDisable cq s
  | .dbellSq sq count => Sys2Proof.Machine.execDbellSq sq count s
  | .dbellCq cq count => Sys2Proof.Machine.execDbellCq cq count s
  | .commandFetch sq entry block => Sys2Proof.Machine.execCommandFetch sq entry block s
  | .completionWrite cq => Sys2Proof.Machine.execCompletionWrite cq s
  | .cqHoldoffExpiry cq => Sys2Proof.Machine.execCqHoldoffExpiry cq s
  | .identify sq tag => Sys2Proof.Machine.execIdentify sq tag s
  | .getFeature sq tag => Sys2Proof.Machine.execGetFeature sq tag s
  | .setFeature sq tag => Sys2Proof.Machine.execSetFeature sq tag s
  | .abort sq tag => Sys2Proof.Machine.execAbort sq tag s
  | .syncDurable sq tag => Sys2Proof.Machine.execSyncDurable sq tag s
  | .ledgerRead sq tag => Sys2Proof.Machine.execLedgerRead sq tag s
  | .reset sq tag => Sys2Proof.Machine.execReset sq tag s
  | .reserveQuery sq tag => Sys2Proof.Machine.execReserveQuery sq tag s
  | .ttblLoad sq tag image => Sys2Proof.Machine.execTtblLoad sq tag image s
  | .ttblActivate sq tag => Sys2Proof.Machine.execTtblActivate sq tag s
  | .ttblUnload sq tag => Sys2Proof.Machine.execTtblUnload sq tag s
  | .refAlloc sq tag => Sys2Proof.Machine.execRefAlloc sq tag s
  | .refLoad sq tag content => Sys2Proof.Machine.execRefLoad sq tag content s
  | .refFree sq tag => Sys2Proof.Machine.execRefFree sq tag s
  | .captureStart sq tag => Sys2Proof.Machine.execCaptureStart sq tag s
  | .captureStop sq tag => Sys2Proof.Machine.execCaptureStop sq tag s
  | .bufferPost sq tag => Sys2Proof.Machine.execBufferPost sq tag s
  | .contextOpen sq tag => Sys2Proof.Machine.execContextOpen sq tag s
  | .contextClose sq tag => Sys2Proof.Machine.execContextClose sq tag s
  | .calRun sq tag => Sys2Proof.Machine.execCalRun sq tag s
  | .calTileRun sq tag => Sys2Proof.Machine.execCalTileRun sq tag s
  | .baselineWrite sq tag => Sys2Proof.Machine.execBaselineWrite sq tag s
  | .move sq tag => Sys2Proof.Machine.execMove sq tag s
  | .home sq tag => Sys2Proof.Machine.execHome sq tag s
  | .stop sq tag => Sys2Proof.Machine.execStop sq tag s
  | .resume sq tag => Sys2Proof.Machine.execResume sq tag s
  | .auxConfig sq tag => Sys2Proof.Machine.execAuxConfig sq tag s
  | .auxConvert sq tag => Sys2Proof.Machine.execAuxConvert sq tag s
  | .ratioSet sq tag => Sys2Proof.Machine.execRatioSet sq tag s
  | .driveScan sq tag => Sys2Proof.Machine.execDriveScan sq tag s
  | .restanteRead sq tag read => Sys2Proof.Machine.execRestanteRead sq tag read s
  | .restanteRelease sq tag => Sys2Proof.Machine.execRestanteRelease sq tag s
  | .mirrorSet sq tag => Sys2Proof.Machine.execMirrorSet sq tag s
  | .fwStage sq tag => Sys2Proof.Machine.execFwStage sq tag s
  | .fwActivate sq tag => Sys2Proof.Machine.execFwActivate sq tag s
  | .certRead sq tag => Sys2Proof.Machine.execCertRead sq tag s
  | .diagLoopback sq tag readBack => Sys2Proof.Machine.execDiagLoopback sq tag readBack s
  | .diagLogRead sq tag => Sys2Proof.Machine.execDiagLogRead sq tag s
  | .crownGo block => Sys2Proof.Machine.execCrownGo block s
  | .ratioArm => Sys2Proof.Machine.execRatioArm s
  | .ratioCancel => Sys2Proof.Machine.execRatioCancel s
  | .ttblHandoverNow => Sys2Proof.Machine.execTtblHandoverNow s
  | .ttblGenCommit classes => Sys2Proof.Machine.execTtblGenCommit classes s
  | .portResume port => Sys2Proof.Machine.execPortResume port s
  | .portPowerOff port => Sys2Proof.Machine.execPortPowerOff port s
  | .calRestore => Sys2Proof.Machine.execCalRestore s
  | .pageCtrlOpen => Sys2Proof.Machine.execPageCtrlOpen s
  | .pageCtrlClose => Sys2Proof.Machine.execPageCtrlClose s
  | .syncCtrlArm rule => Sys2Proof.Machine.execSyncCtrlArm rule s
  | .syncCtrlDisarm => Sys2Proof.Machine.execSyncCtrlDisarm s
  | .dmaChTail chan count => Sys2Proof.Machine.execDmaChTail chan count s
  | .dmaChEnable chan enable => Sys2Proof.Machine.execDmaChEnable chan enable s
  | .dmaChPause chan pause => Sys2Proof.Machine.execDmaChPause chan pause s
  | .dmaChRestart chan => Sys2Proof.Machine.execDmaChRestart chan s
  | .axEnable axis enable faultHigh => Sys2Proof.Machine.execAxEnable axis enable faultHigh s
  | .axClearFault axis faultHigh => Sys2Proof.Machine.execAxClearFault axis faultHigh s
  | .gearArm axis => Sys2Proof.Machine.execGearArm axis s
  | .gearCancel axis => Sys2Proof.Machine.execGearCancel axis s
  | .auxForce chain => Sys2Proof.Machine.execAuxForce chain s
  | .auxUrgent chain input queue push => Sys2Proof.Machine.execAuxUrgent chain input queue push s
  | .optionCommit => Sys2Proof.Machine.execOptionCommit s
  | .evtSwSet source => Sys2Proof.Machine.execEvtSwSet source s
  | .evtClearCount source => Sys2Proof.Machine.execEvtClearCount source s
  | .evtStatusClear word value => Sys2Proof.Machine.execEvtStatusClear word value s
  | .evtEnableWrite word value => Sys2Proof.Machine.execEvtEnableWrite word value s
  | .evtLogRead count => Sys2Proof.Machine.execEvtLogRead count s
  | .evtLogCfgWrite size enable => Sys2Proof.Machine.execEvtLogCfgWrite size enable s
  | .diagInject memory double arm => Sys2Proof.Machine.execDiagInject memory double arm s
  | .uqPop queue => Sys2Proof.Machine.execUqPop queue s
  | .msixEnable => Sys2Proof.Machine.execMsixEnable s
  | .msixUnmask vector => Sys2Proof.Machine.execMsixUnmask vector s
  | .spdmRequest object => Sys2Proof.Machine.execSpdmRequest object s
  | .encoderEdge enc a b => Sys2Proof.Machine.execEncoderEdge enc a b s
  | .encIndex enc a b => Sys2Proof.Machine.execEncIndex enc a b s
  | .encLos enc => Sys2Proof.Machine.execEncLos enc s
  | .trackStill => Sys2Proof.Machine.execTrackStill s
  | .slotRelease => Sys2Proof.Machine.execSlotRelease s
  | .slotRefill => Sys2Proof.Machine.execSlotRefill s
  | .genCopyDone cls => Sys2Proof.Machine.execGenCopyDone cls s
  | .evoutPulseEnd output => Sys2Proof.Machine.execEvoutPulseEnd output s
  | .handover start => Sys2Proof.Machine.execHandover start s
  | .pgRunEnd gen clamp volts => Sys2Proof.Machine.execPgRunEnd gen clamp volts s
  | .clkFault gen => Sys2Proof.Machine.execClkFault gen s
  | .laneFrameRx port codeErr lengthOk seq ignored payload crc => Sys2Proof.Machine.execLaneFrameRx port codeErr lengthOk seq ignored payload crc s
  | .laneWindowClose port => Sys2Proof.Machine.execLaneWindowClose port s
  | .laneLock port => Sys2Proof.Machine.execLaneLock port s
  | .laneLos port => Sys2Proof.Machine.execLaneLos port s
  | .flitResend die ok => Sys2Proof.Machine.execFlitResend die ok s
  | .dieLinkUp die => Sys2Proof.Machine.execDieLinkUp die s
  | .i3cHotJoin bus gone descs => Sys2Proof.Machine.execI3cHotJoin bus gone descs s
  | .i3cIbi bus => Sys2Proof.Machine.execI3cIbi bus s
  | .i3cPoll bus failed errors => Sys2Proof.Machine.execI3cPoll bus failed errors s
  | .i3cPollRetry segment answered => Sys2Proof.Machine.execI3cPollRetry segment answered s
  | .segPowerEnable segment => Sys2Proof.Machine.execSegPowerEnable segment s
  | .segLanesAcquire segment => Sys2Proof.Machine.execSegLanesAcquire segment s
  | .segLockTimeout segment => Sys2Proof.Machine.execSegLockTimeout segment s
  | .segRelockTimeout segment => Sys2Proof.Machine.execSegRelockTimeout segment s
  | .segClocksOff segment => Sys2Proof.Machine.execSegClocksOff segment s
  | .lineComplete late latency => Sys2Proof.Machine.execLineComplete late latency s
  | .verdictPath => Sys2Proof.Machine.execVerdictPath s
  | .regBandResult => Sys2Proof.Machine.execRegBandResult s
  | .edgeFit => Sys2Proof.Machine.execEdgeFit s
  | .cropForm => Sys2Proof.Machine.execCropForm s
  | .triggerPinEdge pin level => Sys2Proof.Machine.execTriggerPinEdge pin level s
  | .triggerTimeout trigger => Sys2Proof.Machine.execTriggerTimeout trigger s
  | .seqTimerExpiry seq => Sys2Proof.Machine.execSeqTimerExpiry seq s
  | .button btn level => Sys2Proof.Machine.execButton btn level s
  | .parcelFlush ctx => Sys2Proof.Machine.execParcelFlush ctx s
  | .parcelDeliver ctx => Sys2Proof.Machine.execParcelDeliver ctx s
  | .parcelReachedHost ctx => Sys2Proof.Machine.execParcelReachedHost ctx s
  | .ledgerNvsWrite => Sys2Proof.Machine.execLedgerNvsWrite s
  | .checkpointSigned => Sys2Proof.Machine.execCheckpointSigned s
  | .syncFrameRx frame => Sys2Proof.Machine.execSyncFrameRx frame s
  | .syncEnumTimer => Sys2Proof.Machine.execSyncEnumTimer s
  | .syncPosTimer => Sys2Proof.Machine.execSyncPosTimer s
  | .syncFireApply => Sys2Proof.Machine.execSyncFireApply s
  | .syncRxLos => Sys2Proof.Machine.execSyncRxLos s
  | .syncPosTimeout => Sys2Proof.Machine.execSyncPosTimeout s
  | .calDecision => Sys2Proof.Machine.execCalDecision s
  | .calTimeout => Sys2Proof.Machine.execCalTimeout s
  | .calHoldoffExpiry segment => Sys2Proof.Machine.execCalHoldoffExpiry segment s
  | .tileSettleDone => Sys2Proof.Machine.execTileSettleDone s
  | .queueLevelUpdate => Sys2Proof.Machine.execQueueLevelUpdate s
  | .spillWriteDone writeUnit ok => Sys2Proof.Machine.execSpillWriteDone writeUnit ok s
  | .restanteReturnDone ctx readable failed => Sys2Proof.Machine.execRestanteReturnDone ctx readable failed s
  | .drivePresent port => Sys2Proof.Machine.execDrivePresent port s
  | .driveLinkUp port rate width => Sys2Proof.Machine.execDriveLinkUp port rate width s
  | .driveTrainTimeout port => Sys2Proof.Machine.execDriveTrainTimeout port s
  | .driveInitDone port namespaces found => Sys2Proof.Machine.execDriveInitDone port namespaces found s
  | .driveCmdTimeout port what restored => Sys2Proof.Machine.execDriveCmdTimeout port what restored s
  | .driveRemoved port present => Sys2Proof.Machine.execDriveRemoved port present s
  | .mirrorRebuildDone writeUnit => Sys2Proof.Machine.execMirrorRebuildDone writeUnit s
  | .driveScanSettled timeout => Sys2Proof.Machine.execDriveScanSettled timeout s
  | .dmaDescriptorStart chan desc index source => Sys2Proof.Machine.execDmaDescriptorStart chan desc index source s
  | .dmaDescriptorDone chan => Sys2Proof.Machine.execDmaDescriptorDone chan s
  | .dmaReadError chan cause got => Sys2Proof.Machine.execDmaReadError chan cause got s
  | .dmaTimerCredit chan => Sys2Proof.Machine.execDmaTimerCredit chan s
  | .dmaPaused chan upTo => Sys2Proof.Machine.execDmaPaused chan upTo s
  | .servoTick => Sys2Proof.Machine.execServoTick s
  | .stepUpdate axis => Sys2Proof.Machine.execStepUpdate axis s
  | .limitSample axis neg pos => Sys2Proof.Machine.execLimitSample axis neg pos s
  | .axOvercurrent axis => Sys2Proof.Machine.execAxOvercurrent axis s
  | .axBridgeFault axis => Sys2Proof.Machine.execAxBridgeFault axis s
  | .axBrakeDelay axis => Sys2Proof.Machine.execAxBrakeDelay axis s
  | .axHoldDelay axis => Sys2Proof.Machine.execAxHoldDelay axis s
  | .auxSettleDone chain => Sys2Proof.Machine.execAuxSettleDone chain s
  | .auxCode chain raw ovf => Sys2Proof.Machine.execAuxCode chain raw ovf s
  | .auxConvPin chain level => Sys2Proof.Machine.execAuxConvPin chain level s
  | .ratioTimeout output => Sys2Proof.Machine.execRatioTimeout output s
  | .powerFailAssert => Sys2Proof.Machine.execPowerFailAssert s
  | .powerFailDeassert => Sys2Proof.Machine.execPowerFailDeassert s
  | .supplyOutOfRange domain => Sys2Proof.Machine.execSupplyOutOfRange domain s
  | .resetNLow => Sys2Proof.Machine.execResetNLow s
  | .pciePerst => Sys2Proof.Machine.execPciePerst s
  | .pcieHotReset => Sys2Proof.Machine.execPcieHotReset s
  | .pcieFlr => Sys2Proof.Machine.execPcieFlr s
  | .watchdogExpiry processor => Sys2Proof.Machine.execWatchdogExpiry processor s
  | .clockLoss clock => Sys2Proof.Machine.execClockLoss clock s
  | .thermal => Sys2Proof.Machine.execThermal s
  | .resetAssert source => Sys2Proof.Machine.execResetAssert source s
  | .domainIdle domain => Sys2Proof.Machine.execDomainIdle domain s
  | .rstIdleTimeout => Sys2Proof.Machine.execRstIdleTimeout s
  | .resetDeassert source => Sys2Proof.Machine.execResetDeassert source s
  | .winderReleaseStep rate width => Sys2Proof.Machine.execWinderReleaseStep rate width s
  | .domainPowerTimeout => Sys2Proof.Machine.execDomainPowerTimeout s
  | .fwVerified => Sys2Proof.Machine.execFwVerified s
  | .bootComplete => Sys2Proof.Machine.execBootComplete s
  | .startTimeout => Sys2Proof.Machine.execStartTimeout s
  | .svnBurn => Sys2Proof.Machine.execSvnBurn s
  | .replay torn => Sys2Proof.Machine.execReplay torn s
  | .replayResume => Sys2Proof.Machine.execReplayResume s
  | .bankRestoreDone cls => Sys2Proof.Machine.execBankRestoreDone cls s
  | .scrubPass stack errors => Sys2Proof.Machine.execScrubPass stack errors s
  | .tjUpdate temps => Sys2Proof.Machine.execTjUpdate temps s
  | .encFaultClears enc => Sys2Proof.Machine.execEncFaultClears enc s
  | .checkpointInterval => Sys2Proof.Machine.execCheckpointInterval s
  | .arrayScrub errors => Sys2Proof.Machine.execArrayScrub errors s
  | .nvsWriteDone what ok => Sys2Proof.Machine.execNvsWriteDone what ok s
  | .rpPerstNHigh port => Sys2Proof.Machine.execRpPerstNHigh port s
  | .chopperCycle axis coil reach sensed => Sys2Proof.Machine.execChopperCycle axis coil reach sensed s

end Sys2Proof.Machine
end

