-- ==== Sys2Proof/Machine/Tick.lean ====
section
/-!
DEFINITION. Machine/Tick.lean: what one nanosecond of device time does by itself. A step on an empty queue is such a nanosecond (log
entry 7); everything else that time brings is a command of its own.
-/
namespace Sys2Proof.Machine

/-- One nanosecond passes: device time advances, and it is a source count where the track source is device time (R18, R72). -/
def tick (d : Dev) : Dev :=
  if islandUp d then
    let d := { d with now := d.now + 1 }
    if d.esc.srcKind = 2 then sourceCount true d else d
  else d

end Sys2Proof.Machine
end

