-- ==== Sys2Proof/Machine/Outputs.lean ====
section
/-!
DEFINITION. Machine/Outputs.lean: what each output of the package does now, as a function of the device (R313, R387 and the rules that each
names). An output whose owning domain is in reset or unpowered is in the state that R387 gives it.
-/
namespace Sys2Proof.Machine

/-- A digital output: its driver off, or driven to a level. -/
inductive Pad where
  | off
  | low
  | high
  deriving DecidableEq, Repr

/-- A driven level. -/
def Pad.driven (b : Bool) : Pad := if b then .high else .low

/-- Sensor clock output `o` of generator `g` at time `t`, in units of 1/16 ns; off, it is pulled down weakly (R107, R124, R448). -/
def clockPad (d : Dev) (g o t : Nat) : Pad :=
  if !domUp d (dDIG (g / 4)) then .off
  else match pgOutput d g o t with
    | some b => .driven b
    | none => .off

/-- SPWR_EN of port `p` (R124, R125). -/
def spwrPad (d : Dev) (p : Nat) : Pad :=
  .driven (domUp d (dDIG (portDie p)) && PORT_STATUS.POWER.get (portWord d p) == 1)

/-- AX_x_IN1 and AX_x_IN2 of a coil of axis `a` (R313). -/
def bridgePads (d : Dev) (a coil : Nat) : Pad × Pad := (.driven (bridgeIn d a coil).1, .driven (bridgeIn d a coil).2)

/-- AX_EN and AX_BRAKE of axis `a` (R335, R343). -/
def axEnPad (d : Dev) (a : Nat) : Pad := .driven (domUp d (dDIG (a / 2)) && rb d .AXH_STATUS a AXH_STATUS.DRIVE)
def axBrakePad (d : Dev) (a : Nat) : Pad := .driven (domUp d (dDIG (a / 2)) && rb d .AXH_STATUS a AXH_STATUS.BRAKE)

/-- Event output `o`: high impedance while DRIVE_EN is 0; open drain drives low alone (R224, R234). -/
def evOutPad (d : Dev) (o : Nat) : Pad :=
  if !domUp d dFABRIC || !rb d .EVOUT_CFG o EVOUT_CFG.DRIVE_EN then .off
  else
    let l := evOutLevel (d.sync.outs.getD o ⟨false, false, none⟩) d.now
    if rb d .EVOUT_CFG o EVOUT_CFG.OPEN_DRAIN && l then .off else .driven l

/-- Indicator output `i` (R223). -/
def indPad (d : Dev) (i : Nat) : Pad := .driven (indicator d i)

/-- The code RATIO_OUT `o` drives; none while it is clamped to 0 V (R359, R360). -/
def ratioOut (d : Dev) (o : Nat) : Option Nat :=
  if domUp d (dANA (o / 4)) && !rb d .AUX_RATIO_STATE o AUX_RATIO_STATE.CLAMPED then some (rf d .AUX_RATIO_STATE o AUX_RATIO_STATE.CODE)
  else none

/-- The current of EXC_I `i` in units of 10 µA; 0 while it is off (R354, R362). -/
def excOut (d : Dev) (i : Nat) : Nat := if domUp d (dANA (i / 2)) then rf d .AUX_EXC i AUX_EXC.CODE else 0

/-- BRIDGE_EXC `n`: how many halves of V(RATIO_REF) it gives; 0 off (R354). -/
def bridgeExc (d : Dev) (n : Nat) : Nat :=
  if !domUp d (dANA n) then 0
  else match rf d .AUX_BRIDGE n AUX_BRIDGE.MODE with
    | 1 => 2
    | 2 => 1
    | _ => 0

/-- The input whose common mode GUARD `g` follows; none while it is off (R354). -/
def guardOut (d : Dev) (g : Nat) : Option Nat :=
  if domUp d (dANA (g / 4)) && rb d .AUX_GUARD g AUX_GUARD.EN then some (rf d .AUX_GUARD g AUX_GUARD.SOURCE) else none

/-- Whether the device drives SCL and SDA of bus `n`: from the first discovery point, which is the die's release (R120). -/
def i3cDriven (d : Dev) (n : Nat) : Bool := domUp d (dDIG n)

/-- RP_PWR_EN and RP_PERST_N of port `p` (R274). -/
def rpPwrPad (d : Dev) (p : Nat) : Pad := .driven (domUp d dRP && bitOf d.que.pwr p)
def rpPerstPad (d : Dev) (p : Nat) : Pad := .driven (domUp d dRP && bitOf d.que.perst p)

/-- Whether RP_REFCLK of port `p` runs; both legs are low before TRAINING (R446). -/
def rpRefclk (d : Dev) (p : Nat) : Bool := domUp d dRP && rpState d p != 0

/-- Whether SYNC_TX sends; it is in electrical idle else (R226). -/
def syncTx (d : Dev) : Bool := domUp d dFABRIC && rb d .SYNC_CFG 0 SYNC_CFG.ENABLE

end Sys2Proof.Machine
end

