-- ==== Sys2Proof/WellFormed.lean ====
section
/-!
DEFINITION. WellFormed.lean: the commands a sender of the spec can send: every unit, ring, context or register named exists, and every
number fits the field that carries it. A command that is not well formed is answered by a fault (log entry 1).
-/
namespace Sys2Proof

open Sys2Proof.Machine

/-- Whether the operands of a command name what the device has. -/
def Instr.wf (i : Instr) : Bool :=
  match i with
  | .registerWrite addr _ _ => inBar0 addr
  | .bar0ReadSpecial addr _ => inBar0 addr
  | .lowWordRead addr => inBar0 addr
  | .highWordWrite addr _ => inBar0 addr
  | .bar2Access _ _ _ => true
  | .sqEnable sq => isSq sq
  | .sqDisable sq => isSq sq
  | .sqDrainDone sq => isSq sq
  | .cqEnable cq => isSq cq
  | .cqDisable cq => isSq cq
  | .dbellSq sq count => isSq sq && isWord count
  | .dbellCq cq count => isSq cq && isWord count
  | .commandFetch sq _ _ => isSq sq
  | .completionWrite cq => isSq cq
  | .cqHoldoffExpiry cq => isSq cq
  | .identify sq tag => isRing sq && isTag tag
  | .getFeature sq tag => isRing sq && isTag tag
  | .setFeature sq tag => isRing sq && isTag tag
  | .abort sq tag => isRing sq && isTag tag
  | .syncDurable sq tag => isRing sq && isTag tag
  | .ledgerRead sq tag => isRing sq && isTag tag
  | .reset sq tag => isRing sq && isTag tag
  | .reserveQuery sq tag => isRing sq && isTag tag
  | .ttblLoad sq tag _ => isRing sq && isTag tag
  | .ttblActivate sq tag => isRing sq && isTag tag
  | .ttblUnload sq tag => isRing sq && isTag tag
  | .refAlloc sq tag => isRing sq && isTag tag
  | .refLoad sq tag _ => isRing sq && isTag tag
  | .refFree sq tag => isRing sq && isTag tag
  | .captureStart sq tag => isRing sq && isTag tag
  | .captureStop sq tag => isRing sq && isTag tag
  | .bufferPost sq tag => isRing sq && isTag tag
  | .contextOpen sq tag => isRing sq && isTag tag
  | .contextClose sq tag => isRing sq && isTag tag
  | .calRun sq tag => isRing sq && isTag tag
  | .calTileRun sq tag => isRing sq && isTag tag
  | .baselineWrite sq tag => isRing sq && isTag tag
  | .move sq tag => isRing sq && isTag tag
  | .home sq tag => isRing sq && isTag tag
  | .stop sq tag => isRing sq && isTag tag
  | .resume sq tag => isRing sq && isTag tag
  | .auxConfig sq tag => isRing sq && isTag tag
  | .auxConvert sq tag => isRing sq && isTag tag
  | .ratioSet sq tag => isRing sq && isTag tag
  | .driveScan sq tag => isRing sq && isTag tag
  | .restanteRead sq tag _ => isRing sq && isTag tag
  | .restanteRelease sq tag => isRing sq && isTag tag
  | .mirrorSet sq tag => isRing sq && isTag tag
  | .fwStage sq tag => isRing sq && isTag tag
  | .fwActivate sq tag => isRing sq && isTag tag
  | .certRead sq tag => isRing sq && isTag tag
  | .diagLoopback sq tag _ => isRing sq && isTag tag
  | .diagLogRead sq tag => isRing sq && isTag tag
  | .crownGo _ => true
  | .ratioArm => true
  | .ratioCancel => true
  | .ttblHandoverNow => true
  | .ttblGenCommit classes => decide (classes < 4096)
  | .portResume port => isPort port
  | .portPowerOff port => isPort port
  | .calRestore => true
  | .pageCtrlOpen => true
  | .pageCtrlClose => true
  | .syncCtrlArm rule => decide (rule < 4)
  | .syncCtrlDisarm => true
  | .dmaChTail chan count => isChan chan && isWord count
  | .dmaChEnable chan _ => isChan chan
  | .dmaChPause chan _ => isChan chan
  | .dmaChRestart chan => isChan chan
  | .axEnable axis _ _ => isAxis axis
  | .axClearFault axis _ => isAxis axis
  | .gearArm axis => isAxis axis
  | .gearCancel axis => isAxis axis
  | .auxForce chain => isChain chain
  | .auxUrgent chain input queue _ => isChain chain && decide (input < 32) && isQueue queue
  | .optionCommit => true
  | .evtSwSet source => isSource source
  | .evtClearCount source => isSource source
  | .evtStatusClear word value => isFlagWord word && isWord value
  | .evtEnableWrite word value => isFlagWord word && isWord value
  | .evtLogRead count => isWord count
  | .evtLogCfgWrite size _ => decide (size < 65536)
  | .diagInject memory _ _ => decide (memory < 18)
  | .uqPop queue => isQueue queue
  | .msixEnable => true
  | .msixUnmask vector => decide (vector < 2048)
  | .spdmRequest _ => true
  | .encoderEdge enc _ _ => isEncoder enc
  | .encIndex enc _ _ => isEncoder enc
  | .encLos enc => isEncoder enc
  | .trackStill => true
  | .slotRelease => true
  | .slotRefill => true
  | .genCopyDone cls => isClass cls
  | .evoutPulseEnd output => isOutput output
  | .handover _ => true
  | .pgRunEnd gen _ _ => isGen gen
  | .clkFault gen => isGen gen
  | .laneFrameRx port _ _ _ _ _ _ => isPort port
  | .laneWindowClose port => isPort port
  | .laneLock port => isPort port
  | .laneLos port => isPort port
  | .flitResend die _ => isDie die
  | .dieLinkUp die => isDie die
  | .i3cHotJoin bus _ _ => isBus bus
  | .i3cIbi bus => isBus bus
  | .i3cPoll bus _ _ => isBus bus
  | .i3cPollRetry segment _ => isSegment segment
  | .segPowerEnable segment => isSegment segment
  | .segLanesAcquire segment => isSegment segment
  | .segLockTimeout segment => isSegment segment
  | .segRelockTimeout segment => isSegment segment
  | .segClocksOff segment => isSegment segment
  | .lineComplete _ _ => true
  | .verdictPath => true
  | .regBandResult => true
  | .edgeFit => true
  | .cropForm => true
  | .triggerPinEdge pin _ => isPin pin
  | .triggerTimeout trigger => isTrigger trigger
  | .seqTimerExpiry seq => isSequencer seq
  | .button btn _ => isButton btn
  | .parcelFlush ctx => isCtx ctx
  | .parcelDeliver ctx => isCtx ctx
  | .parcelReachedHost ctx => isCtx ctx
  | .ledgerNvsWrite => true
  | .checkpointSigned => true
  | .syncFrameRx _ => true
  | .syncEnumTimer => true
  | .syncPosTimer => true
  | .syncFireApply => true
  | .syncRxLos => true
  | .syncPosTimeout => true
  | .calDecision => true
  | .calTimeout => true
  | .calHoldoffExpiry segment => isSegment segment
  | .tileSettleDone => true
  | .queueLevelUpdate => true
  | .spillWriteDone writeUnit _ => isDrive writeUnit
  | .restanteReturnDone ctx _ _ => isCtx ctx
  | .drivePresent port => isDrive port
  | .driveLinkUp port _ _ => isDrive port
  | .driveTrainTimeout port => isDrive port
  | .driveInitDone port _ found => isDrive port && decide (found.2 < 3)
  | .driveCmdTimeout port what _ => isDrive port && decide (what < 3)
  | .driveRemoved port _ => isDrive port
  | .mirrorRebuildDone writeUnit => isDrive writeUnit
  | .driveScanSettled _ => true
  | .dmaDescriptorStart chan _ _ _ => isChan chan
  | .dmaDescriptorDone chan => isChan chan
  | .dmaReadError chan _ _ => isChan chan
  | .dmaTimerCredit chan => isChan chan
  | .dmaPaused chan _ => isChan chan
  | .servoTick => true
  | .stepUpdate axis => isAxis axis
  | .limitSample axis _ _ => isAxis axis
  | .axOvercurrent axis => isAxis axis
  | .axBridgeFault axis => isAxis axis
  | .axBrakeDelay axis => isAxis axis
  | .axHoldDelay axis => isAxis axis
  | .auxSettleDone chain => isChain chain
  | .auxCode chain _ _ => isChain chain
  | .auxConvPin chain _ => isChain chain
  | .ratioTimeout output => decide (output < 8)
  | .powerFailAssert => true
  | .powerFailDeassert => true
  | .supplyOutOfRange domain => decide (domain ≤ 24)
  | .resetNLow => true
  | .pciePerst => true
  | .pcieHotReset => true
  | .pcieFlr => true
  | .watchdogExpiry processor => decide (processor < 5)
  | .clockLoss clock => decide (clock < 7)
  | .thermal => true
  | .resetAssert source => decide (source < 51)
  | .domainIdle domain => decide (domain < 24)
  | .rstIdleTimeout => true
  | .resetDeassert source => decide (source < 51)
  | .winderReleaseStep rate width => decide (rate ≤ 6) && decide (width ≤ 16)
  | .domainPowerTimeout => true
  | .fwVerified => true
  | .bootComplete => true
  | .startTimeout => true
  | .svnBurn => true
  | .replay _ => true
  | .replayResume => true
  | .bankRestoreDone cls => isClass cls
  | .scrubPass stack _ => decide (stack < 2)
  | .tjUpdate temps => decide (temps.length = 8)
  | .encFaultClears enc => isEncoder enc
  | .checkpointInterval => true
  | .arrayScrub _ => true
  | .nvsWriteDone what _ => decide (what < 3)
  | .rpPerstNHigh port => isDrive port
  | .chopperCycle axis coil _ _ => isAxis axis && decide (coil < 2)

end Sys2Proof
end

