-- ==== Sys2Proof/Safety.lean ====
section
/-!
DEFINITION. Safety.lean: the terms statements use: a well-formed queue, the legal fuses, the state after a command, and a command that has started or that waits to start.
-/
namespace Sys2Proof.Machine

/-- Every waiting command is well formed. -/
def State.wfQueue (s : State) : Bool := s.pending.all Instr.wf

/-- The fuses hold what can be programmed: an SVN of at most 64 bits, and REACH counts of at most 5 (R369, R391). -/
def Fuses.legal (f : Fuses) : Prop := f.svn ≤ 64 ∧ ∀ s, mget f.reach s ≤ 5

/-- `g` can follow from `f` by programming: no count falls (R391). -/
def Fuses.le (f g : Fuses) : Prop := f.svn ≤ g.svn ∧ ∀ s, mget f.reach s ≤ mget g.reach s

/-- The state after a command whose own effect leaves the device `d`: what follows every command is done, nothing else changes. -/
def State.after (s : State) (d : Dev) : State := { s with dev := settle d }

/-- The command once it has started. -/
def Cmd.begun (c : Cmd) : Cmd := { c with started := true }

/-- The device once a command has started. -/
def Dev.begun (d : Dev) (c : Cmd) : Dev := updCmd c.begun d

/-- The Postmaster runs and does not close, and a command of an opcode is in flight with a ring and a TAG that has not started and may
start (R44, R55, R56, R67). -/
def Dev.awaits (d : Dev) (sq tag op : Nat) (c : Cmd) : Prop :=
  sq ≤ 64 ∧ tag < 65536 ∧ domUp d dPOST = true ∧ d.post.closing = false ∧ findCmd d sq tag = some c ∧ c.op = op ∧
  c.started = false ∧ mayStart d c = true

end Sys2Proof.Machine
end

