-- ==== Sys2Proof/Certificates/Slice0/Obligations.lean ====
section
/-!
DEFINITION. Certificates/Slice0/Obligations.lean: the statements for the provers. `settle` in a next state is what follows every command
(work asked of another unit, segments of a calibration run, a checkpoint that is due); SettleQuiet says when it is nothing.
-/
section
open Sys2Proof Sys2Proof.Machine

/-! ### The whole block -/

/-- A step takes the command at the front of the queue and is its meaning with the rest of the queue. -/
def Obligations.StepRunsFront : Prop :=
  ∀ (c : Instr) (rest : List Instr) (s : State), step { s with pending := c :: rest } = exec c { s with pending := rest }

/-- On an empty queue one nanosecond of device time passes while AON runs, and nothing passes while it does not (the model's choice, log
entry 7). Time that is no track source changes device time alone. -/
def Obligations.StepOnEmptyQueue : Prop :=
  ∀ s : State, s.pending = [] →
    (domUp s.dev dAON = false → step s = .next s) ∧
    (domUp s.dev dAON = true → s.dev.esc.srcKind ≠ 2 → step s = .next { s with dev := { s.dev with now := s.dev.now + 1 } }) ∧
    (domUp s.dev dAON = true → s.dev.esc.srcKind = 2 →
      step s = .next { s with dev := sourceCount true { s.dev with now := s.dev.now + 1 } })

/-- Every command whose operands name what the device has answers a next state; every other one stops as the access to a unit the device
does not have. No command is refused. No command touches the queue, and work that one unit asks of another is done within the command. -/
def Obligations.CommandsComplete : Prop :=
  (∀ (c : Instr) (s : State),
     (c.wf = true → ∃ t, exec c s = .next t) ∧ (c.wf = false → exec c s = .fault .noSuchUnit)) ∧
  (∀ (c : Instr) (s t : State), exec c s = .next t → t.pending = s.pending ∧ t.dev.rq = [])

/-- Only SVN_BURN and FW_STAGE change fuses. SVN_BURN and FW_STAGE raise SVN and REACH counts only; no other command touches them. -/
def Obligations.Fuses : Prop :=
  (∀ (c : Instr) (s t : State), c ≠ .svnBurn → (∀ sq tag, c ≠ .fwStage sq tag) → exec c s = .next t → t.fuses = s.fuses) ∧
  (∀ (c : Instr) (s t : State), exec c s = .next t → s.fuses.le t.fuses)

/-- From every state with legal fuses and no work asked and not done, a step gives one with legal fuses, no such work, and no fuse count
lower than before. -/
def Obligations.StepKeepsInvariant : Prop :=
  ∀ s t : State, s.fuses.legal → s.dev.rq = [] → step s = .next t → t.fuses.legal ∧ s.fuses.le t.fuses ∧ t.dev.rq = []

/-- The invariant holds right after reset: nothing is fused and no work is asked. The queue is empty, and no memory, table or window holds
a written byte. Right after reset every register holds the value its table gives for reset. -/
def Obligations.AfterReset : Prop :=
  (State.reset.fuses.legal ∧ State.reset.dev.rq = [] ∧ State.reset.pending = [] ∧
   State.reset.dev.hbm = [] ∧ State.reset.dev.host = [] ∧ State.reset.dev.tables = [] ∧ State.reset.dev.wins = []) ∧
  (∀ (r : Reg) (i : Nat), rd State.reset.dev r i = r.reset i)

/-- What follows a command changes nothing where no work is asked, no head is connected, no calibration run is in progress,
CAL_STATUS.BUSY shows what it is, and no checkpoint is due. -/
def Obligations.SettleQuiet : Prop :=
  ∀ d : Dev, d.rq = [] → d.fe.heads = [] → d.cal.run = none → rb d .CAL_STATUS 0 CAL_STATUS.BUSY = calBusy d →
    d.post.sinceCkpt < 65536 → settle d = d

/-! ### Accesses through BAR0 and BAR2 (R4 to R9, R22, R24) -/

/-- A naturally aligned 32-bit write. To a register in a running block it acts as the access codes say. A write of the low word of a
64-bit register is held, and one of the high word takes effect with the held low word, or with one formed field by field. Bytes of a
window that host software may write are stored, of one it may not and of the baseline window are left; of a table bank not in force they
are stored unless the bank is busy; MSI-X table and drift window bytes are stored by rules of their own (`msixWrite`, `driftWrite`). An
access that reaches nothing sets BAR0_UNMAPPED or BAR0_DOMAIN_OFF, while FABRIC runs. Rows REGISTER_WRITE and HIGH_WORD_WRITE. -/
def Obligations.Bar0WriteLands : Prop :=
  ∀ (s : State) (a v : Nat), a < 0x10000000 → a % 4 = 0 →
    (a < 0x1A00000 → domUp s.dev (addrDom a) = false →
      exec (.registerWrite a 4 v) s = .next (s.after (barFlag Src.BAR0_DOMAIN_OFF s.dev)) ∧
      exec (.highWordWrite a v) s = .next (s.after (barFlag Src.BAR0_DOMAIN_OFF s.dev))) ∧
    ((domUp s.dev (addrDom a) = true ∨ 0x1A00000 ≤ a) →
      (placeOf_ s.dev a = .unmapped →
        exec (.registerWrite a 4 v) s = .next (s.after (barFlag Src.BAR0_UNMAPPED s.dev))) ∧
      (∀ r i, placeOf_ s.dev a = .reg r i false → r.info.wide = false →
        exec (.registerWrite a 4 v) s =
          .next (s.after (regWrite r i (BitVec.ofNat 64 (v % 2 ^ 32)) (dropLatch r i s.dev)))) ∧
      (∀ r i, placeOf_ s.dev a = .reg r i false → r.info.wide = true →
        exec (.registerWrite a 4 v) s = .next (s.after
          { dropLatch r i s.dev with loHeld := spSet none (rkey r i) (some (v % 2 ^ 32)) s.dev.loHeld })) ∧
      (∀ r i, placeOf_ s.dev a = .reg r i true → r.info.wide = true →
        exec (.highWordWrite a v) s = .next (s.after
          (regWrite r i (BitVec.ofNat 64 (v % 2 ^ 32 * 2 ^ 32 + (spGet none (rkey r i) s.dev.loHeld).getD (formLow s.dev r i)))
            { dropLatch r i s.dev with loHeld := spSet none (rkey r i) none s.dev.loHeld }))) ∧
      (∀ w off, placeOf_ s.dev a = .bytes w off true → w ≠ .msixTable →
        exec (.registerWrite a 4 v) s = .next (s.after (winWrite w off (leBytes 4 v) s.dev))) ∧
      (∀ w off, placeOf_ s.dev a = .bytes w off false → w ≠ .msixTable →
        exec (.registerWrite a 4 v) s = .next (s.after s.dev)) ∧
      (∀ c off, placeOf_ s.dev a = .table c off →
        (bankIsBusy s.dev c = false → exec (.registerWrite a 4 v) s = .next (s.after
          { s.dev with tables := Mem.writeBytes s.dev.tables (bankAddr c (bankOut s.dev c) off) (leBytes 4 v) })) ∧
        (bankIsBusy s.dev c = true → exec (.registerWrite a 4 v) s = .next (s.after (occur Src.SHADOW_BANK_BUSY c 0 0 s.dev)))) ∧
      (∀ off b, placeOf_ s.dev a = .bytes .msixTable off b →
        exec (.registerWrite a 4 v) s = .next (s.after (msixWrite off (leBytes 4 v) s.dev))) ∧
      (∀ off, placeOf_ s.dev a = .drift off →
        exec (.registerWrite a 4 v) s = .next (s.after (driftWrite off (leBytes 4 v) s.dev))) ∧
      (∀ off, placeOf_ s.dev a = .baseline off → exec (.registerWrite a 4 v) s = .next (s.after s.dev)))

/-- A naturally aligned 32-bit read answers the register's value; of a 64-bit register the low word, whose read latches the high word of
the same cycle for the next read of the high word. A read of QUE_UQ_POP takes the entry from its queue. Bytes of a window, of a table bank
not in force and of the drift and baseline windows answer as they stand. What reaches nothing reads 0. Rows BAR0_READ_SPECIAL and
LOW_WORD_READ. A naturally aligned 64-bit access of a 64-bit register reads or writes it whole, and drops its held low word; of bytes of a
window or of a table bank it is one access, with its domain running; of two words that are not one register it is the two accesses of its
words, the lower first, each as its own target requires. Accesses of a size or alignment that R7 does not name: a write is discarded, a
read answers 0, and BAR0_ACCESS_SIZE sets its flag. -/
def Obligations.Bar0Read : Prop :=
  (∀ (s : State) (a : Nat), a < 0x10000000 → a % 4 = 0 →
     (a < 0x1A00000 → domUp s.dev (addrDom a) = false →
       exec (.bar0ReadSpecial a 4) s = .next (s.after (emit (.readData 0) (barFlag Src.BAR0_DOMAIN_OFF s.dev)))) ∧
     ((domUp s.dev (addrDom a) = true ∨ 0x1A00000 ≤ a) →
       (placeOf_ s.dev a = .unmapped →
         exec (.bar0ReadSpecial a 4) s = .next (s.after (emit (.readData 0) (barFlag Src.BAR0_UNMAPPED s.dev)))) ∧
       (∀ r i, placeOf_ s.dev a = .reg r i false → r.info.wide = false →
         exec (.bar0ReadSpecial a 4) s =
           .next (s.after (emit (.readData ((regValue s.fuses s.dev r i).toNat % 2 ^ 32)) s.dev))) ∧
       (∀ r i, placeOf_ s.dev a = .reg r i false → r.info.wide = true →
         let d := { s.dev with hiLatch := spSet none (rkey r i) (some ((regValue s.fuses s.dev r i).toNat / 2 ^ 32)) s.dev.hiLatch }
         exec (.lowWordRead a) s = .next (s.after (emit (.readData ((regValue s.fuses s.dev r i).toNat % 2 ^ 32))
           (if r = .QUE_UQ_POP then uqDrop i d else d)))) ∧
       (∀ r i, placeOf_ s.dev a = .reg r i true → r.info.wide = true →
         exec (.bar0ReadSpecial a 4) s = .next (s.after
           (emit (.readData ((spGet none (rkey r i) s.dev.hiLatch).getD ((regValue s.fuses s.dev r i).toNat / 2 ^ 32)))
             (dropLatch r i s.dev)))) ∧
       (∀ w off b, placeOf_ s.dev a = .bytes w off b →
         exec (.bar0ReadSpecial a 4) s =
           .next (s.after (emit (.readData (leNat ((List.range 4).map (fun k => winGet s.dev w (off + k))))) s.dev))) ∧
       (∀ c off, placeOf_ s.dev a = .table c off →
         exec (.bar0ReadSpecial a 4) s = .next (s.after (emit (.readData (leNat ((List.range 4).map (fun k =>
           s.dev.tables.read (bankAddr c (bankOut s.dev c) (off + k)))))) s.dev))) ∧
       (∀ off, placeOf_ s.dev a = .drift off →
         exec (.bar0ReadSpecial a 4) s = .next (s.after (emit (.readData (leNat ((List.range 4).map (fun k =>
           driftWindow s.dev (rf s.dev .CAL_WIN_SEL 0 CAL_WIN_SEL.VIEW)
             (rf s.dev .CAL_WIN_SEL 0 CAL_WIN_SEL.PAGE * 262144 + off + k))))) s.dev))) ∧
       (∀ off, placeOf_ s.dev a = .baseline off →
         exec (.bar0ReadSpecial a 4) s =
           .next (s.after (emit (.readData (leNat ((List.range 4).map (fun k => baseWindow s.dev (off + k))))) s.dev))))) ∧
  (∀ (s : State) (a v : Nat), a < 0x10000000 → a % 8 = 0 →
     (∀ r i h, placeOf_ s.dev a = .reg r i h → r.info.wide = true →
       (a < 0x1A00000 → domUp s.dev (addrDom a) = false →
         exec (.bar0ReadSpecial a 8) s = .next (s.after (emit (.readData 0) (barFlag Src.BAR0_DOMAIN_OFF s.dev))) ∧
         exec (.registerWrite a 8 v) s = .next (s.after (barFlag Src.BAR0_DOMAIN_OFF s.dev))) ∧
       (domUp s.dev (addrDom a) = true →
         exec (.bar0ReadSpecial a 8) s = .next (s.after (emit (.readData (regValue s.fuses s.dev r i).toNat)
           (if r = .QUE_UQ_POP then uqDrop i (dropLatch r i s.dev) else dropLatch r i s.dev))) ∧
         exec (.registerWrite a 8 v) s = .next (s.after (regWrite r i (BitVec.ofNat 64 v)
           (dropLatch r i { s.dev with loHeld := spSet none (rkey r i) none s.dev.loHeld }))))) ∧
     ((∀ r i h, placeOf_ s.dev a = .reg r i h → r.info.wide = false) →
       (placeOf_ s.dev a = .unmapped ∨ placeOf_ s.dev (a + 4) = .unmapped ∨ (∃ r i h, placeOf_ s.dev a = .reg r i h) ∨
         ∃ r i h, placeOf_ s.dev (a + 4) = .reg r i h) →
       (let x := read32 s.fuses a s.dev
        let y := read32 s.fuses (a + 4) x.2
        exec (.bar0ReadSpecial a 8) s = .next (s.after (emit (.readData (x.1 + y.1 * 2 ^ 32)) y.2))) ∧
       exec (.registerWrite a 8 v) s = .next (s.after (write32 (a + 4) (v / 2 ^ 32) (write32 a (v % 2 ^ 32) s.dev)))) ∧
     (∀ w off b w' off' b', domUp s.dev (addrDom a) = true → placeOf_ s.dev a = .bytes w off b → placeOf_ s.dev (a + 4) = .bytes w' off' b' →
       exec (.bar0ReadSpecial a 8) s =
         .next (s.after (emit (.readData (leNat ((List.range 8).map (fun k => winGet s.dev w (off + k))))) s.dev)) ∧
       (b = true → w ≠ .msixTable → exec (.registerWrite a 8 v) s = .next (s.after (winWrite w off (leBytes 8 v) s.dev)))) ∧
     (∀ c off c' off', domUp s.dev (addrDom a) = true → placeOf_ s.dev a = .table c off → placeOf_ s.dev (a + 4) = .table c' off' →
       exec (.bar0ReadSpecial a 8) s = .next (s.after (emit (.readData (leNat ((List.range 8).map (fun k =>
         s.dev.tables.read (bankAddr c (bankOut s.dev c) (off + k)))))) s.dev)) ∧
       (bankIsBusy s.dev c = false → exec (.registerWrite a 8 v) s = .next (s.after
         { s.dev with tables := Mem.writeBytes s.dev.tables (bankAddr c (bankOut s.dev c) off) (leBytes 8 v) })))) ∧
  (∀ (s : State) (a size v : Nat), a < 0x10000000 → ¬ ((size = 4 ∧ a % 4 = 0) ∨ (size = 8 ∧ a % 8 = 0)) →
     exec (.registerWrite a size v) s = .next (s.after (occur0 Src.BAR0_ACCESS_SIZE s.dev)) ∧
     exec (.bar0ReadSpecial a size) s =
       .next (s.after (occur0 Src.BAR0_ACCESS_SIZE (emit (.readData 0) s.dev))))

/-- The access codes: after a write of a register, an RW or RWS field holds what was written, a W1C field has lost the bits written 1, a
W1S field has gained them, and a field of another code is as before. Registers as state: in a register file in canonical form a written
register instance reads back, every other one reads as before, and the form is kept. What counts an event: its flag is set, every other
flag is as before, its counter goes on by one and wraps at 2^32. -/
def Obligations.AccessCodes : Prop :=
  (∀ (r : Reg) (x : FieldInfo) (old v : Word), x ∈ r.info.fields →
     x.fld.get (coded r old v) =
       (match x.acc with
       | .rw | .rws => x.fld.get v
       | .w1c => x.fld.get (old &&& ~~~ v)
       | .w1s => x.fld.get (old ||| v)
       | _ => x.fld.get old)) ∧
  (∀ (dflt : Nat → Word) (d : Dev) (r : Reg) (i : Nat) (v : Word), (∀ q j, dflt (rkey q j) = q.reset j) → spWf dflt d.regs = true →
     rd (wr r i v d) r i = v ∧
     (∀ (q : Reg) (j : Nat), q ≠ r ∨ j ≠ i → rd (wr r i v d) q j = rd d q j) ∧
     spWf dflt (wr r i v d).regs = true) ∧
  (∀ (dflt : Nat → Word) (d : Dev) (s : Nat), s < 1536 → (∀ q j, dflt (rkey q j) = q.reset j) → spWf dflt d.regs = true →
     bitOf (rn (flagCount s d) .EVT_STATUS (s / 32)) (s % 32) = true ∧
     (∀ t, t < 1536 → t ≠ s → bitOf (rn (flagCount s d) .EVT_STATUS (t / 32)) (t % 32) = bitOf (rn d .EVT_STATUS (t / 32)) (t % 32)) ∧
     rn (flagCount s d) .EVT_COUNT s = (rn d .EVT_COUNT s + 1) % 2 ^ 32 ∧
     (∀ t, t < 1536 → t ≠ s → rn (flagCount s d) .EVT_COUNT t = rn d .EVT_COUNT t))

/-- BAR2 offset x is HBM offset x: a write within the host-visible size stores its bytes, a read answers them, both with the memories
running; beyond the size BAR0_UNMAPPED sets its flag, and while a memory domain does not run BAR0_DOMAIN_OFF does, where FABRIC runs; such
a write is discarded and such a read answers 0. A BAR2 that is not implemented takes no access. -/
def Obligations.Bar2Access : Prop :=
  ∀ (s : State) (off : Nat) (b : Bytes),
    (bar2Size s.dev = 0 ↔ crown s.dev = true ∨ (winGet s.dev .option 8).toNat % 2 = 0) ∧
    (bar2Size s.dev = 0 → ∀ w, exec (.bar2Access w off b) s = .next (s.after s.dev)) ∧
    (bar2Size s.dev ≠ 0 →
    (off + b.length ≤ hbmVisible → domUp s.dev (dMEM 0) = true → domUp s.dev (dMEM 1) = true →
      exec (.bar2Access true off b) s = .next (s.after { s.dev with hbm := Mem.writeBytes s.dev.hbm off b }) ∧
      exec (.bar2Access false off b) s =
        .next (s.after (emit (.readData (leNat (Mem.readBytes s.dev.hbm off b.length))) s.dev))) ∧
    (hbmVisible < off + b.length →
      exec (.bar2Access true off b) s = .next (s.after (barFlag Src.BAR0_UNMAPPED s.dev)) ∧
      exec (.bar2Access false off b) s = .next (s.after (barFlag Src.BAR0_UNMAPPED (emit (.readData 0) s.dev)))) ∧
    (off + b.length ≤ hbmVisible → domUp s.dev (dMEM 0) = false ∨ domUp s.dev (dMEM 1) = false →
      exec (.bar2Access true off b) s = .next (s.after (barFlag Src.BAR0_DOMAIN_OFF s.dev)) ∧
      exec (.bar2Access false off b) s = .next (s.after (barFlag Src.BAR0_DOMAIN_OFF (emit (.readData 0) s.dev)))))

/-- Bytes written to a memory in canonical form: inside the written range each byte reads back, every other byte reads as before, and the
form is kept. -/
def Obligations.MemoryWriteFrame : Prop :=
  ∀ (m : Mem) (a : Nat) (b : Bytes), m.wf = true →
    (∀ k, k < b.length → (m.writeBytes a b).read (a + k) = b.getD k 0#8) ∧
    (∀ x, x < a ∨ a + b.length ≤ x → (m.writeBytes a b).read x = m.read x) ∧
    (m.writeBytes a b).wf = true

/-! ### Rings (R32 to R40) -/

/-- SQ_ENABLE of a disabled ring: the checks of R36 in their order, and where none fails the ring is enabled with its counts 0. Of a ring
that is enabled, drained or draining, only ENABLE is set. CQ_ENABLE of an enabled ring sets ENABLE only; of a disabled one it checks SIZE,
sets the ring's counts to 0 and forgets the completions that staging keeps of an earlier enabling; CQ_DISABLE disables the ring and
forgets them too. It is discarded while an enabled submission ring names the ring. -/
def Obligations.RingEnable : Prop :=
  (∀ (s : State) (n : Nat), n < 64 → domUp s.dev dPOST = true →
     let d := sf .RING_SQ_CTRL n RING_SQ_CTRL.ENABLE 1 s.dev
     let refuses := fun st => exec (.sqEnable n) s = .next (s.after (sf .RING_SQ_STATUS n RING_SQ_STATUS.CFG_ERR st d))
     (sqEnabled d n = true → exec (.sqEnable n) s = .next (s.after d)) ∧
     (sqEnabled d n = false →
       (sqSize d n = 0 ∨ sqQuota d n = 0 → refuses 0x02) ∧
       (sqSize d n ≠ 0 → sqQuota d n ≠ 0 →
         (cqEnabled d (rf d .RING_SQ_CFG n RING_SQ_CFG.CQ) = false → refuses 0x08) ∧
         (cqEnabled d (rf d .RING_SQ_CFG n RING_SQ_CFG.CQ) = true →
           (sqSize d n < sqQuota d n ∨ 512 < quotaSum d + sqQuota d n → refuses 0x03) ∧
           (sqQuota d n ≤ sqSize d n → quotaSum d + sqQuota d n ≤ 512 →
             exec (.sqEnable n) s = .next (s.after
               { (sf .RING_SQ_STATUS n RING_SQ_STATUS.ENABLED 1 (sf .RING_SQ_STATUS n RING_SQ_STATUS.CFG_ERR 0
                   (wn .RING_SQ_FETCHED n 0 d))) with
                 post := { s.dev.post with dbSq := mset n 0 s.dev.post.dbSq, sqDone := mset n 0 s.dev.post.sqDone } })))))) ∧
  (∀ (s : State) (n : Nat), n < 64 → domUp s.dev dPOST = true →
     (let d := sf .RING_CQ_CTRL n RING_CQ_CTRL.ENABLE 1 s.dev
      (cqEnabled d n = true → exec (.cqEnable n) s = .next (s.after d)) ∧
      (cqEnabled d n = false →
       (cqSize d n = 0 →
         exec (.cqEnable n) s = .next (s.after (sf .RING_CQ_STATUS n RING_CQ_STATUS.CFG_ERR 0x02 d))) ∧
       (cqSize d n ≠ 0 →
         exec (.cqEnable n) s = .next (s.after (dropWritten n
           { (sf .RING_CQ_STATUS n RING_CQ_STATUS.ENABLED 1 (sf .RING_CQ_STATUS n RING_CQ_STATUS.CFG_ERR 0
               (sf .RING_CQ_STATUS n RING_CQ_STATUS.FULL 0 (wn .RING_CQ_WRITTEN n 0 d)))) with
             post := { s.dev.post with dbCq := mset n 0 s.dev.post.dbCq, cqSince := mset n 0 s.dev.post.cqSince } }))))) ∧
     ((∀ q, q < 64 → sqEnabled s.dev q = true → rf s.dev .RING_SQ_CFG q RING_SQ_CFG.CQ ≠ n) →
       exec (.cqDisable n) s = .next (s.after (dropWritten n
         (sf .RING_CQ_STATUS n RING_CQ_STATUS.ENABLED 0 (sf .RING_CQ_CTRL n RING_CQ_CTRL.ENABLE 0 s.dev))))) ∧
     ((∃ q, q < 64 ∧ sqEnabled s.dev q = true ∧ rf s.dev .RING_SQ_CFG q RING_SQ_CFG.CQ = n) →
       exec (.cqDisable n) s = .next (s.after (occur0 Src.RING_CFG_LOCKED s.dev))))

/-- SQ_DISABLE of an enabled ring notes that it drains, once, and where nothing is in flight does at once what SQ_DRAIN_DONE does; of a
disabled ring it only clears ENABLE. SQ_DRAIN_DONE of a ring that drains with nothing in flight disables it, and where ENABLE reads 1 the
ring is then checked and enabled again; otherwise it does nothing. -/
def Obligations.SqDrain : Prop :=
  ∀ (s : State) (n : Nat), n < 64 → domUp s.dev dPOST = true →
    (let d := sf .RING_SQ_CTRL n RING_SQ_CTRL.ENABLE 0 s.dev
     (sqEnabled d n = false → exec (.sqDisable n) s = .next (s.after d)) ∧
     (sqEnabled d n = true →
       let e := { d with post := { d.post with
         draining := if d.post.draining.contains n then d.post.draining else n :: d.post.draining } }
       (sqInFlight e n ≠ 0 → exec (.sqDisable n) s = .next (s.after e)) ∧
       (sqInFlight e n = 0 → exec (.sqDisable n) s = .next (s.after (sqDrainDone n e))))) ∧
    (let d := sf .RING_SQ_STATUS n RING_SQ_STATUS.ENABLED 0
       { s.dev with post := { s.dev.post with draining := s.dev.post.draining.filter (· ≠ n) } }
     let drained := s.dev.post.draining.contains n = true ∧ sqInFlight s.dev n = 0
     (drained → rb d .RING_SQ_CTRL n RING_SQ_CTRL.ENABLE = false → exec (.sqDrainDone n) s = .next (s.after d)) ∧
     (drained → rb d .RING_SQ_CTRL n RING_SQ_CTRL.ENABLE = true → exec (.sqDrainDone n) s = .next (s.after (sqTryEnable n d))) ∧
     (¬ drained → exec (.sqDrainDone n) s = .next (s.after s.dev)))

/-- Outside a replay a doorbell write is valid if its ring is enabled, the count lies in the ring's range, is not behind the value in
force and does not pass the credit limit (or RING_CQ_WRITTEN); it replaces the value in force, and a completion ring with a slot free is
no longer FULL. An invalid one is discarded and DOORBELL_INVALID sets its flag. During steps 1 and 2 of a replay a write is held. -/
def Obligations.Doorbells : Prop :=
  ∀ (s : State) (n c : Nat), n < 64 → c < 2 ^ 32 → domUp s.dev dEP = true →
    (replaying s.dev = true → s.dev.post.replayStep < 2 →
      exec (.dbellSq n c) s = .next (s.after { s.dev with post := { s.dev.post with heldDb := s.dev.post.heldDb ++ [(n, c)] } }) ∧
      exec (.dbellCq n c) s = .next (s.after { s.dev with post := { s.dev.post with heldDb := s.dev.post.heldDb ++ [(n + 64, c)] } })) ∧
    (replaying s.dev = false →
    (sqEnabled s.dev n = true → c < ringL (sqSize s.dev n) → notBehind (sqSize s.dev n) c (mget s.dev.post.dbSq n) = true →
      notBehind (sqSize s.dev n) (sqCredit s.dev n) c = true →
      exec (.dbellSq n c) s =
        .next (s.after { s.dev with post := { s.dev.post with dbSq := mset n c s.dev.post.dbSq } })) ∧
    (cqEnabled s.dev n = true → c < ringL (cqSize s.dev n) → notBehind (cqSize s.dev n) c (mget s.dev.post.dbCq n) = true →
      notBehind (cqSize s.dev n) (rn s.dev .RING_CQ_WRITTEN n) c = true →
      exec (.dbellCq n c) s =
        .next (s.after (cqFreed n { s.dev with post := { s.dev.post with dbCq := mset n c s.dev.post.dbCq } }))) ∧
    (sqEnabled s.dev n = false ∨ ringL (sqSize s.dev n) ≤ c ∨ notBehind (sqSize s.dev n) c (mget s.dev.post.dbSq n) = false ∨
      notBehind (sqSize s.dev n) (sqCredit s.dev n) c = false →
      exec (.dbellSq n c) s = .next (s.after (occur0 Src.DOORBELL_INVALID s.dev))) ∧
    (cqEnabled s.dev n = false ∨ ringL (cqSize s.dev n) ≤ c ∨ notBehind (cqSize s.dev n) c (mget s.dev.post.dbCq n) = false ∨
      notBehind (cqSize s.dev n) (rn s.dev .RING_CQ_WRITTEN n) c = false →
      exec (.dbellCq n c) s = .next (s.after (occur0 Src.DOORBELL_INVALID s.dev))))

/-- COMPLETION_WRITE of the first completion whose turn it is, with a slot free: a COMPLETE record first covers the slot's previous
occupant where staging keeps it, the entry goes to slot w mod N with PHASE of the pass and the credit limit, and the counts advance. With
no slot free it waits, FULL reads 1 and CQ_FULL sets its flag; with no room for the record, or with no completion whose turn it is,
nothing changes. CQ_HOLDOFF_EXPIRY with IRQ_EN 1 and a completion written since the last signal: the ring's vector is signalled and the
completions are counted afresh; with none written, IRQ_EN 0 or the ring disabled, nothing changes. -/
def Obligations.CompletionDelivery : Prop :=
  (∀ (s : State) (q : Nat), q < 64 → domUp s.dev dPOST = true → s.dev.post.busMaster = true → cqEnabled s.dev q = true →
     let n := cqSize s.dev q
     let w := rn s.dev .RING_CQ_WRITTEN q
     let covers := s.dev.post.written.any (fun x => x.cq == q && x.count == (w + ringL n - n) % ringL n)
     let body := leBytes 4 q ++ leBytes 4 w
     (nextCpl s.dev q = none → exec (.completionWrite q) s = .next (s.after s.dev)) ∧
     (∀ c, nextCpl s.dev q = some c →
       (n ≤ cqInUse s.dev q → rb s.dev .RING_CQ_STATUS q RING_CQ_STATUS.FULL = false →
         exec (.completionWrite q) s =
           .next (s.after (occur Src.CQ_FULL q 0 0 (sf .RING_CQ_STATUS q RING_CQ_STATUS.FULL 1 s.dev)))) ∧
       (n ≤ cqInUse s.dev q → rb s.dev .RING_CQ_STATUS q RING_CQ_STATUS.FULL = true →
         exec (.completionWrite q) s = .next (s.after s.dev)) ∧
       (cqInUse s.dev q < n → covers = true → canStage kCOMPLETE body s.dev = false →
         exec (.completionWrite q) s = .next (s.after s.dev)) ∧
       (cqInUse s.dev q < n → covers = false ∨ canStage kCOMPLETE body s.dev = true →
         let e := if covers then stage kCOMPLETE body s.dev else s.dev
         let d := { e with post := { e.post with
           formed := e.post.formed.filter (fun x => x.order ≠ c.order)
           sqDone := mset c.sq ((mget e.post.sqDone c.sq + 1) % ringL (sqSize e c.sq)) e.post.sqDone } }
         let b := cplBytes c (decide (w / n % 2 = 0)) (sqCredit d c.sq)
         let d' := hostWrite (rf d .RING_CQ_BASE q RING_CQ_BASE.BASE * 32 + 32 * (w % n)) b
           { d with post := { d.post with written := ⟨q, w, b⟩ :: s.dev.post.written.filter (fun x => x.cq ≠ q || !covers) } }
         exec (.completionWrite q) s = .next (s.after
           (cqCount q (wn .RING_CQ_WRITTEN q ((w + 1) % ringL n) (sf .RING_CQ_STATUS q RING_CQ_STATUS.FULL 0 d'))))))) ∧
  (∀ (s : State) (q : Nat), q < 64 → domUp s.dev dPOST = true →
     (cqEnabled s.dev q = true → rb s.dev .RING_CQ_CFG q RING_CQ_CFG.IRQ_EN = true → 0 < mget s.dev.post.cqSince q →
       exec (.cqHoldoffExpiry q) s = .next (s.after (signal (rf s.dev .RING_CQ_CFG q RING_CQ_CFG.VECTOR)
         { s.dev with post := { s.dev.post with cqSince := mset q 0 s.dev.post.cqSince } }))) ∧
     (cqEnabled s.dev q = false ∨ rb s.dev .RING_CQ_CFG q RING_CQ_CFG.IRQ_EN = false ∨ mget s.dev.post.cqSince q = 0 →
       exec (.cqHoldoffExpiry q) s = .next (s.after s.dev)))

/-! ### Commands of the host (R44 to R56)

In these statements a command `c` is in flight and may start; `d` is the device once it has started. `completeOk` forms a completion with
status OK and the RESULT bytes given, `complete` one with the status and DETAIL given (Completes). -/

/-- A command that ends leaves those in flight, and its completion is formed with its ring, number, TAG, CONTEXT and OPCODE, its status
and DETAIL, the time and 16 RESULT bytes; the completion entry holds them where R46 says. -/
def Obligations.Completes : Prop :=
  (∀ (c : Cmd) (st det : Nat) (r : Bytes) (d : Dev), c.sq < 64 →
    complete c st det r d = { d with post := { d.post with
      cmds := d.post.cmds.filter (fun x => x.order ≠ c.order)
      formed := d.post.formed ++ [⟨c.sq, c.num, c.order, rf d .RING_SQ_CFG c.sq RING_SQ_CFG.CQ, c.tag, c.ctx, c.op, st, det, d.now,
        fitBytes 16 r, c.fence⟩] } }) ∧
  (∀ (c : Cpl) (phase : Bool) (credit : Nat), c.sq < 64 → c.status < 256 → c.tag < 65536 → c.ctx < 65536 → c.op < 256 → c.detail < 256 →
    credit < 2 ^ 32 →
    let b := cplBytes c phase credit
    leAt b 0 1 = (if phase then 1 else 0) + 2 * c.sq ∧ leAt b 1 1 = c.status ∧ leAt b 2 2 = c.tag ∧ leAt b 4 2 = c.ctx ∧
    leAt b 6 1 = c.op ∧ leAt b 7 1 = c.detail ∧ leAt b 8 4 = credit ∧ leAt b 12 4 = c.time % 2 ^ 32 ∧
    leAt b 16 16 = leNat (fitBytes 16 c.result) ∧ b.length = 32)

/-- COMMAND_FETCH where the Postmaster may fetch from the ring: the entry counts as fetched and its ADMIT record is staged. An entry whose
read fails completes with DMA_ERR, TAG, CONTEXT and OPCODE 0 and the entry number. Any other is admitted: one that fails a check of the
entry, the read of its block, a check of the block or a check of its lengths completes with that status, and one that passes is in flight
and has not started. Where the Postmaster may not fetch, nothing changes. CROWN_GO in Crown mode with BUSY 0: BUSY reads 1 and DONE 0, and
the entry of the mailbox is admitted as one of a ring is: at a check it fails it completes with that status, else it is in flight and has
not started. Outside Crown mode, or while BUSY is 1, the write is discarded, and CROWN_GO_DENIED sets its flag when FABRIC is running. -/
def Obligations.CrownAndFetch : Prop :=
  (∀ (s : State) (q : Nat) (block : Fetch), q < 64 →
     (mayFetch s.dev q = false → ∀ entry, exec (.commandFetch q entry block) s = .next (s.after s.dev)) ∧
     (mayFetch s.dev q = true →
     let num := rn s.dev .RING_SQ_FETCHED q
     let next := (num + 1) % ringL (sqSize s.dev q)
     let d := stage 0x01 (leBytes 1 q ++ zeros 3 ++ leBytes 4 next) (wn .RING_SQ_FETCHED q next s.dev)
     let d' := { d with post := { d.post with fetches := d.post.fetches + 1 } }
     (∀ cause, exec (.commandFetch q (.failed cause) block) s = .next (s.after
       (complete ⟨q, num, 0, 0, 0, false, [], [], d.post.fetches, false, []⟩ 0x0A cause (leBytes 4 num) d'))) ∧
     (∀ bytes : Bytes,
       let e := fitBytes 64 bytes
       let op := leAt e 0 1
       let ctx := leAt e 4 2 % 2048
       let len := leAt e 16 4
       let c (b : Bytes) : Cmd := ⟨q, num, leAt e 2 2, ctx, op, bitOf (leAt e 1 1) 1, e, b, d.post.fetches, false,
         if op = 0x05 then syncTargets d' (bitOf (leAt e 8 1) 0) ctx else []⟩
       let ends (b : Bytes) (st det : Nat) := exec (.commandFetch q (.ok bytes) block) s = .next (s.after (complete (c b) st det [] d'))
       let waits (b : Bytes) := exec (.commandFetch q (.ok bytes) block) s =
         .next (s.after { d' with post := { d'.post with cmds := d.post.cmds ++ [c b] } })
       (∀ st det, entryFails d q e = some (st, det) → ends [] st det) ∧
       (entryFails d q e = none → bitOf (leAt e 1 1) 0 = false →
         (lengthFails d' op e [] = none → waits []) ∧
         (∀ st det, lengthFails d' op e [] = some (st, det) → ends [] st det)) ∧
       (entryFails d q e = none → bitOf (leAt e 1 1) 0 = true →
         (∀ cause, block = .failed cause → ends [] 0x0A cause) ∧
         (∀ bb, block = .ok bb →
           (∀ st det, blockFails op (fitBytes len bb) = some (st, det) → ends (fitBytes len bb) st det) ∧
           (blockFails op (fitBytes len bb) = none →
             (lengthFails d' op e (fitBytes len bb) = none → waits (fitBytes len bb)) ∧
             (∀ st det, lengthFails d' op e (fitBytes len bb) = some (st, det) → ends (fitBytes len bb) st det))))))) ∧
  (∀ (s : State) (block : Fetch),
     (crown s.dev = false ∨ rb s.dev .RST_CROWN_STATUS 0 RST_CROWN_STATUS.BUSY = true →
       (domUp s.dev dFABRIC = true → exec (.crownGo block) s = .next (s.after (occur0 Src.CROWN_GO_DENIED s.dev))) ∧
       (domUp s.dev dFABRIC = false → exec (.crownGo block) s = .next (s.after s.dev))) ∧
     (crown s.dev = true → rb s.dev .RST_CROWN_STATUS 0 RST_CROWN_STATUS.BUSY = false →
       let d := sf .RST_CROWN_STATUS 0 RST_CROWN_STATUS.BUSY 1 (sf .RST_CROWN_STATUS 0 RST_CROWN_STATUS.DONE 0 s.dev)
       let d' := { d with post := { d.post with fetches := d.post.fetches + 1 } }
       let e := fitBytes 64 (winRead s.dev .crownCmd 0 64)
       let op := leAt e 0 1
       let ctx := leAt e 4 2 % 2048
       let len := leAt e 16 4
       let c (b : Bytes) : Cmd := ⟨64, 0, leAt e 2 2, ctx, op, bitOf (leAt e 1 1) 1, e, b, d.post.fetches, false,
         if op = 0x05 then syncTargets d' (bitOf (leAt e 8 1) 0) ctx else []⟩
       let ends (b : Bytes) (st det : Nat) := exec (.crownGo block) s = .next (s.after (complete (c b) st det [] d'))
       let waits (b : Bytes) := exec (.crownGo block) s =
         .next (s.after { d' with post := { d'.post with cmds := d.post.cmds ++ [c b] } })
       (∀ st det, entryFails d 64 e = some (st, det) → ends [] st det) ∧
       (entryFails d 64 e = none → bitOf (leAt e 1 1) 0 = false →
         (lengthFails d' op e [] = none → waits []) ∧
         (∀ st det, lengthFails d' op e [] = some (st, det) → ends [] st det)) ∧
       (entryFails d 64 e = none → bitOf (leAt e 1 1) 0 = true →
         (∀ cause, block = .failed cause → ends [] 0x0A cause) ∧
         (∀ bb, block = .ok bb →
           (∀ st det, blockFails op (fitBytes len bb) = some (st, det) → ends (fitBytes len bb) st det) ∧
           (blockFails op (fitBytes len bb) = none →
             (lengthFails d' op e (fitBytes len bb) = none → waits (fitBytes len bb)) ∧
             (∀ st det, lengthFails d' op e (fitBytes len bb) = some (st, det) → ends (fitBytes len bb) st det))))))

/-- IDENTIFY answers the firmware version of each slot that holds an image, the slots' states, the slot that runs, the slot the option
record names, Crown mode, the SVN fuse, the option record's SEQ and the job of the active image. ABORT of a command that is not in flight,
or of itself, answers outcome 1; of one that has not started, that command completes ABORTED and the outcome is 0. Of a started one that
stops at once, it completes ABORTED with outcome 0; of one that is not abortable, or of an activation that is pending, what R51 says.
RESET: a target its reach may not have is refused with PARAM, DETAIL 9, and flags below a COLD reach with DETAIL 10; otherwise SOFTWARE
asserts with the reach asked for and, where it has one, its domain. A COLD or WARM reach clears the failed-start counter and sets the
Crown flag as the flags ask. -/
def Obligations.IdentifyAbortReset : Prop :=
  (∀ (s : State) (q tag : Nat) (c : Cmd), s.dev.awaits q tag 0x01 c →
     let d := s.dev.begun c
     let ver := fun n => if slotState d n = 1 then leAt (slotImage d n) 8 2 else 0
     let run := match runSlot d with
       | some n => 1 + 2 * n
       | none => 0
     let opt := match bestOption d with
       | some (_, b) => (optSlot b, optSeq b)
       | none => (0, 0)
     let job := match activeImage d with
       | some i => if crown d then 0 else imgJob i
       | none => 0
     exec (.identify q tag) s = .next (s.after (completeOk c.begun
       (leBytes 2 (ver 0) ++ leBytes 2 (ver 1) ++ leBytes 1 (slotState d 0 + 16 * slotState d 1) ++
         leBytes 1 (run + 4 * opt.1 + 8 * b2n (crown d)) ++ leBytes 1 s.fuses.svn ++ leBytes 1 opt.2 ++ leBytes 8 job) d))) ∧
  (∀ (s : State) (q tag : Nat) (c : Cmd), s.dev.awaits q tag 0x04 c →
     let d := s.dev.begun c
     let outcome := fun (n : Nat) (e : Dev) => exec (.abort q tag) s = .next (s.after (completeOk c.begun (leBytes 1 n) e))
     (findCmd d (leAt c.entry 8 1 % 64) (leAt c.entry 10 2) = none → outcome 1 d) ∧
     (∀ t, findCmd d (leAt c.entry 8 1 % 64) (leAt c.entry 10 2) = some t →
       (t.order = c.order → outcome 1 d) ∧
       (t.order ≠ c.order → t.started = false → outcome 0 (complete t 0x09 0 [] d)) ∧
       (t.order ≠ c.order → t.started = true →
         (t.op ∈ [0x05, 0x06, 0x08, 0x91, 0xA2, 0xF0, 0xF1] → outcome 0 (complete t 0x09 0 [] d)) ∧
         (t.op = 0x21 → outcome 0 (complete t 0x09 0 [] (actAbort t d))) ∧
         (t.op = 0x42 → outcome 0 (postAbort t d)) ∧
         (t.op = 0x60 → outcome 0 (calAbort t d)) ∧
         (t.op = 0x81 → outcome 0 (auxAbort t d)) ∧
         (t.op = 0x70 ∨ t.op = 0x71 ∨ t.op = 0x73 → outcome (if (axAbort t d).2 then 0 else 2) (axAbort t d).1) ∧
         (t.op ∈ [0x40, 0x41, 0x07, 0xA0, 0xA1, 0x62, 0x20, 0x22, 0x23, 0x24, 0x25, 0x43, 0x44, 0x61, 0x90, 0x92, 0x93, 0x80, 0x82, 0x72,
           0x01, 0x02, 0x03, 0x04] → outcome 2 d)))) ∧
  (∀ (s : State) (q tag : Nat) (c : Cmd), s.dev.awaits q tag 0x07 c →
     let d := s.dev.begun c
     let reach := leAt c.entry 8 1
     let tgt := leAt c.entry 9 1
     let fl := leAt c.entry 10 1
     let asserts := fun dom => exec (.reset q tag) s = .next (s.after (assertSource s.fuses 34 reach dom
       (rst (fun r => { r with cmd := c.order + 1, crown := r.crown || bitOf fl 1, starts := if bitOf fl 0 then 0 else r.starts }) d)))
     (reach = 1 ∧ tgt ≤ 2 ∨ (if reach = 1 then 23 else if reach = 2 then 3 else 0) < tgt →
       exec (.reset q tag) s = .next (s.after (complete c.begun 0x02 9 [] d))) ∧
     (¬ (reach = 1 ∧ tgt ≤ 2 ∨ (if reach = 1 then 23 else if reach = 2 then 3 else 0) < tgt) → reach < 4 → fl ≠ 0 →
       exec (.reset q tag) s = .next (s.after (complete c.begun 0x02 10 [] d))) ∧
     (reach = 1 → 3 ≤ tgt → tgt ≤ 23 → fl = 0 → asserts (some tgt)) ∧
     (reach = 2 → tgt ≤ 3 → fl = 0 → asserts (some (dDIG tgt))) ∧
     (reach = 3 → tgt = 0 → fl = 0 → asserts none) ∧
     (4 ≤ reach → tgt = 0 → asserts none))

/-- GET_FEATURE answers VALUE and VALUE2 of the feature of bytes 8 to 9, and SET_FEATURE writes VALUE of bytes 16 to 23 to a scratch
register and answers it. A reserved feature, and SET_FEATURE of a read-only one, completes with PARAM, DETAIL 8. The inline checks of the
two pass exactly where their reserved bytes are 0. The values of the features: link, times, dies and drives, memory sizes and the scratch
registers; every other number is reserved. -/
def Obligations.Features : Prop :=
  ((∀ e : Bytes, (firstBad (inlineChecks 0x02 e) = none ↔ zeroIn e 10 64 = true) ∧
     (firstBad (inlineChecks 0x03 e) = none ↔ zeroIn e 10 16 = true ∧ zeroIn e 24 64 = true)) ∧
   ∀ (s : State) (q tag : Nat) (c : Cmd),
     let d := s.dev.begun c
     let n := leAt c.entry 8 2
     (s.dev.awaits q tag 0x02 c →
       (∀ x, featureValue d n = some x →
         exec (.getFeature q tag) s = .next (s.after (completeOk c.begun (leBytes 8 x.1 ++ leBytes 8 x.2) d))) ∧
       (featureValue d n = none → exec (.getFeature q tag) s = .next (s.after (complete c.begun 0x02 8 [] d)))) ∧
     (s.dev.awaits q tag 0x03 c →
       (0x10 ≤ n → n ≤ 0x13 → exec (.setFeature q tag) s = .next (s.after
         (completeOk c.begun (leBytes 8 (leAt c.entry 16 8) ++ leBytes 8 0) (wn .GLB_SCRATCH (n - 0x10) (leAt c.entry 16 8) d)))) ∧
       (n < 0x10 ∨ 0x13 < n → exec (.setFeature q tag) s = .next (s.after (complete c.begun 0x02 8 [] d))))) ∧
  (∀ d : Dev,
     featureValue d 1 = some (rf d .GLB_STATUS 0 GLB_STATUS.LINK_RATE + 256 * rf d .GLB_STATUS 0 GLB_STATUS.LINK_WIDTH, 0) ∧
     featureValue d 2 = some (d.now, ux 64 (trackPos d)) ∧
     featureValue d 3 = some
       (((List.range 4).filter (fun k => bitOf (rn d .RST_DOMAIN_POWER 0) (dANA k) && bitOf (rn d .RST_DOMAIN_POWER 0) (dDIG k))).foldl
         (fun a k => a + 2 ^ k) 0 + 16 * ((List.range 4).filter (fun p => rpState d p = rpMember)).foldl (fun a p => a + 2 ^ p) 0,
        hbmVisible) ∧
     featureValue d 4 = some (8589934592, hTot d) ∧
     (∀ k, k < 4 → featureValue d (0x10 + k) = some (rn d .GLB_SCRATCH k, 0)) ∧
     (∀ n, n = 0 ∨ (5 ≤ n ∧ n ≤ 15) ∨ 0x14 ≤ n → featureValue d n = none))

/-- SYNC_DURABLE names a context that is not CLOSED or covers all, and CONTEXT_CLOSE one that is OPEN: a CLOSED one completes with
CONTEXT, a BOUND one of CONTEXT_CLOSE with STATE, else every command that waits for durability is examined. Alone in flight, SYNC_DURABLE
completes where every parcel it covers is durable, with the durable number of its context (0 where it covers all), and waits where one is
not; CONTEXT_CLOSE completes where every parcel produced is durable, with the last number, and its context is CLOSED, and waits where one
is not. BUFFER_POST adds its buffers to its context and, alone in flight, waits; a buffer that is no multiple of the parcel size is
refused. LEDGER_READ copies the records it picks, in sequence order, to its buffer, and answers their count and the first sequence number.
RESERVE_QUERY answers H and S of R58, and writes its record of free and reserved bytes, P, the sum of W rounded up, K and the captures to
BUFFER where that is not 0. K in whole MB/s is rounded as the model's open value says (log entry 80). Its inline checks pass exactly where
BUFFER is 64 B aligned and the reserved bytes are 0. -/
def Obligations.LedgerAndReserve : Prop :=
  (∀ (s : State) (q tag : Nat) (c : Cmd),
     let d := s.dev.begun c
     let adds := onCtx c.ctx (fun x => { x with bufs := x.bufs ++ (List.range (c.block.length / 16)).map (fun i =>
       ⟨c.order, leAt c.block (16 * i) 8, leAt c.block (16 * i + 8) 4, 0, i, 0⟩) }) d
     (s.dev.awaits q tag 0x05 c →
       (bitOf (leAt c.entry 8 1) 0 = false → ctxState d c.ctx = 0 →
         exec (.syncDurable q tag) s = .next (s.after (complete c.begun 0x07 0 [] d))) ∧
       (bitOf (leAt c.entry 8 1) 0 = true ∨ ctxState d c.ctx ≠ 0 →
         exec (.syncDurable q tag) s = .next (s.after (settleWaiting d)) ∧
         (s.dev.post.cmds = [c] → (∀ p, p ∈ pairsOf c.data → p.2 ≤ durable d p.1) →
           exec (.syncDurable q tag) s = .next (s.after
             (completeOk c.begun (leBytes 8 (if bitOf (leAt c.entry 8 1) 0 then 0 else durable d c.ctx)) d))) ∧
         (s.dev.post.cmds = [c] → (∃ p, p ∈ pairsOf c.data ∧ durable d p.1 < p.2) →
           exec (.syncDurable q tag) s = .next (s.after d)))) ∧
     (s.dev.awaits q tag 0x44 c → domUp d dFABRIC = true →
       (ctxState d c.ctx = 0 → exec (.contextClose q tag) s = .next (s.after (complete c.begun 0x07 0 [] d))) ∧
       (ctxState d c.ctx = 2 → exec (.contextClose q tag) s = .next (s.after (complete c.begun 0x08 dFABRIC [] d))) ∧
       (ctxState d c.ctx = 1 →
         exec (.contextClose q tag) s = .next (s.after (settleWaiting d)) ∧
         (s.dev.post.cmds = [c] → produced d c.ctx ≤ durable d c.ctx →
           exec (.contextClose q tag) s = .next (s.after
             (completeOk c.begun (leBytes 8 (produced d c.ctx)) (closeContext c.ctx d)))) ∧
         (s.dev.post.cmds = [c] → durable d c.ctx < produced d c.ctx → exec (.contextClose q tag) s = .next (s.after d)))) ∧
     (s.dev.awaits q tag 0x42 c → domUp d dFABRIC = true →
       (ctxState d c.ctx = 0 → exec (.bufferPost q tag) s = .next (s.after (complete c.begun 0x07 0 [] d))) ∧
       (∀ i, ctxState d c.ctx ≠ 0 →
         (List.range (c.block.length / 16)).find? (fun i => leAt c.block (16 * i + 8) 4 % max 1 (ctxSize d c.ctx) != 0) = some i →
         exec (.bufferPost q tag) s = .next (s.after (complete c.begun 0x02 (min 0xFF (0x40 + 16 * i + 8)) [] d))) ∧
       (ctxState d c.ctx ≠ 0 →
         (∀ i, i < c.block.length / 16 → leAt c.block (16 * i + 8) 4 % max 1 (ctxSize d c.ctx) = 0) →
         exec (.bufferPost q tag) s = .next (s.after (settleWaiting adds)) ∧
         (s.dev.post.cmds = [c] → (findCtx d c.ctx).isSome = true → 0 < c.block.length / 16 → leAt c.block 8 4 ≠ 0 →
           exec (.bufferPost q tag) s = .next (s.after adds))))) ∧
  (∀ (s : State) (q tag : Nat) (c : Cmd), s.dev.awaits q tag 0x06 c →
     let d := s.dev.begun c
     let l := ledgerPick d (leAt c.entry 8 7) (leAt c.entry 16 4)
     (∀ r ∈ l, leAt c.entry 8 7 ≤ r.seq) ∧ l.length ≤ leAt c.entry 16 4 ∧
     exec (.ledgerRead q tag) s = .next (s.after (completeOk c.begun
       (leBytes 4 l.length ++ zeros 4 ++ leBytes 7 ((l.head?.map (·.seq)).getD 0))
       (hostWrite (leAt c.entry 24 8) (l.flatMap lrecBytes) d)))) ∧
  ((∀ e : Bytes, firstBad (inlineChecks 0x08 e) = none ↔ leAt e 8 8 % 64 = 0 ∧ zeroIn e 16 64 = true) ∧
   ∀ (s : State) (q tag : Nat) (c : Cmd), s.dev.awaits q tag 0x08 c →
     let d := s.dev.begun c
     domUp d dFABRIC = true →
     (leAt c.entry 8 8 = 0 →
       exec (.reserveQuery q tag) s = .next (s.after (completeOk c.begun (leBytes 8 (hFree d) ++ leBytes 8 (restFree d)) (useFresh d)))) ∧
     (leAt c.entry 8 8 ≠ 0 →
       exec (.reserveQuery q tag) s = .next (s.after (completeOk c.begun (leBytes 8 (hFree d) ++ leBytes 8 (restFree d))
         (hostWrite (leAt c.entry 8 8) (leBytes 8 (hFree d) ++ leBytes 8 (restFree d) ++ leBytes 8 (hRes d) ++ leBytes 8 (sRes d) ++
           leBytes 4 (restRate d) ++ leBytes 4 ((sumW d + 999999) / 1000000) ++ leBytes 4 (kWhole d) ++
           leBytes 1 d.strm.captures.length ++ zeros 19) (useFresh d))))))

/-- TTBL_LOAD of an image that passes every check places it in a free number; one that fails a check completes with its status, and
TTBL_LOAD_ERR holds the order, the status and the offset but for order 4. TTBL_ACTIVATE of a loaded image, with no activation pending and
no capture (or the same routing and ladder), is pending; where its position has passed, ACT_LATE and TTBL_LATE say so, and where no image
is active it activates at once. What R90 refuses completes with STATE, DETAIL 5. TTBL_ACTIVATE's inline checks pass exactly where the
number is below 4 and the reserved bytes are 0. -/
def Obligations.TimetableCommands : Prop :=
  (∀ e : Bytes, firstBad (inlineChecks 0x21 e) = none ↔ leAt e 8 1 < 4 ∧ zeroIn e 9 16 = true ∧ zeroIn e 24 64 = true) ∧
  ∀ (s : State) (q tag : Nat) (c : Cmd),
    let d := s.dev.begun c
    let n := leAt c.entry 8 1
    let pos := sx 64 (leAt c.entry 16 8)
    domUp d dESC = true →
    (s.dev.awaits q tag 0x20 c →
      (∀ cause, exec (.ttblLoad q tag (.failed cause)) s = .next (s.after (complete c.begun 0x0A cause [] d))) ∧
      (∀ b st off o det, imageBad d (fitBytes (leAt c.block 8 4) b) (leAt c.block 8 4) = some (st, off, o, det) →
        exec (.ttblLoad q tag (.ok b)) s = .next (s.after (complete c.begun st det []
          (if o = 4 then d else sf .TTBL_LOAD_ERR 0 TTBL_LOAD_ERR.ORDER o (sf .TTBL_LOAD_ERR 0 TTBL_LOAD_ERR.STATUS st
            (sf .TTBL_LOAD_ERR 0 TTBL_LOAD_ERR.OFFSET off d)))))) ∧
      (∀ b n, imageBad d (fitBytes (leAt c.block 8 4) b) (leAt c.block 8 4) = none → pickFree d (freeImages d) = some n →
        n < 4 ∧ d.esc.images.getD n none = none ∧
        exec (.ttblLoad q tag (.ok b)) s = .next (s.after (completeOk c.begun (leBytes 1 n)
          (sf .TTBL_IMAGE n TTBL_IMAGE.LOADED 1 (wn .TTBL_IMAGE_LEN n (leAt c.block 8 4)
            (esc (fun e => { e with images := setAt e.images n (some (fitBytes (leAt c.block 8 4) b)) }) (useFresh d)))))))) ∧
    (s.dev.awaits q tag 0x21 c →
      (d.esc.images.getD n none = none ∨ d.esc.actPend.isSome = true →
        exec (.ttblActivate q tag) s = .next (s.after (complete c.begun 0x08 dESC [] d))) ∧
      (∀ i, d.esc.images.getD n none = some i → d.strm.captures ≠ [] → (∀ a, activeImage d = some a → routing a ≠ routing i) →
        exec (.ttblActivate q tag) s = .next (s.after (complete c.begun 0x08 dESC [] d))) ∧
      (∀ i, d.esc.images.getD n none = some i → d.esc.actPend = none →
        (d.strm.captures = [] ∨ ∃ a, activeImage d = some a ∧ routing a = routing i) →
        let pending := fun late => sf .TTBL_IMAGE n TTBL_IMAGE.PENDING 1 (esc (fun e => { e with actPend := some ⟨n, pos, late, c.sq, c.tag⟩ }) d)
        let late := occur Src.TTBL_LATE n 0 0 (sf .TTBL_STATUS 0 TTBL_STATUS.ACT_LATE 1 (pending true))
        (trackPos d ≤ pos → exec (.ttblActivate q tag) s = .next (s.after (pending false))) ∧
        (pos < trackPos d → activeNone late = false → exec (.ttblActivate q tag) s = .next (s.after late)) ∧
        (pos < trackPos d → activeNone late = true →
          exec (.ttblActivate q tag) s = .next (s.after (activateNow ⟨n, pos, true, c.sq, c.tag⟩ late)))))

/-- R91. An entry of TTBL_UNLOAD whose number is 4 or more or whose other bytes are not 0 fails its checks with PARAM. Of an image that is
not loaded, that is active, or whose activation is pending, it completes with STATE, DETAIL 5. Otherwise the image leaves the region, its
LOADED is 0, and the command completes. -/
def Obligations.ImageUnload : Prop :=
  (∀ e : Bytes, (firstBad (inlineChecks 0x22 e) = none ↔ leAt e 8 1 < 4 ∧ zeroIn e 9 64 = true) ∧
    (∀ st det, firstBad (inlineChecks 0x22 e) = some (st, det) → st = 2)) ∧
  ∀ (s : State) (q tag : Nat) (c : Cmd), s.dev.awaits q tag 0x22 c →
    let d := s.dev.begun c
    let n := leAt c.entry 8 1
    domUp d dESC = true →
    (d.esc.images.getD n none = none ∨ (activeNone d = false ∧ activeNum d = n) ∨ (∃ p, d.esc.actPend = some p ∧ p.image = n) →
      exec (.ttblUnload q tag) s = .next (s.after (complete c.begun 0x08 dESC [] d))) ∧
    ((d.esc.images.getD n none).isSome = true → (∀ p, d.esc.actPend = some p → p.image ≠ n) → (activeNone d = true ∨ activeNum d ≠ n) →
      exec (.ttblUnload q tag) s = .next (s.after (completeOk c.begun [] (sf .TTBL_IMAGE n TTBL_IMAGE.LOADED 0
        (wn .TTBL_IMAGE_LEN n 0 (esc (fun e => { e with images := setAt e.images n none }) d))))))

/-- REF_ALLOC takes a free region number and place of its size, rounded up to 2 MiB, and answers them, or completes with BOUND where there
is none. REF_FREE gives a region up with its references, and completes with STATE where a bound page lies in it. REF_LOAD of one source
whose bytes pass the checks, or in place, registers the reference in the region, in the place of one of the same PAGE_ID or of the same
bytes; an unallocated region, a reach past its end, bytes of a bound page, a failed read, a failing header and a wrong CHECK complete with
their status. -/
def Obligations.ReferenceCommands : Prop :=
  ∀ (s : State) (q tag : Nat) (c : Cmd),
    let d := s.dev.begun c
    domUp d dCOMPARE = true →
    (s.dev.awaits q tag 0x23 c →
      let n := (leAt c.entry 8 8 + 2097151) / 2097152 * 2097152
      (pickFree d (freeRegions d) = none ∨ hFree d < n ∨ findPlace d n = none →
        exec (.refAlloc q tag) s = .next (s.after (complete c.begun 0x03 8 [] d))) ∧
      (∀ r a, pickFree d (freeRegions d) = some r → n ≤ hFree d → findPlace d n = some a →
        r < 16 ∧ regionSize d r = 0 ∧ placeFree d n a = true ∧
        exec (.refAlloc q tag) s = .next (s.after (completeOk c.begun (leBytes 1 r ++ zeros 7 ++ leBytes 8 a)
          (showSpace (wn .CMPR_REGION_BASE r a (wn .CMPR_REGION_SIZE r n (useFresh (useFresh d))))))))) ∧
    (s.dev.awaits q tag 0x25 c →
      let r := leAt c.entry 8 1 % 16
      (boundIn d r = [] → exec (.refFree q tag) s = .next (s.after (completeOk c.begun []
        (showSpace (wn .CMPR_REGION_BASE r 0 (wn .CMPR_REGION_SIZE r 0
          (cmpr (fun x => { x with refs := x.refs.filter (fun p => p.region ≠ r) }) d))))))) ∧
      (boundIn d r ≠ [] → exec (.refFree q tag) s = .next (s.after (complete c.begun 0x08 dCOMPARE [] d)))) ∧
    (s.dev.awaits q tag 0x24 c →
      let r := leAt c.block 0 1 % 16
      let off := leAt c.block 8 8
      let inPlace := bitOf (leAt c.block 1 1) 0
      let base := regionBase d r + off
      let n := if inPlace then leNat (Mem.readBytes d.hbm (base + 32) 8) else leAt c.block 24 4
      let met := d.cmpr.refs.filter (fun p => p.region == r && rangesMeet off n p.offset p.length)
      let d1 := cmpr (fun x => { x with refs := x.refs.filter (fun p => !(met.contains p)) }) d
      c.block.length = (if inPlace then 16 else 32) →
      (regionSize d r = 0 → ∀ f, exec (.refLoad q tag f) s = .next (s.after (complete c.begun 0x08 dCOMPARE [] d))) ∧
      (regionSize d r ≠ 0 →
        (regionSize d r < off + n → ∀ f, exec (.refLoad q tag f) s = .next (s.after (complete c.begun 0x03 0x48 [] d))) ∧
        (off + n ≤ regionSize d r →
          ((∃ p ∈ boundIn d r, rangesMeet off n p.offset p.length = true) →
            ∀ f, exec (.refLoad q tag f) s = .next (s.after (complete c.begun 0x08 dCOMPARE [] d))) ∧
          ((∀ p ∈ boundIn d r, rangesMeet off n p.offset p.length = false) →
            (∀ cause, inPlace = false →
              exec (.refLoad q tag (.failed cause)) s = .next (s.after (complete c.begun 0x0A cause [] d1))) ∧
            (∀ bytes,
              let d2 := if inPlace then d1 else { d1 with hbm := (Mem.clear d1.hbm base n).writeBytes base (fitBytes n bytes) }
              let page := Mem.readBytes d2.hbm base n
              let bad := refHeaderCheck page (if inPlace then none else some n)
              (∀ st, bad = some st → exec (.refLoad q tag (.ok bytes)) s =
                .next (s.after (complete c.begun st (if inPlace then 0x48 else 0x50) [] d2))) ∧
              (bad = none → leAt page 28 4 ≠ refCheck page → exec (.refLoad q tag (.ok bytes)) s =
                .next (s.after (complete c.begun 0x0C 0 [] d2))) ∧
              (bad = none → leAt page 28 4 = refCheck page → exec (.refLoad q tag (.ok bytes)) s = .next (s.after (completeOk c.begun
                (leBytes 8 n ++ leBytes 4 (refCheck page) ++ leBytes 4 (refOf r off page).id)
                (cmpr (fun x => { x with refs := x.refs.filter (fun p => !(p.region == r && p.id == (refOf r off page).id)) ++
                  [refOf r off page] }) d2)))))))))

/-- CAPTURE_START that passes its checks: the next reservation number is taken, the RESERVE record staged with lines × F of the floor
rung, the contexts become BOUND and the capture waits for its first line. RESULT holds the bytes and the number. It waits to start where
staging has no room, and each check of R49 and R58 that fails gives its status. CONTEXT_OPEN of a CLOSED context none of whose parcels
lies on a drive that is here: it is OPEN with its kind, parcel size and flush time, its counts and durable number 0 (mirrored where the
mirror is enabled) and no parcel of an earlier opening left. With such a parcel on a drive not ready it completes with STATE, and of a
context that is not CLOSED with CONTEXT. CAPTURE_STOP of a capture that has not ended replaces an earlier one: MODE 1 ends it at the end
of its page, MODE 2 or a line already handed over at the next hand-over, else at the line named; captures that have ended then end.
Without a capture it completes with CONTEXT. -/
def Obligations.CapturesAndContexts : Prop :=
  (∀ (s : State) (q tag : Nat) (c : Cmd) (i : Bytes) (rest : Bool), s.dev.awaits q tag 0x40 c →
     let d := s.dev.begun c
     let t := record i 6 512 (leAt c.entry 8 2)
     let fs := (List.range 4).map (fun r => leAt (record i 7 16 (leAt c.entry 8 2)) (4 * r) 4)
     let f := fs.getD (leAt c.entry 10 1) 0
     let l := leAt c.entry 16 4
     let w := imgLineRate i * f
     let num := (d.post.lastReserve + 1) % 2 ^ 32
     let body := leBytes 4 num ++ leBytes 2 c.ctx ++ leBytes 1 (b2n rest) ++ [0#8] ++ leBytes 8 (l * f) ++ leBytes 4 f
     let ends := fun st det => exec (.captureStart q tag) s = .next (s.after (complete c.begun st det [] d))
     domUp d dFABRIC = true →
     (activeImage d = none → ends 0x08 dESC) ∧
     (activeImage d = some i →
     ((section_ i 6).2 ≤ leAt c.entry 8 2 → ends 0x03 8) ∧
     (leAt c.entry 8 2 < (section_ i 6).2 → leAt t 4 4 < l → ends 0x03 16) ∧
     (leAt c.entry 8 2 < (section_ i 6).2 → l ≤ leAt t 4 4 → 2048 < c.ctx + setEntries t → ends 0x03 4) ∧
     (leAt c.entry 8 2 < (section_ i 6).2 → l ≤ leAt t 4 4 → c.ctx + setEntries t ≤ 2048 →
     ((∃ e, e < setEntries t ∧ (ctxState d (c.ctx + e) ≠ 1 ∨ ctxKind d (c.ctx + e) ≠ eKind t e)) → ends 0x07 0) ∧
     ((∀ e, e < setEntries t → ctxState d (c.ctx + e) = 1 ∧ ctxKind d (c.ctx + e) = eKind t e) →
     (16 ≤ d.strm.captures.length → ends 0x03 0) ∧
     (d.strm.captures.length < 16 →
     (∀ k, admission d (l * f) w = .error k → ends 0x05 k) ∧
     (admission d (l * f) w = .ok rest → canStage 0x05 body d = false →
       exec (.captureStart q tag) s = .next (s.after (unstart c.begun d))) ∧
     (admission d (l * f) w = .ok rest → canStage 0x05 body d = true →
     let d1 := stage 0x05 body d
     let d2 := { d1 with post := { d1.post with
       lastReserve := num
       reserve := d1.post.reserve ++ [⟨num, c.ctx, rest, l * f, f, w, 0, l, false⟩] } }
     let d3 := (List.range (setEntries t)).foldl (fun d e => sf .PROD_CTX_STATUS (c.ctx + e) PROD_CTX_STATUS.STATE 2 d) d2
     let cap : Capture := ⟨c.ctx, num, t, fs, leAt c.entry 10 1, l, bitOf (leAt c.entry 11 1) 0, sx 64 (leAt c.entry 24 8), d.pages.num,
       0, 0, 0, 0, [], [], List.replicate (setEntries t) [], List.replicate (setEntries t) [], 0, 0, 0, 0, []⟩
     exec (.captureStart q tag) s = .next (s.after (completeOk c.begun (leBytes 8 (l * f) ++ leBytes 4 num)
       (showSpace (showCaptures (strm (fun x => { x with captures := x.captures ++ [cap] }) d3))))))))))) ∧
  (∀ (s : State) (q tag : Nat) (c : Cmd),
     let d := s.dev.begun c
     domUp d dFABRIC = true →
     (s.dev.awaits q tag 0x43 c →
       (ctxState d c.ctx ≠ 0 → exec (.contextOpen q tag) s = .next (s.after (complete c.begun 0x07 0 [] d))) ∧
       (ctxState d c.ctx = 0 →
         ((∃ p ∈ d.strm.parcels, p.ctx = c.ctx ∧ p.unit ≠ 0 ∧ ∃ k ∈ bitsOf p.held 4, (drive d k).seen ≠ 2) →
           exec (.contextOpen q tag) s = .next (s.after (complete c.begun 0x08 dRP [] d))) ∧
         ((∀ p ∈ d.strm.parcels, p.ctx = c.ctx → p.unit ≠ 0 → ∀ k ∈ bitsOf p.held 4, (drive d k).seen = 2) →
           let d1 := strm (fun s => { s with
             ctxs := s.ctxs ++ [emptyCtx c.ctx (leAt c.entry 16 4)], parcels := s.parcels.filter (fun p => p.ctx ≠ c.ctx) }) d
           let d2 := sf .PROD_CTX_STATUS c.ctx PROD_CTX_STATUS.KIND (leAt c.entry 8 1) (sf .PROD_CTX_STATUS c.ctx PROD_CTX_STATUS.STATE 1 d1)
           let d3 := wn .PROD_CTX_PARCEL c.ctx (leAt c.entry 12 4) (wn .PROD_CTX_PRODUCED c.ctx 0 (wn .PROD_CTX_LINE c.ctx 0 d2))
           let d4 := wn .LEDG_DURABLE c.ctx 0 { d3 with post := { d3.post with durNvs := mset c.ctx 0 d3.post.durNvs } }
           exec (.contextOpen q tag) s = .next (s.after (completeOk c.begun [] (if rb d4 .LEDG_MIRROR 0 LEDG_MIRROR.ENABLE then
             hostWrite (rf d4 .LEDG_MIRROR 0 LEDG_MIRROR.BASE * 4096 + 8 * c.ctx) (zeros 8) d4 else d4)))))) ∧
     (s.dev.awaits q tag 0x41 c →
       (findCap d c.ctx = none → exec (.captureStop q tag) s = .next (s.after (complete c.begun 0x07 0 [] d))) ∧
       (∀ cap, findCap d c.ctx = some cap →
         let mode := leAt c.entry 8 1
         let line := leAt c.entry 16 7
         let next := rf d .ESC_LINE 0 ESC_LINE.NUM
         let ended := cap.stop = 3 ∨ cap.stop = 0 ∧ cap.first ≠ 0 ∧ cap.last ≠ 0 ∧ cap.last ≤ next
         let d1 := onCap c.ctx (fun x => { x with stop := 0, last := if x.first = 0 then 0 else x.first + x.maxLines - 1 }) d
         let does := fun e => exec (.captureStop q tag) s = .next (s.after (endCaptures e))
         (ended → does d) ∧
         (¬ ended → mode = 1 → does (onCap c.ctx (fun x => { x with stop := 1 }) d1)) ∧
         (¬ ended → mode ≠ 1 → mode = 2 ∨ line + 1 < next → does (onCap c.ctx (fun x => { x with stop := 2 }) d1)) ∧
         (¬ ended → mode ≠ 1 → mode ≠ 2 → next ≤ line + 1 →
           (cap.first = 0 → does (onCap c.ctx (fun x => { x with last := line + 1 }) d1)) ∧
           (cap.first ≠ 0 → does (stopAt c.ctx line d1))))))

/-! ### Commands of the host: calibration, motion, auxiliary front end, drives, firmware -/

/-- CAL_RUN and CAL_TILE_RUN over LIVE segments of the map join the calibration commands that wait for their turn, where ABORT still finds
them not started; over any other segments, and for CAL_TILE_RUN also where the host does not own SHADING, a commit of it is pending or a
table is missing, they complete with STATE. The first that waits starts at the next hand-over, `calStart`, where no run is in progress and
STAGE_HOLD is 0: its run takes the command's parameters. BASELINE_WRITE checks its record in the order of R239; one that passes is given
to NVS, and its end, `baselineWritten`, makes the record current and completes the command. -/
def Obligations.CalibrationCommands : Prop :=
  ∀ (s : State) (q tag : Nat) (c : Cmd),
    let d := s.dev.begun c
    let queued := updCmd { c with started := false, data := [1] } d
    let table := fun t => ((activeImage d).bind (fun i => segTable i t)).isSome
    let tileBad := calSegsOk d (leAt c.entry 8 6) = false ∨ hostOwns d 4 = false ∨
      bitOf (rf d .TTBL_GEN_STATUS 0 TTBL_GEN_STATUS.PENDING) 4 = true ∨
      table (rf d .CAL_TILE_CFG 0 CAL_TILE_CFG.TABLE_IN) = false ∨ table (rf d .CAL_TILE_OUT 0 CAL_TILE_OUT.TABLE_OUT) = false
    domUp d dREGUL = true →
    (s.dev.awaits q tag 0x60 c → c.data = [] →
      (calSegsOk d (leAt c.entry 8 6) = true → exec (.calRun q tag) s = .next (s.after queued)) ∧
      (calSegsOk d (leAt c.entry 8 6) = false → exec (.calRun q tag) s = .next (s.after (complete c.begun 0x08 dREGUL [] d)))) ∧
    (s.dev.awaits q tag 0x61 c → c.data = [] →
      (¬ tileBad → exec (.calTileRun q tag) s = .next (s.after queued)) ∧
      (tileBad → exec (.calTileRun q tag) s = .next (s.after (complete c.begun 0x08 dREGUL [] d)))) ∧
    (∀ (n : Nat) (e : Dev) (w : Cmd), domUp e dREGUL = true → calBusy e = false → rb e .CAL_CTRL 0 CAL_CTRL.STAGE_HOLD = false →
      calWaiting e = some w → w.op = 0x60 → leAt w.entry 16 1 < 4 →
      ∃ r, (calStart n e).cal.run = some r ∧ r.kind = leAt w.entry 16 1 ∧ r.origin = 0 ∧ r.cmd = w.order + 1 ∧
        r.marksOnly = bitOf (leAt w.entry 17 1) 0 ∧ r.lines = leAt w.entry 20 4 ∧ r.timeout = leAt w.entry 24 4 ∧
        r.mask = leAt w.entry 8 6 ∧ r.segs.map (·.seg) = bitsOf (leAt w.entry 8 6) 48 ∧ r.num = (rn e .CAL_RUN_NUM 0 + 1) % 2 ^ 32) ∧
    (s.dev.awaits q tag 0x62 c →
      (∀ st off, baseHeaderBad c.block c.block.length = some (st, off) →
        exec (.baselineWrite q tag) s = .next (s.after (complete c.begun st (min 0xFF (0x40 + off)) [] d))) ∧
      (baseHeaderBad c.block c.block.length = none →
        (baseCheckOk c.block = false → exec (.baselineWrite q tag) s = .next (s.after (complete c.begun 0x0C 0 [] d))) ∧
        (baseCheckOk c.block = true →
          (certOk d c.block = false →
            exec (.baselineWrite q tag) s = .next (s.after (complete c.begun 0x0B 0 [] (incSat .SEC_SIG_FAILS 0 d)))) ∧
          (certOk d c.block = true →
            (baseFree d = none ∨ 201326592 < baseUsed d + c.block.length →
              exec (.baselineWrite q tag) s = .next (s.after (complete c.begun 0x03 0 [] d))) ∧
            (∀ n, baseFree d = some n → baseUsed d + c.block.length ≤ 201326592 →
              let e := updCmd { c with started := true, data := [1] } d
              exec (.baselineWrite q tag) s = .next (s.after e) ∧
              (s.dev.post.cmds = [c] → baselineWritten true e =
                completeOk { c with started := true, data := [1] } [] (baseStore n c.block (useFresh e))))))))

/-- MOVE of a gear joins the axis' queue with its parameters; MOVE of a table, of the command or of the active image, joins it as the
table's move where it breaks no limit and its blend is no longer than it. A full queue of 8, a limit broken and a blend too long complete
with BOUND; an axis that is DISABLED, ENABLING, DISABLING or in FAULT, and a table the active image lacks, complete with STATE. A move
that is not blended goes to the end of its axis' queue. One that is to be blended with none before it does so too, and BLEND_SKIPPED
counts it and sets its flag. -/
def Obligations.Moves : Prop :=
  (∀ (s : State) (q tag : Nat) (c : Cmd), s.dev.awaits q tag 0x70 c →
     let d := s.dev.begun c
     let p := mvParam c
     let a := p 8 1 % 8
     let kind := p 9 1 % 4
     let queued := (axis d a).queue.length
     let table := if kind = 1 then some (c.block.drop 64) else (activeImage d).bind (fun i => segTable i (p 10 2))
     let bound := fun det => exec (.move q tag) s = .next (s.after (complete c.begun 0x03 det [] d))
     domUp d dREMON = true →
     (axState d a = axDISABLED ∨ axState d a = axENABLING ∨ axState d a = axDISABLING ∨ axState d a = axFAULT →
       exec (.move q tag) s = .next (s.after (complete c.begun 0x08 dREMON [] d))) ∧
     (axRefuses d a = false →
       (kind = 2 → 8 ≤ queued → bound 0) ∧
       (kind = 2 → queued < 8 → exec (.move q tag) s = .next (s.after (enqueue a
         ⟨c.order + 1, true, [], 0, 0, 0, false, 0, p 16 1 % 8, p 20 4, p 24 4, p 28 4, p 32 8, bitOf (p 9 1) 3⟩ d))) ∧
       (kind ≠ 2 → table = none → exec (.move q tag) s = .next (s.after (complete c.begun 0x08 dREMON [] d))) ∧
       (∀ b, kind ≠ 2 → table = some b →
         let m := tableMove (c.order + 1) b (if bitOf (p 9 1) 2 then p 12 4 else 0)
         (8 ≤ queued → bound 0) ∧
         (queued < 8 → tableOver d a m = true → bound (if kind = 1 then 0x80 else 10)) ∧
         (queued < 8 → tableOver d a m = false → m.total < m.blend → bound (if kind = 1 then 0x44 else 12)) ∧
         (queued < 8 → tableOver d a m = false → m.blend ≤ m.total →
           exec (.move q tag) s = .next (s.after (enqueue a m d)))))) ∧
  (∀ (a : Nat) (m : Move) (d : Dev),
     let e := onAxis a (fun x => { x with queue := x.queue ++ [m] }) d
     (m.blend = 0 → enqueue a m d = showAxis a e) ∧
     (m.blend ≠ 0 → (axis d a).queue = [] →
       enqueue a m d = showAxis a (occur (Src.BLEND_SKIPPED a) a 0 0 (incSat .AX_BLEND_SKIPPED a e))))

/-- HOME in HOLDING: by position it sets the position in force and REF 3 and completes; any other method starts the search; a stall method
slower than the stall detector allows completes with PARAM, DETAIL 9. In any other state it completes with STATE. STOP of an axis that
moves lets it stop with its ramp (the search of a homing axis ends, and an axis whose last set-point is computed stops by itself); at rest
it completes, with FLUSH after its moves have ended. RESUME of a SUSPENDED axis with a reference, or with the flag that does without, runs
what is left or goes back to where it left; else it completes with STATE. -/
def Obligations.HomeStopResume : Prop :=
  ∀ (s : State) (q tag : Nat) (c : Cmd),
    let d := s.dev.begun c
    let a := leAt c.entry 8 1 % 8
    let m := leAt c.entry 9 1
    domUp d dREMON = true →
    (s.dev.awaits q tag 0x71 c →
      (axState d a ≠ axHOLDING → exec (.home q tag) s = .next (s.after (complete c.begun 0x08 dREMON [] d))) ∧
      (axState d a = axHOLDING →
        (m < 2 → axN d .AX_HOME_VEL a < axN d .AX_STALL_VMIN a →
          exec (.home q tag) s = .next (s.after (complete c.begun 0x02 9 [] d))) ∧
        (m = 4 →
          let delta := ax64 d .AX_HOME_POS a - ust (axis d a).pos
          exec (.home q tag) s = .next (s.after (completeOk c.begun (leBytes 8 3 ++ leBytes 8 (ux 64 delta))
            (showAxis a (setAxRef a 3 (axShift a delta d)))))) ∧
        (m < 4 → (m < 2 → axN d .AX_STALL_VMIN a ≤ axN d .AX_HOME_VEL a) →
          let neg := decide (m % 2 = 0)
          let latched := if neg then rb d .AX_STATUS a AX_STATUS.LATCH_NEG else rb d .AX_STATUS a AX_STATUS.LATCH_POS
          exec (.home q tag) s = .next (s.after (showAxis a (setAxState a axHOMING (onAxis a (fun x => { x with
            home := some ⟨c.order + 1, m, 0, stOK, 0, 0⟩, prog := .home neg 0, amps := ampsIn d a, steps := 0, low := 0, held := false
            stallAt := none
            limAt := if latched then some (rs64 d (if neg then .AX_LIM_TRIP_NEG else .AX_LIM_TRIP_POS) a * 65536) else none }) d))))))) ∧
    (s.dev.awaits q tag 0x72 c →
      let flush := bitOf (leAt c.entry 10 1) 0
      let d1 := onAxis a (fun x => { x with stops := x.stops ++ [c.order + 1], flush := x.flush || flush }) d
      let homing := match (axis d1 a).home with
        | some h => onAxis a (fun x => { x with home := some (homeStop h) }) d1
        | none => d1
      (axMoves d1 a = false → flush = false → exec (.stop q tag) s = .next (s.after
        (showAxis a (axStopsDone a 0 (onAxis a (fun x => { x with flush := false }) d1))))) ∧
      (axMoves d1 a = false → flush = true → exec (.stop q tag) s = .next (s.after
        (showAxis a (axStopsDone a 0 (onAxis a (fun x => { x with flush := false })
          (if axState d1 a = axSUSPENDED then setAxState a axHOLDING (axEndAll a d1) else axEndAll a d1)))))) ∧
      (axMoves d1 a = true → (axis d1 a).prog ≠ .hold → exec (.stop q tag) s = .next (s.after (showAxis a (axStop a m homing)))) ∧
      (axMoves d1 a = true → (axis d1 a).prog = .hold → exec (.stop q tag) s = .next (s.after (showAxis a
        (if (axis d1 a).queue.length ≤ (axis d1 a).ahead then homing else axStop a m homing))))) ∧
    (s.dev.awaits q tag 0x73 c →
      let d1 := onAxis a (fun x => { x with
        resume := c.order + 1, ahead := 0, vmax := axVmax d a, soft := axSoft d a, bad := false }) d
      (axState d a ≠ axSUSPENDED ∨ (axRef d a = 0 ∧ bitOf (leAt c.entry 9 1) 0 = false) →
        exec (.resume q tag) s = .next (s.after (complete c.begun 0x08 dREMON [] d))) ∧
      (axState d a = axSUSPENDED → axRef d a ≠ 0 ∨ bitOf (leAt c.entry 9 1) 0 = true →
        ((axis d a).pace = none → exec (.resume q tag) s = .next (s.after (showAxis a (axPaceStart a (setAxState a axMOVING
          (runProfile a 1 (axis d a).remain (axN d1 .AX_ACCEL a) (axN d1 .AX_VRESUME a) d1)))))) ∧
        (∀ p, (axis d a).pace = some p → exec (.resume q tag) s = .next (s.after (showAxis a (paceBack a p d1))))))

/-- AUX_CONFIG applies every record of its block, and completes; where a record has a reserved field, names a die whose analogue domain is
down, does not hold in the configuration it gives, or names what another record names, none is applied and it completes with PARAM or
STATE. AUX_CONVERT of inputs that are enabled waits for its results and starts every idle chain it concerns; else it completes with STATE.
RATIO_SET writes its registers and clears FAULT, or completes with STATE where the output's analogue domain is down. -/
def Obligations.AuxCommands : Prop :=
  ∀ (s : State) (q tag : Nat) (c : Cmd),
    let d := s.dev.begun c
    let recs := (List.range (c.block.length / 32)).map (fun k => (k, (c.block.drop (32 * k)).take 32))
    let new := recs.foldl (fun d x => auxApply x.2 d) d
    let twice := fun (x : Nat × Bytes) => recs.any (fun y => y.1 != x.1 && leAt y.2 0 2 == leAt x.2 0 2)
    let o := leAt c.entry 8 1 % 8
    let kind := leAt c.entry 9 1
    let flags := leAt c.entry 11 1 % 8
    (s.dev.awaits q tag 0x80 c →
      (∀ x, recs.find? (fun x => (auxRecField x.2).isSome) = some x → exec (.auxConfig q tag) s =
        .next (s.after (complete c.begun 0x02 (min 255 (0x40 + (32 * x.1 + (auxRecField x.2).getD 0))) [] d))) ∧
      (recs.find? (fun x => (auxRecField x.2).isSome) = none →
        (∀ x, recs.find? (fun x => !domUp d (dANA (auxRecDie x.2))) = some x → exec (.auxConfig q tag) s =
          .next (s.after (complete c.begun 0x08 (dANA (auxRecDie x.2)) [] d))) ∧
        (recs.find? (fun x => !domUp d (dANA (auxRecDie x.2))) = none →
          (∀ x, recs.find? (fun x => !auxRecOk new x.2 || twice x) = some x → exec (.auxConfig q tag) s =
            .next (s.after (complete c.begun 0x02 (min 255 (0x40 + 32 * x.1)) [] d))) ∧
          (recs.find? (fun x => !auxRecOk new x.2 || twice x) = none →
            let n := showOwners ((List.range 32).foldl (fun e i => inputChanged d i e) new)
            exec (.auxConfig q tag) s = .next (s.after (completeOk c.begun []
              ((List.range 4).foldl (fun e k => if domUp d (dANA (k / 2)) then auxChanged d k e else e) n))))))) ∧
    (s.dev.awaits q tag 0x81 c →
      ((∀ i ∈ bitsOf (leAt c.entry 8 4) 32, domUp d (dANA (i / 16)) = true ∧ iEnable (inRec d i) = true) →
        exec (.auxConvert q tag) s = .next (s.after (kickChains (updCmd { c with started := true, data := [0] } d)))) ∧
      (∀ i, (bitsOf (leAt c.entry 8 4) 32).find? (fun i => !domUp d (dANA (i / 16)) || !iEnable (inRec d i)) = some i →
        exec (.auxConvert q tag) s = .next (s.after (complete c.begun 0x08 (dANA (i / 16)) [] d)))) ∧
    (s.dev.awaits q tag 0x82 c →
      (domUp d (dANA (o / 4)) = true →
        let d1 := sf .AUX_RATIO_CFG o AUX_RATIO_CFG.FLAGS flags (sf .AUX_RATIO_CFG o AUX_RATIO_CFG.NUM (leAt c.entry 10 1)
          (sf .AUX_RATIO_CFG o AUX_RATIO_CFG.KIND kind d))
        let d2 := wn .AUX_RATIO_TIMEOUT o (leAt c.entry 24 4) (wn .AUX_RATIO_OFFSET o (leAt c.entry 16 4)
          (wn .AUX_RATIO_SCALE o (leAt c.entry 12 4) d1))
        let d3 := sf .AUX_RATIO_STATE o AUX_RATIO_STATE.FAULT 0 (sf .AUX_RATIO_STATE o AUX_RATIO_STATE.CLAMPED
          (if flags % 2 = 0 then 1 else 0) (wn .AUX_RATIO_FAULT o (leAt c.entry 20 2) d2))
        exec (.ratioSet q tag) s = .next (s.after (completeOk c.begun []
          (if kind = 0 then sf .AUX_RATIO_STATE o AUX_RATIO_STATE.CODE (ratioCode d3 o 0) d3 else d3)))) ∧
      (domUp d (dANA (o / 4)) = false →
        exec (.ratioSet q tag) s = .next (s.after (complete c.begun 0x08 (dANA (o / 4)) [] d))))

/-- DRIVE_SCAN pulses every port that failed or is suspended, adopts the foreign drives it names, and waits for its ports. RESTANTE_READ
of a parcel that is held copies it into its buffer as it is stored, or as it was read where its copy fails CHECK, and completes with
INTEGRITY where it cannot be read; of one that is not held it completes with STATE, and of one too long with BOUND. RESTANTE_RELEASE drops
the held parcels of its range and answers the bytes freed; where one is still to be returned it completes with STATE. MIRROR_SET of an
empty restante whose pairs are whole writes the pairing into the index of every MEMBER drive; else it completes with STATE. FW_STAGE of a
firmware image that passes its checks marks the target slot STAGING and writes it; each check that fails gives its status. A fuse request
in Crown mode raises the REACH fuses it names and answers how many; outside Crown mode it completes with STATE. FW_ACTIVATE of a VALID
slot writes the option record that names it. Both complete with STATE where Franking does not run, another of them is in flight or an
option record is being written. CERT_READ copies the item to its buffer, and completes with BOUND where the buffer is shorter and with
STATE where there is no such item. -/
def Obligations.DrivesAndFirmware : Prop :=
  (∀ (s : State) (q tag : Nat) (c : Cmd),
     let d := s.dev.begun c
     domUp d dRP = true →
     (s.dev.awaits q tag 0x90 c →
       exec (.driveScan q tag) s = .next (s.after (updCmd { c with started := true, data := [1] } ((List.range 4).foldl (fun d p =>
         if rpState d p = 3 || rpState d p = 6 then
           que (fun q => { q with perst := putBit q.perst p false, pulse := putBit q.pulse p true }) (setPort p RP_PORT_STATUS.STATE 1 d)
         else if bitOf (leAt c.entry 8 1 % 16) p && rpState d p = 4 then adopt p d
         else d) d)))) ∧
     (s.dev.awaits q tag 0x91 c → leAt c.block 8 4 = 1 → c.block.length = 32 →
       (d.strm.parcels.find? (fun p => p.ctx == c.ctx && p.num == leAt c.block 0 7 && heldBy d p) = none →
         ∀ k l, exec (.restanteRead q tag (k, l)) s = .next (s.after (complete c.begun 0x08 dRP [] d))) ∧
       (∀ p, d.strm.parcels.find? (fun p => p.ctx == c.ctx && p.num == leAt c.block 0 7 && heldBy d p) = some p →
         (leAt c.block 24 4 < p.size → ∀ k l, exec (.restanteRead q tag (k, l)) s = .next (s.after (complete c.begun 0x03 0 [] d))) ∧
         (p.size ≤ leAt c.block 24 4 →
           (∀ k, exec (.restanteRead q tag (k + 1, [])) s = .next (s.after (completeOk c.begun (leBytes 4 1 ++ zeros 4 ++ leBytes 8 p.size)
             (hostWrite (leAt c.block 16 8) (fitBytes p.size p.data) d)))) ∧
           (∀ k b, exec (.restanteRead q tag (k + 1, [(p.num, b)])) s = .next (s.after (completeOk c.begun
             (leBytes 4 1 ++ zeros 4 ++ leBytes 8 p.size) (hostWrite (leAt c.block 16 8) (fitBytes p.size b) d)))) ∧
           (∀ l, exec (.restanteRead q tag (0, l)) s =
             .next (s.after (complete c.begun 0x0C 0 (leBytes 4 0 ++ zeros 4 ++ leBytes 8 0) (scatter [(leAt c.block 16 8, leAt c.block 24 4)] [] d))))))) ∧
     (s.dev.awaits q tag 0x92 c →
       let inRange := fun (p : Parcel) => p.ctx == c.ctx && heldBy d p && decide (leAt c.entry 8 7 ≤ p.num) &&
         decide (p.num < leAt c.entry 8 7 + leAt c.entry 16 4)
       (ctxState d c.ctx ≠ 0 → (∃ p ∈ d.strm.parcels, inRange p = true ∧ p.host = false ∧ p.back = false) →
         exec (.restanteRelease q tag) s = .next (s.after (complete c.begun 0x08 dRP [] d))) ∧
       (ctxState d c.ctx = 0 ∨ (∀ p ∈ d.strm.parcels, inRange p = true → p.host = true ∨ p.back = true) →
         let out := fun (p : Parcel) => inRange p && !(decide (ctxState d c.ctx ≠ 0) && p.back && !p.host)
         let d1 := freeBlocks (strm (fun s => { s with parcels := (s.parcels.filter (fun p => !out p)).map (fun p =>
           if inRange p then { p with unit := 0, held := 0 } else p) }) d)
         exec (.restanteRelease q tag) s = .next (s.after (completeOk c.begun (leBytes 8 (heldBytes d - heldBytes d1))
           (showCtx c.ctx (showDrives d1)))))) ∧
     (s.dev.awaits q tag 0x93 c →
       let m := leAt c.entry 8 1 % 4
       let bad := (∃ p ∈ d.strm.parcels, heldBy d p = true) ∨ sRes d ≠ 0 ∨ (∃ j ∈ bitsOf m 2, pairWhole d (2 * j) = false)
       (¬ bad → exec (.mirrorSet q tag) s = .next (s.after (completeOk c.begun [] (showDrives (wn .RP_PAIRING 0 m
         ((List.range 4).foldl (fun d p => if rpState d p = rpMember then
           onDrive p (fun x => { x with head := some (indexHead m), stale := false }) d else d) d)))))) ∧
       (bad → exec (.mirrorSet q tag) s = .next (s.after (complete c.begun 0x08 dRP [] d))))) ∧
  (∀ (s : State) (q tag : Nat) (c : Cmd),
     let d := s.dev.begun c
     let busy := domUp d dFRANK = false ∨ fwInFlight d c.order = true ∨ committing d = true
     (s.dev.awaits q tag 0xA0 c →
       (busy ∨ (leAt c.block 6 1 = 2 ∧ crown d = false) →
         exec (.fwStage q tag) s = .next { s.after (complete c.begun 0x08 dFRANK [] d) with
           fuses := stageFuses q tag s.fuses s.dev }) ∧
       (¬ busy → leAt c.block 6 1 = 2 → crown d = true → ∀ off, fuseReqBad c.block = some off →
         exec (.fwStage q tag) s = .next { s.after (complete c.begun 0x02 (pOff off) [] d) with
           fuses := stageFuses q tag s.fuses s.dev }) ∧
       (¬ busy → leAt c.block 6 1 = 2 → crown d = true → fuseReqBad c.block = none → fwInFlight s.dev c.order = false →
         committing s.dev = false →
         exec (.fwStage q tag) s = .next { s.after (completeOk c.begun (leBytes 1 0xFF ++ zeros 7 ++
           leBytes 8 (raisedBy c.block s.fuses.reach)) d) with
           fuses := { s.fuses with reach := raiseReach c.block s.fuses.reach } }) ∧
       (¬ busy → leAt c.block 6 1 ≠ 2 →
         (∀ off, fwHeaderBad c.block = some off →
           exec (.fwStage q tag) s = .next (s.after (complete c.begun 0x02 (pOff off) [] d))) ∧
         (fwHeaderBad c.block = none →
           (fwSigOk c.block = false →
             exec (.fwStage q tag) s = .next (s.after (complete c.begun 0x0B 0 [] (incSat .SEC_SIG_FAILS 0 d)))) ∧
           (fwSigOk c.block = true → fwDigestOk c.block = false →
             exec (.fwStage q tag) s = .next (s.after (complete c.begun 0x0C 0 [] d))) ∧
           (fwSigOk c.block = true → fwDigestOk c.block = true → fwSvn c.block < s.fuses.svn →
             exec (.fwStage q tag) s = .next (s.after (complete c.begun 0x02 0x4A [] d))) ∧
           (fwSigOk c.block = true → fwDigestOk c.block = true → s.fuses.svn ≤ fwSvn c.block →
             exec (.fwStage q tag) s = .next (s.after (showSec (setSlot (stageSlot d) 6 []
               (updCmd { c with started := true, data := [1, stageSlot d] } d)))))))) ∧
     (s.dev.awaits q tag 0xA1 c →
       (busy ∨ slotState d (leAt c.entry 8 1 % 2) ≠ 1 →
         exec (.fwActivate q tag) s = .next (s.after (complete c.begun 0x08 dFRANK [] d))) ∧
       (¬ busy → slotState d (leAt c.entry 8 1 % 2) = 1 →
         exec (.fwActivate q tag) s = .next (s.after (showSec (sec (fun x => { x with
           optPend := some (c.order + 1, optionActivate d (leAt c.entry 8 1 % 2)) })
           (updCmd { c with started := true, data := [1] } d)))))) ∧
     (s.dev.awaits q tag 0xA2 c →
       (domUp d dFRANK = false ∨ certItem d (leAt c.entry 8 1) (leAt c.entry 16 8) = none →
         exec (.certRead q tag) s = .next (s.after (complete c.begun 0x08 dFRANK [] d))) ∧
       (∀ b, domUp d dFRANK = true → certItem d (leAt c.entry 8 1) (leAt c.entry 16 8) = some b →
         (b.length ≤ leAt c.entry 32 4 → exec (.certRead q tag) s =
           .next (s.after (completeOk c.begun (leBytes 4 b.length) (hostWrite (leAt c.entry 24 8) b d)))) ∧
         (leAt c.entry 32 4 < b.length → exec (.certRead q tag) s = .next (s.after (complete c.begun 0x03 32 [] d))))))

/-- DIAG_LOOPBACK writes its pattern, and RESULT holds its CRC-32C and the bytes that came back different; a read that fails completes
with DMA_ERR, and outside Crown mode a memory domain that does not run with STATE. DIAG_LOG_READ copies whole records of the chosen log,
the oldest first, as many as LENGTH holds, and answers their bytes; in Crown mode only the log in NVS. -/
def Obligations.DiagnosticCommands : Prop :=
  ∀ (s : State) (q tag : Nat) (c : Cmd),
    let d := s.dev.begun c
    (s.dev.awaits q tag 0xF0 c →
      let b := loopBytes (leAt c.entry 8 1) (leAt c.entry 24 4)
      (crown d = true ∨ (domUp d (dMEM 0) = true ∧ domUp d (dMEM 1) = true) →
        (∀ r, exec (.diagLoopback q tag (.ok r)) s = .next (s.after (completeOk c.begun
          (leBytes 4 (crc32c b) ++ leBytes 4 (mismatches b (fitBytes b.length r))) (hostWrite (leAt c.entry 16 8) b d)))) ∧
        (∀ cause, exec (.diagLoopback q tag (.failed cause)) s =
          .next (s.after (complete c.begun 0x0A cause [] (hostWrite (leAt c.entry 16 8) b d))))) ∧
      (∀ r, crown d = false → domUp d (dMEM 0) = false →
        exec (.diagLoopback q tag r) s = .next (s.after (complete c.begun 0x08 (dMEM 0) [] d))) ∧
      (∀ r, crown d = false → domUp d (dMEM 0) = true → domUp d (dMEM 1) = false →
        exec (.diagLoopback q tag r) s = .next (s.after (complete c.begun 0x08 (dMEM 1) [] d)))) ∧
    (s.dev.awaits q tag 0xF1 c →
      let log := leAt c.entry 8 1
      let copied := fun (l : List EvRec) => (l.reverse.take (leAt c.entry 24 4 / 64)).flatMap (fun r => evRecBytes r false false)
      let does := fun (b : Bytes) => exec (.diagLogRead q tag) s =
        .next (s.after (completeOk c.begun (leBytes 8 b.length) (hostWrite (leAt c.entry 16 8) b d)))
      (crown d = true → log ≠ 2 → exec (.diagLogRead q tag) s = .next (s.after (complete c.begun 0x08 dFABRIC [] d))) ∧
      (crown d = false → log = 0 → does (copied d.evt.history)) ∧
      (crown d = false → log = 1 → does (copied d.evt.eccLog)) ∧
      (log = 2 → does (copied d.evt.nvsLog)))

/-! ### Writes of control registers that have a row of their own -/

/-- RATIO_ARM clears LATE. Of a valid ratio: at the armed source count it takes effect; where the source has passed that count in its
direction it takes effect too, LATE reads 1 and RATIO_LATE sets its flag; else it is PENDING. An invalid ratio sets RATIO_INVALID and
leaves what is pending. RATIO_CANCEL drops what is pending. TTBL_HANDOVER_NOW gives one counted hand-over while no image is active, and
sets HANDOVER_NOW_DENIED otherwise. TTBL_GEN_COMMIT takes the classes of its mask in rising order, bit 0 passed over: one that the host
owns and whose bank is free is PENDING, one whose bank is busy has SHADOW_BANK_BUSY occur, one the host does not own, and class 11, has
GEN_OWNER occur. -/
def Obligations.RatioAndGenerations : Prop :=
  (∀ s : State, domUp s.dev dESC = true →
     let n := rf s.dev .ESC_RATIO_NEXT 0 ESC_RATIO_NEXT.N
     let m := rf s.dev .ESC_RATIO_NEXT 0 ESC_RATIO_NEXT.D
     let now := rs64 s.dev .ESC_MASTER 0
     let at_ := rs64 s.dev .ESC_RATIO_AT 0
     let passed := (0 < velocity s.dev ∧ at_ < now) ∨ (velocity s.dev < 0 ∧ now < at_)
     let d := sf .ESC_RATIO_STATUS 0 ESC_RATIO_STATUS.LATE 0 s.dev
     let applied := sf .ESC_RATIO_STATUS 0 ESC_RATIO_STATUS.PENDING 0 (esc (fun e => { e with ratioPend := none }) (applyRatio n m d))
     (n = 0 ∨ m = 0 ∨ 16777216 * m < n → exec .ratioArm s = .next (s.after (occur0 Src.RATIO_INVALID d))) ∧
     (0 < n → 0 < m → n ≤ 16777216 * m →
       (now = at_ → exec .ratioArm s = .next (s.after applied)) ∧
       (now ≠ at_ → passed → exec .ratioArm s =
         .next (s.after (occur0 Src.RATIO_LATE (sf .ESC_RATIO_STATUS 0 ESC_RATIO_STATUS.LATE 1 applied)))) ∧
       (now ≠ at_ → ¬ passed → exec .ratioArm s = .next (s.after (sf .ESC_RATIO_STATUS 0 ESC_RATIO_STATUS.PENDING 1
         (esc (fun e => { e with ratioPend := some (n, m, at_) }) d))))) ∧
     exec .ratioCancel s = .next (s.after (sf .ESC_RATIO_STATUS 0 ESC_RATIO_STATUS.PENDING 0
       (esc (fun e => { e with ratioPend := none }) s.dev)))) ∧
  (∀ s : State, domUp s.dev dESC = true →
     (activeNone s.dev = true →
       exec .ttblHandoverNow s = .next (s.after (countHandover (bringIn false (handoverBegins s.dev))))) ∧
     (activeNone s.dev = false → exec .ttblHandoverNow s = .next (s.after (occur0 Src.HANDOVER_NOW_DENIED s.dev))) ∧
     (∀ mask, mask < 4096 → exec (.ttblGenCommit mask) s =
       .next (s.after ((bitsOf mask 12).foldl (fun d c => commitClass c d) s.dev))) ∧
     (∀ (c : Nat) (d : Dev),
       commitClass 0 d = d ∧ (c ≠ 0 → (hostOwns d c = false ∨ c = 11) → commitClass c d = occur Src.GEN_OWNER c 0 0 d) ∧
       (c ≠ 0 → c ≠ 11 → hostOwns d c = true → bankIsBusy d c = true → commitClass c d = occur Src.SHADOW_BANK_BUSY c 0 0 d) ∧
       (c ≠ 0 → c ≠ 11 → hostOwns d c = true → bankIsBusy d c = false →
         let m := putBit (rf d .TTBL_GEN_STATUS 0 TTBL_GEN_STATUS.PENDING) c true
         commitClass c d = sf .TTBL_GEN_STATUS 0 TTBL_GEN_STATUS.PENDING m (sf .TTBL_GEN_COMMIT 0 TTBL_GEN_COMMIT.CLASS m d))))

/-- PORT_RESUME takes the segment of a port from READY to LIVE and powers it up in FAULT or OFF; in any other state it does nothing.
PORT_POWER_OFF powers a segment that is not ABSENT down to OFF with CAUSE 10. A port of no segment is left alone. A segment's power
sequence. At step 1 of POWERING SPWR_EN goes high and step 2 follows; at step 2 the lanes enter ACQUIRE at step 3, or, without lanes, the
sequence is complete; lanes not all LOCKED in time at step 3, or in RELOCK, fault the segment: powered down with cause 4 and HEAD_FAULT of
its bus. In every other case the three do nothing. SEG_CLOCKS_OFF turns off, of the generators noted at the segment's power-down, those
that serve no powered port. -/
def Obligations.Segments : Prop :=
  (∀ (s : State) (p : Nat), p < 48 → domUp s.dev (dDIG (p / 12)) = true →
     (segOfPort s.dev p = none →
       exec (.portResume p) s = .next (s.after s.dev) ∧ exec (.portPowerOff p) s = .next (s.after s.dev)) ∧
     (∀ n r, segOfPort s.dev p = some (n, r) →
       ((seg s.dev n).st = .ready → exec (.portResume p) s = .next (s.after (enterLive n s.dev))) ∧
       ((seg s.dev n).st = .fault ∨ (seg s.dev n).st = .off → exec (.portResume p) s = .next (s.after (segPowerUp n s.dev))) ∧
       ((seg s.dev n).st = .absent ∨ (seg s.dev n).st = .powering ∨ (seg s.dev n).st = .live →
         exec (.portResume p) s = .next (s.after s.dev)) ∧
       ((seg s.dev n).st ≠ .absent → exec (.portPowerOff p) s = .next (s.after (segPowerDown n .off 10 s.dev))) ∧
       ((seg s.dev n).st = .absent → exec (.portPowerOff p) s = .next (s.after s.dev)))) ∧
  (∀ (s : State) (k : Nat), k < 48 →
     let x := seg s.dev k
     (x.st = .powering → x.step = 1 →
       exec (.segPowerEnable k) s = .next (s.after (setSeg k (fun x => { x with step := 2, powered := true }) s.dev))) ∧
     (¬ (x.st = .powering ∧ x.step = 1) → exec (.segPowerEnable k) s = .next (s.after s.dev)) ∧
     (∀ r, segRec s.dev k = some r →
       (x.st = .powering → x.step = 2 →
         let d := setSeg k (fun x => { x with step := 3 }) s.dev
         (rSrc r 2 = true → exec (.segLanesAcquire k) s = .next (s.after ((rPorts r).foldl (fun d p => setLane p 1 d) d))) ∧
         (rSrc r 2 = false → exec (.segLanesAcquire k) s = .next (s.after (segSequenceDone k r d)))) ∧
       (¬ (x.st = .powering ∧ x.step = 2) → exec (.segLanesAcquire k) s = .next (s.after s.dev)) ∧
       (let fault := occur (Src.HEAD_FAULT (rBus r)) (rBus r) k 0 (segPowerDown k .fault 4 s.dev)
        (x.st = .powering → x.step = 3 → lanesLocked s.dev r = false → exec (.segLockTimeout k) s = .next (s.after fault)) ∧
        (¬ (x.st = .powering ∧ x.step = 3 ∧ lanesLocked s.dev r = false) → exec (.segLockTimeout k) s = .next (s.after s.dev)) ∧
        (x.st = .relock → lanesLocked s.dev r = false → exec (.segRelockTimeout k) s = .next (s.after fault)) ∧
        (¬ (x.st = .relock ∧ lanesLocked s.dev r = false) → exec (.segRelockTimeout k) s = .next (s.after s.dev)))) ∧
     exec (.segClocksOff k) s = .next (s.after ((bitsOf x.offGens 16).foldl (fun d g => if genNeeded d g then d else genOff g d)
       (setSeg k (fun x => { x with offGens := 0 }) s.dev))))

/-- PAGE_CTRL_OPEN asks for an open at the track position, PAGE_CTRL_CLOSE for a close of the page that is open; with none open the close
counts as idle. SYNC_CTRL_ARM and SYNC_CTRL_DISARM of the master send their frame and arm or disarm; of another node they do nothing.
CAL_RESTORE needs STAGE_HOLD 1, else CAL_WIN_BUSY occurs; a drift image without its mark or with a reserved field fails with result 2 and
one with a wrong check with 3, STAGE_HOLD falling to 0; a good one, with its entries neutral for every segment whose head is another,
waits for the next hand-over. -/
def Obligations.PagesSyncAndRestore : Prop :=
  (∀ s : State, domUp s.dev dFABRIC = true →
     exec .pageCtrlOpen s = .next (s.after (pages (fun p => { p with
       reqs := p.reqs ++ [⟨true, trackPos s.dev, true, false, (s.dev.pages.cur.map (·.num)).getD 0⟩] }) s.dev)) ∧
     (s.dev.pages.cur = none → exec .pageCtrlClose s = .next (s.after (incSat .PROD_CLOSE_IDLE 0 s.dev))) ∧
     (∀ g, s.dev.pages.cur = some g → exec .pageCtrlClose s = .next (s.after (pages (fun p => { p with
       reqs := p.reqs ++ [⟨false, trackPos s.dev, true, false, g.num⟩] }) s.dev))) ∧
     (∀ r, r < 4 →
       (ringMaster s.dev = true → exec (.syncCtrlArm r) s = .next (s.after (sf .SYNC_STATUS 0 SYNC_STATUS.ARMED 1
         (sf .SYNC_STATUS 0 SYNC_STATUS.RULE r (sendFrame 2 r 0 s.dev))))) ∧
       (ringMaster s.dev = false → exec (.syncCtrlArm r) s = .next (s.after s.dev))) ∧
     (ringMaster s.dev = true → exec .syncCtrlDisarm s = .next (s.after (sf .SYNC_STATUS 0 SYNC_STATUS.ARMED 0
       (sendFrame 3 0 0 s.dev)))) ∧
     (ringMaster s.dev = false → exec .syncCtrlDisarm s = .next (s.after s.dev))) ∧
  (∀ s : State, domUp s.dev dREGUL = true →
     let d := sf .CAL_CTRL 0 CAL_CTRL.STAGE_HOLD 0 s.dev
     let m := driftContent s.dev (bankOut s.dev 11)
     let good := leNat (Mem.readBytes m 0 4) = 0x54465244 ∧ leNat (Mem.readBytes m 4 2) = 1 ∧ driftReservedOk m = true
     (rb s.dev .CAL_CTRL 0 CAL_CTRL.STAGE_HOLD = false → exec .calRestore s = .next (s.after (occur0 Src.CAL_WIN_BUSY s.dev))) ∧
     (rb s.dev .CAL_CTRL 0 CAL_CTRL.STAGE_HOLD = true →
       (¬ good → exec .calRestore s =
         .next (s.after (occur Src.CAL_RESTORE_FAIL 2 0 0 (sf .CAL_STATUS 0 CAL_STATUS.RESTORE_RESULT 2 d)))) ∧
       (good → leNat (Mem.readBytes m 12 4) ≠ driftCheck m → exec .calRestore s =
         .next (s.after (occur Src.CAL_RESTORE_FAIL 3 0 0 (sf .CAL_STATUS 0 CAL_STATUS.RESTORE_RESULT 3 d)))) ∧
       (good → leNat (Mem.readBytes m 12 4) = driftCheck m →
         let taken := (List.range 48).foldl (fun m s =>
           let held := leNat (Mem.readBytes m (offSerial s) 8)
           let now_ := boundSerial d s
           if held = 0 || now_ = 0 || held = now_ then m
           else match segRecOf ((activeImage d).getD []) s with
             | some r => putLe (segNeutral ((activeImage d).getD []) s r m) (offSerial s) 8 now_
             | none => m) m
         exec .calRestore s = .next (s.after (showCal (sf .CAL_STATUS 0 CAL_STATUS.RESTORE_PENDING 1
           (cal (fun c => { c with restore := true }) (calAccept taken d))))) ∧
         ((∀ k, k < 48 → leNat (Mem.readBytes m (offSerial k) 8) = 0) → taken = m))))

/-- A DMA channel: a valid TAIL replaces the one in force and wakes an IDLE channel, an invalid one sets DMA_TAIL_INVALID; ENABLE takes a
DISABLED channel with a ring in its place to IDLE with counts 0, leaves one that is enabled as it is, and is locked for one without a
ring; ENABLE 0 takes an IDLE, PAUSED or HALTED one to DISABLED and is locked in any other state; PAUSE makes an ACTIVE or WAIT one PAUSING
and an IDLE one PAUSED; PAUSE 0 takes one PAUSING or PAUSED back to where it was; RESTART takes a HALTED one to IDLE, and wakes it, and
does nothing else. The device's own channels are locked: DMA_CFG_LOCKED sets its flag. -/
def Obligations.DmaChannelControl : Prop :=
  ∀ (s : State) (c n : Nat), c < 64 → n < 2 ^ 32 → domUp s.dev dDMA = true →
    let locked := occur Src.DMA_CFG_LOCKED c 0 0 s.dev
    let st := chState s.dev c
    let tailOk := st ≠ chDISABLED ∧ n < ringL (chSize s.dev c) ∧ notBehind (chSize s.dev c) n (chan s.dev c).tail = true ∧
      ringDiff (chSize s.dev c) n (chHead s.dev c) ≤ chSize s.dev c
    (48 ≤ c → exec (.dmaChTail c n) s = .next (s.after locked) ∧ (∀ b, exec (.dmaChEnable c b) s = .next (s.after locked)) ∧
      (∀ b, exec (.dmaChPause c b) s = .next (s.after locked)) ∧ exec (.dmaChRestart c) s = .next (s.after locked)) ∧
    (c < 48 →
      (tailOk → exec (.dmaChTail c n) s = .next (s.after (wake c (onChan c (fun x => { x with tail := n }) s.dev)))) ∧
      (¬ tailOk → exec (.dmaChTail c n) s = .next (s.after (occur Src.DMA_TAIL_INVALID c 0 0 s.dev))) ∧
      (st = chDISABLED → chSize s.dev c ≠ 0 → ringPlaceOk s.dev c = true →
        exec (.dmaChEnable c true) s = .next (s.after (onChan c (fun x => { noChan with held := x.held })
          (sf .DMA_CH_CTRL c DMA_CH_CTRL.ENABLE 1 (setCh c chIDLE
            (wn .DMA_CH_HEAD c 0 (wn .DMA_CH_CREDITS c 0 (wn .DMA_CH_CRC c 0 s.dev)))))))) ∧
      (st = chDISABLED → chSize s.dev c = 0 ∨ ringPlaceOk s.dev c = false →
        exec (.dmaChEnable c true) s = .next (s.after locked)) ∧
      (st ≠ chDISABLED → exec (.dmaChEnable c true) s = .next (s.after s.dev)) ∧
      (st = chIDLE ∨ st = chPAUSED ∨ st = chHALTED →
        exec (.dmaChEnable c false) s = .next (s.after (sf .DMA_CH_CTRL c DMA_CH_CTRL.ENABLE 0
          (sf .DMA_CH_CTRL c DMA_CH_CTRL.PAUSE 0 (setCh c chDISABLED (wn .DMA_CH_CREDITS c 0
            (onChan c (fun x => { noChan with held := x.held }) s.dev))))))) ∧
      (st ≠ chIDLE → st ≠ chPAUSED → st ≠ chHALTED → exec (.dmaChEnable c false) s = .next (s.after locked)) ∧
      (let d := sf .DMA_CH_CTRL c DMA_CH_CTRL.PAUSE 1 s.dev
       (st = chIDLE → exec (.dmaChPause c true) s = .next (s.after (occur Src.DMA_PAUSED c (rn d .DMA_CH_CUR_DESC c) 0
         (setCh c chPAUSED (onChan c (fun x => { x with from_ := chIDLE }) d))))) ∧
       (st = chACTIVE ∨ st = chWAIT →
         exec (.dmaChPause c true) s = .next (s.after (setCh c chPAUSING (onChan c (fun x => { x with from_ := st }) d)))) ∧
       (st ≠ chIDLE → st ≠ chACTIVE → st ≠ chWAIT → exec (.dmaChPause c true) s = .next (s.after d))) ∧
      (let d := sf .DMA_CH_CTRL c DMA_CH_CTRL.PAUSE 0 s.dev
       (st = chPAUSING ∨ st = chPAUSED →
         exec (.dmaChPause c false) s = .next (s.after (wake c (consume c (setCh c (chan s.dev c).from_ d))))) ∧
       (st ≠ chPAUSING → st ≠ chPAUSED → exec (.dmaChPause c false) s = .next (s.after d))) ∧
      (st = chHALTED → exec (.dmaChRestart c) s =
        .next (s.after (wake c (setCh c chIDLE (sf .DMA_CH_STATUS c DMA_CH_STATUS.HALT_CAUSE 0 s.dev))))) ∧
      (st ≠ chHALTED → exec (.dmaChRestart c) s = .next (s.after s.dev)))

/-- AX_ENABLE of a DISABLED axis with AX_FAULT_N high drives the bridge and is ENABLING; in any other state, or with AX_FAULT_N low, it is
discarded. ENABLE 0 of an ENABLING, HOLDING or SUSPENDED one is DISABLING, of one that moves begins to stop first, and clears ENABLE in
any state. AX_CLEAR_FAULT of an axis in FAULT with AX_FAULT_N high leaves it DISABLED, and shows the pin. GEAR_ARM without a gear in
engagement, or of a ratio out of bounds, sets GEAR_INVALID; else the ratio is PENDING, but for a head at or past the armed count
(`gearArm` there takes it at once). GEAR_CANCEL drops it. -/
def Obligations.AxisControl : Prop :=
  ∀ (s : State) (a : Nat), a < 8 → domUp s.dev dREMON = true →
    let st := axState s.dev a
    let off := sf .AX_CTRL a AX_CTRL.ENABLE 0 s.dev
    (st = axDISABLED → exec (.axEnable a true true) s =
      .next (s.after (sf .AXH_STATUS a AXH_STATUS.DRIVE 1 (sf .AXH_STATUS a AXH_STATUS.FAULT_IN 0
        (setAxState a axENABLING (onAxis a (fun x => { x with held := false }) (sf .AX_CTRL a AX_CTRL.ENABLE 1 s.dev))))))) ∧
    exec (.axEnable a true false) s = .next (s.after s.dev) ∧
    (st ≠ axDISABLED → exec (.axEnable a true true) s = .next (s.after s.dev)) ∧
    (∀ h, (st = axENABLING ∨ st = axHOLDING ∨ st = axSUSPENDED →
        exec (.axEnable a false h) s = .next (s.after (showAxis a (axGoDisabling a off)))) ∧
      (st = axMOVING ∨ st = axSTOPPING ∨ st = axHOMING → axMoves off a = true → exec (.axEnable a false h) s = .next (s.after
        (showAxis a (axStop a 1 (onAxis a (fun x => { x with disable := true, home := x.home.map homeStop }) off))))) ∧
      (st ≠ axENABLING → st ≠ axHOLDING → st ≠ axSUSPENDED → axMoves off a = false →
        exec (.axEnable a false h) s = .next (s.after off))) ∧
    (let d := sf .AXH_STATUS a AXH_STATUS.FAULT_IN 0 s.dev
     (axState d a = axFAULT → exec (.axClearFault a true) s =
       .next (s.after (setAxState a axDISABLED (sf .AX_STATUS a AX_STATUS.FAULT_CAUSE 0 d)))) ∧
     (axState d a ≠ axFAULT → exec (.axClearFault a true) s = .next (s.after d))) ∧
    exec (.axClearFault a false) s = .next (s.after (sf .AXH_STATUS a AXH_STATUS.FAULT_IN 1 s.dev)) ∧
    (let d := sf .AX_GEAR_STATUS a AX_GEAR_STATUS.LATE 0 s.dev
     let n := rf s.dev .AX_GEAR_NEXT a AX_GEAR_NEXT.N
     let k := rf s.dev .AX_GEAR_NEXT a AX_GEAR_NEXT.D
     exec (.gearArm a) s = .next (s.after (gearArm a s.dev)) ∧
     ((axis s.dev a).prog = .hold ∨ headMove s.dev a = none → gearArm a s.dev = occur (Src.GEAR_INVALID a) a 0 0 d) ∧
     (∀ m0 ph pa ga n0 k0 m, (axis s.dev a).prog = .gear m0 ph pa ga n0 k0 → headMove s.dev a = some m →
       (gearOk n k = false → gearArm a s.dev = occur (Src.GEAR_INVALID a) a 0 0 d) ∧
       (gearOk n k = true → velocityEdges s.dev.now (spGet [] m.enc s.dev.mot.encEdges) = [] →
         rs64 d .ENC_COUNT m.enc ≠ rs64 s.dev .AX_GEAR_AT a →
         gearArm a s.dev = sf .AX_GEAR_STATUS a AX_GEAR_STATUS.PENDING 1
           (onAxis a (fun y => { y with gearPend := some (n, k, rs64 s.dev .AX_GEAR_AT a) }) d)) ∧
       (gearOk n k = true → rs64 d .ENC_COUNT m.enc = rs64 s.dev .AX_GEAR_AT a →
         let c := rs64 d .ENC_COUNT m.enc
         let p := pa + rdiv (65536 * (gearG m (c * 65536 - m0) - ga) * n0) (k0 * (2 * (m.engage : Int) * 2 ^ 32))
         gearArm a s.dev = sf .AX_GEAR_STATUS a AX_GEAR_STATUS.PENDING 0 (ws64 .AX_GEAR_APPLIED a c
           (sf .AX_GEAR a AX_GEAR.N n (sf .AX_GEAR a AX_GEAR.D k (onAxis a (fun y => { y with
             gearPend := none, prog := .gear m0 (c * 65536) p (gearG m (c * 65536 - m0)) n k }) d)))))))  ∧
    exec (.gearCancel a) s = .next (s.after (sf .AX_GEAR_STATUS a AX_GEAR_STATUS.PENDING 0
      (onAxis a (fun x => { x with gearPend := none }) s.dev)))

/-- AUX_FORCE while a conversion of a two-wire input is RUNNING delivers its last code as a forced result; before a conversion filters it
does nothing; in every other phase `auxForce` delivers, and the filter's present output is a free value (log entry 55). AUX_URGENT starts
a visit of an enabled input of an idle chain, and is dropped and counted where the chain is busy, or has delivered in this cycle, or the
input is not its own or not enabled. The auxiliary front end, while the chain's die runs. After settling the modulator runs. A code in the
lead phase is the leads' and ends the visit; any other is the main one, kept with its gain and instant, autoranged, and goes on to the
lead phase where one is due, or ends the visit. A new level of AUX_CONV is kept and, where it starts conversions, starts one. An output
with a timeout and no update in time is in fault. In every other case none of these does anything. -/
def Obligations.AuxInputs : Prop :=
  (∀ (s : State) (c : Nat), c < 4 → domUp s.dev (dANA (c / 2)) = true →
     (let i := cvInput s.dev c
      let r := inRec s.dev i
      let x := chain s.dev c
      let d := useFresh (useFresh s.dev)
      let v := formValue r (atGain x.mainGain x.main) d.fresh
      exec (.auxForce c) s = .next (s.after (auxForce c s.dev)) ∧
      (cvState s.dev c < 2 → auxForce c s.dev = s.dev) ∧
      (cvState s.dev c = 3 → cvLeadPhase s.dev c = false → iWire r = false →
       auxForce c s.dev = deliverAux i v.1
         (b2n (iBurnout r && decide (0x7FF000 ≤ x.main)) + 4 * b2n (bitOf s.dev.aux.stepped i) +
           8 * b2n (rawFull x.main || x.mainOver) + 16 * b2n v.2 + 32)
         x.mainGain x.at_ (takeStep i (useFresh d)))) ∧
     (∀ i q push, i < 32 → q < 16 →
       (i / 8 = c → iEnable (inRec s.dev i) = true → (chain s.dev c).job = 0 → (chain s.dev c).endAt ≠ s.dev.now + 1 →
         exec (.auxUrgent c i q push) s = .next (s.after
           (startVisit c i 2 (onChain c (fun x => { x with queue := q, push := push }) s.dev)))) ∧
       (i / 8 ≠ c ∨ iEnable (inRec s.dev i) = false ∨ (chain s.dev c).endAt = s.dev.now + 1 ∨
         ((chain s.dev c).job ≠ 0 ∧ ((chain s.dev c).job ≠ 1 ∨ (chain s.dev c).begunAt ≠ s.dev.now + 1)) →
         exec (.auxUrgent c i q push) s = .next (s.after
           (occur (Src.AUX_URGENT_DROP c) c 0 0 (incSat .AUX_URGENT_DROP c s.dev)))) ∧
       (i / 8 = c → iEnable (inRec s.dev i) = true → (chain s.dev c).job = 1 → (chain s.dev c).begunAt = s.dev.now + 1 →
         (chain s.dev c).endAt ≠ s.dev.now + 1 →
         exec (.auxUrgent c i q push) s = .next (s.after (startVisit c i 2 (onChain c (fun x => { x with queue := q, push := push })
           (cvSet c AUX_CHAIN_STATUS.PENDING 1 (chainIdle c s.dev)))))))) ∧
  (∀ (s : State) (c : Nat), c < 4 → domUp s.dev (dANA (c / 2)) = true →
     (cvState s.dev c = 1 → exec (.auxSettleDone c) s = .next (s.after (setCvState c 2 s.dev))) ∧
     (cvState s.dev c ≠ 1 → exec (.auxSettleDone c) s = .next (s.after s.dev)) ∧
     (cvState s.dev c < 2 → ∀ r ovf, exec (.auxCode c r ovf) s = .next (s.after s.dev)) ∧
     (2 ≤ cvState s.dev c → ∀ r ovf,
       let i := cvInput s.dev c
       let x := chain s.dev c
       let raw := rawOk r
       (cvLeadPhase s.dev c = true →
         let d := onChain c (fun x => { x with mainOver := x.mainOver || (ovf || rawFull raw) }) (wn .AUX_LEAD i (ux 24 raw) s.dev)
         exec (.auxCode c r ovf) s = .next (s.after (endVisit c (aux (fun a => { a with
           leadN := mset i (atGain x.gain raw + 2147483648).toNat a.leadN
           lead := mset i (iLeadEvery (inRec d i) - 1) a.lead }) d)))) ∧
       (cvLeadPhase s.dev c = false →
         let d := onChain c (fun y => { y with main := raw, mainGain := x.gain, mainOver := ovf || rawFull raw, at_ := samplingInstant s.dev c })
           (wn .AUX_RAW i (ux 24 raw) s.dev)
         let e := autorange c i raw (ovf || rawFull raw) d
         let due := iWire (inRec d i) && mget d.aux.lead i == 0
         (due = true → exec (.auxCode c r ovf) s = .next (s.after (setCvState c 1 (cvSet c AUX_CHAIN_STATUS.PHASE 1 e)))) ∧
         (due = false → exec (.auxCode c r ovf) s =
           .next (s.after (endVisit c (aux (fun a => { a with lead := mset i (mget a.lead i - 1) a.lead }) e)))))) ∧
     (∀ v,
       let d := onChain c (fun x => { x with pin := v }) s.dev
       ((chain s.dev c).pin = v → exec (.auxConvPin c v) s = .next (s.after s.dev)) ∧
       ((chain s.dev c).pin ≠ v → cvStartBit d c 0 = true → cvStartBit d c 1 ≠ v → exec (.auxConvPin c v) s = .next (s.after (auxStart c d))) ∧
       ((chain s.dev c).pin ≠ v → cvStartBit d c 0 = false ∨ cvStartBit d c 1 = v → exec (.auxConvPin c v) s = .next (s.after d))) ∧
     (∀ o, o / 4 = c / 2 →
       (ratioFlag s.dev o 0 = true → ratioFlag s.dev o 1 = true → exec (.ratioTimeout o) s = .next (s.after (ratioFault o s.dev))) ∧
       (ratioFlag s.dev o 0 = false ∨ ratioFlag s.dev o 1 = false → exec (.ratioTimeout o) s = .next (s.after s.dev))))

/-- Event registers: SW_SET makes a software source occur and is discarded for any other. CLEAR_COUNT leaves a counter with the
occurrences of the cycle, 0 in a cycle without one. Ones written to EVT_STATUS clear its bits, but for sources that occur in the cycle,
which signal where they have not. EVT_ENABLE takes the word, and a source newly enabled whose flag is set signals. EVT_LOG_READ takes a
valid count, and is discarded otherwise. EVT_LOG_CFG takes SIZE while the ring is disabled, enables it with counts 0 and refuses SIZE 0.
DIAG_INJECT arms an error where none is armed, and is discarded otherwise or for a memory without one. -/
def Obligations.EventControl : Prop :=
  ∀ (s : State), domUp s.dev dFABRIC = true →
    (∀ n, n < 1536 →
      (Src.SW_EVENT 0 ≤ n → exec (.evtSwSet n) s = .next (s.after (occur n 0 0 0 s.dev))) ∧
      (n < Src.SW_EVENT 0 → exec (.evtSwSet n) s = .next (s.after (occur Src.EVT_CFG_INVALID n 0 0 s.dev))) ∧
      exec (.evtClearCount n) s = .next (s.after (wn .EVT_COUNT n (sat32 (ups s.dev .EVT_COUNT n)) s.dev)) ∧
      (s.dev.cyc.at_ ≠ s.dev.now + 1 → exec (.evtClearCount n) s = .next (s.after (wn .EVT_COUNT n 0 s.dev)))) ∧
    (∀ w v, w < 48 → v < 2 ^ 32 →
      (let gone := (List.range 32).foldl (fun a b => if bitOf v b && ups s.dev .EVT_COUNT (32 * w + b) == 0 then a + 2 ^ b else a) 0
       let d := wr .EVT_STATUS w (rd s.dev .EVT_STATUS w &&& ~~~ (BitVec.ofNat 64 gone)) s.dev
       exec (.evtStatusClear w v) s = .next (s.after ((List.range 32).foldl (fun e b =>
         let n := 32 * w + b
         if bitOf v b && evFlag e n && evEnabled e n && domUp e dFABRIC && ups e .EVT_ROUTE n == 0 then signalRoute n (routeWord e n) e
         else e) d))) ∧
      (exec (.evtEnableWrite w v) s = .next (s.after ((List.range 32).foldl (fun d b =>
         let n := 32 * w + b
         if bitOf v b && !evEnabled s.dev n && evFlag d n then signalRoute n (rd d .EVT_ROUTE n) d else d) (wn .EVT_ENABLE w v s.dev)))) ∧
      ((∀ b, b < 32 → bitOf v b = true → evEnabled s.dev (32 * w + b) = true) →
        exec (.evtEnableWrite w v) s = .next (s.after (wn .EVT_ENABLE w v s.dev)))) ∧
    (∀ n, n < 2 ^ 32 →
      let z := rf s.dev .EVT_LOG_CFG 0 EVT_LOG_CFG.SIZE
      let ok := rb s.dev .EVT_LOG_CFG 0 EVT_LOG_CFG.ENABLE = true ∧ n < ringL z ∧ notBehind z n s.dev.evt.logRead = true ∧
        notBehind z (rn s.dev .EVT_LOG_WRITTEN 0) n = true
      (ok → exec (.evtLogRead n) s = .next (s.after { s.dev with evt := { s.dev.evt with logRead := n } })) ∧
      (¬ ok → exec (.evtLogRead n) s = .next (s.after (occur0 Src.EVT_CFG_INVALID s.dev)))) ∧
    (∀ z, z < 65536 →
      (z = 0 → exec (.evtLogCfgWrite z true) s = .next (s.after (occur0 Src.EVT_CFG_INVALID s.dev))) ∧
      (rb s.dev .EVT_LOG_CFG 0 EVT_LOG_CFG.ENABLE = false →
        let d := fun on => sf .EVT_LOG_CFG 0 EVT_LOG_CFG.ENABLE on (sf .EVT_LOG_CFG 0 EVT_LOG_CFG.SIZE z s.dev)
        (0 < z → exec (.evtLogCfgWrite z true) s = .next (s.after (wn .EVT_LOG_WRITTEN 0 0
          { d 1 with evt := { s.dev.evt with logRead := 0, lost := false, dropping := false } }))) ∧
        exec (.evtLogCfgWrite z false) s = .next (s.after (d 0))) ∧
      (rb s.dev .EVT_LOG_CFG 0 EVT_LOG_CFG.ENABLE = true →
        (0 < z → exec (.evtLogCfgWrite z true) s = .next (s.after (sf .EVT_LOG_CFG 0 EVT_LOG_CFG.ENABLE 1 s.dev))) ∧
        exec (.evtLogCfgWrite z false) s = .next (s.after (sf .EVT_LOG_CFG 0 EVT_LOG_CFG.ENABLE 0 s.dev)))) ∧
    (∀ m double arm, m < 18 →
      let bad := m = 2 ∨ m = 9 ∨ m = 10 ∨ rb s.dev .DIAG_INJECT 0 DIAG_INJECT.ARMED = true
      (¬ bad →
        let d := sf .DIAG_INJECT 0 DIAG_INJECT.DOUBLE (if double then 1 else 0) (sf .DIAG_INJECT 0 DIAG_INJECT.MEMORY m s.dev)
        exec (.diagInject m double arm) s = .next (s.after (if arm then sf .DIAG_INJECT 0 DIAG_INJECT.ARMED 1 d else d))) ∧
      (bad → exec (.diagInject m double arm) s = .next (s.after (occur Src.EVT_CFG_INVALID m 0 0 s.dev))))

/-- UQ_POP answers the head entry with VALID and takes it from its queue, or answers 0, and a latched high word is given up; MSIX_UNMASK
writes the mask bit 0 and sends a pending message of an enabled function; MSIX_ENABLE sets MSI-X Enable and signals every vector with a
flag set, and does nothing where it is set. OPTION_COMMIT writes the staged record with SEQ advanced where it passes its checks, shows
RESULT 2 where it does not, and sets SEC_BUSY while another write goes on. SPDM_REQUEST is counted; a DOE discovery object is answered
with the protocols supported, an SPDM message with its answer cut to what the requester takes, and one of another type with an error; an
answer that is an error is counted. -/
def Obligations.QueuesInterruptsAndOptions : Prop :=
  (∀ s : State,
     (∀ q, q < 16 → domUp s.dev dFABRIC = true →
       let d := dropLatch .QUE_UQ_POP q s.dev
       (∀ p t, s.dev.evt.uq.getD q [] = p :: t →
         exec (.uqPop q) s = .next (s.after (sf .QUE_UQ_LEVEL q QUE_UQ_LEVEL.ENTRIES t.length
           (let d := emit (.readData (p % 2 ^ 56 + 2 ^ 63)) d
            { d with evt := { d.evt with uq := setAt d.evt.uq q t } })))) ∧
       (s.dev.evt.uq.getD q [] = [] → exec (.uqPop q) s = .next (s.after (emit (.readData 0) d)))) ∧
     (∀ v, v < 2048 → domUp s.dev dEP = true →
       let d := winPut .msixTable (16 * v + 12)
         (BitVec.ofNat 8 (putBit (winGet s.dev .msixTable (16 * v + 12)).toNat 0 false)) s.dev
       let pends := bitOf (winGet s.dev .msixPba (v / 8)).toNat (v % 8) = true ∧ s.dev.post.msixEnable = true
       (pends → exec (.msixUnmask v) s = .next (s.after (emit (.msix v) (setPending v false d)))) ∧
       (¬ pends → exec (.msixUnmask v) s = .next (s.after d))) ∧
     (domUp s.dev dEP = true →
       let d := { s.dev with post := { s.dev.post with msixEnable := true } }
       (s.dev.post.msixEnable = false →
         exec .msixEnable s = .next (s.after ((flaggedVectors d).foldl (fun d v => signal v d) d))) ∧
       (s.dev.post.msixEnable = true → exec .msixEnable s = .next (s.after s.dev)))) ∧
  (∀ s : State, domUp s.dev dFRANK = true →
     (committing s.dev = false → fwInFlight s.dev s.dev.post.fetches = false →
       let r := optionCommitRec s.dev
       (optionOk r = true → exec .optionCommit s = .next (s.after (showSec (sf .SEC_OPTION_STATUS 0 SEC_OPTION_STATUS.BUSY 1
         (sf .SEC_OPTION_STATUS 0 SEC_OPTION_STATUS.RESULT 0 (sec (fun x => { x with optPend := some (0, r) }) s.dev)))))) ∧
       (optionOk r = false → exec .optionCommit s = .next (s.after (sf .SEC_OPTION_STATUS 0 SEC_OPTION_STATUS.RESULT 2 s.dev)))) ∧
     (committing s.dev = true ∨ fwInFlight s.dev s.dev.post.fetches = true →
       exec .optionCommit s = .next (s.after (occur Src.SEC_BUSY 0x01700100 1 0 s.dev))) ∧
     (∀ q : Bytes, domUp s.dev dEP = true ∨ crown s.dev = true →
       let d := incSat .SEC_SPDM_REQUESTS 0 s.dev
       let body := (q.drop 8).take (4 * (leAt q 4 4 % 2 ^ 18) - 8)
       let counted := fun (r : Bytes × Dev) => if leAt r.1 1 1 = 0x7F then incSat .SEC_SPDM_ERRORS 0 r.2 else r.2
       let answers := fun (r : Bytes × Dev) => exec (.spdmRequest q) s =
         .next (s.after (emit (.sent "DOE" 1 (doeObject 1 r.1)) (counted r)))
       (leAt q 0 2 = 1 → leAt q 2 1 = 0 →
         let i := leAt body 0 1
         exec (.spdmRequest q) s = .next (s.after (emit (.sent "DOE" 0 (doeObject 0
           (leBytes 2 1 ++ leBytes 1 (min i 1) ++ leBytes 1 (if i = 0 then 1 else 0)))) d))) ∧
       (leAt q 0 2 = 1 → leAt q 2 1 = 1 → answers (spdmFit (spdmAnswer s.fuses (fun n => effReach s.dev n 1) body d))) ∧
       (leAt q 0 2 ≠ 1 ∨ 1 < leAt q 2 1 → answers (spdmErr 0x12 0x07 (leAt body 1 1), d))))

/-! ### What happens along the data path -/

/-- Encoder events, while the clock island runs (while it does not, nothing happens). A sample of A and B of an encoder that decodes
counts one step where one channel changed, and increments ENC_ILLEGAL with its event where both did; where none changed, and on an encoder
that does not decode, only the levels are kept. At a rise of Z the sample counts as above; then, with INDEX_EN and the encoder decoding,
the track position is latched and ENC_INDEX occurs. An open pair sets LOS, with its event, where LOS is 0. TRACK_STILL makes the velocity
0, with its event. -/
def Obligations.EncoderEvents : Prop :=
  ∀ (s : State) (n : Nat) (a b : Bool), n < 8 →
    (islandUp s.dev = true →
      let a0 := bitOf s.dev.esc.chanA n
      let b0 := bitOf s.dev.esc.chanB n
      let d := esc (fun x => { x with chanA := putBit x.chanA n a, chanB := putBit x.chanB n b }) s.dev
      let latches (e : Dev) := encDecodes e n && rb e .ENC_CFG n ENC_CFG.INDEX_EN
      let z (e : Dev) := if latches e then occur (Src.ENC_INDEX n) n 0 0 (ws64 .ENC_INDEX_POS n (trackPos e) e) else e
      (encDecodes s.dev n = true → a0 ≠ a → b0 ≠ b →
        let e := occur (Src.ENC_ILLEGAL n) n 0 0 (incSat .ENC_ILLEGAL n d)
        exec (.encoderEdge n a b) s = .next (s.after e) ∧ exec (.encIndex n a b) s = .next (s.after (z e))) ∧
      (encDecodes s.dev n = true → (a0 = a ↔ b0 ≠ b) →
        let e := encCount n (quadStep a0 b0 a b) d
        exec (.encoderEdge n a b) s = .next (s.after e) ∧ exec (.encIndex n a b) s = .next (s.after (z e))) ∧
      (encDecodes s.dev n = false ∨ a0 = a ∧ b0 = b →
        exec (.encoderEdge n a b) s = .next (s.after d) ∧ exec (.encIndex n a b) s = .next (s.after (z d))) ∧
      (rb s.dev .ENC_STATUS n ENC_STATUS.LOS = false →
        exec (.encLos n) s = .next (s.after (occur (Src.ENC_LOS n) n 0 0 (sf .ENC_STATUS n ENC_STATUS.LOS 1 s.dev)))) ∧
      (rb s.dev .ENC_STATUS n ENC_STATUS.LOS = true → exec (.encLos n) s = .next (s.after s.dev)) ∧
      exec .trackStill s = .next (s.after (occur0 Src.TRACK_STILL (wn .ESC_VELOCITY 0 0 s.dev)))) ∧
    (islandUp s.dev = false → ∀ c ∈ [Instr.encoderEdge n a b, .encIndex n a b, .encLos n, .trackStill], exec c s = .next (s.after s.dev))

/-- Escapement events. SLOT_RELEASE: the due timetable slot (`dueSlot`) leaves and its event acts; where none is due, the first actuation
slot whose position is reached leaves and acts on its output; where none is reached either, nothing. SLOT_REFILL fills up to 384 slots
while the cores run. GEN_COPY_DONE puts the content of the class's started generation into the bank not in force and marks it copied,
where ESC runs and a copy was started. EVOUT_PULSE_END settles the output and shows it. -/
def Obligations.EscapementEvents : Prop :=
  ∀ s : State,
    (∀ x, dueSlot s.dev = some x → exec .slotRelease s =
      .next (s.after (eventEffect x.1 (showBank (esc (fun e => { e with slots := x.2 }) s.dev))))) ∧
    (∀ a t, dueSlot s.dev = none → takeFirst (fun a => reached s.dev a.pos) s.dev.esc.acts = some (a, t) →
      let d := showBank (esc (fun e => { e with acts := t }) s.dev)
      exec .slotRelease s = .next (s.after (if a.gate then outLevel a.output a.level d else outPulse a.output a.width a.level d))) ∧
    (dueSlot s.dev = none → takeFirst (fun a => reached s.dev a.pos) s.dev.esc.acts = none →
      exec .slotRelease s = .next (s.after s.dev)) ∧
    (domUp s.dev dESC = true → exec .slotRefill s = .next (s.after (refill 384 s.dev))) ∧
    (domUp s.dev dESC = false → exec .slotRefill s = .next (s.after s.dev)) ∧
    (∀ c, c < 12 →
      let started := s.dev.esc.genPend.find? (fun g => g.cls == c && g.started && !g.copied)
      (∀ g, domUp s.dev dESC = true → started = some g →
        let base := bankAddr c (bankOut s.dev c) 0
        let body := (genContent ((s.dev.esc.images.getD g.image none).getD []) c g.gen).getD []
        exec (.genCopyDone c) s = .next (s.after
          (esc (fun e => { e with genPend := e.genPend.map (fun x => if x.cls = c then { x with copied := true } else x) })
            { s.dev with tables := Mem.writeBytes (Mem.clear s.dev.tables base (2 ^ 28)) base body }))) ∧
      (domUp s.dev dESC = false ∨ started = none → exec (.genCopyDone c) s = .next (s.after s.dev))) ∧
    (∀ o, o < 16 → exec (.evoutPulseEnd o) s = .next (s.after (showOuts { s.dev with sync :=
      { s.dev.sync with outs := modAt s.dev.sync.outs o (evOutSettle s.dev.now) } })))

/-- HANDOVER. With no image active, a pending image whose position is reached, not in reverse and while ESC runs, is activated and brought
into force, the hand-over is counted and the slots are filled; otherwise nothing. With an image active: in reverse or withheld by pacing,
nothing; while ESC does not run, a line position that the track has reached spends its number; while it runs, an exposure start that R80
does not commit changes nothing, an image that cannot be read is dropped (R432), and else the line is handed over (`lineHandover`). -/
def Obligations.LineHandovers : Prop :=
  ∀ (s : State) (start : Nat),
    (activeImage s.dev = none →
      (∀ p, s.dev.esc.actPend = some p → domUp s.dev dESC = true → s.dev.esc.reverse = false → p.pos ≤ trackPos s.dev →
        exec (.handover start) s =
          .next (s.after (refill 384 (countHandover (bringIn true (activate p (handoverBegins s.dev))))))) ∧
      ((∀ p, s.dev.esc.actPend = some p → domUp s.dev dESC = true → s.dev.esc.reverse = false → trackPos s.dev < p.pos) →
        exec (.handover start) s = .next (s.after s.dev))) ∧
    (∀ i, activeImage s.dev = some i →
      let place := linePlace s.dev i s.dev.esc.lineK
      (s.dev.esc.reverse = true ∨ paceHolds s.dev place = true → exec (.handover start) s = .next (s.after s.dev)) ∧
      (s.dev.esc.reverse = false → paceHolds s.dev place = false →
        (domUp s.dev dESC = false → place ≤ trackPos s.dev →
          let d := maskLagged (fun _ => true) s.dev
          let d := wn .ESC_LINE 0 ((rn d .ESC_LINE 0 + 1) % 2 ^ 56) d
          exec (.handover start) s = .next (s.after
            (showNextLine (esc (fun e => { e with lineK := e.lineK + 1, skippedLines := e.skippedLines + 1 }) d)))) ∧
        (domUp s.dev dESC = false → trackPos s.dev < place → exec (.handover start) s = .next (s.after s.dev)) ∧
        (domUp s.dev dESC = true → startOk s.dev place start = false → exec (.handover start) s = .next (s.after s.dev)) ∧
        (domUp s.dev dESC = true → startOk s.dev place start = true → s.dev.esc.imageBad = true →
          let d := stopsAt (rn s.dev .ESC_LINE 0) (handoverBegins s.dev)
          exec (.handover start) s = .next (s.after (endCaptures (countHandover (bringIn false
            (segsActivate (activeImage d) none (unloadImage (activeNum s.dev) (deactivate d)))))))) ∧
        (domUp s.dev dESC = true → startOk s.dev place start = true → s.dev.esc.imageBad = false →
          exec (.handover start) s = .next (s.after (lineHandover start i s.dev)))))

/-- Events of an FE die and its generators, while the die runs. CLK_FAULT of a RUNNING generator turns its drivers off and takes the
segments it serves to FAULT with cause 9, with its event; of another it does nothing. PG_RUN_END takes the run's samples where the link is
up, moves the next run up, and frees what waited for the run; with no run, nothing. A resend is counted; the eighth failed one of a flit
in a row takes the link down with its event, the die's segments ABSENT with cause 5, and cuts its axes' moves; with the link down nothing
happens. The link's return rediscovers the heads of the four buses. Events of an I3C bus, while its die runs. A hot-join is counted, the
unbound heads that left are forgotten and the new ones discovered; an in-band interrupt is counted; a poll first counts its bus errors,
then marks each bound head of the bus that failed and clears the mark of each that answered; the repeated poll of a head that had failed
clears the mark or removes the head, and does nothing for another. -/
def Obligations.DieAndI3cEvents : Prop :=
  (∀ (s : State) (n : Nat), n < 4 → domUp s.dev (dDIG n) = true →
     (∀ g, g < 16 → g / 4 = n →
       (rb s.dev .PG_STATUS g PG_STATUS.RUNNING = true →
         exec (.clkFault g) s = .next (s.after (occur (Src.CLK_FAULT n) n g 0 ((List.range 48).foldl (fun d s => match segRec d s with
           | some r => if (rGens r).contains g then segPowerDown s .fault 9 (maskWaiting r d) else d
           | none => d) (genOff g s.dev))))) ∧
       (rb s.dev .PG_STATUS g PG_STATUS.RUNNING = false → exec (.clkFault g) s = .next (s.after s.dev)) ∧
       (∀ clamp volts,
         let run := mget s.dev.fe.runLine g - 1
         let d := if rb s.dev .FE_STATUS n FE_STATUS.LINK_UP
           then (volts.take 6).zipIdx.foldl (fun d x => channelEnd g run clamp x d) s.dev else s.dev
         let next := mget d.fe.runNext g
         let e := esc (fun e => { e with lines := e.lines.map (fun l => if l.num ≤ run then { l with runs := putBit l.runs g false } else l) })
           (sf .PG_STATUS g PG_STATUS.RUNNING (b2n (next != 0))
             (fe (fun x => { x with runLine := mset g next x.runLine, runNext := mset g 0 x.runNext }) d))
         (mget s.dev.fe.runLine g ≠ 0 → exec (.pgRunEnd g clamp volts) s = .next (s.after (dropLines (freeBanks [1]
           (match e.esc.lines.find? (fun l => l.runs ≠ 0) with | some l => l.num - 1 | none => run) e)))) ∧
         (mget s.dev.fe.runLine g = 0 → exec (.pgRunEnd g clamp volts) s = .next (s.after s.dev)))) ∧
     (∀ ok,
       let fails := if ok then 0 else mget s.dev.fe.flitFails n + 1
       let d := fe (fun x => { x with resends := mset n (sat32 (mget x.resends n + 1)) x.resends,
                                      flitFails := mset n (if fails < 8 then fails else 0) x.flitFails }) s.dev
       (rb s.dev .FE_STATUS n FE_STATUS.LINK_UP = true → fails < 8 → exec (.flitResend n ok) s = .next (s.after d)) ∧
       (rb s.dev .FE_STATUS n FE_STATUS.LINK_UP = true → 8 ≤ fails →
         exec (.flitResend n ok) s = .next (s.after ([2 * n, 2 * n + 1].foldl (fun d a => axCut false a d)
           (cutCmds [0x70, 0x71, 0x73] (fun a => a / 2 == n)
             (occur (Src.DIE_LINK_RETRAIN n) n 0 0 (dieSegsAbsent n false 5 (sf .FE_STATUS n FE_STATUS.LINK_UP 0 d))))))) ∧
       (rb s.dev .FE_STATUS n FE_STATUS.LINK_UP = false → exec (.flitResend n ok) s = .next (s.after s.dev))) ∧
     (rb s.dev .FE_STATUS n FE_STATUS.LINK_UP = false →
       exec (.dieLinkUp n) s = .next (s.after ((List.range 4).foldl (fun d b => discover b d) (sf .FE_STATUS n FE_STATUS.LINK_UP 1 s.dev)))) ∧
     (rb s.dev .FE_STATUS n FE_STATUS.LINK_UP = true → exec (.dieLinkUp n) s = .next (s.after s.dev))) ∧
  (∀ (s : State) (n : Nat), n < 4 → domUp s.dev (dDIG n) = true →
     (∀ gone descs,
       let stay := s.dev.fe.heads.filter (fun h => !(h.bus == n && h.seg == 0 && gone.contains h.addr))
       exec (.i3cHotJoin n gone descs) s = .next (s.after (discover n (incSat .I3C_HOTJOINS n
         (fe (fun x => { x with heads := stay ++ descs.map (fun b => ⟨n, 0, 0, b⟩) }) s.dev))))) ∧
     exec (.i3cIbi n) s = .next (s.after (incSat .I3C_IBIS n s.dev)) ∧
     (∀ failed errors,
       let d := (List.range errors).foldl (fun d _ => i3cError n d) s.dev
       exec (.i3cPoll n failed errors) s = .next (s.after (d.fe.heads.foldl (fun d h =>
         if h.bus = n && h.seg ≠ 0 then
           (if failed.contains (h.seg - 1) then setSeg (h.seg - 1) (fun x => { x with pollFailed := true }) d
            else setSeg (h.seg - 1) (fun x => { x with pollFailed := false, sincePoll := 0 }) d)
         else d) d))) ∧
     (∀ k r, k < 48 → segRec s.dev k = some r → rBus r = n →
       let polled := (seg s.dev k).pollFailed = true ∧ s.dev.fe.heads.any (fun h => h.seg == k + 1) = true
       (polled → exec (.i3cPollRetry k true) s =
         .next (s.after (setSeg k (fun x => { x with pollFailed := false, sincePoll := 0 }) s.dev))) ∧
       (polled → exec (.i3cPollRetry k false) s = .next (s.after (removeHead k r s.dev))) ∧
       (¬ polled → ∀ b, exec (.i3cPollRetry k b) s = .next (s.after s.dev))))

/-- Frames and windows of the lane of a port, while its die runs. A frame of a lane that is not LOCKED is not seen. One outside an open
window, before the window begins, or after the window's frame counts LANE_EXTRA. The window's frame counts an error of its code, else of
its length, else of its check, and masks the port's segment for the line it reads; else its SEQ is kept, a SEQ that is neither the next
nor the first after ACQUIRE counts a skip, and its samples go to the line. A window that closes without a frame masks the segment, and
counts LANE_NOFRAME on a LOCKED lane; the next window opens, masked too where the lane is not LOCKED; with no window open nothing happens,
and nothing does on a port of no segment. Lock and loss of the lane of a port, while its die runs. A lane in ACQUIRE becomes LOCKED; where
all lanes of its segment then are, a segment at step 3 of its power-up completes it and one in RELOCK is LIVE again. A LOCKED lane that
loses its signal is in ACQUIRE with its event, masks its segment for the line of a window still without its frame, and takes a LIVE
segment to RELOCK with cause 3. On a port of no segment only the lane changes. In another state of the lane neither does anything. -/
def Obligations.LaneEvents : Prop :=
  (∀ (s : State) (p : Nat), p < 48 → domUp s.dev (dDIG (portDie p)) = true →
     (segOfPort s.dev p = none → exec (.laneWindowClose p) s = .next (s.after s.dev) ∧
       ∀ ce lok seq ign pay crc, exec (.laneFrameRx p ce lok seq ign pay crc) s = .next (s.after s.dev)) ∧
     (∀ k r, segOfPort s.dev p = some (k, r) →
     let line := lagLine (mget s.dev.fe.winLine p - 1) (rLag r)
     (∀ ce lok seq ign pay crc,
       let taken := mget s.dev.fe.winLine p ≠ 0 ∧ bitOf s.dev.fe.winGot p = false ∧ mget s.dev.fe.winAt p ≤ 16 * s.dev.now
       let d := fe (fun x => { x with winGot := putBit x.winGot p true }) s.dev
       let whole := lok = true ∧ pay.length = (rSamples r 2 * rLaneBits r + 7) / 8
       let good := crc = crc32c (leBytes 2 seq ++ fitBytes 2 ign ++ pay)
       let skips := bitOf d.fe.seqFresh p = false ∧ seq ≠ (rf d .LANE_SEQ p LANE_SEQ.SEQ + 1) % 65536
       let e := fe (fun x => { x with seqFresh := putBit x.seqFresh p false }) (sf .LANE_SEQ p LANE_SEQ.SEQ seq d)
       let kept (e : Dev) := match line with
         | some n => keepSamples n p 2 ((List.range (rSamples r 2)).map (laneSample pay (rLaneBits r))) e
         | none => e
       (laneState s.dev p ≠ 2 → exec (.laneFrameRx p ce lok seq ign pay crc) s = .next (s.after s.dev)) ∧
       (laneState s.dev p = 2 →
         (¬ taken → exec (.laneFrameRx p ce lok seq ign pay crc) s = .next (s.after (laneError .LANE_EXTRA p s.dev))) ∧
         (taken → ce = true →
           exec (.laneFrameRx p ce lok seq ign pay crc) s = .next (s.after (maskRead r line (laneError .LANE_CODE_ERR p d)))) ∧
         (taken → ce = false → ¬ whole →
           exec (.laneFrameRx p ce lok seq ign pay crc) s = .next (s.after (maskRead r line (laneError .LANE_FRAME_ERR p d)))) ∧
         (taken → ce = false → whole → ¬ good →
           exec (.laneFrameRx p ce lok seq ign pay crc) s = .next (s.after (maskRead r line (laneError .LANE_CRC_ERR p d)))) ∧
         (taken → ce = false → whole → good → ¬ skips →
           exec (.laneFrameRx p ce lok seq ign pay crc) s = .next (s.after (kept e))) ∧
         (taken → ce = false → whole → good → skips →
           exec (.laneFrameRx p ce lok seq ign pay crc) s = .next (s.after
             (kept (occur (Src.LANE_SEQ (portDie p)) (portDie p) p 0 (incSat .LANE_SEQ_SKIP p e))))))) ∧
     (mget s.dev.fe.winLine p ≠ 0 →
       let d := if bitOf s.dev.fe.winGot p then s.dev
         else if laneState s.dev p = 2 then maskRead r line (laneError .LANE_NOFRAME p s.dev) else maskRead r line s.dev
       let next := mget d.fe.winNext p
       let e := if next ≠ 0 && laneState d p ≠ 2 then maskRead r (lagLine (next - 1) (rLag r)) d else d
       exec (.laneWindowClose p) s = .next (s.after (fe (fun x => { x with
         winAt := mset p 0 x.winAt, winLine := mset p next x.winLine, winNext := mset p 0 x.winNext, winGot := putBit x.winGot p false }) e))) ∧
     (mget s.dev.fe.winLine p = 0 → exec (.laneWindowClose p) s = .next (s.after s.dev)))) ∧
  (∀ (s : State) (p : Nat), p < 48 → domUp s.dev (dDIG (portDie p)) = true →
     (laneState s.dev p = 1 →
       let d := setLane p 2 s.dev
       (segOfPort d p = none → exec (.laneLock p) s = .next (s.after d)) ∧
       ∀ k r, segOfPort d p = some (k, r) →
       (lanesLocked d r = true → (seg d k).st = .powering → (seg d k).step = 3 →
         exec (.laneLock p) s = .next (s.after (segSequenceDone k r d))) ∧
       (lanesLocked d r = true → (seg d k).st = .relock → exec (.laneLock p) s = .next (s.after (enterLive k d))) ∧
       (lanesLocked d r = false ∨ ((seg d k).st ≠ .relock ∧ ¬ ((seg d k).st = .powering ∧ (seg d k).step = 3)) →
         exec (.laneLock p) s = .next (s.after d))) ∧
     (laneState s.dev p ≠ 1 → exec (.laneLock p) s = .next (s.after s.dev)) ∧
     (laneState s.dev p = 2 →
       let d := occur (Src.LANE_LOS (portDie p)) (portDie p) p 0 (setLane p 1 s.dev)
       (segOfPort d p = none → exec (.laneLos p) s = .next (s.after d)) ∧
       ∀ k r, segOfPort d p = some (k, r) →
       let e := if mget d.fe.winLine p = 0 || bitOf d.fe.winGot p then d
         else maskRead r (lagLine (mget d.fe.winLine p - 1) (rLag r)) d
       ((seg e k).st = .live → exec (.laneLos p) s = .next (s.after (setSeg k (fun x => { x with st := .relock, cause := 3 }) e))) ∧
       ((seg e k).st ≠ .live → exec (.laneLos p) s = .next (s.after e))) ∧
     (laneState s.dev p ≠ 2 → exec (.laneLos p) s = .next (s.after s.dev)))

/-- LINE_COMPLETE: with both halves of the pipeline running, the oldest line not yet complete, whose samples have come and before which
every line has its verdict, is corrected, its samples are used up, the longest latency of both halves is kept, the line is delivered, the
ports it masked are counted and its banks are free; otherwise nothing. VERDICT_PATH: with the Comparator running, the oldest line that is
complete and has no verdict gets it: its judged line, where there is one, goes to the tracks, its banks are free and pages that are over
are finished. REG_BAND_RESULT of the complete band, while COMPARE runs: the 32 patch results of its sums become the waiting result and are
shown in CMPR_REG_CORR, each invalid one counted and flagged. Without a complete band, or with COMPARE in reset, nothing. What an invalid
patch's correction reads is a free value (`patchResult`). -/
def Obligations.LinesAndBands : Prop :=
  (∀ (s : State) (late : Bool) (t : Nat),
     let may (l : LineRec) := domUp s.dev (dPIPE 0) = true ∧ domUp s.dev (dPIPE 1) = true ∧ lineReady s.dev l l.img = true ∧
       (∀ x ∈ s.dev.esc.lines, l.num ≤ x.num ∨ x.verdict = true)
     (∀ l, nextLine s.dev = some l → may l →
       let c := correctLine l l.img s.dev
       let d0 := fe (fun x => { x with samples := x.samples.filter (fun s => s.line ≠ l.num) }) c.1
       let d1 := [0, 1].foldl (fun d h => wn .PIPE_LATENCY_MAX h (max (rn d .PIPE_LATENCY_MAX h) (sat32 t)) d) d0
       let d2 := countMasked (c.2.masked ^^^ (c.2.masked &&& l.masked))
         (deliverCorrected { l with masked := c.2.masked } c.2 (late || cmprRestoring d1) d1)
       let d3 := freeBanks [2, 3, 4, 5, 6, 11] l.num
         (onLine l.num (fun x => { x with complete := true, masked := c.2.masked }) d2)
       exec (.lineComplete late t) s = .next (s.after (endCaptures (flushMarks d3.strm.marks.length d3)))) ∧
     ((∀ l, nextLine s.dev = some l → ¬ may l) → exec (.lineComplete late t) s = .next (s.after s.dev)) ∧
     (∀ l, domUp s.dev dCOMPARE = true → s.dev.esc.lines.find? (fun l => l.complete && !l.verdict) = some l →
       let d := cmpr (fun x => { x with jlines := x.jlines.filter (fun y => y.line ≠ l.num) }) s.dev
       let done (d : Dev) := s.after (endCaptures (dropLines (finishPages l.shadow (l.banks.getD 8 0) (l.banks.getD 9 0)
         (freeBanks [7, 8, 9, 10] l.num (onLine l.num (fun x => { x with verdict := true }) d)))))
       (s.dev.cmpr.jlines.find? (fun x => x.line == l.num) = none → exec .verdictPath s = .next (done d)) ∧
       (∀ j, s.dev.cmpr.jlines.find? (fun x => x.line == l.num) = some j →
         let last := d.pages.past.any (fun p => p.num == j.page && p.last != 0 &&
           d.esc.lines.all (fun x => decide (p.last ≤ x.num) || decide (x.num = l.num) || (x.complete && x.verdict)))
         exec .verdictPath s = .next (done (trackLine l j last d)))) ∧
     (domUp s.dev dCOMPARE = false ∨ s.dev.esc.lines.find? (fun l => l.complete && !l.verdict) = none →
       exec .verdictPath s = .next (s.after s.dev))) ∧
  (∀ (s : State),
     (∀ b, domUp s.dev dCOMPARE = true → s.dev.cmpr.full = some b →
       let res := (List.range 32).map (fun i => patchResult (s.dev.fresh + 2 * i) (b.sums.getD i []) (b.seen.getD i 0)
         ((b.want.getD i 0 * 256 * 3 + 3) / 4))
       let d := cmpr (fun x => { x with full := none, result := some ⟨b.page, b.first, res⟩ }) { s.dev with fresh := s.dev.fresh + 64 }
       exec .regBandResult s = .next (s.after (res.zipIdx.foldl (fun d x =>
         let d := sf .CMPR_REG_CORR x.2 CMPR_REG_CORR.CX (ux 10 x.1.1) (sf .CMPR_REG_CORR x.2 CMPR_REG_CORR.CY (ux 10 x.1.2.1)
           (sf .CMPR_REG_CORR x.2 CMPR_REG_CORR.VALID (b2n x.1.2.2) d))
         if x.1.2.2 then d else occur Src.REG_INVALID x.2 0 0 (incSat .CMPR_REG_INVALID 0 d)) d))) ∧
     (domUp s.dev dCOMPARE = false ∨ s.dev.cmpr.full = none → exec .regBandResult s = .next (s.after s.dev)))

/-- EDGE_FIT of the first page that is due (`fitDue`) takes the page's lines away and keeps a fit: both side edges, found with 16 lines or
more, are the rounded means over the lines that have edges, and the offset is LEFT less EXPECT_LEFT; with fewer, or with a leading edge
wanted and not found, EDGE_FAIL occurs and counts. CROP_FORM forms the first crop due: of the first capture, and in it the first entry,
that has a waiting crop whose last margin line has left stage 9. Where none is due neither does anything. -/
def Obligations.FitAndCrop : Prop :=
  ∀ s : State, domUp s.dev dFABRIC = true →
    (∀ e, s.dev.pages.edges.find? (fitDue s.dev) = some e →
      let rule := pageRuleOf e.img
      let ed := e.lines.filterMap (·.2.1)
      let d := pages (fun p => { p with edges := p.edges.filter (fun x => x.page ≠ e.page) }) s.dev
      ∃ f : EdgeFit, f.page = e.page ∧ f.first = e.first ∧ f.sides = decide (16 ≤ ed.length) ∧ (f.lead = true → 4 ≤ f.patches) ∧
        (f.sides = true → f.vals.getD 0 0 = rdiv (sumI (ed.map (·.1))) ed.length ∧ f.vals.getD 1 0 = rdiv (sumI (ed.map (·.2))) ed.length ∧
          f.vals.getD 2 0 = rdiv (sumI (ed.map (·.1))) ed.length - prExpect rule) ∧
        exec .edgeFit s = .next (s.after (pages (fun p => { p with fit := some f })
          (if f.sides && (f.lead || !prLead rule) then d
           else occur Src.EDGE_FAIL e.page 0 0 (incSat .PROD_EDGE_FAIL 0 d))))) ∧
    (s.dev.pages.edges.find? (fitDue s.dev) = none → exec .edgeFit s = .next (s.after s.dev)) ∧
    (let due (c : Capture) (e : Nat) : Prop :=
       ∃ q t, c.crops.getD e [] = q :: t ∧ q.lastLine + eMargin c.set e ≤ rf s.dev .PIPE_LINE_DONE 0 PIPE_LINE_DONE.LINE
     (∀ pre c t e, s.dev.strm.captures = pre ++ c :: t → (∀ c' ∈ pre, ∀ f, f < setEntries c'.set → ¬ due c' f) →
       e < setEntries c.set → due c e → (∀ f, f < e → ¬ due c f) →
       exec .cropForm s = .next (s.after (popCrop c.lead e s.dev))) ∧
     ((∀ c ∈ s.dev.strm.captures, ∀ f, f < setEntries c.set → ¬ due c f) → exec .cropForm s = .next (s.after s.dev)))

/-- Pins, buttons and timers of the trigger side, while FABRIC runs. A level at a pin or a button is kept; where it, inverted as INVERT
says, differs from the state shown, the state changes and the source's units take the sample, a button's change with its event.
TRIGGER_TIMEOUT fires a KIND 3 unit whose watched level has lasted its length, and the next length starts; SEQ_TIMER_EXPIRY takes a
sequencer whose state has a timer that is over to the state its record names, and keeps what was left. Where no length is over neither
does anything. -/
def Obligations.TriggerEvents : Prop :=
  ∀ (s : State) (n : Nat) (v : Bool), domUp s.dev dFABRIC = true →
    (n < 16 →
      let d := sync (fun s => { s with pins := putBit s.pins n v }) s.dev
      let x := bitOf d.sync.pins n != rb s.dev .TRIG_PIN_CFG n TRIG_PIN_CFG.INVERT
      (x = bitOf (rn s.dev .TRIG_PIN_STATE 0) n → exec (.triggerPinEdge n v) s = .next (s.after d)) ∧
      (x ≠ bitOf (rn s.dev .TRIG_PIN_STATE 0) n → exec (.triggerPinEdge n v) s = .next (s.after
        (sourceSample 0 n (b2n x : Nat) (pinStamp s.dev n)
          (wn .TRIG_PIN_STATE 0 (putBit (rn s.dev .TRIG_PIN_STATE 0) n x) d))))) ∧
    (n < 8 →
      let d := sync (fun s => { s with pins := putBit s.pins (16 + n) v }) s.dev
      let x := bitOf d.sync.pins (16 + n) != rb s.dev .BTN_CFG n BTN_CFG.INVERT
      (x = bitOf (rn s.dev .BTN_STATE 0) n → exec (.button n v) s = .next (s.after d)) ∧
      (x ≠ bitOf (rn s.dev .BTN_STATE 0) n → exec (.button n v) s = .next (s.after
        (sourceSample 3 n (b2n x : Nat) (stampNow s.dev) (occur Src.BUTTON n (b2n x : Nat) 0
          (wn .BTN_STATE 0 (putBit (rn s.dev .BTN_STATE 0) n x) d)))))) ∧
    (n < 32 →
      let due (r : Bytes) (x : TrigUnit) (e : Stamp) : Prop := ∃ a, unitRec s.dev n = some r ∧ findUnit s.dev n = some x ∧ x.start = some a ∧
        tuKind r = 3 ∧ elapse s.dev a (if x.again then tuMax r else tuMin r) (tuUnitKind r) = some e
      (∀ r x e, due r x e → exec (.triggerTimeout n) s =
        .next (s.after (unitFire n r e (onUnit n (fun x => { x with start := some e, again := true }) s.dev)))) ∧
      ((∀ r x e, ¬ due r x e) → exec (.triggerTimeout n) s = .next (s.after s.dev))) ∧
    (n < 4 →
      let due (r : Bytes) (x : SeqSt) (e : Stamp) : Prop := seqRec s.dev n (seqState s.dev n) = some r ∧
        s.dev.pages.seqs.find? (fun x => x.seq == n) = some x ∧ bitOf (leAt r 10 1) 1 = true ∧
        elapse s.dev x.entry (leAt r 16 8) (leAt r 11 1) = some e
      (∀ r x e, due r x e → exec (.seqTimerExpiry n) s = .next (s.after
        (seqLeft n (seqState s.dev n) (rn s.dev .PROD_SEQ_COUNT n) x.entry (seqEnter n (leAt r 9 1 % 16) e s.dev)))) ∧
      ((∀ r x e, ¬ due r x e) → exec (.seqTimerExpiry n) s = .next (s.after s.dev)))

/-- Parcels. A flush closes the part-filled parcel of an open context while DMA runs, and does nothing else. A delivery writes the
context's lowest parcel that has not begun to be written, where it is there or read back, fewer than four of the context are in writing
and the first posted buffer with room has a place: its bytes (those read back, where there are some) go to host memory behind what the
buffer holds, and it counts as sent. A sent parcel that reaches the host leaves the device and a DELIVER record is staged, or waits for
room. Where a condition fails nothing happens. -/
def Obligations.ParcelEvents : Prop :=
  ∀ (s : State) (c : Nat), c < 2048 →
    (∀ x, findCtx s.dev c = some x → domUp s.dev dDMA = true → x.pend ≠ [] →
      exec (.parcelFlush c) s = .next (s.after (closeParcel c x.pend.length false s.dev))) ∧
    ((∀ x, findCtx s.dev c = some x → domUp s.dev dDMA = true → x.pend = []) → exec (.parcelFlush c) s = .next (s.after s.dev)) ∧
    (let may (x : Ctx) (p : Parcel) (b : Buf) : Prop := canDeliver s.dev = true ∧ inHead s.dev c < 4 ∧ findCtx s.dev c = some x ∧
       lowest s.dev c (fun p => !p.host && !p.sent) = some p ∧ x.bufs.find? (fun b => decide (b.used + p.size ≤ b.len)) = some b ∧
       (p.resident = true ∨ p.back = true)
     (∀ x p b, may x p b →
       let a := b.addr + b.used
       exec (.parcelDeliver c) s = .next (s.after (onParcel c p.num (fun p => { p with sent := true })
         (onCtx c (fun x => { x with bufs := x.bufs.map (fun y =>
             if y.cmd = b.cmd && y.idx = b.idx then { y with used := y.used + p.size, last := p.num } else y) })
           { s.dev with host := (Mem.clear s.dev.host a p.size).writeBytes a (if p.ret.isEmpty then p.data else p.ret) })))) ∧
     ((∀ x p b, ¬ may x p b) → exec (.parcelDeliver c) s = .next (s.after s.dev))) ∧
    (let may (p : Parcel) : Prop := lowest s.dev c (fun p => !p.host) = some p ∧ p.sent = true ∧ canReach s.dev = true
     (∀ p, may p →
       let d := onParcel c p.num (fun p => { p with host := true, resident := false, back := false }) s.dev
       exec (.parcelReachedHost c) s = .next (s.after
         (showCtx c (showSpace (dropDone (stageOrWait kDELIVER (pairBytes c (through d c (·.host))) d)))))) ∧
     ((∀ p, ¬ may p) → exec (.parcelReachedHost c) s = .next (s.after s.dev)))

/-- The Ledger. While NVS runs and the journal has room, the oldest record of the backlog enters the journal, a record that waits for room
is staged and the number is shown, a CHECKPOINT's in LEDG_CKPT_SEQ as well; a POWER_CLOSE sets CLOSED; one that makes parcels durable
settles what waits for them. With no room nothing happens, with no backlog only the waiting record is staged. A block that is being signed
is kept, while FRANK and POST run and its record can be staged, with its CHECKPOINT record; otherwise nothing happens. -/
def Obligations.LedgerEvents : Prop :=
  ∀ s : State,
    (domUp s.dev dNVS = true →
      (s.dev.post.backlog = [] → exec .ledgerNvsWrite s = .next (s.after (stageWaiting s.dev))) ∧
      (∀ r t, s.dev.post.backlog = r :: t →
        (journalRoom r s.dev.post.journal = false → exec .ledgerNvsWrite s = .next (s.after s.dev)) ∧
        (journalRoom r s.dev.post.journal = true →
          let d := wn .LEDG_NVS_SEQ 0 r.seq (stageWaiting { s.dev with post :=
            { s.dev.post with backlog := t, journal := (r :: s.dev.post.journal).take 1048576 } })
          (r.kind ≠ kCHECKPOINT → r.kind ≠ kPOWER_CLOSE → r.kind ≠ kDELIVER → r.kind ≠ kSPILL →
            exec .ledgerNvsWrite s = .next (s.after d)) ∧
          (r.kind = kCHECKPOINT → exec .ledgerNvsWrite s = .next (s.after (wn .LEDG_CKPT_SEQ 0 r.seq d))) ∧
          (r.kind = kPOWER_CLOSE → exec .ledgerNvsWrite s = .next (s.after (sf .LEDG_STATUS 0 LEDG_STATUS.CLOSED 1 d))) ∧
          (r.kind = kDELIVER ∨ r.kind = kSPILL → exec .ledgerNvsWrite s = .next (s.after
            (settleWaiting (showSpace (shrinkReserve ((recPairs r.body).foldl (fun d p => setDurable p.1 p.2 d) d))))))))) ∧
    (domUp s.dev dNVS = false → exec .ledgerNvsWrite s = .next (s.after s.dev)) ∧
    (let may : Prop := s.dev.sec.signing ≠ 0 ∧ domUp s.dev dFRANK = true ∧ domUp s.dev dPOST = true ∧ canStage kCHECKPOINT [] s.dev = true
     (may →
       let last := s.dev.sec.signing - 1
       let first := s.dev.sec.ckptSeq + 1
       let prev := s.dev.sec.ckpts.headD []
       let num := leAt prev 8 8 + 1
       let text := leBytes 4 0x54504B43 ++ leBytes 2 1 ++ zeros 2 ++ leBytes 8 num ++ leBytes 7 first ++ [0#8] ++ leBytes 7 last ++ [0#8] ++
         leBytes 8 s.dev.now ++ (if prev.isEmpty then zeros 64 else digest prev) ++
         digest ((ledgerRange s.dev first last).flatMap lrecBytes) ++ unitId ++ zeros 8
       let block := text ++ fitBytes 3309 (Config.mldsaSign s.dev.fresh text)
       let d := stage kCHECKPOINT (leBytes 8 num ++ shake256 32 block) (sec (fun s => { s with
         ckpts := (block :: s.ckpts).take 256, ckptSeq := last, signing := 0 }) (useFresh s.dev))
       exec .checkpointSigned s = .next (s.after (showSec (wn .LEDG_CKPT_SEQ 0 d.post.seq d)))) ∧
     (¬ may → exec .checkpointSigned s = .next (s.after s.dev)))

/-- Frames of the sync ring, while FABRIC runs and the ring is enabled. A frame of another length, or whose CRC does not hold, is
discarded and counted; so is one of a reserved TYPE. ENUM gives another node its number and goes on with ARG + 1; at the master it brings
the ring up, or, from another source or with ARG above 8, SYNC_RING_FAULT occurs. A frame from the node itself goes no further; any other
is forwarded with one more hop, and then: ARM arms and DISARM disarms; a FIRE not seen before is collected, or, with the ring neither
armed nor collecting, counted as ignored; POS reaches a node that is not the master, which is up; EVENT is reported. While the ring is
disabled frames do nothing. Timers and loss of the sync ring, while FABRIC runs. The master of an enabled ring sends ENUM with ARG 1 while
it is not up and POS with its size and the track position while it is up; each does nothing otherwise. SYNC_FIRE_APPLY empties what was
collected and applies it by position, then by node, with ONESHOT only the first. Loss of signal takes the ring down, and so do 10 µs
without POS on a node that is not the master. -/
def Obligations.SyncRing : Prop :=
  (∀ (s : State), domUp s.dev dFABRIC = true →
     (rb s.dev .SYNC_CFG 0 SYNC_CFG.ENABLE = false → ∀ f, exec (.syncFrameRx f) s = .next (s.after s.dev)) ∧
     (rb s.dev .SYNC_CFG 0 SYNC_CFG.ENABLE = true →
       (∀ f : Bytes, f.length ≠ 16 → exec (.syncFrameRx f) s = .next (s.after (crcFail s.dev))) ∧
       (∀ (k src hops seq arg : Nat) (pos : Bytes), k < 256 → src < 8 → hops < 8 → seq < 256 → arg < 256 → pos.length = 8 →
         let body : Bytes := leBytes 1 k ++ leBytes 1 (16 * hops + src) ++ leBytes 1 seq ++ leBytes 1 arg ++ pos ++ [0#8]
         let frame (crc : Nat) : Bytes := [0x3C#8] ++ body ++ leBytes 1 (crc / 256) ++ leBytes 1 crc
         let sent (a : Nat) (d : Dev) := emit (.ringFrame (frameBytes k src ((hops + 1) % 8) seq a (sx 64 (leNat pos)))) d
         let d := sent arg s.dev
         (∀ crc, crc < 65536 → crc ≠ crc16 body → exec (.syncFrameRx (frame crc)) s = .next (s.after (crcFail s.dev))) ∧
         (k = 0 ∨ 6 < k → exec (.syncFrameRx (frame (crc16 body))) s = .next (s.after (incSat .SYNC_BAD_FRAME 0 s.dev))) ∧
         (k = 1 → ringMaster s.dev = false → exec (.syncFrameRx (frame (crc16 body))) s =
           .next (s.after (sent ((arg + 1) % 256) (sf .SYNC_STATUS 0 SYNC_STATUS.NODE arg s.dev)))) ∧
         (k = 1 → ringMaster s.dev = true → src = 0 → arg ≤ 8 →
           exec (.syncFrameRx (frame (crc16 body))) s = .next (s.after (ringComesUp arg s.dev))) ∧
         (k = 1 → ringMaster s.dev = true → src ≠ 0 ∨ 8 < arg →
           exec (.syncFrameRx (frame (crc16 body))) s = .next (s.after (occur Src.SYNC_RING_FAULT src arg 0 s.dev))) ∧
         (2 ≤ k → k ≤ 6 → src = ownNode s.dev → exec (.syncFrameRx (frame (crc16 body))) s = .next (s.after s.dev)) ∧
         (src ≠ ownNode s.dev →
           (k = 2 → exec (.syncFrameRx (frame (crc16 body))) s = .next (s.after (armWith arg d))) ∧
           (k = 3 → exec (.syncFrameRx (frame (crc16 body))) s = .next (s.after (disarm d))) ∧
           (k = 4 →
             let e := sync (fun s => { s with lastFire := mset src (seq + 1) s.lastFire }) d
             (mget d.sync.lastFire src = seq + 1 → exec (.syncFrameRx (frame (crc16 body))) s = .next (s.after d)) ∧
             (mget d.sync.lastFire src ≠ seq + 1 → ringArmed d = false → d.sync.collected = [] →
               exec (.syncFrameRx (frame (crc16 body))) s = .next (s.after (incSat .SYNC_FIRE_IGNORED 0 e))) ∧
             (mget d.sync.lastFire src ≠ seq + 1 → ringArmed d = true ∨ d.sync.collected ≠ [] →
               exec (.syncFrameRx (frame (crc16 body))) s = .next (s.after (collectFire ⟨src, seq, sx 64 (leNat pos)⟩ e)))) ∧
           (k = 5 → ringMaster d = true → exec (.syncFrameRx (frame (crc16 body))) s = .next (s.after d)) ∧
           (k = 5 → ringMaster d = false →
             exec (.syncFrameRx (frame (crc16 body))) s = .next (s.after (posFrame hops (sx 64 (leNat pos)) (ringComesUp arg d)))) ∧
           (k = 6 → exec (.syncFrameRx (frame (crc16 body))) s = .next (s.after (occur Src.RING_EVENT src (leNat (pos.take 2)) 0 d))))))) ∧
  (∀ (s : State), domUp s.dev dFABRIC = true →
     (let sends := rb s.dev .SYNC_CFG 0 SYNC_CFG.ENABLE && ringMaster s.dev
      (sends = true → ringUp s.dev = false → exec .syncEnumTimer s = .next (s.after (sendFrame 1 1 0 s.dev))) ∧
      (sends = false ∨ ringUp s.dev = true → exec .syncEnumTimer s = .next (s.after s.dev)) ∧
      (sends = true → ringUp s.dev = true → exec .syncPosTimer s =
        .next (s.after (sendFrame 5 (rf s.dev .SYNC_STATUS 0 SYNC_STATUS.SIZE) (trackPos s.dev) s.dev))) ∧
      (sends = false ∨ ringUp s.dev = false → exec .syncPosTimer s = .next (s.after s.dev))) ∧
     (let before (a b : Fire) : Bool := decide (a.pos < b.pos) || (a.pos == b.pos && decide (a.src ≤ b.src))
      let sorted := s.dev.sync.collected.foldl
        (fun l f => l.takeWhile (fun x => before x f) ++ [f] ++ l.dropWhile (fun x => before x f)) []
      exec .syncFireApply s = .next (s.after ((if bitOf (ringRule s.dev) 0 then sorted.take 1 else sorted).foldl
        (fun d f => applyFire f d) (sync (fun s => { s with collected := [] }) s.dev)))) ∧
     exec .syncRxLos s = .next (s.after (ringDown s.dev)) ∧
     (ringMaster s.dev = false → exec .syncPosTimeout s = .next (s.after (ringDown s.dev))) ∧
     (ringMaster s.dev = true → exec .syncPosTimeout s = .next (s.after s.dev)))

/-! ### What happens in the units -/

/-- The end of a calibration run, while REGUL runs. CAL_DECISION of a run whose sets are complete: with no value tested it ends with
result 2; with a tested one that disagrees it ends with result 1 and its flags are written into the record in force and into one that
waits; else its values are accepted for the next hand-over (of a tile run with the anchors invalidated) and it ends with result 0.
CAL_TIMEOUT of a run that is not complete ends it with 3; a holdoff that ends is shown; a tile that has settled, its axis HOLDING with no
move, lets set A start. Otherwise none of these does anything. -/
def Obligations.CalibrationRun : Prop :=
  ∀ s : State, domUp s.dev dREGUL = true →
    (∀ run i, s.dev.cal.run = some run → activeImage s.dev = some i → runFull run = true →
      let l := (calKeys s.dev i run).map (calFind s.dev run (fun q => !hasDark s.dev i run q))
      let d := { s.dev with fresh := s.dev.fresh + 2 ^ 23 }
      let tile := run.kind == 0x10
      (l.any (·.tested) = false → exec .calDecision s = .next (s.after (calEnd run 2 (calCount false tile l) stOK true d))) ∧
      (l.any (fun x => x.tested && !x.agrees) = true →
        let b := bankAddr 11 (bankIn d 11) 0
        let m := l.foldl (fun m x => putLe m (b + (if 2 ^ 20 ≤ x.key then offSrcFlags (x.key - 2 ^ 20) else offFlags x.key)) 1
          (calFlags false tile x)) d.tables
        exec .calDecision s = .next (s.after (calEnd run 1 (calCount false tile l) stOK true
          (cal (fun c => { c with next := c.next.map (calWrite i run false l) }) { d with tables := m })))) ∧
      (l.any (·.tested) = true → l.any (fun x => x.tested && !x.agrees) = false →
        let n := calCount true tile l
        let m := putLe (putLe (calWrite i run true l (calBase d)) 8 4 run.num) 16 8 d.now
        let m := run.segs.foldl (fun m s => if boundSerial d s.seg = 0 then m else putLe m (offSerial s.seg) 8 (boundSerial d s.seg)) m
        let shade := if tile then l.filterMap (fun x => x.value.map (fun v => (x.key, v.toNat))) else []
        let e := cal (fun c => { c with pend := some ⟨run, n.applied, shade⟩ }) (calAccept m d)
        exec .calDecision s = .next (s.after (calEnd run 0 n stOK true
          (if tile then run.segs.foldl (fun d s => occur Src.ANCHOR_INVALIDATED s.seg 0 0 d) e else e))))) ∧
    ((∀ run i, s.dev.cal.run = some run → activeImage s.dev = some i → runFull run = false) →
      exec .calDecision s = .next (s.after s.dev)) ∧
    (∀ run, s.dev.cal.run = some run → runFull run = false → exec .calTimeout s = .next (s.after (calEnd run 3 noCount stTIMEOUT true s.dev))) ∧
    ((∀ run, s.dev.cal.run = some run → runFull run = true) → exec .calTimeout s = .next (s.after s.dev)) ∧
    (∀ k, k < 48 → exec (.calHoldoffExpiry k) s = .next (s.after (sf .CAL_SEG_STATUS k CAL_SEG_STATUS.HELD_OFF 0 s.dev))) ∧
    (let a := rf s.dev .CAL_TILE_CFG 0 CAL_TILE_CFG.AXIS
     let settled (run : CalRun) : Prop := run.tile = 1 ∧ axState s.dev a = axHOLDING ∧ (axis s.dev a).queue = []
     (∀ run, s.dev.cal.run = some run → settled run →
       exec .tileSettleDone s = .next (s.after (cal (fun c => { c with run := some { run with tile := 0, first := 0 } }) s.dev))) ∧
     ((∀ run, s.dev.cal.run = some run → ¬ settled run) → exec .tileSettleDone s = .next (s.after s.dev)))

/-- The level of the queues. It is shown, while FABRIC runs; at ON and above spilling starts, at OFF and below it stops, each with its
event, and between them it stays as it is; then at LOW and below pacing is released, a pair's copy goes a step on where RP runs, and spill
writes start. While FABRIC does not run nothing happens. Spilling and what comes back, while RP runs. A write of a write unit that
completed enters its blocks into the index of its unit's members, leaves the parcel held by them and no longer resident, and a SPILL
record is staged or waits; a failed one is counted at the members and its parcel waits again. A parcel that is read back is there, with
DATA_ERR and its new CHECK where no copy was good; one that no copy gives is counted and lost. Where there is no such write, or no such
parcel within its limits, nothing happens. -/
def Obligations.QueueAndSpill : Prop :=
  (∀ s : State,
     (domUp s.dev dFABRIC = true →
       let v := levelOf s.dev
       let d := sf .QUE_LEVEL 0 QUE_LEVEL.LEVEL v (showSpace s.dev)
       let act := rb d .QUE_SPILL_STATUS 0 QUE_SPILL_STATUS.ACTIVE
       let paced (e : Dev) := if v ≤ rf e .QUE_PACE_CFG 0 QUE_PACE_CFG.LOW then paceRelease e else e
       let out (e : Dev) := s.after (spillStart (if domUp (paced e) dRP then rebuildStep (paced e) else paced e))
       (act = false → rf d .QUE_SPILL_CFG 0 QUE_SPILL_CFG.ON ≤ v → exec .queueLevelUpdate s =
         .next (out (occur Src.SPILL_ON v 0 0 (sf .QUE_SPILL_STATUS 0 QUE_SPILL_STATUS.ACTIVE 1 (que (fun q => { q with full := false }) d))))) ∧
       (act = false → v < rf d .QUE_SPILL_CFG 0 QUE_SPILL_CFG.ON → exec .queueLevelUpdate s = .next (out d)) ∧
       (act = true → v ≤ rf d .QUE_SPILL_CFG 0 QUE_SPILL_CFG.OFF → exec .queueLevelUpdate s =
         .next (out (occur Src.SPILL_OFF v 0 0 (sf .QUE_SPILL_STATUS 0 QUE_SPILL_STATUS.ACTIVE 0 d)))) ∧
       (act = true → rf d .QUE_SPILL_CFG 0 QUE_SPILL_CFG.OFF < v → exec .queueLevelUpdate s = .next (out d))) ∧
     (domUp s.dev dFABRIC = false → exec .queueLevelUpdate s = .next (s.after s.dev))) ∧
  (∀ s : State, domUp s.dev dRP = true →
     (∀ u, u < 4 →
       let writes (p : Parcel) : Prop := s.dev.strm.parcels.find? (fun p => p.spilling == u + 1) = some p ∧ (writeUnits s.dev).contains u = true
       (∀ p, writes p →
         (let mask := (unitPorts s.dev u).foldl (fun m k => if rpState s.dev k = rpMember then putBit m k true else m) 0
          let l := placeBlocks s.dev u p
          let d := onParcel p.ctx p.num (fun p => { p with spilling := 0, unit := u + 1, held := mask, resident := false })
            ((unitPorts s.dev u).foldl
              (fun d k => onDrive k (fun x => if bitOf mask k then putEntries l x else { x with stale := true }) d) s.dev)
          exec (.spillWriteDone u true) s = .next (s.after (spillStart (showCtx p.ctx (showDrives
            (stageOrWait kSPILL (pairBytes p.ctx (heldThrough d p.ctx)) d)))))) ∧
         exec (.spillWriteDone u false) s = .next (s.after (spillStart (onParcel p.ctx p.num (fun p => { p with spilling := 0 })
           ((unitPorts s.dev u).foldl (fun d k => if rpState d k = rpMember then incSat .RP_PORT_WRITE_ERR k d else d) s.dev))))) ∧
       ((∀ p, ¬ writes p) → ∀ ok, exec (.spillWriteDone u ok) s = .next (s.after s.dev))) ∧
     (∀ c, c < 2048 →
       let returns (p : Parcel) : Prop := ∃ f, lowest s.dev c (fun p => !p.host) = some f ∧
         lowest s.dev c (fun p => heldBy s.dev p && !p.resident && !p.back && !p.host) = some p ∧
         p.num < f.num + 64 ∧ returnUsed s.dev + p.size ≤ 4294967296
       (∀ p, returns p →
         exec (.restanteReturnDone c true none) s =
           .next (s.after (showCtx c (onParcel c p.num (fun p => { p with back := true, ret := [] }) s.dev))) ∧
         (∀ read, exec (.restanteReturnDone c true (some read)) s = .next (s.after (showCtx c (onParcel c p.num (fun q => { q with
           back := true, ret := dataErr (if read.isEmpty then p.data else read) }) s.dev)))) ∧
         (∀ failed, exec (.restanteReturnDone c false failed) s = .next (s.after (loseParcels (fun q => q.ctx == c && q.num == p.num) 3
           ((bitsOf p.held 4).foldl (fun d k => incSat .RP_PORT_READ_ERR k d) s.dev))))) ∧
       ((∀ p, ¬ returns p) → ∀ r failed, exec (.restanteReturnDone c r failed) s = .next (s.after s.dev))))

/-- A drive port that the root port runs, from presence on. ABSENT, a drive that is present is powered and TRAINING; the link, with the
port's PERST high, is shown within the port's lanes, BARs are assigned and the port is in INIT; without a link in 1 s it fails with cause
3. Initialisation with a BAR above 16 GiB leaves it UNSUITABLE with cause 2, with no namespace to take with cause 1; else with an index
that is not this device's it is FOREIGN, with its own it is MEMBER, and with its own unreadable it leaves MEMBER with cause 7. In another
state none of these does anything, and on a port that does not run none does. What befalls a drive port that the root port runs, while RP
runs. Of a MEMBER, an uncorrectable error is logged as cause 8; a command timeout is counted and, like a fatal status, is over where a
reset restored the controller; else the drive fails with cause 4 or 5 and leaves its unit. A drive that is removed leaves its port ABSENT
and unpowered, cause 6, and a MEMBER leaves its unit. A whole pair that was REBUILDING holds the same blocks on both and is neither
DEGRADED nor REBUILDING. The settled scan, or 5 s, completes the DRIVE_SCAN that waits with its four masks. In every other case none of
these does anything. -/
def Obligations.DriveEvents : Prop :=
  (∀ (s : State) (p : Nat), p < 4 →
     (rpRuns s.dev p = true →
       (rpState s.dev p = 0 → exec (.drivePresent p) s = .next (s.after (que (fun q => { q with pwr := putBit q.pwr p true })
         (setPort p RP_PORT_STATUS.CAUSE 0 (setPort p RP_PORT_STATUS.PRESENT 1 (setPort p RP_PORT_STATUS.STATE 1 s.dev)))))) ∧
       (rpState s.dev p ≠ 0 → exec (.drivePresent p) s = .next (s.after s.dev)) ∧
       (rpState s.dev p = 1 →
         (∀ r w, bitOf s.dev.que.perst p = true →
           let n := min w (rpLanes s.dev p)
           exec (.driveLinkUp p r w) s = .next (s.after
             (onDrive p (fun x => { x with code := r, width := n, bar := 0x1000000000 + p * 0x400000000 })
               (setPort p RP_PORT_STATUS.STATE 2 (setPort p RP_PORT_STATUS.RATE r (setPort p RP_PORT_STATUS.WIDTH n s.dev)))))) ∧
         exec (.driveTrainTimeout p) s = .next (s.after (driveFail p 3 s.dev))) ∧
       (rpState s.dev p ≠ 1 ∨ bitOf s.dev.que.perst p = false → ∀ r w, exec (.driveLinkUp p r w) s = .next (s.after s.dev)) ∧
       (rpState s.dev p ≠ 1 → exec (.driveTrainTimeout p) s = .next (s.after s.dev)) ∧
       (∀ nss bars index, index < 3 →
         let bad := bars.any (fun b => decide (2 ^ 34 < b))
         let unsuitable (cause : Nat) := setPort p RP_PORT_STATUS.STATE 3 (setPort p RP_PORT_STATUS.CAUSE cause (driveSwapped p s.dev))
         (rpState s.dev p = 2 → bad = true → exec (.driveInitDone p nss (bars, index)) s = .next (s.after (unsuitable 2))) ∧
         (rpState s.dev p = 2 → bad = false → nsChoice nss = none → exec (.driveInitDone p nss (bars, index)) s = .next (s.after (unsuitable 1))) ∧
         (∀ x, rpState s.dev p = 2 → bad = false → nsChoice nss = some x →
           let d := onDrive p (fun y => { y with nsid := x.getD 0 0, cap := nsCap (x.getD 3 0) }) s.dev
           (index = 0 → exec (.driveInitDone p nss (bars, index)) s = .next (s.after (occur Src.DRIVE_FOREIGN p 0 0
             (wn .RP_PORT_CAP p (drive (driveSwapped p d) p).cap (setPort p RP_PORT_STATUS.STATE 4 (driveSwapped p d)))))) ∧
           (index = 1 → exec (.driveInitDone p nss (bars, index)) s = .next (s.after (enterMember p d))) ∧
           (index = 2 → exec (.driveInitDone p nss (bars, index)) s = .next (s.after (leaveMember p 2 (driveFail p 7 (enterMember p d)))))) ∧
         (rpState s.dev p ≠ 2 → exec (.driveInitDone p nss (bars, index)) s = .next (s.after s.dev)))) ∧
     (rpRuns s.dev p = false → ∀ r w nss bars index, index < 3 →
       ∀ c ∈ [Instr.drivePresent p, .driveLinkUp p r w, .driveTrainTimeout p, .driveInitDone p nss (bars, index)],
         exec c s = .next (s.after s.dev))) ∧
  (∀ (s : State) (p : Nat), p < 4 → domUp s.dev dRP = true →
     (let may := rpRuns s.dev p = true ∧ rpState s.dev p = rpMember
      (may → ∀ b, exec (.driveCmdTimeout p 2 b) s = .next (s.after (setPort p RP_PORT_STATUS.CAUSE 8 s.dev))) ∧
      (may → exec (.driveCmdTimeout p 0 true) s = .next (s.after (incSat .RP_PORT_TIMEOUTS p s.dev))) ∧
      (may → exec (.driveCmdTimeout p 1 true) s = .next (s.after s.dev)) ∧
      (may → exec (.driveCmdTimeout p 0 false) s = .next (s.after (leaveMember p 2 (driveFail p 4 (incSat .RP_PORT_TIMEOUTS p s.dev))))) ∧
      (may → exec (.driveCmdTimeout p 1 false) s = .next (s.after (leaveMember p 2 (driveFail p 5 s.dev)))) ∧
      (¬ may → ∀ w b, w < 3 → exec (.driveCmdTimeout p w b) s = .next (s.after s.dev))) ∧
     (∀ b,
       let d := occur Src.DRIVE_REMOVED p 0 0 (onDrive p (fun x => { x with bar := 0 })
         (que (fun q => { q with pwr := putBit q.pwr p false, perst := putBit q.perst p false, pulse := putBit q.pulse p false })
           (setPort p RP_PORT_STATUS.STATE 0 (setPort p RP_PORT_STATUS.CAUSE 6 (setPort p RP_PORT_STATUS.PRESENT (b2n b)
             (setPort p RP_PORT_STATUS.RATE 0 (setPort p RP_PORT_STATUS.WIDTH 0 s.dev)))))))
       (rpRuns s.dev p = true → rpState s.dev p = rpMember → exec (.driveRemoved p b) s = .next (s.after (leaveMember p 1 d))) ∧
       (rpRuns s.dev p = true → rpState s.dev p ≠ 0 → rpState s.dev p ≠ rpMember → exec (.driveRemoved p b) s = .next (s.after d)) ∧
       (rpRuns s.dev p = false ∨ rpState s.dev p = 0 → exec (.driveRemoved p b) s = .next (s.after s.dev))) ∧
     (let lo := p / 2 * 2
      let may := paired s.dev lo = true ∧ pairWhole s.dev lo = true ∧
        (rb s.dev .RP_PORT_STATUS lo RP_PORT_STATUS.REBUILDING = true ∨ rb s.dev .RP_PORT_STATUS (lo + 1) RP_PORT_STATUS.REBUILDING = true)
      (may →
        let l := unitIndex s.dev lo
        let d := [lo, lo + 1].foldl (fun d k => onDrive k (fun x => { x with index := l, stale := false })
          (setPort k RP_PORT_STATUS.REBUILDING 0 (setPort k RP_PORT_STATUS.DEGRADED 0 d))) s.dev
        exec (.mirrorRebuildDone p) s = .next (s.after (occur Src.MIRROR_REBUILT ((lo / 2 : Nat) : Int) 0 0 (setRebuild (lo / 2) 0
          (strm (fun s => { s with parcels := s.parcels.map (fun q =>
            if q.unit = lo + 1 then { q with held := putBit (putBit q.held lo true) (lo + 1) true } else q) }) d))))) ∧
      (¬ may → exec (.mirrorRebuildDone p) s = .next (s.after s.dev))) ∧
     (∀ timeout,
       let settled := timeout = true ∨ ∀ k, k < 4 → rpSettled s.dev k = true
       let scan := s.dev.post.cmds.find? (fun c => c.op == 0x90 && c.started)
       (∀ c, settled → scan = some c →
         exec (.driveScanSettled timeout) s = .next (s.after (completeOk c
           (leBytes 1 (portMask s.dev (fun p => rb s.dev .RP_PORT_STATUS p RP_PORT_STATUS.PRESENT)) ++
            leBytes 1 (portMask s.dev (fun p => rpState s.dev p == 5)) ++ leBytes 1 (portMask s.dev (fun p => rpState s.dev p == 4)) ++
            leBytes 1 (portMask s.dev (fun p => rpState s.dev p == 3 || rpState s.dev p == 6))) s.dev))) ∧
       (¬ settled ∨ scan = none → exec (.driveScanSettled timeout) s = .next (s.after s.dev))))

/-- A DMA channel's descriptor, while DMA runs. An IDLE or ACTIVE channel with no descriptor in progress and one to fetch (one to re-issue
first) is ACTIVE with that address shown. A failed fetch records DMA_BAD with cause 8 and halts the channel; a slot to re-issue that is
neither ready nor bad and not yet re-issued is passed over; a descriptor that passes its checks is in progress, its check sum started or
carried on, and its data is moved; one that does not is bad with the cause found. Its end writes the rest and DONE back, with the event
where it asks for it, or, at an index entry that ends it, makes it bad with cause 7; a read error makes it bad with its cause after what
was read. The timer credits a channel that it paces; a PAUSING channel writes the whole elements read and is PAUSED with its event. In
every other case none of these does anything. -/
def Obligations.DmaDescriptor : Prop :=
  ∀ (s : State) (c : Nat), c < 64 → domUp s.dev dDMA = true →
    let x := chan s.dev c
    let st := chState s.dev c
    let free := (st = chIDLE ∨ st = chACTIVE) ∧ x.desc = [] ∧ (x.again ≠ [] ∨ chWork s.dev c = true)
    (∀ desc idx src,
      let re := x.again.head?
      let addr := re.getD (headAddr s.dev c)
      let d := onChan c (fun x => { x with again := x.again.drop 1, addr := addr, reissue := re.isSome, wrote := 0, paid := 0 })
        (wn .DMA_CH_CUR_DESC c addr (wn .DMA_CH_DONE_BYTES c 0 (setCh c chACTIVE s.dev)))
      let got := if rb d .DMA_CH_RING_BASE c DMA_CH_RING_BASE.SPACE then Fetch.ok (Mem.readBytes d.hbm addr 64) else desc
      (∀ k, free → got = .failed k →
        exec (.dmaDescriptorStart c desc idx src) s = .next (s.after (occur Src.DMA_HALT c addr 8
          (sf .DMA_CH_STATUS c DMA_CH_STATUS.HALT_CAUSE 8 (setCh c chHALTED (onChan c (fun x => { x with reissue := false })
            (stageOrWait kDMA_BAD (leBytes 1 c ++ leBytes 1 8 ++ zeros 6 ++ leBytes 8 addr) d))))))) ∧
      (∀ b, free → got = .ok b →
        let slot := leAt b 60 1
        let over_ := re.isSome && !(slot == 0 || (slot == 2 && !bitOf (leAt b 62 1) 0))
        let last := (chan d c).lastCrc
        let v := if dCont b && last = dCrc b + 1 then rn d .DMA_CH_CRC c else crcInit (dCrc b)
        let e := wn .DMA_CH_CRC c v (onChan c (fun x => { x with desc := b, idx := idx, src := src, crc0 := v }) d)
        let cause := descCheck e b (if re.isSome then 0 else slot) last
        (over_ = true →
          let f := onChan c (fun x => { x with reissue := false }) d
          exec (.dmaDescriptorStart c desc idx src) s =
            .next (s.after (setCh c (if chWork f c || !(chan f c).again.isEmpty then chACTIVE else chIDLE) f))) ∧
        (over_ = false → cause = 0 → exec (.dmaDescriptorStart c desc idx src) s = .next (s.after (consume c e))) ∧
        (over_ = false → cause ≠ 0 → exec (.dmaDescriptorStart c desc idx src) s = .next (s.after (descBad c addr cause e)))) ∧
      (¬ free → exec (.dmaDescriptorStart c desc idx src) s = .next (s.after s.dev))) ∧
    (let ends := x.desc ≠ [] ∧ (st = chACTIVE ∨ st = chPAUSING) ∧ (groupsOf x.desc ≤ x.paid ∨ faultDue s.dev x = true)
     (ends → idxFault s.dev x = none →
       let d := streamWrite c (dLen x.desc) s.dev
       let d := writeBack c x.addr (crcFinal (dCrc x.desc) (rn d .DMA_CH_CRC c)) (dLen x.desc) 1 0 x.reissue d
       exec (.dmaDescriptorDone c) s =
         .next (s.after (descOver c false (if dIrq x.desc then occur Src.DMA_DONE c x.addr 0 d else d)))) ∧
     (∀ f, ends → idxFault s.dev x = some f →
       exec (.dmaDescriptorDone c) s = .next (s.after (descBad c x.addr 7 (streamWrite c f s.dev)))) ∧
     (¬ ends → exec (.dmaDescriptorDone c) s = .next (s.after s.dev))) ∧
    (∀ cause got,
      let reads := x.desc ≠ [] ∧ (st = chACTIVE ∨ st = chWAIT ∨ st = chPAUSING)
      (reads → exec (.dmaReadError c cause got) s =
        .next (s.after (descBad c x.addr cause (streamWrite c (min got (writable s.dev x)) s.dev)))) ∧
      (¬ reads → exec (.dmaReadError c cause got) s = .next (s.after s.dev))) ∧
    (rf s.dev .DMA_CH_CFG c DMA_CH_CFG.CREDIT_SRC = 2 → exec (.dmaTimerCredit c) s = .next (s.after (addCredit c s.dev))) ∧
    (rf s.dev .DMA_CH_CFG c DMA_CH_CFG.CREDIT_SRC ≠ 2 → exec (.dmaTimerCredit c) s = .next (s.after s.dev)) ∧
    (∀ n,
      let unit := max (dSrcW x.desc) (dDstW x.desc)
      let d := if x.desc.isEmpty then s.dev else streamWrite c (min n (writable s.dev x) / unit * unit) s.dev
      (st = chPAUSING → exec (.dmaPaused c n) s =
        .next (s.after (occur Src.DMA_PAUSED c (rn d .DMA_CH_CUR_DESC c) 0 (setCh c chPAUSED d)))) ∧
      (st ≠ chPAUSING → exec (.dmaPaused c n) s = .next (s.after s.dev)))

/-- What befalls an axis. A servo tick takes the written axis registers over, where REMON runs, and runs the eight axes in order. While
the axis's die runs: overcurrent, counted, takes it to FAULT with cause 1 and a bridge fault, shown, with cause 2, but neither out of
DISABLED or FAULT; the levels of both limits are taken and shown; a step update moves the position toward the set-point, counts the steps
of a head that is the track's source, switches the microstep level where the target differs and its point is passed, shows the angle and
ends each full step. While REMON runs the brake delay ends ENABLING in HOLDING with the brake released and DISABLING in DISABLED with the
bridge off; after the hold delay an axis that holds still is held. In every other case none of these does anything. -/
def Obligations.AxisEvents : Prop :=
  ∀ (s : State) (a : Nat), a < 8 →
    exec .servoTick s = .next (s.after ((List.range 8).foldl (fun d a => servoAxis a d) (if domUp s.dev dREMON then axLatch s.dev else s.dev))) ∧
    (domUp s.dev (dDIG (a / 2)) = true →
      (axState s.dev a ≠ axDISABLED → axState s.dev a ≠ axFAULT →
        exec (.axOvercurrent a) s = .next (s.after (axFaultWith a 1 (incSat .AX_OVERCURRENT a s.dev)))) ∧
      (axState s.dev a = axDISABLED ∨ axState s.dev a = axFAULT → exec (.axOvercurrent a) s = .next (s.after s.dev)) ∧
      (let d := sf .AXH_STATUS a AXH_STATUS.FAULT_IN 1 s.dev
       (axState d a ≠ axDISABLED → axState d a ≠ axFAULT → exec (.axBridgeFault a) s = .next (s.after (axFaultWith a 2 d))) ∧
       (axState d a = axDISABLED ∨ axState d a = axFAULT → exec (.axBridgeFault a) s = .next (s.after d))) ∧
      (∀ n p, exec (.limitSample a n p) s = .next (s.after (showAxis a (limOne a false p (limOne a true n s.dev))))) ∧
      (let x := axis s.dev a
       let p := if 250 ≤ x.upd then x.next.p else fdiv (x.cur.p * 250 + (x.next.p - x.cur.p) * x.upd) 250
       let d0 := onAxis a (fun x => { x with pos := p, upd := min 250 (x.upd + 1) }) s.dev
       let d1 := if d0.esc.srcKind = 1 && d0.esc.srcNum = a && islandUp d0 then
         Nat.repeat (sourceCount (decide (ust x.pos < ust p))) (ust p - ust x.pos).natAbs d0 else d0
       let lv := rf d1 .AX_STATUS a AX_STATUS.LEVEL
       let tg := targetLevel d1 a x.cur.v
       let d2 := if tg ≠ lv && switchPassed (max tg lv) (ust x.pos) (ust p) then sf .AX_STATUS a AX_STATUS.LEVEL tg d1 else d1
       let d3 := sf .AXH_ANGLE a AXH_ANGLE.THETA (angleAt (rf d2 .AX_STATUS a AX_STATUS.LEVEL) (ust p)) d2
       exec (.stepUpdate a) s = .next (s.after (showAxis a (if ust x.pos / 256 ≠ ust p / 256 then fullStep a d3 else d3))))) ∧
    (domUp s.dev (dDIG (a / 2)) = false → ∀ n p, ∀ c ∈ [Instr.axOvercurrent a, .axBridgeFault a, .limitSample a n p, .stepUpdate a],
      exec c s = .next (s.after s.dev)) ∧
    (domUp s.dev dREMON = true → axState s.dev a = axENABLING →
      exec (.axBrakeDelay a) s = .next (s.after (sf .AXH_STATUS a AXH_STATUS.BRAKE 1 (setAxState a axHOLDING s.dev)))) ∧
    (domUp s.dev dREMON = true → axState s.dev a = axDISABLING →
      exec (.axBrakeDelay a) s = .next (s.after (sf .AXH_STATUS a AXH_STATUS.DRIVE 0 (setAxState a axDISABLED s.dev)))) ∧
    (domUp s.dev dREMON = false ∨ (axState s.dev a ≠ axENABLING ∧ axState s.dev a ≠ axDISABLING) →
      exec (.axBrakeDelay a) s = .next (s.after s.dev)) ∧
    (axState s.dev a = axHOLDING → (axis s.dev a).comp.v = 0 →
      exec (.axHoldDelay a) s = .next (s.after (onAxis a (fun x => { x with held := true }) s.dev))) ∧
    (axState s.dev a ≠ axHOLDING ∨ (axis s.dev a).comp.v ≠ 0 → exec (.axHoldDelay a) s = .next (s.after s.dev))

/-! ### Power, reset and integrity -/

/-- A reset source that asserts sets its bit of RST_CAUSE (POWER_ON alone writes 0x1 and clears the counters; PCIE_FLR also clears Bus
Master Enable and the MSI-X table). A source that is asserted already stays so. Else, while no release runs, it joins the reset with the
reach its rule and the reset table give; while one runs, a longer reach isolates what was released and joins, a source whose domains are
all still to be released counts as part of it, and any other waits. This holds for every command that asserts a source. THERMAL does so
only when a sensor is at the trip and POWER_FAIL_DEASSERT only after a power fail; RESET_ASSERT of SOFTWARE asserts it with reach WARM
only for a restart that an FW_ACTIVATE asked for, its completion being written. -/
def Obligations.ResetSources : Prop :=
  ∀ (s : State),
    let marks (k : Nat) (b : Dev) : Dev :=
      let d := if k = 0 then wn .RST_CAUSE 0 1 (wn .RST_COUNT_BLOCK 0 0 (wn .RST_COUNT_DIE 0 0 (wn .RST_COUNT_PATH 0 0 (wn .RST_COUNT_WARM 0 0
          (wn .RST_ISOLATIONS 0 0 b)))))
        else mark .RST_CAUSE k 1 (wn .RST_CAUSE 0 (putBit (rn b .RST_CAUSE 0) k true) b)
      if k = 28 then { d with
        post := { d.post with busMaster := false, msixEnable := false }
        wins := d.wins.filter (fun x => x.1 / 2 ^ 32 ≠ Win.msixTable.ctorIdx && x.1 / 2 ^ 32 ≠ Win.msixPba.ctorIdx) } else d
    let asserts (k : Nat) (c : Instr) (b : Dev) : Prop :=
      let d := marks k b
      let a : Asserted := ⟨k, effReach b k 0, reachSet (effReach b k 0) (srcDefault k).2, 0, false⟩
      let known := d.rst.now_.any (fun x => x.src == k) || d.rst.later.any (fun x => x.src == k)
      (known = true → exec c s = .next (s.after (rst (fun r => { r with
        later := r.later.map (fun x => if x.src = k then { x with gone := false } else x) }) d))) ∧
      (known = false → releasing d = false → exec c s = .next (s.after (joinReset s.fuses a d))) ∧
      (known = false → releasing d = true → d.rst.reach < a.reach → exec c s = .next (s.after (joinReset s.fuses a
        (sf .RST_STATUS 0 RST_STATUS.RELEASING 0 (isolate (d.rst.doms.lor a.doms) (rst (fun r => { r with left := [] }) d)))))) ∧
      (known = false → releasing d = true → a.reach ≤ d.rst.reach → a.doms.land (domMask d.rst.left) = a.doms →
        exec c s = .next (s.after (endPulses s.fuses (rst (fun r => { r with now_ := r.now_ ++ [a] }) d)))) ∧
      (known = false → releasing d = true → a.reach ≤ d.rst.reach → a.doms.land (domMask d.rst.left) ≠ a.doms →
        exec c s = .next (s.after (rst (fun r => { r with later := r.later ++ [a] }) d)))
    asserts 0 (.supplyOutOfRange 24) s.dev ∧ (∀ n, n < 24 → asserts (1 + n) (.supplyOutOfRange n) s.dev) ∧
    asserts 25 .resetNLow s.dev ∧ asserts 26 .pciePerst s.dev ∧ asserts 27 .pcieHotReset s.dev ∧ asserts 28 .pcieFlr s.dev ∧
    (∀ n, n < 5 → asserts (29 + n) (.watchdogExpiry n) s.dev) ∧ (∀ n, n < 7 → asserts (35 + n) (.clockLoss n) s.dev) ∧
    (tooHot s.dev = true → asserts 42 .thermal s.dev) ∧ (tooHot s.dev = false → exec .thermal s = .next (s.after s.dev)) ∧
    (∀ n, n < 51 → n ≠ 34 → asserts n (.resetAssert n) s.dev) ∧
    (let restarts := s.dev.sec.restart = true ∧ s.dev.post.formed.any (fun c => c.op == 0xA1) = false
     (restarts → exec (.resetAssert 34) s = .next (s.after (assertSource s.fuses 34 4 none
       (sec (fun s => { s with restart := false }) (rst (fun r => { r with cmd := 0 }) s.dev))))) ∧
     (¬ restarts → exec (.resetAssert 34) s = .next (s.after s.dev))) ∧
    (s.dev.rst.fail = true → asserts 50 .powerFailDeassert (rst (fun r => { r with fail := false }) s.dev)) ∧
    (s.dev.rst.fail = false → exec .powerFailDeassert s = .next (s.after s.dev))

/-- The course of a reset. A domain that was asked to be idle and is, or after the time limit every domain still asked, each counted with
BLOCK_ISOLATED, is isolated, and sources that lasted till then end. A source that is no pulse and deasserts contributes no more, and one
that waits is gone when its turn comes; then a release may begin. The Winder's step, once its next domain may be released, at a start
first reads the option record (`beforeFrank`); a processor whose firmware copy is bad, with FRANK running, asserts FRANK_VIOLATION; a
domain that is left off is passed over; any other is powered, released and shown, with its step. A power-good that does not come leaves
the domain off with its event, its die's other domain off with it, and goes on. In every other case none of these does anything. Every
output whose owning domain does not run is in the state R387 gives it: sensor clock outputs, event outputs and I3C off, SPWR_EN, bridge
inputs, AX_EN, AX_BRAKE, indicators, RP_PWR_EN and RP_PERST_N low, RATIO_OUT clamped, excitation, bridge voltage and guards off, RP_REFCLK
stopped, SYNC_TX idle; and the two inputs of a bridge are never both high. -/
def Obligations.ResetCourse : Prop :=
  (∀ s : State,
     (∀ n, n < 24 →
       (bitOf s.dev.rst.quiet n = true → exec (.domainIdle n) s = .next (s.after (endPulses s.fuses (isolate (domMask [n]) s.dev)))) ∧
       (bitOf s.dev.rst.quiet n = false → exec (.domainIdle n) s = .next (s.after s.dev))) ∧
     (let q := bitsOf s.dev.rst.quiet 24
      (q ≠ [] → exec .rstIdleTimeout s = .next (s.after (endPulses s.fuses
        (q.foldl (fun d (n : Nat) => occur Src.BLOCK_ISOLATED n 0 0 (incSat .RST_ISOLATIONS 0 d)) (isolate (domMask q) s.dev))))) ∧
      (q = [] → exec .rstIdleTimeout s = .next (s.after s.dev))) ∧
     (∀ k, k < 51 →
       (srcPulse k = false → exec (.resetDeassert k) s = .next (s.after (tryRelease s.fuses (rst (fun r => { r with
         now_ := r.now_.filter (fun a => a.src ≠ k)
         later := r.later.map (fun a => if a.src = k then { a with gone := true } else a) }) s.dev)))) ∧
       (srcPulse k = true → exec (.resetDeassert k) s = .next (s.after s.dev))) ∧
     (∀ rate width, rate ≤ 6 → width ≤ 16 →
       let waits := ∀ m, s.dev.rst.left.head? = some m → mayRelease s.dev m = false
       (waits → exec (.winderReleaseStep rate width) s = .next (s.after s.dev) ∧ exec .domainPowerTimeout s = .next (s.after s.dev)) ∧
       (∀ m, s.dev.rst.left.head? = some m → mayRelease s.dev m = true →
         let d := beforeFrank s.dev
         (d.rst.left = [] → exec (.winderReleaseStep rate width) s = .next (s.after (nextDomain s.fuses d)) ∧
           exec .domainPowerTimeout s = .next (s.after (nextDomain s.fuses d))) ∧
         (∀ n t, d.rst.left = n :: t →
           let bad := loadsFw n && !bitOf d.rst.doms dFRANK && !fwGood d
           let e := rst (fun r => { r with left := t }) d
           (bad = true → exec (.winderReleaseStep rate width) s = .next (s.after (assertSource s.fuses 43 0 none d))) ∧
           (bad = false → leftOff e n = true → exec (.winderReleaseStep rate width) s = .next (s.after (nextDomain s.fuses e))) ∧
           (bad = false → leftOff e n = false →
             exec (.winderReleaseStep rate width) s = .next (s.after (nextDomain s.fuses (domRelease n rate width
               (wn .RST_DOMAIN_RESET 0 (putBit (rn e .RST_DOMAIN_RESET 0) n false)
                 (wn .RST_DOMAIN_POWER 0 (putBit (rn e .RST_DOMAIN_POWER 0) n true) (sf .RST_STATUS 0 RST_STATUS.STEP (stepOf n) e))))))) ∧
           (leftOff d n = true → exec .domainPowerTimeout s = .next (s.after (nextDomain s.fuses e))) ∧
           (leftOff d n = false →
             let other (m : Nat) : Bool := decide (16 ≤ n) && decide (16 ≤ m) && (m - 16) / 2 == (n - 16) / 2
             let off := (List.range 24).filter (fun m => other m && m != n && domUp d m)
             let f := isolate (domMask off) (rst (fun r => { r with left := t.filter (fun m => !other m) }) d)
             exec .domainPowerTimeout s = .next (s.after (nextDomain s.fuses (occur Src.DOMAIN_POWER_FAIL n 0 0
               (wn .RST_DOMAIN_FAILED 0 (putBit (rn f .RST_DOMAIN_FAILED 0) n true) f))))))))) ∧
  (∀ (d : Dev) (n : Nat),
     (∀ a k, ¬ ((bridgePads d a k).1 = .high ∧ (bridgePads d a k).2 = .high)) ∧
     (domUp d (dDIG n) = false →
       (∀ g o t, g / 4 = n → clockPad d g o t = .off) ∧ (∀ p, portDie p = n → spwrPad d p = .low) ∧
       (∀ a, a / 2 = n → (∀ k, bridgePads d a k = (.low, .low)) ∧ axEnPad d a = .low ∧ axBrakePad d a = .low) ∧
       i3cDriven d n = false) ∧
     (domUp d dFABRIC = false →
       (∀ o, evOutPad d o = .off) ∧ (∀ i, indPad d i = .low) ∧ syncTx d = false) ∧
     (domUp d (dANA n) = false →
       (∀ o, o / 4 = n → ratioOut d o = none ∧ guardOut d o = none) ∧ (∀ i, i / 2 = n → excOut d i = 0) ∧ bridgeExc d n = 0) ∧
     (domUp d dRP = false → ∀ p, rpPwrPad d p = .low ∧ rpPerstPad d p = .low ∧ rpRefclk d p = false))

/-- The course of a start. Franking's first verification, while FRANK runs: the time it took is shown; outside Crown mode the first valid
slot runs, its image and digest are kept for the releases that follow and a fallback is reported, and with no valid slot Crown mode is
entered with reason 3 and everything but the first three domains isolated. Boot-complete is reported of a start outside Crown mode whose
hub is up and whose Ledger is rebuilt; one that is not complete in time asserts START_TIMEOUT, with START_FAILED where FABRIC runs.
SVN_BURN raises the fuse to what the running image asks, marks slots with an older image ROLLBACK and reports it; where it asks no more
than the fuse holds nothing changes. In every other case none of these does anything. -/
def Obligations.StartCourse : Prop :=
  ∀ s : State,
    (domUp s.dev dFRANK = true → s.dev.rst.verified = false →
      let r := verifySlots s.fuses.svn s.dev
      let d := wn .SEC_VERIFY_TIME 0 ((r.1.now - r.1.sec.frankAt) / 1000) (rst (fun x => { x with verified := true }) r.1)
      (crown d = true → exec .fwVerified s = .next (s.after (showSec d))) ∧
      (∀ k, crown d = false → r.2.1 = some k →
        let e := sf .SEC_STATUS 0 SEC_STATUS.RUNNING_SLOT k (sf .SEC_STATUS 0 SEC_STATUS.RUNNING 1 d)
        let i := slotImage e k
        exec .fwVerified s = .next (s.after (flushFallback (showSec (sec (fun x => { x with
          fallback := r.2.2, fwCopy := i.drop 5568, fwDigest := (i.drop 24).take 64, fwBad := false }) e))))) ∧
      (crown d = false → r.2.1 = none →
        let e := isolate (domMask ((List.range 21).map (· + 3))) (rst (fun x => { x with left := [], armed := false })
          (sf .RST_STATUS 0 RST_STATUS.CROWN_REASON 3 (sf .RST_STATUS 0 RST_STATUS.CROWN 1 (crownLink d))))
        exec .fwVerified s = .next (s.after (showSec (if releasing e then releaseDone s.fuses e else e))))) ∧
    (domUp s.dev dFRANK = false ∨ s.dev.rst.verified = true → exec .fwVerified s = .next (s.after s.dev)) ∧
    (let starts := s.dev.rst.armed = true ∧ crown s.dev = false
     let rebuilt := if s.dev.post.replayReach = 5 then !replaying s.dev else decide (2 ≤ s.dev.post.replayStep) || !replaying s.dev
     (starts → hubUp s.dev = true → rebuilt = true → exec .bootComplete s = .next (s.after (occur0 Src.BOOT_COMPLETE
       (sf .RST_STATUS 0 RST_STATUS.BOOT_COMPLETE 1 (rst (fun r => { r with armed := false, starts := 0 }) s.dev))))) ∧
     (¬ (starts ∧ hubUp s.dev = true ∧ rebuilt = true) → exec .bootComplete s = .next (s.after s.dev)) ∧
     (starts →
       let d := rst (fun r => { r with armed := false }) s.dev
       exec .startTimeout s =
         .next (s.after (assertSource s.fuses 49 0 none (if domUp d dFABRIC then occur0 Src.START_FAILED d else d)))) ∧
     (¬ starts → exec .startTimeout s = .next (s.after s.dev))) ∧
    (let n := burnSvn s.fuses s.dev
     (n = s.fuses.svn → exec .svnBurn s = .next (s.after s.dev)) ∧
     (n ≠ s.fuses.svn → exec .svnBurn s = .next { s.after (occur Src.SVN_RAISED n 0 0 (showSec ([0, 1].foldl (fun d k =>
        if slotState d k = 1 && decide (fwSvn (slotImage d k) < n) then setSlot k 5 (slotImage d k) d else d) s.dev))) with
          fuses := { s.fuses with svn := n } }))

/-- Replay, while POST runs and it is due. Its scan shows in TORN whether a record ended it early, with LEDGER_TORN and what it did not
reach dropped (`scanEnds`). After COLD the durable counts and numbers are rebuilt from the journal, replay is over and held doorbells are
judged; after a shorter reset the RESET record is staged, the replay is counted, its second part follows and held doorbells are judged.
Where that record has no room nothing happens. The end of a replay, and a power fail. Once POST and EP run, the first part is done and its
record can be staged, Bus Master Enable is 1, kept completions are written again in order, descriptors and commands are issued again,
conversions start again, and REPLAY_DONE is staged with the counts and occurs. A power fail that the option record enables, the first one,
faults the axes of running dies; while POST runs it closes: the Ledger drains, sent parcels reach the host, spill writes in flight end,
and a POWER_CLOSE with the count of records is written. In every other case neither does anything. -/
def Obligations.ReplayAndPowerFail : Prop :=
  (∀ (s : State) (torn : Nat),
     (domUp s.dev dPOST = true → replaying s.dev = true → s.dev.post.replayStep < 2 →
       let n := unread torn s.dev
       let d0 := sf .LEDG_STATUS 0 LEDG_STATUS.TORN (b2n (n != 0)) { s.dev with post := { s.dev.post with stageBad := [] } }
       let d := if n = 0 then d0 else occur0 Src.LEDGER_TORN (scanEnds n d0)
       (s.dev.post.replayReach = 5 →
         let top := (d.post.journal.head?.map (·.seq)).getD 0
         let ck := ((d.post.journal.find? (fun r => r.kind == kCHECKPOINT)).map (·.seq)).getD 0
         let e := wn .LEDG_NVS_SEQ 0 top (wn .LEDG_CKPT_SEQ 0 ck (rebuildDurable d))
         exec (.replay torn) s = .next (s.after (releaseHeldDb (sf .LEDG_STATUS 0 LEDG_STATUS.REPLAYING 0
           (sec (fun x => { x with ckptSeq := max top s.dev.sec.ckptSeq })
             { e with post := { e.post with seq := max top s.dev.sec.ckptSeq, replayStep := 7 } }))))) ∧
       (let body := leBytes 8 s.dev.post.replayReach ++ leBytes 8 s.dev.rst.cause
        (s.dev.post.replayReach ≠ 5 → canStage kRESET body s.dev = true →
          let e := stage kRESET body (incSat .LEDG_REPLAYS 0 d)
          exec (.replay torn) s = .next (s.after (releaseHeldDb { e with post := { e.post with replayStep := 2 } }))) ∧
        (s.dev.post.replayReach ≠ 5 → canStage kRESET body s.dev = false → exec (.replay torn) s = .next (s.after s.dev)))) ∧
     (¬ (domUp s.dev dPOST = true ∧ replaying s.dev = true ∧ s.dev.post.replayStep < 2) → exec (.replay torn) s = .next (s.after s.dev))) ∧
  (∀ s : State,
     (let due := domUp s.dev dPOST = true ∧ domUp s.dev dEP = true ∧ replaying s.dev = true ∧ s.dev.post.replayStep = 2 ∧
        canStage kREPLAY_DONE [] s.dev = true
      (due →
        let reach := s.dev.post.replayReach
        let doms := rf s.dev .RST_LAST 0 RST_LAST.DOMAINS
        let d1 := { s.dev with post := { s.dev.post with busMaster := true, replayStep := 7 } }
        let d2 := d1.post.written.reverse.foldl (fun d x =>
          hostWrite (rf d .RING_CQ_BASE x.cq RING_CQ_BASE.BASE * 32 + 32 * (x.count % max 1 (cqSize d x.cq))) x.bytes d) d1
        let n := (d2.strm.parcels.filter (fun p => p.sent && !p.host)).length
        let k := (reissues d2).length
        let d3 := convRestart (d2.post.cmds.foldl (fun d c => resumeCmd reach doms c d) (queueReissues d2))
        exec .replayResume s = .next (s.after (occur0 Src.REPLAY_DONE (sf .LEDG_STATUS 0 LEDG_STATUS.REPLAYING 0
          (stage kREPLAY_DONE (leBytes 4 reach ++ leBytes 4 d3.post.written.length ++ leBytes 4 n ++ leBytes 4 k) d3))))) ∧
      (¬ due → exec .replayResume s = .next (s.after s.dev))) ∧
     (let enabled := s.dev.rst.fail = false ∧ bitOf (winGet s.dev .option 8).toNat 1 = true
      (enabled →
        let d0 := (List.range 8).foldl (fun d a => if domUp d (dDIG (a / 2)) then axFaultWith a 0 d else d)
          (rst (fun r => { r with fail := true }) s.dev)
        (domUp d0 dPOST = true →
          let dc := { d0 with post := { d0.post with closing := true } }
          let d1 := drainLedger dc
          let d2 := (d1.strm.parcels.filter (fun p => p.sent && !p.host)).foldl (fun d p => parcelReachedHost p.ctx d) d1
          let d3 := (List.range 4).foldl (fun d u => spillWriteDone u true d) d2
          exec .powerFailAssert s = .next (s.after (drainLedger (stage kPOWER_CLOSE
            (leBytes 4 (dc.post.backlog.length + dc.post.waiting.length + d3.post.backlog.length + 1)) d3)))) ∧
        (domUp d0 dPOST = false → exec .powerFailAssert s = .next (s.after d0))) ∧
      (¬ enabled → exec .powerFailAssert s = .next (s.after s.dev))))

/-- Integrity and the sensors. A scrub pass of a stack that runs deals with each error found and that of an armed injection, and is
counted with its event; the arrays' scrub deals with the errors named for them and with an armed injection of one of them. A bank that is
restored is used again; the eight temperatures are shown where their sensors are powered and the highest is kept; an encoder's fault
clears while AON runs; a checkpoint starts where a context is open. Otherwise nothing happens. Writes to NVS that end, for the command
that waits for them. A firmware slot whose read-back agrees is valid and its command completes; otherwise the slot is empty and the
command ends INTEGRITY. An option record written by register shows its result; one of an FW_ACTIVATE completes its command, or ends it
INTEGRITY, and with RESTART it restarts. A baseline record that is read back right is stored and its command completes; otherwise that
ends INTEGRITY and nothing is stored. Where nothing waits nothing happens. RP_PERST_N rises on a running port that is powered and
TRAINING. A chopper cycle of a driven axis whose die runs shows the coil's sensed current and starts the coil's on phase toward its
target; where the target is not 0, an on phase that reaches T_ON_MAX is counted and, well below full current, its time is averaged. In
every other case neither does anything. -/
def Obligations.IntegrityAndNvs : Prop :=
  (∀ (s : State) (errors : List (List Nat)),
     (∀ n, n < 2 →
       (domUp s.dev (dMEM n) = true →
         let i := injected n s.dev
         exec (.scrubPass n errors) s = .next (s.after (occur Src.SCRUB_PASS n 0 0 (incWrap .MEM_SCRUB_PASSES n
           ((errors ++ i.1).foldl (fun d x => eccFound s.fuses n x d) i.2))))) ∧
       (domUp s.dev (dMEM n) = false → exec (.scrubPass n errors) s = .next (s.after s.dev))) ∧
     (let d := (errors.filter (fun x => decide (2 ≤ x.getD 0 0 ∧ x.getD 0 0 ≤ 17))).foldl (fun d x => eccFound s.fuses (x.getD 0 0) (x.drop 1) d) s.dev
      exec (.arrayScrub errors) s = .next (s.after ((List.range' 2 16).foldl (fun d m =>
        (injected m d).1.foldl (fun d x => eccFound s.fuses m x d) (injected m d).2) d))) ∧
     (∀ c, c < 12 → exec (.bankRestoreDone c) s =
       .next (s.after (pipe (fun p => { p with restoring := p.restoring.filter (· ≠ c) }) s.dev))) ∧
     (∀ temps : List Int, temps.length = 8 → exec (.tjUpdate temps) s = .next (s.after ((List.range 8).foldl (fun d k =>
       if tjPowered d k then
         let t := clampI (-32768) 32767 (temps.getD k 0)
         let d := sf .GLB_TJ k GLB_TJ.VALID 1 (sf .GLB_TJ k GLB_TJ.TEMP (ux 16 t) d)
         if sx 16 (rf d .GLB_TJ_MAX 0 GLB_TJ_MAX.TEMP) < t then sf .GLB_TJ_MAX 0 GLB_TJ_MAX.TEMP (ux 16 t) d else d
       else sf .GLB_TJ k GLB_TJ.VALID 0 d) (mark .GLB_TJ_MAX 0 1 s.dev)))) ∧
     (∀ n, n < 8 →
       (domUp s.dev dAON = true → exec (.encFaultClears n) s = .next (s.after (sf .ENC_STATUS n ENC_STATUS.LOS 0 s.dev))) ∧
       (domUp s.dev dAON = false → exec (.encFaultClears n) s = .next (s.after s.dev))) ∧
     (s.dev.strm.ctxs ≠ [] → exec .checkpointInterval s = .next (s.after (ckptStart s.dev))) ∧
     (s.dev.strm.ctxs = [] → exec .checkpointInterval s = .next (s.after s.dev))) ∧
  (∀ (s : State) (ok : Bool),
     (let stages := s.dev.post.cmds.find? (fun c => c.op == 0xA0 && c.started && !c.data.isEmpty)
      (∀ c, stages = some c →
        let k := c.data.getD 1 0
        exec (.nvsWriteDone 0 true) s = .next (s.after (showSec (completeOk c (leBytes 1 k) (nvsFresh 2 k (setSlot k 1 c.block s.dev))))) ∧
        exec (.nvsWriteDone 0 false) s = .next (s.after (showSec (complete c stINTEGRITY 0 [] (setSlot k 0 [] s.dev))))) ∧
      (stages = none → exec (.nvsWriteDone 0 ok) s = .next (s.after s.dev))) ∧
     (∀ who r, s.dev.sec.optPend = some (who, r) →
       let d := sec (fun x => { x with optPend := none }) (if ok then optionStore r s.dev else s.dev)
       let sets := d.post.cmds.find? (fun c => c.order + 1 == who)
       (who = 0 → exec (.nvsWriteDone 1 ok) s = .next (s.after (showSec (sf .SEC_OPTION_STATUS 0 SEC_OPTION_STATUS.BUSY 0
         (sf .SEC_OPTION_STATUS 0 SEC_OPTION_STATUS.RESULT (if ok then 1 else 3) d))))) ∧
       (who ≠ 0 → sets = none → exec (.nvsWriteDone 1 ok) s = .next (s.after (showSec d))) ∧
       (∀ c, who ≠ 0 → sets = some c → ok = false →
         exec (.nvsWriteDone 1 ok) s = .next (s.after (showSec (complete c stINTEGRITY 0 [] d)))) ∧
       (∀ c, who ≠ 0 → sets = some c → ok = true →
         let fl := leAt c.entry 9 1
         let e := if bitOf fl 1 then { d with rst := { d.rst with starts := 0 } } else d
         exec (.nvsWriteDone 1 ok) s =
           .next (s.after (showSec (completeOk c [] (sec (fun x => { x with restart := x.restart || bitOf fl 0 }) e)))))) ∧
     (s.dev.sec.optPend = none → exec (.nvsWriteDone 1 ok) s = .next (s.after s.dev)) ∧
     (let writes := s.dev.post.cmds.find? (fun c => c.op == 0x62 && c.started && !c.data.isEmpty)
      (∀ c, writes = some c →
        exec (.nvsWriteDone 2 true) s = .next (s.after (completeOk c [] (baseStore ((baseFree s.dev).getD 0) c.block (useFresh s.dev)))) ∧
        exec (.nvsWriteDone 2 false) s = .next (s.after (complete c stINTEGRITY 0 [] s.dev))) ∧
      (writes = none → exec (.nvsWriteDone 2 ok) s = .next (s.after s.dev)))) ∧
  (∀ (s : State),
     (∀ p, p < 4 →
       let may := rpRuns s.dev p = true ∧ rpState s.dev p = 1 ∧ bitOf s.dev.que.pwr p = true
       (may → exec (.rpPerstNHigh p) s = .next (s.after (que (fun q => { q with
         perst := putBit q.perst p true, pulse := putBit q.pulse p false }) s.dev))) ∧
       (¬ may → exec (.rpPerstNHigh p) s = .next (s.after s.dev))) ∧
     (∀ a k reach v, a < 8 → k < 2 →
       let may := domUp s.dev (dDIG (a / 2)) = true ∧ rb s.dev .AXH_STATUS a AXH_STATUS.DRIVE = true
       (may →
         let d := sf .AXH_CURRENT a (if k = 0 then AXH_CURRENT.IA else AXH_CURRENT.IB) (ux 16 v) s.dev
         let t := coilTarget d a k
         let lim := rn d .AXH_TON_MAX a
         let on := min lim (max reach (rf d .AXH_CHOP a AXH_CHOP.T_BLANK))
         let fast := (rdiv (100 * rf d .AXH_CHOP a AXH_CHOP.T_OFF * rf d .AXH_CHOP a AXH_CHOP.DECAY) 16).toNat
         let e := onAxis a (fun x => { x with coils := setAt x.coils k ⟨t, d.now, 10 * on, fast⟩ }) d
         let f := if lim ≤ reach then incSat .AX_TON_LIMITED a e else e
         (t = 0 → exec (.chopperCycle a k reach v) s = .next (s.after e)) ∧
         (t ≠ 0 → (t.natAbs : Int) ≤ rdiv (3827 * axCurrent f a) 10000 → exec (.chopperCycle a k reach v) s =
           .next (s.after (onAxis a (fun x => { x with onSum := x.onSum + 10 * on, onNum := x.onNum + 1 }) f))) ∧
         (t ≠ 0 → ¬ (t.natAbs : Int) ≤ rdiv (3827 * axCurrent f a) 10000 → exec (.chopperCycle a k reach v) s = .next (s.after f))) ∧
       (¬ may → exec (.chopperCycle a k reach v) s = .next (s.after s.dev))))

end
end

