-- ==== Sys2Proof/Laws/Choice.lean ====
section
/-!
SUPPORT. Laws/Choice.lean: the free choices of log entry 15. What is chosen is among what is free, and something is chosen where
anything is.
-/
namespace Sys2Proof.Machine

theorem pickFree_mem {d : Dev} {l : List Nat} {n : Nat} (h : pickFree d l = some n) : n ∈ l :=
  List.mem_of_getElem? h

theorem pickFree_some (d : Dev) {l : List Nat} (h : l ≠ []) : ∃ n, pickFree d l = some n := by
  have := Nat.mod_lt (Config.anyOf d.fresh) (List.length_pos_iff.mpr h)
  exact ⟨_, List.getElem?_eq_getElem this⟩

theorem findPlace_free {d : Dev} {n a : Nat} (h : findPlace d n = some a) : placeFree d n a = true := by
  unfold findPlace at h
  dsimp only at h
  split at h
  · cases h; assumption
  · exact List.find?_some h

theorem findPlace_some {d : Dev} {n a : Nat} (m : a ∈ 0 :: (List.range 16).map (fun r => regionBase d r + regionSize d r))
    (h : placeFree d n a = true) : ∃ b, findPlace d n = some b := by
  unfold findPlace
  dsimp only
  split
  · exact ⟨_, rfl⟩
  · exact Option.isSome_iff_exists.mp (List.find?_isSome.mpr ⟨a, m, h⟩)

end Sys2Proof.Machine
end

