-- ==== Sys2Proof/Laws/State.lean ====
section
/-!
SUPPORT. Laws/State.lean: what each shared update of the device leaves alone and what it changes, field by field; all true by rfl.
-/
namespace Sys2Proof.Machine

variable (d : Dev)

/-! ### wr -/

@[simp] theorem wr_now (r : Reg) (i : Nat) (v : Word) : (wr r i v d).now = d.now := rfl
@[simp] theorem wr_fresh (r : Reg) (i : Nat) (v : Word) : (wr r i v d).fresh = d.fresh := rfl
@[simp] theorem wr_cyc (r : Reg) (i : Nat) (v : Word) : (wr r i v d).cyc = d.cyc := rfl
@[simp] theorem wr_inforce (r : Reg) (i : Nat) (v : Word) : (wr r i v d).inforce = d.inforce := rfl
@[simp] theorem wr_hiLatch (r : Reg) (i : Nat) (v : Word) : (wr r i v d).hiLatch = d.hiLatch := rfl
@[simp] theorem wr_loHeld (r : Reg) (i : Nat) (v : Word) : (wr r i v d).loHeld = d.loHeld := rfl
@[simp] theorem wr_wins (r : Reg) (i : Nat) (v : Word) : (wr r i v d).wins = d.wins := rfl
@[simp] theorem wr_tables (r : Reg) (i : Nat) (v : Word) : (wr r i v d).tables = d.tables := rfl
@[simp] theorem wr_hbm (r : Reg) (i : Nat) (v : Word) : (wr r i v d).hbm = d.hbm := rfl
@[simp] theorem wr_host (r : Reg) (i : Nat) (v : Word) : (wr r i v d).host = d.host := rfl
@[simp] theorem wr_outbox (r : Reg) (i : Nat) (v : Word) : (wr r i v d).outbox = d.outbox := rfl
@[simp] theorem wr_rq (r : Reg) (i : Nat) (v : Word) : (wr r i v d).rq = d.rq := rfl
@[simp] theorem wr_evt (r : Reg) (i : Nat) (v : Word) : (wr r i v d).evt = d.evt := rfl
@[simp] theorem wr_esc (r : Reg) (i : Nat) (v : Word) : (wr r i v d).esc = d.esc := rfl
@[simp] theorem wr_post (r : Reg) (i : Nat) (v : Word) : (wr r i v d).post = d.post := rfl
@[simp] theorem wr_sync (r : Reg) (i : Nat) (v : Word) : (wr r i v d).sync = d.sync := rfl
@[simp] theorem wr_fe (r : Reg) (i : Nat) (v : Word) : (wr r i v d).fe = d.fe := rfl
@[simp] theorem wr_pipe (r : Reg) (i : Nat) (v : Word) : (wr r i v d).pipe = d.pipe := rfl
@[simp] theorem wr_strm (r : Reg) (i : Nat) (v : Word) : (wr r i v d).strm = d.strm := rfl
@[simp] theorem wr_pages (r : Reg) (i : Nat) (v : Word) : (wr r i v d).pages = d.pages := rfl
@[simp] theorem wr_cmpr (r : Reg) (i : Nat) (v : Word) : (wr r i v d).cmpr = d.cmpr := rfl
@[simp] theorem wr_mot (r : Reg) (i : Nat) (v : Word) : (wr r i v d).mot = d.mot := rfl
@[simp] theorem wr_cal (r : Reg) (i : Nat) (v : Word) : (wr r i v d).cal = d.cal := rfl
@[simp] theorem wr_sec (r : Reg) (i : Nat) (v : Word) : (wr r i v d).sec = d.sec := rfl
@[simp] theorem wr_que (r : Reg) (i : Nat) (v : Word) : (wr r i v d).que = d.que := rfl
@[simp] theorem wr_chans (r : Reg) (i : Nat) (v : Word) : (wr r i v d).chans = d.chans := rfl
@[simp] theorem wr_aux (r : Reg) (i : Nat) (v : Word) : (wr r i v d).aux = d.aux := rfl
@[simp] theorem wr_rst (r : Reg) (i : Nat) (v : Word) : (wr r i v d).rst = d.rst := rfl

/-! ### sf -/

@[simp] theorem sf_now (r : Reg) (i : Nat) (f : Fld) (x : Nat) : (sf r i f x d).now = d.now := rfl
@[simp] theorem sf_fresh (r : Reg) (i : Nat) (f : Fld) (x : Nat) : (sf r i f x d).fresh = d.fresh := rfl
@[simp] theorem sf_cyc (r : Reg) (i : Nat) (f : Fld) (x : Nat) : (sf r i f x d).cyc = d.cyc := rfl
@[simp] theorem sf_inforce (r : Reg) (i : Nat) (f : Fld) (x : Nat) : (sf r i f x d).inforce = d.inforce := rfl
@[simp] theorem sf_hiLatch (r : Reg) (i : Nat) (f : Fld) (x : Nat) : (sf r i f x d).hiLatch = d.hiLatch := rfl
@[simp] theorem sf_loHeld (r : Reg) (i : Nat) (f : Fld) (x : Nat) : (sf r i f x d).loHeld = d.loHeld := rfl
@[simp] theorem sf_wins (r : Reg) (i : Nat) (f : Fld) (x : Nat) : (sf r i f x d).wins = d.wins := rfl
@[simp] theorem sf_tables (r : Reg) (i : Nat) (f : Fld) (x : Nat) : (sf r i f x d).tables = d.tables := rfl
@[simp] theorem sf_hbm (r : Reg) (i : Nat) (f : Fld) (x : Nat) : (sf r i f x d).hbm = d.hbm := rfl
@[simp] theorem sf_host (r : Reg) (i : Nat) (f : Fld) (x : Nat) : (sf r i f x d).host = d.host := rfl
@[simp] theorem sf_outbox (r : Reg) (i : Nat) (f : Fld) (x : Nat) : (sf r i f x d).outbox = d.outbox := rfl
@[simp] theorem sf_rq (r : Reg) (i : Nat) (f : Fld) (x : Nat) : (sf r i f x d).rq = d.rq := rfl
@[simp] theorem sf_evt (r : Reg) (i : Nat) (f : Fld) (x : Nat) : (sf r i f x d).evt = d.evt := rfl
@[simp] theorem sf_esc (r : Reg) (i : Nat) (f : Fld) (x : Nat) : (sf r i f x d).esc = d.esc := rfl
@[simp] theorem sf_post (r : Reg) (i : Nat) (f : Fld) (x : Nat) : (sf r i f x d).post = d.post := rfl
@[simp] theorem sf_sync (r : Reg) (i : Nat) (f : Fld) (x : Nat) : (sf r i f x d).sync = d.sync := rfl
@[simp] theorem sf_fe (r : Reg) (i : Nat) (f : Fld) (x : Nat) : (sf r i f x d).fe = d.fe := rfl
@[simp] theorem sf_pipe (r : Reg) (i : Nat) (f : Fld) (x : Nat) : (sf r i f x d).pipe = d.pipe := rfl
@[simp] theorem sf_strm (r : Reg) (i : Nat) (f : Fld) (x : Nat) : (sf r i f x d).strm = d.strm := rfl
@[simp] theorem sf_pages (r : Reg) (i : Nat) (f : Fld) (x : Nat) : (sf r i f x d).pages = d.pages := rfl
@[simp] theorem sf_cmpr (r : Reg) (i : Nat) (f : Fld) (x : Nat) : (sf r i f x d).cmpr = d.cmpr := rfl
@[simp] theorem sf_mot (r : Reg) (i : Nat) (f : Fld) (x : Nat) : (sf r i f x d).mot = d.mot := rfl
@[simp] theorem sf_cal (r : Reg) (i : Nat) (f : Fld) (x : Nat) : (sf r i f x d).cal = d.cal := rfl
@[simp] theorem sf_sec (r : Reg) (i : Nat) (f : Fld) (x : Nat) : (sf r i f x d).sec = d.sec := rfl
@[simp] theorem sf_que (r : Reg) (i : Nat) (f : Fld) (x : Nat) : (sf r i f x d).que = d.que := rfl
@[simp] theorem sf_chans (r : Reg) (i : Nat) (f : Fld) (x : Nat) : (sf r i f x d).chans = d.chans := rfl
@[simp] theorem sf_aux (r : Reg) (i : Nat) (f : Fld) (x : Nat) : (sf r i f x d).aux = d.aux := rfl
@[simp] theorem sf_rst (r : Reg) (i : Nat) (f : Fld) (x : Nat) : (sf r i f x d).rst = d.rst := rfl

/-! ### wn -/

@[simp] theorem wn_now (r : Reg) (i x : Nat) : (wn r i x d).now = d.now := rfl
@[simp] theorem wn_fresh (r : Reg) (i x : Nat) : (wn r i x d).fresh = d.fresh := rfl
@[simp] theorem wn_cyc (r : Reg) (i x : Nat) : (wn r i x d).cyc = d.cyc := rfl
@[simp] theorem wn_inforce (r : Reg) (i x : Nat) : (wn r i x d).inforce = d.inforce := rfl
@[simp] theorem wn_hiLatch (r : Reg) (i x : Nat) : (wn r i x d).hiLatch = d.hiLatch := rfl
@[simp] theorem wn_loHeld (r : Reg) (i x : Nat) : (wn r i x d).loHeld = d.loHeld := rfl
@[simp] theorem wn_wins (r : Reg) (i x : Nat) : (wn r i x d).wins = d.wins := rfl
@[simp] theorem wn_tables (r : Reg) (i x : Nat) : (wn r i x d).tables = d.tables := rfl
@[simp] theorem wn_hbm (r : Reg) (i x : Nat) : (wn r i x d).hbm = d.hbm := rfl
@[simp] theorem wn_host (r : Reg) (i x : Nat) : (wn r i x d).host = d.host := rfl
@[simp] theorem wn_outbox (r : Reg) (i x : Nat) : (wn r i x d).outbox = d.outbox := rfl
@[simp] theorem wn_rq (r : Reg) (i x : Nat) : (wn r i x d).rq = d.rq := rfl
@[simp] theorem wn_evt (r : Reg) (i x : Nat) : (wn r i x d).evt = d.evt := rfl
@[simp] theorem wn_esc (r : Reg) (i x : Nat) : (wn r i x d).esc = d.esc := rfl
@[simp] theorem wn_post (r : Reg) (i x : Nat) : (wn r i x d).post = d.post := rfl
@[simp] theorem wn_sync (r : Reg) (i x : Nat) : (wn r i x d).sync = d.sync := rfl
@[simp] theorem wn_fe (r : Reg) (i x : Nat) : (wn r i x d).fe = d.fe := rfl
@[simp] theorem wn_pipe (r : Reg) (i x : Nat) : (wn r i x d).pipe = d.pipe := rfl
@[simp] theorem wn_strm (r : Reg) (i x : Nat) : (wn r i x d).strm = d.strm := rfl
@[simp] theorem wn_pages (r : Reg) (i x : Nat) : (wn r i x d).pages = d.pages := rfl
@[simp] theorem wn_cmpr (r : Reg) (i x : Nat) : (wn r i x d).cmpr = d.cmpr := rfl
@[simp] theorem wn_mot (r : Reg) (i x : Nat) : (wn r i x d).mot = d.mot := rfl
@[simp] theorem wn_cal (r : Reg) (i x : Nat) : (wn r i x d).cal = d.cal := rfl
@[simp] theorem wn_sec (r : Reg) (i x : Nat) : (wn r i x d).sec = d.sec := rfl
@[simp] theorem wn_que (r : Reg) (i x : Nat) : (wn r i x d).que = d.que := rfl
@[simp] theorem wn_chans (r : Reg) (i x : Nat) : (wn r i x d).chans = d.chans := rfl
@[simp] theorem wn_aux (r : Reg) (i x : Nat) : (wn r i x d).aux = d.aux := rfl
@[simp] theorem wn_rst (r : Reg) (i x : Nat) : (wn r i x d).rst = d.rst := rfl

/-! ### useFresh -/

@[simp] theorem useFresh_now : (useFresh d).now = d.now := rfl
@[simp] theorem useFresh_fresh : (useFresh d).fresh = d.fresh + 1 := rfl
@[simp] theorem useFresh_cyc : (useFresh d).cyc = d.cyc := rfl
@[simp] theorem useFresh_regs : (useFresh d).regs = d.regs := rfl
@[simp] theorem useFresh_inforce : (useFresh d).inforce = d.inforce := rfl
@[simp] theorem useFresh_hiLatch : (useFresh d).hiLatch = d.hiLatch := rfl
@[simp] theorem useFresh_loHeld : (useFresh d).loHeld = d.loHeld := rfl
@[simp] theorem useFresh_wins : (useFresh d).wins = d.wins := rfl
@[simp] theorem useFresh_tables : (useFresh d).tables = d.tables := rfl
@[simp] theorem useFresh_hbm : (useFresh d).hbm = d.hbm := rfl
@[simp] theorem useFresh_host : (useFresh d).host = d.host := rfl
@[simp] theorem useFresh_outbox : (useFresh d).outbox = d.outbox := rfl
@[simp] theorem useFresh_rq : (useFresh d).rq = d.rq := rfl
@[simp] theorem useFresh_evt : (useFresh d).evt = d.evt := rfl
@[simp] theorem useFresh_esc : (useFresh d).esc = d.esc := rfl
@[simp] theorem useFresh_post : (useFresh d).post = d.post := rfl
@[simp] theorem useFresh_sync : (useFresh d).sync = d.sync := rfl
@[simp] theorem useFresh_fe : (useFresh d).fe = d.fe := rfl
@[simp] theorem useFresh_pipe : (useFresh d).pipe = d.pipe := rfl
@[simp] theorem useFresh_strm : (useFresh d).strm = d.strm := rfl
@[simp] theorem useFresh_pages : (useFresh d).pages = d.pages := rfl
@[simp] theorem useFresh_cmpr : (useFresh d).cmpr = d.cmpr := rfl
@[simp] theorem useFresh_mot : (useFresh d).mot = d.mot := rfl
@[simp] theorem useFresh_cal : (useFresh d).cal = d.cal := rfl
@[simp] theorem useFresh_sec : (useFresh d).sec = d.sec := rfl
@[simp] theorem useFresh_que : (useFresh d).que = d.que := rfl
@[simp] theorem useFresh_chans : (useFresh d).chans = d.chans := rfl
@[simp] theorem useFresh_aux : (useFresh d).aux = d.aux := rfl
@[simp] theorem useFresh_rst : (useFresh d).rst = d.rst := rfl

/-! ### mark -/

@[simp] theorem mark_now (r : Reg) (i n : Nat) : (mark r i n d).now = d.now := rfl
@[simp] theorem mark_fresh (r : Reg) (i n : Nat) : (mark r i n d).fresh = d.fresh := rfl
@[simp] theorem mark_cyc (r : Reg) (i n : Nat) : (mark r i n d).cyc = { cycNow d with ups := (rkey r i, n) :: (cycNow d).ups } := rfl
@[simp] theorem mark_regs (r : Reg) (i n : Nat) : (mark r i n d).regs = d.regs := rfl
@[simp] theorem mark_inforce (r : Reg) (i n : Nat) : (mark r i n d).inforce = d.inforce := rfl
@[simp] theorem mark_hiLatch (r : Reg) (i n : Nat) : (mark r i n d).hiLatch = d.hiLatch := rfl
@[simp] theorem mark_loHeld (r : Reg) (i n : Nat) : (mark r i n d).loHeld = d.loHeld := rfl
@[simp] theorem mark_wins (r : Reg) (i n : Nat) : (mark r i n d).wins = d.wins := rfl
@[simp] theorem mark_tables (r : Reg) (i n : Nat) : (mark r i n d).tables = d.tables := rfl
@[simp] theorem mark_hbm (r : Reg) (i n : Nat) : (mark r i n d).hbm = d.hbm := rfl
@[simp] theorem mark_host (r : Reg) (i n : Nat) : (mark r i n d).host = d.host := rfl
@[simp] theorem mark_outbox (r : Reg) (i n : Nat) : (mark r i n d).outbox = d.outbox := rfl
@[simp] theorem mark_rq (r : Reg) (i n : Nat) : (mark r i n d).rq = d.rq := rfl
@[simp] theorem mark_evt (r : Reg) (i n : Nat) : (mark r i n d).evt = d.evt := rfl
@[simp] theorem mark_esc (r : Reg) (i n : Nat) : (mark r i n d).esc = d.esc := rfl
@[simp] theorem mark_post (r : Reg) (i n : Nat) : (mark r i n d).post = d.post := rfl
@[simp] theorem mark_sync (r : Reg) (i n : Nat) : (mark r i n d).sync = d.sync := rfl
@[simp] theorem mark_fe (r : Reg) (i n : Nat) : (mark r i n d).fe = d.fe := rfl
@[simp] theorem mark_pipe (r : Reg) (i n : Nat) : (mark r i n d).pipe = d.pipe := rfl
@[simp] theorem mark_strm (r : Reg) (i n : Nat) : (mark r i n d).strm = d.strm := rfl
@[simp] theorem mark_pages (r : Reg) (i n : Nat) : (mark r i n d).pages = d.pages := rfl
@[simp] theorem mark_cmpr (r : Reg) (i n : Nat) : (mark r i n d).cmpr = d.cmpr := rfl
@[simp] theorem mark_mot (r : Reg) (i n : Nat) : (mark r i n d).mot = d.mot := rfl
@[simp] theorem mark_cal (r : Reg) (i n : Nat) : (mark r i n d).cal = d.cal := rfl
@[simp] theorem mark_sec (r : Reg) (i n : Nat) : (mark r i n d).sec = d.sec := rfl
@[simp] theorem mark_que (r : Reg) (i n : Nat) : (mark r i n d).que = d.que := rfl
@[simp] theorem mark_chans (r : Reg) (i n : Nat) : (mark r i n d).chans = d.chans := rfl
@[simp] theorem mark_aux (r : Reg) (i n : Nat) : (mark r i n d).aux = d.aux := rfl
@[simp] theorem mark_rst (r : Reg) (i n : Nat) : (mark r i n d).rst = d.rst := rfl

/-! ### emit -/

@[simp] theorem emit_now (o : Out) : (emit o d).now = d.now := rfl
@[simp] theorem emit_fresh (o : Out) : (emit o d).fresh = d.fresh := rfl
@[simp] theorem emit_cyc (o : Out) : (emit o d).cyc = d.cyc := rfl
@[simp] theorem emit_regs (o : Out) : (emit o d).regs = d.regs := rfl
@[simp] theorem emit_inforce (o : Out) : (emit o d).inforce = d.inforce := rfl
@[simp] theorem emit_hiLatch (o : Out) : (emit o d).hiLatch = d.hiLatch := rfl
@[simp] theorem emit_loHeld (o : Out) : (emit o d).loHeld = d.loHeld := rfl
@[simp] theorem emit_wins (o : Out) : (emit o d).wins = d.wins := rfl
@[simp] theorem emit_tables (o : Out) : (emit o d).tables = d.tables := rfl
@[simp] theorem emit_hbm (o : Out) : (emit o d).hbm = d.hbm := rfl
@[simp] theorem emit_host (o : Out) : (emit o d).host = d.host := rfl
@[simp] theorem emit_outbox (o : Out) : (emit o d).outbox = o :: d.outbox := rfl
@[simp] theorem emit_rq (o : Out) : (emit o d).rq = d.rq := rfl
@[simp] theorem emit_evt (o : Out) : (emit o d).evt = d.evt := rfl
@[simp] theorem emit_esc (o : Out) : (emit o d).esc = d.esc := rfl
@[simp] theorem emit_post (o : Out) : (emit o d).post = d.post := rfl
@[simp] theorem emit_sync (o : Out) : (emit o d).sync = d.sync := rfl
@[simp] theorem emit_fe (o : Out) : (emit o d).fe = d.fe := rfl
@[simp] theorem emit_pipe (o : Out) : (emit o d).pipe = d.pipe := rfl
@[simp] theorem emit_strm (o : Out) : (emit o d).strm = d.strm := rfl
@[simp] theorem emit_pages (o : Out) : (emit o d).pages = d.pages := rfl
@[simp] theorem emit_cmpr (o : Out) : (emit o d).cmpr = d.cmpr := rfl
@[simp] theorem emit_mot (o : Out) : (emit o d).mot = d.mot := rfl
@[simp] theorem emit_cal (o : Out) : (emit o d).cal = d.cal := rfl
@[simp] theorem emit_sec (o : Out) : (emit o d).sec = d.sec := rfl
@[simp] theorem emit_que (o : Out) : (emit o d).que = d.que := rfl
@[simp] theorem emit_chans (o : Out) : (emit o d).chans = d.chans := rfl
@[simp] theorem emit_aux (o : Out) : (emit o d).aux = d.aux := rfl
@[simp] theorem emit_rst (o : Out) : (emit o d).rst = d.rst := rfl

/-! ### ask -/

@[simp] theorem ask_now (q : Req) : (ask q d).now = d.now := rfl
@[simp] theorem ask_fresh (q : Req) : (ask q d).fresh = d.fresh := rfl
@[simp] theorem ask_cyc (q : Req) : (ask q d).cyc = d.cyc := rfl
@[simp] theorem ask_regs (q : Req) : (ask q d).regs = d.regs := rfl
@[simp] theorem ask_inforce (q : Req) : (ask q d).inforce = d.inforce := rfl
@[simp] theorem ask_hiLatch (q : Req) : (ask q d).hiLatch = d.hiLatch := rfl
@[simp] theorem ask_loHeld (q : Req) : (ask q d).loHeld = d.loHeld := rfl
@[simp] theorem ask_wins (q : Req) : (ask q d).wins = d.wins := rfl
@[simp] theorem ask_tables (q : Req) : (ask q d).tables = d.tables := rfl
@[simp] theorem ask_hbm (q : Req) : (ask q d).hbm = d.hbm := rfl
@[simp] theorem ask_host (q : Req) : (ask q d).host = d.host := rfl
@[simp] theorem ask_outbox (q : Req) : (ask q d).outbox = d.outbox := rfl
@[simp] theorem ask_rq (q : Req) : (ask q d).rq = d.rq ++ [q] := rfl
@[simp] theorem ask_evt (q : Req) : (ask q d).evt = d.evt := rfl
@[simp] theorem ask_esc (q : Req) : (ask q d).esc = d.esc := rfl
@[simp] theorem ask_post (q : Req) : (ask q d).post = d.post := rfl
@[simp] theorem ask_sync (q : Req) : (ask q d).sync = d.sync := rfl
@[simp] theorem ask_fe (q : Req) : (ask q d).fe = d.fe := rfl
@[simp] theorem ask_pipe (q : Req) : (ask q d).pipe = d.pipe := rfl
@[simp] theorem ask_strm (q : Req) : (ask q d).strm = d.strm := rfl
@[simp] theorem ask_pages (q : Req) : (ask q d).pages = d.pages := rfl
@[simp] theorem ask_cmpr (q : Req) : (ask q d).cmpr = d.cmpr := rfl
@[simp] theorem ask_mot (q : Req) : (ask q d).mot = d.mot := rfl
@[simp] theorem ask_cal (q : Req) : (ask q d).cal = d.cal := rfl
@[simp] theorem ask_sec (q : Req) : (ask q d).sec = d.sec := rfl
@[simp] theorem ask_que (q : Req) : (ask q d).que = d.que := rfl
@[simp] theorem ask_chans (q : Req) : (ask q d).chans = d.chans := rfl
@[simp] theorem ask_aux (q : Req) : (ask q d).aux = d.aux := rfl
@[simp] theorem ask_rst (q : Req) : (ask q d).rst = d.rst := rfl

/-! ### hostWrite -/

@[simp] theorem hostWrite_now (a : Nat) (b : Bytes) : (hostWrite a b d).now = d.now := rfl
@[simp] theorem hostWrite_fresh (a : Nat) (b : Bytes) : (hostWrite a b d).fresh = d.fresh := rfl
@[simp] theorem hostWrite_cyc (a : Nat) (b : Bytes) : (hostWrite a b d).cyc = d.cyc := rfl
@[simp] theorem hostWrite_regs (a : Nat) (b : Bytes) : (hostWrite a b d).regs = d.regs := rfl
@[simp] theorem hostWrite_inforce (a : Nat) (b : Bytes) : (hostWrite a b d).inforce = d.inforce := rfl
@[simp] theorem hostWrite_hiLatch (a : Nat) (b : Bytes) : (hostWrite a b d).hiLatch = d.hiLatch := rfl
@[simp] theorem hostWrite_loHeld (a : Nat) (b : Bytes) : (hostWrite a b d).loHeld = d.loHeld := rfl
@[simp] theorem hostWrite_wins (a : Nat) (b : Bytes) : (hostWrite a b d).wins = d.wins := rfl
@[simp] theorem hostWrite_tables (a : Nat) (b : Bytes) : (hostWrite a b d).tables = d.tables := rfl
@[simp] theorem hostWrite_hbm (a : Nat) (b : Bytes) : (hostWrite a b d).hbm = d.hbm := rfl
@[simp] theorem hostWrite_host (a : Nat) (b : Bytes) : (hostWrite a b d).host = d.host.writeBytes a b := rfl
@[simp] theorem hostWrite_outbox (a : Nat) (b : Bytes) : (hostWrite a b d).outbox = d.outbox := rfl
@[simp] theorem hostWrite_rq (a : Nat) (b : Bytes) : (hostWrite a b d).rq = d.rq := rfl
@[simp] theorem hostWrite_evt (a : Nat) (b : Bytes) : (hostWrite a b d).evt = d.evt := rfl
@[simp] theorem hostWrite_esc (a : Nat) (b : Bytes) : (hostWrite a b d).esc = d.esc := rfl
@[simp] theorem hostWrite_post (a : Nat) (b : Bytes) : (hostWrite a b d).post = d.post := rfl
@[simp] theorem hostWrite_sync (a : Nat) (b : Bytes) : (hostWrite a b d).sync = d.sync := rfl
@[simp] theorem hostWrite_fe (a : Nat) (b : Bytes) : (hostWrite a b d).fe = d.fe := rfl
@[simp] theorem hostWrite_pipe (a : Nat) (b : Bytes) : (hostWrite a b d).pipe = d.pipe := rfl
@[simp] theorem hostWrite_strm (a : Nat) (b : Bytes) : (hostWrite a b d).strm = d.strm := rfl
@[simp] theorem hostWrite_pages (a : Nat) (b : Bytes) : (hostWrite a b d).pages = d.pages := rfl
@[simp] theorem hostWrite_cmpr (a : Nat) (b : Bytes) : (hostWrite a b d).cmpr = d.cmpr := rfl
@[simp] theorem hostWrite_mot (a : Nat) (b : Bytes) : (hostWrite a b d).mot = d.mot := rfl
@[simp] theorem hostWrite_cal (a : Nat) (b : Bytes) : (hostWrite a b d).cal = d.cal := rfl
@[simp] theorem hostWrite_sec (a : Nat) (b : Bytes) : (hostWrite a b d).sec = d.sec := rfl
@[simp] theorem hostWrite_que (a : Nat) (b : Bytes) : (hostWrite a b d).que = d.que := rfl
@[simp] theorem hostWrite_chans (a : Nat) (b : Bytes) : (hostWrite a b d).chans = d.chans := rfl
@[simp] theorem hostWrite_aux (a : Nat) (b : Bytes) : (hostWrite a b d).aux = d.aux := rfl
@[simp] theorem hostWrite_rst (a : Nat) (b : Bytes) : (hostWrite a b d).rst = d.rst := rfl

/-! ### winPut -/

@[simp] theorem winPut_now (w : Win) (o : Nat) (b : Byte) : (winPut w o b d).now = d.now := rfl
@[simp] theorem winPut_fresh (w : Win) (o : Nat) (b : Byte) : (winPut w o b d).fresh = d.fresh := rfl
@[simp] theorem winPut_cyc (w : Win) (o : Nat) (b : Byte) : (winPut w o b d).cyc = d.cyc := rfl
@[simp] theorem winPut_regs (w : Win) (o : Nat) (b : Byte) : (winPut w o b d).regs = d.regs := rfl
@[simp] theorem winPut_inforce (w : Win) (o : Nat) (b : Byte) : (winPut w o b d).inforce = d.inforce := rfl
@[simp] theorem winPut_hiLatch (w : Win) (o : Nat) (b : Byte) : (winPut w o b d).hiLatch = d.hiLatch := rfl
@[simp] theorem winPut_loHeld (w : Win) (o : Nat) (b : Byte) : (winPut w o b d).loHeld = d.loHeld := rfl
@[simp] theorem winPut_tables (w : Win) (o : Nat) (b : Byte) : (winPut w o b d).tables = d.tables := rfl
@[simp] theorem winPut_hbm (w : Win) (o : Nat) (b : Byte) : (winPut w o b d).hbm = d.hbm := rfl
@[simp] theorem winPut_host (w : Win) (o : Nat) (b : Byte) : (winPut w o b d).host = d.host := rfl
@[simp] theorem winPut_outbox (w : Win) (o : Nat) (b : Byte) : (winPut w o b d).outbox = d.outbox := rfl
@[simp] theorem winPut_rq (w : Win) (o : Nat) (b : Byte) : (winPut w o b d).rq = d.rq := rfl
@[simp] theorem winPut_evt (w : Win) (o : Nat) (b : Byte) : (winPut w o b d).evt = d.evt := rfl
@[simp] theorem winPut_esc (w : Win) (o : Nat) (b : Byte) : (winPut w o b d).esc = d.esc := rfl
@[simp] theorem winPut_post (w : Win) (o : Nat) (b : Byte) : (winPut w o b d).post = d.post := rfl
@[simp] theorem winPut_sync (w : Win) (o : Nat) (b : Byte) : (winPut w o b d).sync = d.sync := rfl
@[simp] theorem winPut_fe (w : Win) (o : Nat) (b : Byte) : (winPut w o b d).fe = d.fe := rfl
@[simp] theorem winPut_pipe (w : Win) (o : Nat) (b : Byte) : (winPut w o b d).pipe = d.pipe := rfl
@[simp] theorem winPut_strm (w : Win) (o : Nat) (b : Byte) : (winPut w o b d).strm = d.strm := rfl
@[simp] theorem winPut_pages (w : Win) (o : Nat) (b : Byte) : (winPut w o b d).pages = d.pages := rfl
@[simp] theorem winPut_cmpr (w : Win) (o : Nat) (b : Byte) : (winPut w o b d).cmpr = d.cmpr := rfl
@[simp] theorem winPut_mot (w : Win) (o : Nat) (b : Byte) : (winPut w o b d).mot = d.mot := rfl
@[simp] theorem winPut_cal (w : Win) (o : Nat) (b : Byte) : (winPut w o b d).cal = d.cal := rfl
@[simp] theorem winPut_sec (w : Win) (o : Nat) (b : Byte) : (winPut w o b d).sec = d.sec := rfl
@[simp] theorem winPut_que (w : Win) (o : Nat) (b : Byte) : (winPut w o b d).que = d.que := rfl
@[simp] theorem winPut_chans (w : Win) (o : Nat) (b : Byte) : (winPut w o b d).chans = d.chans := rfl
@[simp] theorem winPut_aux (w : Win) (o : Nat) (b : Byte) : (winPut w o b d).aux = d.aux := rfl
@[simp] theorem winPut_rst (w : Win) (o : Nat) (b : Byte) : (winPut w o b d).rst = d.rst := rfl

/-! ### The updates of one unit's state leave the registers alone -/

@[simp] theorem esc_regs (f : Esc → Esc) : (esc f d).regs = d.regs := rfl
@[simp] theorem esc_own (f : Esc → Esc) : (esc f d).esc = f d.esc := rfl
@[simp] theorem fe_regs (f : Fe → Fe) : (fe f d).regs = d.regs := rfl
@[simp] theorem fe_own (f : Fe → Fe) : (fe f d).fe = f d.fe := rfl
@[simp] theorem pipe_regs (f : Pipe → Pipe) : (pipe f d).regs = d.regs := rfl
@[simp] theorem pipe_own (f : Pipe → Pipe) : (pipe f d).pipe = f d.pipe := rfl
@[simp] theorem strm_regs (f : Strm → Strm) : (strm f d).regs = d.regs := rfl
@[simp] theorem strm_own (f : Strm → Strm) : (strm f d).strm = f d.strm := rfl
@[simp] theorem pages_regs (f : Pages → Pages) : (pages f d).regs = d.regs := rfl
@[simp] theorem pages_own (f : Pages → Pages) : (pages f d).pages = f d.pages := rfl
@[simp] theorem cmpr_regs (f : Cmpr → Cmpr) : (cmpr f d).regs = d.regs := rfl
@[simp] theorem cmpr_own (f : Cmpr → Cmpr) : (cmpr f d).cmpr = f d.cmpr := rfl
@[simp] theorem mot_regs (f : Mot → Mot) : (mot f d).regs = d.regs := rfl
@[simp] theorem mot_own (f : Mot → Mot) : (mot f d).mot = f d.mot := rfl
@[simp] theorem cal_regs (f : Cal → Cal) : (cal f d).regs = d.regs := rfl
@[simp] theorem cal_own (f : Cal → Cal) : (cal f d).cal = f d.cal := rfl
@[simp] theorem sec_regs (f : Sec → Sec) : (sec f d).regs = d.regs := rfl
@[simp] theorem sec_own (f : Sec → Sec) : (sec f d).sec = f d.sec := rfl
@[simp] theorem que_regs (f : Que → Que) : (que f d).regs = d.regs := rfl
@[simp] theorem que_own (f : Que → Que) : (que f d).que = f d.que := rfl
@[simp] theorem aux_regs (f : Aux → Aux) : (aux f d).regs = d.regs := rfl
@[simp] theorem aux_own (f : Aux → Aux) : (aux f d).aux = f d.aux := rfl
@[simp] theorem rst_regs (f : Rst → Rst) : (rst f d).regs = d.regs := rfl
@[simp] theorem rst_own (f : Rst → Rst) : (rst f d).rst = f d.rst := rfl
@[simp] theorem sync_regs (f : SyncSt → SyncSt) : (sync f d).regs = d.regs := rfl
@[simp] theorem sync_own (f : SyncSt → SyncSt) : (sync f d).sync = f d.sync := rfl

end Sys2Proof.Machine
end

