-- ==== Sys2Proof/Laws/Exec.lean ====
section
/-!
SUPPORT. Laws/Exec.lean: what the form of every meaning can answer, and what the work that follows a command can do.
-/
namespace Sys2Proof.Machine

theorem act_true (f : Dev → Dev) (s : State) : act true f s = .next { s with dev := settle (f s.dev) } := rfl

/-- A meaning whose operands name what the device has answers the next state. -/
theorem act_ok (ok : Bool) (f : Dev → Dev) (s : State) (h : ok = true) : act ok f s = .next { s with dev := settle (f s.dev) } := by
  subst h; rfl

theorem act_no (ok : Bool) (f : Dev → Dev) (s : State) (h : ok = false) : act ok f s = .fault .noSuchUnit := by
  subst h; rfl

/-- Everything a meaning can answer. -/
theorem act_cases (ok : Bool) (f : Dev → Dev) (s : State) :
    (ok = true ∧ act ok f s = .next { s with dev := settle (f s.dev) }) ∨ (ok = false ∧ act ok f s = .fault .noSuchUnit) := by
  cases ok
  · exact .inr ⟨rfl, rfl⟩
  · exact .inl ⟨rfl, rfl⟩

theorem act_next (ok : Bool) (f : Dev → Dev) (s t : State) (h : act ok f s = .next t) :
    ok = true ∧ t = { s with dev := settle (f s.dev) } := by
  cases ok
  · exact absurd h (by unfold act; simp)
  · unfold act at h; simp only [ite_true] at h; cases h; exact ⟨rfl, rfl⟩

theorem actFuses_next (ok : Bool) (g : Fuses → Dev → Fuses) (f : Dev → Dev) (s t : State) (h : actFuses ok g f s = .next t) :
    ok = true ∧ t = { s with fuses := g s.fuses s.dev, dev := settle (f s.dev) } := by
  cases ok
  · exact absurd h (by unfold actFuses; simp)
  · unfold actFuses at h; simp only [ite_true] at h; cases h; exact ⟨rfl, rfl⟩

/-! ### A command that has started -/

@[simp] theorem Cmd.begun_sq (c : Cmd) : c.begun.sq = c.sq := rfl
@[simp] theorem Cmd.begun_num (c : Cmd) : c.begun.num = c.num := rfl
@[simp] theorem Cmd.begun_tag (c : Cmd) : c.begun.tag = c.tag := rfl
@[simp] theorem Cmd.begun_ctx (c : Cmd) : c.begun.ctx = c.ctx := rfl
@[simp] theorem Cmd.begun_op (c : Cmd) : c.begun.op = c.op := rfl
@[simp] theorem Cmd.begun_fence (c : Cmd) : c.begun.fence = c.fence := rfl
@[simp] theorem Cmd.begun_entry (c : Cmd) : c.begun.entry = c.entry := rfl
@[simp] theorem Cmd.begun_block (c : Cmd) : c.begun.block = c.block := rfl
@[simp] theorem Cmd.begun_order (c : Cmd) : c.begun.order = c.order := rfl
@[simp] theorem Cmd.begun_data (c : Cmd) : c.begun.data = c.data := rfl
@[simp] theorem Cmd.begun_started (c : Cmd) : c.begun.started = true := rfl
@[simp] theorem Dev.begun_now (d : Dev) (c : Cmd) : (d.begun c).now = d.now := rfl
@[simp] theorem Dev.begun_fresh (d : Dev) (c : Cmd) : (d.begun c).fresh = d.fresh := rfl
@[simp] theorem Dev.begun_regs (d : Dev) (c : Cmd) : (d.begun c).regs = d.regs := rfl
@[simp] theorem Dev.begun_inforce (d : Dev) (c : Cmd) : (d.begun c).inforce = d.inforce := rfl
@[simp] theorem Dev.begun_hiLatch (d : Dev) (c : Cmd) : (d.begun c).hiLatch = d.hiLatch := rfl
@[simp] theorem Dev.begun_loHeld (d : Dev) (c : Cmd) : (d.begun c).loHeld = d.loHeld := rfl
@[simp] theorem Dev.begun_wins (d : Dev) (c : Cmd) : (d.begun c).wins = d.wins := rfl
@[simp] theorem Dev.begun_tables (d : Dev) (c : Cmd) : (d.begun c).tables = d.tables := rfl
@[simp] theorem Dev.begun_hbm (d : Dev) (c : Cmd) : (d.begun c).hbm = d.hbm := rfl
@[simp] theorem Dev.begun_host (d : Dev) (c : Cmd) : (d.begun c).host = d.host := rfl
@[simp] theorem Dev.begun_outbox (d : Dev) (c : Cmd) : (d.begun c).outbox = d.outbox := rfl
@[simp] theorem Dev.begun_rq (d : Dev) (c : Cmd) : (d.begun c).rq = d.rq := rfl
@[simp] theorem Dev.begun_evt (d : Dev) (c : Cmd) : (d.begun c).evt = d.evt := rfl
@[simp] theorem Dev.begun_esc (d : Dev) (c : Cmd) : (d.begun c).esc = d.esc := rfl
@[simp] theorem Dev.begun_sync (d : Dev) (c : Cmd) : (d.begun c).sync = d.sync := rfl
@[simp] theorem Dev.begun_fe (d : Dev) (c : Cmd) : (d.begun c).fe = d.fe := rfl
@[simp] theorem Dev.begun_pipe (d : Dev) (c : Cmd) : (d.begun c).pipe = d.pipe := rfl
@[simp] theorem Dev.begun_strm (d : Dev) (c : Cmd) : (d.begun c).strm = d.strm := rfl
@[simp] theorem Dev.begun_pages (d : Dev) (c : Cmd) : (d.begun c).pages = d.pages := rfl
@[simp] theorem Dev.begun_cmpr (d : Dev) (c : Cmd) : (d.begun c).cmpr = d.cmpr := rfl
@[simp] theorem Dev.begun_mot (d : Dev) (c : Cmd) : (d.begun c).mot = d.mot := rfl
@[simp] theorem Dev.begun_cal (d : Dev) (c : Cmd) : (d.begun c).cal = d.cal := rfl
@[simp] theorem Dev.begun_sec (d : Dev) (c : Cmd) : (d.begun c).sec = d.sec := rfl
@[simp] theorem Dev.begun_que (d : Dev) (c : Cmd) : (d.begun c).que = d.que := rfl
@[simp] theorem Dev.begun_chans (d : Dev) (c : Cmd) : (d.begun c).chans = d.chans := rfl
@[simp] theorem Dev.begun_aux (d : Dev) (c : Cmd) : (d.begun c).aux = d.aux := rfl
@[simp] theorem Dev.begun_rst (d : Dev) (c : Cmd) : (d.begun c).rst = d.rst := rfl

/-- The row of an opcode runs the command that awaits it. -/
theorem withCmd_awaits (d : Dev) (sq tag op : Nat) (c : Cmd) (h : d.awaits sq tag op c) (f : Cmd → Dev → Dev) :
    withCmd sq tag op f d = f c.begun (d.begun c) := by
  obtain ⟨_, _, a, b, e, g, i, j⟩ := h
  simp [withCmd, a, b, e, g, i, j, Cmd.begun, Dev.begun]

theorem awaits_ring (d : Dev) (sq tag op : Nat) (c : Cmd) (h : d.awaits sq tag op c) : (isRing sq && isTag tag) = true := by
  have := h.1; have := h.2.1; simp [isRing, isTag]; omega

/-- The row of an opcode answers the next state that its command's effect gives. -/
theorem act_awaits (s : State) (sq tag op : Nat) (c : Cmd) (h : s.dev.awaits sq tag op c) (f : Cmd → Dev → Dev) :
    act (isRing sq && isTag tag) (fun d => withCmd sq tag op f d) s = .next (s.after (f c.begun (s.dev.begun c))) := by
  rw [act_ok _ _ s (awaits_ring _ sq tag op c h), withCmd_awaits _ sq tag op c h]; rfl

/-- A command whose domain runs has its effect. -/
theorem needDom_up (n : Nat) (c : Cmd) (f : Dev → Dev) (d : Dev) (h : domUp d n = true) : needDom n c f d = f d := by
  simp [needDom, h]

theorem drainRq_none (n : Nat) (d : Dev) (h : d.rq = []) : drainRq n d = d := by
  cases n with
  | zero => unfold drainRq; cases d; simp_all
  | succ n => unfold drainRq; simp [h]

/-- Once the work that follows a command is done, nothing is asked any more. -/
theorem settleN_rq (n : Nat) : ∀ d, (settleN n d).rq = [] := by
  induction n with
  | zero => intro d; rfl
  | succ n ih =>
    intro d; unfold settleN; split
    · rename_i h; simpa using h
    · exact ih _

end Sys2Proof.Machine
end

