-- ==== Sys2Proof/Laws/Meanings.lean ====
section
/-!
SUPPORT. Laws/Meanings.lean: for every command, exec is its meaning's form; true by rfl.
-/
namespace Sys2Proof.Machine

@[simp] theorem exec_registerWrite (addr : Nat) (size : Nat) (value : Nat) (s : State) :
    exec (.registerWrite addr size value) s = act (inBar0 addr) (fun d => bar0Write addr size value d) s := rfl
@[simp] theorem exec_bar0ReadSpecial (addr : Nat) (size : Nat) (s : State) :
    exec (.bar0ReadSpecial addr size) s = act (inBar0 addr) (fun d => bar0Read s.fuses addr size d) s := rfl
@[simp] theorem exec_lowWordRead (addr : Nat) (s : State) :
    exec (.lowWordRead addr) s = act (inBar0 addr) (fun d => bar0Read s.fuses addr 4 d) s := rfl
@[simp] theorem exec_highWordWrite (addr : Nat) (value : Nat) (s : State) :
    exec (.highWordWrite addr value) s = act (inBar0 addr) (fun d => bar0Write addr 4 value d) s := rfl
@[simp] theorem exec_bar2Access (write : Bool) (off : Nat) (data : Bytes) (s : State) :
    exec (.bar2Access write off data) s = act true (fun d => bar2Access write off data d) s := rfl
@[simp] theorem exec_sqEnable (sq : Nat) (s : State) :
    exec (.sqEnable sq) s = act (isSq sq) (fun d => regCommand .RING_SQ_CTRL sq (sqEnableWrite sq) d) s := rfl
@[simp] theorem exec_sqDisable (sq : Nat) (s : State) :
    exec (.sqDisable sq) s = act (isSq sq) (fun d => regCommand .RING_SQ_CTRL sq (sqDisableWrite sq) d) s := rfl
@[simp] theorem exec_sqDrainDone (sq : Nat) (s : State) :
    exec (.sqDrainDone sq) s = act (isSq sq) (fun d => whenUp dPOST (sqDrainDone sq) d) s := rfl
@[simp] theorem exec_cqEnable (cq : Nat) (s : State) :
    exec (.cqEnable cq) s = act (isSq cq) (fun d => regCommand .RING_CQ_CTRL cq (cqEnableWrite cq) d) s := rfl
@[simp] theorem exec_cqDisable (cq : Nat) (s : State) :
    exec (.cqDisable cq) s = act (isSq cq) (fun d => regCommand .RING_CQ_CTRL cq (cqDisableWrite cq) d) s := rfl
@[simp] theorem exec_dbellSq (sq : Nat) (count : Nat) (s : State) :
    exec (.dbellSq sq count) s = act (isSq sq && isWord count) (fun d => regCommand .DBELL_SQ sq (dbellSqWrite sq count) d) s := rfl
@[simp] theorem exec_dbellCq (cq : Nat) (count : Nat) (s : State) :
    exec (.dbellCq cq count) s = act (isSq cq && isWord count) (fun d => regCommand .DBELL_CQ cq (dbellCqWrite cq count) d) s := rfl
@[simp] theorem exec_commandFetch (sq : Nat) (entry : Fetch) (block : Fetch) (s : State) :
    exec (.commandFetch sq entry block) s = act (isSq sq) (fun d => commandFetch sq entry block d) s := rfl
@[simp] theorem exec_completionWrite (cq : Nat) (s : State) :
    exec (.completionWrite cq) s = act (isSq cq) (fun d => completionWrite cq d) s := rfl
@[simp] theorem exec_cqHoldoffExpiry (cq : Nat) (s : State) :
    exec (.cqHoldoffExpiry cq) s = act (isSq cq) (fun d => cqHoldoffExpiry cq d) s := rfl
@[simp] theorem exec_identify (sq : Nat) (tag : Nat) (s : State) :
    exec (.identify sq tag) s = act (isRing sq && isTag tag) (fun d => withCmd sq tag 0x01 (fun c d => identify s.fuses c d) d) s := rfl
@[simp] theorem exec_getFeature (sq : Nat) (tag : Nat) (s : State) :
    exec (.getFeature sq tag) s = act (isRing sq && isTag tag) (fun d => withCmd sq tag 0x02 (fun c d => getFeature c d) d) s := rfl
@[simp] theorem exec_setFeature (sq : Nat) (tag : Nat) (s : State) :
    exec (.setFeature sq tag) s = act (isRing sq && isTag tag) (fun d => withCmd sq tag 0x03 (fun c d => setFeature c d) d) s := rfl
@[simp] theorem exec_abort (sq : Nat) (tag : Nat) (s : State) :
    exec (.abort sq tag) s = act (isRing sq && isTag tag) (fun d => withCmd sq tag 0x04 (fun c d => abortCmd c d) d) s := rfl
@[simp] theorem exec_syncDurable (sq : Nat) (tag : Nat) (s : State) :
    exec (.syncDurable sq tag) s = act (isRing sq && isTag tag) (fun d => withCmd sq tag 0x05 (fun c d => syncDurable c d) d) s := rfl
@[simp] theorem exec_ledgerRead (sq : Nat) (tag : Nat) (s : State) :
    exec (.ledgerRead sq tag) s = act (isRing sq && isTag tag) (fun d => withCmd sq tag 0x06 (fun c d => ledgerRead c d) d) s := rfl
@[simp] theorem exec_reset (sq : Nat) (tag : Nat) (s : State) :
    exec (.reset sq tag) s = act (isRing sq && isTag tag) (fun d => withCmd sq tag 0x07 (fun c d => resetCmd s.fuses c d) d) s := rfl
@[simp] theorem exec_reserveQuery (sq : Nat) (tag : Nat) (s : State) :
    exec (.reserveQuery sq tag) s = act (isRing sq && isTag tag) (fun d => withCmd sq tag 0x08 (fun c d => needDom dFABRIC c (fun d => reserveQuery c d) d) d) s := rfl
@[simp] theorem exec_ttblLoad (sq : Nat) (tag : Nat) (image : Fetch) (s : State) :
    exec (.ttblLoad sq tag image) s = act (isRing sq && isTag tag) (fun d => withCmd sq tag 0x20 (fun c d => ttblLoad c image d) d) s := rfl
@[simp] theorem exec_ttblActivate (sq : Nat) (tag : Nat) (s : State) :
    exec (.ttblActivate sq tag) s = act (isRing sq && isTag tag) (fun d => withCmd sq tag 0x21 (fun c d => ttblActivate c d) d) s := rfl
@[simp] theorem exec_ttblUnload (sq : Nat) (tag : Nat) (s : State) :
    exec (.ttblUnload sq tag) s = act (isRing sq && isTag tag) (fun d => withCmd sq tag 0x22 (fun c d => ttblUnload c d) d) s := rfl
@[simp] theorem exec_refAlloc (sq : Nat) (tag : Nat) (s : State) :
    exec (.refAlloc sq tag) s = act (isRing sq && isTag tag) (fun d => withCmd sq tag 0x23 (fun c d => needDom dCOMPARE c (fun d => refAlloc c d) d) d) s := rfl
@[simp] theorem exec_refLoad (sq : Nat) (tag : Nat) (content : Fetch) (s : State) :
    exec (.refLoad sq tag content) s = act (isRing sq && isTag tag) (fun d => withCmd sq tag 0x24 (fun c d => needDom dCOMPARE c (fun d => refLoad content c d) d) d) s := rfl
@[simp] theorem exec_refFree (sq : Nat) (tag : Nat) (s : State) :
    exec (.refFree sq tag) s = act (isRing sq && isTag tag) (fun d => withCmd sq tag 0x25 (fun c d => needDom dCOMPARE c (fun d => refFree c d) d) d) s := rfl
@[simp] theorem exec_captureStart (sq : Nat) (tag : Nat) (s : State) :
    exec (.captureStart sq tag) s = act (isRing sq && isTag tag) (fun d => withCmd sq tag 0x40 (fun c d => needDom dFABRIC c (fun d => captureStart c d) d) d) s := rfl
@[simp] theorem exec_captureStop (sq : Nat) (tag : Nat) (s : State) :
    exec (.captureStop sq tag) s = act (isRing sq && isTag tag) (fun d => withCmd sq tag 0x41 (fun c d => needDom dFABRIC c (fun d => captureStop c d) d) d) s := rfl
@[simp] theorem exec_bufferPost (sq : Nat) (tag : Nat) (s : State) :
    exec (.bufferPost sq tag) s = act (isRing sq && isTag tag) (fun d => withCmd sq tag 0x42 (fun c d => needDom dFABRIC c (fun d => bufferPost c d) d) d) s := rfl
@[simp] theorem exec_contextOpen (sq : Nat) (tag : Nat) (s : State) :
    exec (.contextOpen sq tag) s = act (isRing sq && isTag tag) (fun d => withCmd sq tag 0x43 (fun c d => needDom dFABRIC c (fun d => contextOpen c d) d) d) s := rfl
@[simp] theorem exec_contextClose (sq : Nat) (tag : Nat) (s : State) :
    exec (.contextClose sq tag) s = act (isRing sq && isTag tag) (fun d => withCmd sq tag 0x44 (fun c d => needDom dFABRIC c (fun d => contextClose c d) d) d) s := rfl
@[simp] theorem exec_calRun (sq : Nat) (tag : Nat) (s : State) :
    exec (.calRun sq tag) s = act (isRing sq && isTag tag) (fun d => withCmd sq tag 0x60 (fun c d => needDom dREGUL c (fun d => calRun c d) d) d) s := rfl
@[simp] theorem exec_calTileRun (sq : Nat) (tag : Nat) (s : State) :
    exec (.calTileRun sq tag) s = act (isRing sq && isTag tag) (fun d => withCmd sq tag 0x61 (fun c d => needDom dREGUL c (fun d => calTileRun c d) d) d) s := rfl
@[simp] theorem exec_baselineWrite (sq : Nat) (tag : Nat) (s : State) :
    exec (.baselineWrite sq tag) s = act (isRing sq && isTag tag) (fun d => withCmd sq tag 0x62 (fun c d => needDom dREGUL c (fun d => baselineWrite c d) d) d) s := rfl
@[simp] theorem exec_move (sq : Nat) (tag : Nat) (s : State) :
    exec (.move sq tag) s = act (isRing sq && isTag tag) (fun d => withCmd sq tag 0x70 (fun c d => needDom dREMON c (fun d => axMove c d) d) d) s := rfl
@[simp] theorem exec_home (sq : Nat) (tag : Nat) (s : State) :
    exec (.home sq tag) s = act (isRing sq && isTag tag) (fun d => withCmd sq tag 0x71 (fun c d => needDom dREMON c (fun d => axHome c d) d) d) s := rfl
@[simp] theorem exec_stop (sq : Nat) (tag : Nat) (s : State) :
    exec (.stop sq tag) s = act (isRing sq && isTag tag) (fun d => withCmd sq tag 0x72 (fun c d => needDom dREMON c (fun d => axStopCmd c d) d) d) s := rfl
@[simp] theorem exec_resume (sq : Nat) (tag : Nat) (s : State) :
    exec (.resume sq tag) s = act (isRing sq && isTag tag) (fun d => withCmd sq tag 0x73 (fun c d => needDom dREMON c (fun d => axResume c d) d) d) s := rfl
@[simp] theorem exec_auxConfig (sq : Nat) (tag : Nat) (s : State) :
    exec (.auxConfig sq tag) s = act (isRing sq && isTag tag) (fun d => withCmd sq tag 0x80 (fun c d => auxConfig c d) d) s := rfl
@[simp] theorem exec_auxConvert (sq : Nat) (tag : Nat) (s : State) :
    exec (.auxConvert sq tag) s = act (isRing sq && isTag tag) (fun d => withCmd sq tag 0x81 (fun c d => auxConvert c d) d) s := rfl
@[simp] theorem exec_ratioSet (sq : Nat) (tag : Nat) (s : State) :
    exec (.ratioSet sq tag) s = act (isRing sq && isTag tag) (fun d => withCmd sq tag 0x82 (fun c d => ratioSet c d) d) s := rfl
@[simp] theorem exec_driveScan (sq : Nat) (tag : Nat) (s : State) :
    exec (.driveScan sq tag) s = act (isRing sq && isTag tag) (fun d => withCmd sq tag 0x90 (fun c d => needDom dRP c (fun d => driveScan c d) d) d) s := rfl
@[simp] theorem exec_restanteRead (sq : Nat) (tag : Nat) (read : Nat × List (Nat × Bytes)) (s : State) :
    exec (.restanteRead sq tag read) s = act (isRing sq && isTag tag) (fun d => withCmd sq tag 0x91 (fun c d => needDom dRP c (fun d => restanteRead read.1 read.2 c d) d) d) s := rfl
@[simp] theorem exec_restanteRelease (sq : Nat) (tag : Nat) (s : State) :
    exec (.restanteRelease sq tag) s = act (isRing sq && isTag tag) (fun d => withCmd sq tag 0x92 (fun c d => needDom dRP c (fun d => restanteRelease c d) d) d) s := rfl
@[simp] theorem exec_mirrorSet (sq : Nat) (tag : Nat) (s : State) :
    exec (.mirrorSet sq tag) s = act (isRing sq && isTag tag) (fun d => withCmd sq tag 0x93 (fun c d => needDom dRP c (fun d => mirrorSet c d) d) d) s := rfl
@[simp] theorem exec_fwStage (sq : Nat) (tag : Nat) (s : State) :
    exec (.fwStage sq tag) s = actFuses (isRing sq && isTag tag) (stageFuses sq tag) (fun d => withCmd sq tag 0xA0 (fun c d => fwStage s.fuses c d) d) s := rfl
@[simp] theorem exec_fwActivate (sq : Nat) (tag : Nat) (s : State) :
    exec (.fwActivate sq tag) s = act (isRing sq && isTag tag) (fun d => withCmd sq tag 0xA1 (fun c d => fwActivate c d) d) s := rfl
@[simp] theorem exec_certRead (sq : Nat) (tag : Nat) (s : State) :
    exec (.certRead sq tag) s = act (isRing sq && isTag tag) (fun d => withCmd sq tag 0xA2 (fun c d => certRead c d) d) s := rfl
@[simp] theorem exec_diagLoopback (sq : Nat) (tag : Nat) (readBack : Fetch) (s : State) :
    exec (.diagLoopback sq tag readBack) s = act (isRing sq && isTag tag) (fun d => withCmd sq tag 0xF0 (fun c d => diagLoopback c readBack d) d) s := rfl
@[simp] theorem exec_diagLogRead (sq : Nat) (tag : Nat) (s : State) :
    exec (.diagLogRead sq tag) s = act (isRing sq && isTag tag) (fun d => withCmd sq tag 0xF1 (fun c d => diagLogRead c d) d) s := rfl
@[simp] theorem exec_crownGo (block : Fetch) (s : State) :
    exec (.crownGo block) s = act true (fun d => crownGo block d) s := rfl
@[simp] theorem exec_ratioArm (s : State) :
    exec .ratioArm s = act true (fun d => regCommand .ESC_RATIO_CTRL 0 (ratioCtrl true false) d) s := rfl
@[simp] theorem exec_ratioCancel (s : State) :
    exec .ratioCancel s = act true (fun d => regCommand .ESC_RATIO_CTRL 0 (ratioCtrl false true) d) s := rfl
@[simp] theorem exec_ttblHandoverNow (s : State) :
    exec .ttblHandoverNow s = act true (fun d => regCommand .TTBL_HANDOVER_NOW 0 handoverNow d) s := rfl
@[simp] theorem exec_ttblGenCommit (classes : Nat) (s : State) :
    exec (.ttblGenCommit classes) s = act (decide (classes < 4096)) (fun d => regCommand .TTBL_GEN_COMMIT 0 (genCommit classes) d) s := rfl
@[simp] theorem exec_portResume (port : Nat) (s : State) :
    exec (.portResume port) s = act (isPort port) (fun d => regCommand .PORT_CTRL port (portCtrl port true false) d) s := rfl
@[simp] theorem exec_portPowerOff (port : Nat) (s : State) :
    exec (.portPowerOff port) s = act (isPort port) (fun d => regCommand .PORT_CTRL port (portCtrl port false true) d) s := rfl
@[simp] theorem exec_calRestore (s : State) :
    exec .calRestore s = act true (fun d => regCommand .CAL_CTRL 0 calRestore d) s := rfl
@[simp] theorem exec_pageCtrlOpen (s : State) :
    exec .pageCtrlOpen s = act true (fun d => regCommand .PROD_PAGE_CTRL 0 (pageCtrl true) d) s := rfl
@[simp] theorem exec_pageCtrlClose (s : State) :
    exec .pageCtrlClose s = act true (fun d => regCommand .PROD_PAGE_CTRL 0 (pageCtrl false) d) s := rfl
@[simp] theorem exec_syncCtrlArm (rule : Nat) (s : State) :
    exec (.syncCtrlArm rule) s = act (decide (rule < 4)) (fun d => regCommand .SYNC_CTRL 0 (syncCtrlArm rule) d) s := rfl
@[simp] theorem exec_syncCtrlDisarm (s : State) :
    exec .syncCtrlDisarm s = act true (fun d => regCommand .SYNC_CTRL 0 syncCtrlDisarm d) s := rfl
@[simp] theorem exec_dmaChTail (chan : Nat) (count : Nat) (s : State) :
    exec (.dmaChTail chan count) s = act (isChan chan && isWord count) (fun d => regCommand .DMA_CH_TAIL chan (dmaTail chan count) d) s := rfl
@[simp] theorem exec_dmaChEnable (chan : Nat) (enable : Bool) (s : State) :
    exec (.dmaChEnable chan enable) s = act (isChan chan) (fun d => regCommand .DMA_CH_CTRL chan (dmaEnable chan enable) d) s := rfl
@[simp] theorem exec_dmaChPause (chan : Nat) (pause : Bool) (s : State) :
    exec (.dmaChPause chan pause) s = act (isChan chan) (fun d => regCommand .DMA_CH_CTRL chan (dmaPauseWrite chan pause) d) s := rfl
@[simp] theorem exec_dmaChRestart (chan : Nat) (s : State) :
    exec (.dmaChRestart chan) s = act (isChan chan) (fun d => regCommand .DMA_CH_CTRL chan (dmaRestart chan) d) s := rfl
@[simp] theorem exec_axEnable (axis : Nat) (enable : Bool) (faultHigh : Bool) (s : State) :
    exec (.axEnable axis enable faultHigh) s = act (isAxis axis) (fun d => regCommand .AX_CTRL axis (axEnable axis enable faultHigh) d) s := rfl
@[simp] theorem exec_axClearFault (axis : Nat) (faultHigh : Bool) (s : State) :
    exec (.axClearFault axis faultHigh) s = act (isAxis axis) (fun d => regCommand .AX_CTRL axis (axClearFault axis faultHigh) d) s := rfl
@[simp] theorem exec_gearArm (axis : Nat) (s : State) :
    exec (.gearArm axis) s = act (isAxis axis) (fun d => regCommand .AX_GEAR_CTRL axis (gearArm axis) d) s := rfl
@[simp] theorem exec_gearCancel (axis : Nat) (s : State) :
    exec (.gearCancel axis) s = act (isAxis axis) (fun d => regCommand .AX_GEAR_CTRL axis (gearCancel axis) d) s := rfl
@[simp] theorem exec_auxForce (chain : Nat) (s : State) :
    exec (.auxForce chain) s = act (isChain chain) (fun d => regCommand .AUX_CHAIN_CTRL chain (auxForce chain) d) s := rfl
@[simp] theorem exec_auxUrgent (chain : Nat) (input : Nat) (queue : Nat) (push : Bool) (s : State) :
    exec (.auxUrgent chain input queue push) s = act (isChain chain && decide (input < 32) && isQueue queue) (fun d => regCommand .AUX_URGENT chain (auxUrgent chain input queue push) d) s := rfl
@[simp] theorem exec_optionCommit (s : State) :
    exec .optionCommit s = act true (fun d => regCommand .SEC_OPTION_CTRL 0 optionCommit d) s := rfl
@[simp] theorem exec_evtSwSet (source : Nat) (s : State) :
    exec (.evtSwSet source) s = act (isSource source) (fun d => regCommand .EVT_CTRL 0 (evtSwSet source) d) s := rfl
@[simp] theorem exec_evtClearCount (source : Nat) (s : State) :
    exec (.evtClearCount source) s = act (isSource source) (fun d => regCommand .EVT_CTRL 0 (evtClearCount source) d) s := rfl
@[simp] theorem exec_evtStatusClear (word : Nat) (value : Nat) (s : State) :
    exec (.evtStatusClear word value) s = act (isFlagWord word && isWord value) (fun d => regCommand .EVT_STATUS word (evtStatusClear word value) d) s := rfl
@[simp] theorem exec_evtEnableWrite (word : Nat) (value : Nat) (s : State) :
    exec (.evtEnableWrite word value) s = act (isFlagWord word && isWord value) (fun d => regCommand .EVT_ENABLE word (evtEnableWrite word value) d) s := rfl
@[simp] theorem exec_evtLogRead (count : Nat) (s : State) :
    exec (.evtLogRead count) s = act (isWord count) (fun d => regCommand .EVT_LOG_READ 0 (evtLogRead count) d) s := rfl
@[simp] theorem exec_evtLogCfgWrite (size : Nat) (enable : Bool) (s : State) :
    exec (.evtLogCfgWrite size enable) s = act (decide (size < 65536)) (fun d => regCommand .EVT_LOG_CFG 0 (evtLogCfgWrite size enable) d) s := rfl
@[simp] theorem exec_diagInject (memory : Nat) (double : Bool) (arm : Bool) (s : State) :
    exec (.diagInject memory double arm) s = act (decide (memory < 18)) (fun d => regCommand .DIAG_INJECT 0 (diagInject memory double arm) d) s := rfl
@[simp] theorem exec_uqPop (queue : Nat) (s : State) :
    exec (.uqPop queue) s = act (isQueue queue) (fun d => regCommand .QUE_UQ_POP queue (uqPop queue) d) s := rfl
@[simp] theorem exec_msixEnable (s : State) :
    exec .msixEnable s = act true (fun d => whenUp dEP msixEnable d) s := rfl
@[simp] theorem exec_msixUnmask (vector : Nat) (s : State) :
    exec (.msixUnmask vector) s = act (decide (vector < 2048)) (fun d => whenUp dEP (msixUnmask vector) d) s := rfl
@[simp] theorem exec_spdmRequest (object : Bytes) (s : State) :
    exec (.spdmRequest object) s = act true (fun d => spdmRequest s.fuses (fun s => effReach d s 1) object d) s := rfl
@[simp] theorem exec_encoderEdge (enc : Nat) (a : Bool) (b : Bool) (s : State) :
    exec (.encoderEdge enc a b) s = act (isEncoder enc) (fun d => encoderEdge enc a b d) s := rfl
@[simp] theorem exec_encIndex (enc : Nat) (a : Bool) (b : Bool) (s : State) :
    exec (.encIndex enc a b) s = act (isEncoder enc) (fun d => encIndex enc a b d) s := rfl
@[simp] theorem exec_encLos (enc : Nat) (s : State) :
    exec (.encLos enc) s = act (isEncoder enc) (fun d => encLos enc d) s := rfl
@[simp] theorem exec_trackStill (s : State) :
    exec .trackStill s = act true (fun d => trackStill d) s := rfl
@[simp] theorem exec_slotRelease (s : State) :
    exec .slotRelease s = act true (fun d => slotRelease d) s := rfl
@[simp] theorem exec_slotRefill (s : State) :
    exec .slotRefill s = act true (fun d => slotRefill d) s := rfl
@[simp] theorem exec_genCopyDone (cls : Nat) (s : State) :
    exec (.genCopyDone cls) s = act (isClass cls) (fun d => whenUp dESC (genCopyDone cls) d) s := rfl
@[simp] theorem exec_evoutPulseEnd (output : Nat) (s : State) :
    exec (.evoutPulseEnd output) s = act (isOutput output) (fun d => evoutPulseEnd output d) s := rfl
@[simp] theorem exec_handover (start : Nat) (s : State) :
    exec (.handover start) s = act true (fun d => handover start d) s := rfl
@[simp] theorem exec_pgRunEnd (gen : Nat) (clamp : Int) (volts : List (List (Int × Int))) (s : State) :
    exec (.pgRunEnd gen clamp volts) s = act (isGen gen) (fun d => pgRunEnd gen clamp volts d) s := rfl
@[simp] theorem exec_clkFault (gen : Nat) (s : State) :
    exec (.clkFault gen) s = act (isGen gen) (fun d => clkFault gen d) s := rfl
@[simp] theorem exec_laneFrameRx (port : Nat) (codeErr : Bool) (lengthOk : Bool) (seq : Nat) (ignored : Bytes) (payload : Bytes) (crc : Nat) (s : State) :
    exec (.laneFrameRx port codeErr lengthOk seq ignored payload crc) s = act (isPort port) (fun d => laneFrameRx port codeErr lengthOk seq ignored payload crc d) s := rfl
@[simp] theorem exec_laneWindowClose (port : Nat) (s : State) :
    exec (.laneWindowClose port) s = act (isPort port) (fun d => laneWindowClose port d) s := rfl
@[simp] theorem exec_laneLock (port : Nat) (s : State) :
    exec (.laneLock port) s = act (isPort port) (fun d => laneLock port d) s := rfl
@[simp] theorem exec_laneLos (port : Nat) (s : State) :
    exec (.laneLos port) s = act (isPort port) (fun d => laneLos port d) s := rfl
@[simp] theorem exec_flitResend (die : Nat) (ok : Bool) (s : State) :
    exec (.flitResend die ok) s = act (isDie die) (fun d => flitRetrain die ok d) s := rfl
@[simp] theorem exec_dieLinkUp (die : Nat) (s : State) :
    exec (.dieLinkUp die) s = act (isDie die) (fun d => dieLinkUp die d) s := rfl
@[simp] theorem exec_i3cHotJoin (bus : Nat) (gone : List Nat) (descs : List Bytes) (s : State) :
    exec (.i3cHotJoin bus gone descs) s = act (isBus bus) (fun d => i3cHotJoin bus gone descs d) s := rfl
@[simp] theorem exec_i3cIbi (bus : Nat) (s : State) :
    exec (.i3cIbi bus) s = act (isBus bus) (fun d => i3cIbi bus d) s := rfl
@[simp] theorem exec_i3cPoll (bus : Nat) (failed : List Nat) (errors : Nat) (s : State) :
    exec (.i3cPoll bus failed errors) s = act (isBus bus) (fun d => i3cPoll bus failed errors d) s := rfl
@[simp] theorem exec_i3cPollRetry (segment : Nat) (answered : Bool) (s : State) :
    exec (.i3cPollRetry segment answered) s = act (isSegment segment) (fun d => i3cPollRetry segment answered d) s := rfl
@[simp] theorem exec_segPowerEnable (segment : Nat) (s : State) :
    exec (.segPowerEnable segment) s = act (isSegment segment) (fun d => segPowerEnable segment d) s := rfl
@[simp] theorem exec_segLanesAcquire (segment : Nat) (s : State) :
    exec (.segLanesAcquire segment) s = act (isSegment segment) (fun d => segLanesAcquire segment d) s := rfl
@[simp] theorem exec_segLockTimeout (segment : Nat) (s : State) :
    exec (.segLockTimeout segment) s = act (isSegment segment) (fun d => segLockTimeout segment d) s := rfl
@[simp] theorem exec_segRelockTimeout (segment : Nat) (s : State) :
    exec (.segRelockTimeout segment) s = act (isSegment segment) (fun d => segRelockTimeout segment d) s := rfl
@[simp] theorem exec_segClocksOff (segment : Nat) (s : State) :
    exec (.segClocksOff segment) s = act (isSegment segment) (fun d => segClocksOff segment d) s := rfl
@[simp] theorem exec_lineComplete (late : Bool) (latency : Nat) (s : State) :
    exec (.lineComplete late latency) s = act true (fun d => lineComplete late latency d) s := rfl
@[simp] theorem exec_verdictPath (s : State) :
    exec .verdictPath s = act true (fun d => whenUp dCOMPARE verdictPath d) s := rfl
@[simp] theorem exec_regBandResult (s : State) :
    exec .regBandResult s = act true (fun d => whenUp dCOMPARE regBandResult d) s := rfl
@[simp] theorem exec_edgeFit (s : State) :
    exec .edgeFit s = act true (fun d => whenUp dFABRIC edgeFit d) s := rfl
@[simp] theorem exec_cropForm (s : State) :
    exec .cropForm s = act true (fun d => whenUp dFABRIC cropForm d) s := rfl
@[simp] theorem exec_triggerPinEdge (pin : Nat) (level : Bool) (s : State) :
    exec (.triggerPinEdge pin level) s = act (isPin pin) (fun d => triggerPinEdge pin level d) s := rfl
@[simp] theorem exec_triggerTimeout (trigger : Nat) (s : State) :
    exec (.triggerTimeout trigger) s = act (isTrigger trigger) (fun d => triggerTimeout trigger d) s := rfl
@[simp] theorem exec_seqTimerExpiry (seq : Nat) (s : State) :
    exec (.seqTimerExpiry seq) s = act (isSequencer seq) (fun d => seqTimerExpiry seq d) s := rfl
@[simp] theorem exec_button (btn : Nat) (level : Bool) (s : State) :
    exec (.button btn level) s = act (isButton btn) (fun d => button btn level d) s := rfl
@[simp] theorem exec_parcelFlush (ctx : Nat) (s : State) :
    exec (.parcelFlush ctx) s = act (isCtx ctx) (fun d => parcelFlush ctx d) s := rfl
@[simp] theorem exec_parcelDeliver (ctx : Nat) (s : State) :
    exec (.parcelDeliver ctx) s = act (isCtx ctx) (fun d => parcelDeliver ctx d) s := rfl
@[simp] theorem exec_parcelReachedHost (ctx : Nat) (s : State) :
    exec (.parcelReachedHost ctx) s = act (isCtx ctx) (fun d => parcelReachedHost ctx d) s := rfl
@[simp] theorem exec_ledgerNvsWrite (s : State) :
    exec .ledgerNvsWrite s = act true (fun d => ledgerNvsWrite d) s := rfl
@[simp] theorem exec_checkpointSigned (s : State) :
    exec .checkpointSigned s = act true (fun d => checkpointSigned d) s := rfl
@[simp] theorem exec_syncFrameRx (frame : Bytes) (s : State) :
    exec (.syncFrameRx frame) s = act true (fun d => syncFrameRx frame d) s := rfl
@[simp] theorem exec_syncEnumTimer (s : State) :
    exec .syncEnumTimer s = act true (fun d => syncEnumTimer d) s := rfl
@[simp] theorem exec_syncPosTimer (s : State) :
    exec .syncPosTimer s = act true (fun d => syncPosTimer d) s := rfl
@[simp] theorem exec_syncFireApply (s : State) :
    exec .syncFireApply s = act true (fun d => syncFireApply d) s := rfl
@[simp] theorem exec_syncRxLos (s : State) :
    exec .syncRxLos s = act true (fun d => syncRxLos d) s := rfl
@[simp] theorem exec_syncPosTimeout (s : State) :
    exec .syncPosTimeout s = act true (fun d => syncPosTimeout d) s := rfl
@[simp] theorem exec_calDecision (s : State) :
    exec .calDecision s = act true (fun d => calDecision d) s := rfl
@[simp] theorem exec_calTimeout (s : State) :
    exec .calTimeout s = act true (fun d => calTimeout d) s := rfl
@[simp] theorem exec_calHoldoffExpiry (segment : Nat) (s : State) :
    exec (.calHoldoffExpiry segment) s = act (isSegment segment) (fun d => calHoldoffExpiry segment d) s := rfl
@[simp] theorem exec_tileSettleDone (s : State) :
    exec .tileSettleDone s = act true (fun d => tileSettleDone d) s := rfl
@[simp] theorem exec_queueLevelUpdate (s : State) :
    exec .queueLevelUpdate s = act true (fun d => queueLevelUpdate d) s := rfl
@[simp] theorem exec_spillWriteDone (writeUnit : Nat) (ok : Bool) (s : State) :
    exec (.spillWriteDone writeUnit ok) s = act (isDrive writeUnit) (fun d => spillWriteDone writeUnit ok d) s := rfl
@[simp] theorem exec_restanteReturnDone (ctx : Nat) (readable : Bool) (failed : Option Bytes) (s : State) :
    exec (.restanteReturnDone ctx readable failed) s = act (isCtx ctx) (fun d => restanteReturnDone ctx readable failed.isNone (failed.getD []) d) s := rfl
@[simp] theorem exec_drivePresent (port : Nat) (s : State) :
    exec (.drivePresent port) s = act (isDrive port) (fun d => drivePresent port d) s := rfl
@[simp] theorem exec_driveLinkUp (port : Nat) (rate : Nat) (width : Nat) (s : State) :
    exec (.driveLinkUp port rate width) s = act (isDrive port) (fun d => driveLinkUp port rate width d) s := rfl
@[simp] theorem exec_driveTrainTimeout (port : Nat) (s : State) :
    exec (.driveTrainTimeout port) s = act (isDrive port) (fun d => driveTrainTimeout port d) s := rfl
@[simp] theorem exec_driveInitDone (port : Nat) (namespaces : List (List Nat)) (found : List Nat × Nat) (s : State) :
    exec (.driveInitDone port namespaces found) s = act (isDrive port && decide (found.2 < 3)) (fun d => driveInitDone port namespaces found.1 found.2 d) s := rfl
@[simp] theorem exec_driveCmdTimeout (port : Nat) (what : Nat) (restored : Bool) (s : State) :
    exec (.driveCmdTimeout port what restored) s = act (isDrive port && decide (what < 3)) (fun d => driveCmdTimeout port what restored d) s := rfl
@[simp] theorem exec_driveRemoved (port : Nat) (present : Bool) (s : State) :
    exec (.driveRemoved port present) s = act (isDrive port) (fun d => driveRemoved port present d) s := rfl
@[simp] theorem exec_mirrorRebuildDone (writeUnit : Nat) (s : State) :
    exec (.mirrorRebuildDone writeUnit) s = act (isDrive writeUnit) (fun d => whenUp dRP (mirrorRebuildDone writeUnit) d) s := rfl
@[simp] theorem exec_driveScanSettled (timeout : Bool) (s : State) :
    exec (.driveScanSettled timeout) s = act true (fun d => driveScanSettled timeout d) s := rfl
@[simp] theorem exec_dmaDescriptorStart (chan : Nat) (desc : Fetch) (index : Bytes) (source : Bytes) (s : State) :
    exec (.dmaDescriptorStart chan desc index source) s = act (isChan chan) (fun d => dmaDescriptorStart chan desc index source d) s := rfl
@[simp] theorem exec_dmaDescriptorDone (chan : Nat) (s : State) :
    exec (.dmaDescriptorDone chan) s = act (isChan chan) (fun d => dmaDescriptorDone chan d) s := rfl
@[simp] theorem exec_dmaReadError (chan : Nat) (cause : Nat) (got : Nat) (s : State) :
    exec (.dmaReadError chan cause got) s = act (isChan chan) (fun d => dmaReadError chan cause got d) s := rfl
@[simp] theorem exec_dmaTimerCredit (chan : Nat) (s : State) :
    exec (.dmaTimerCredit chan) s = act (isChan chan) (fun d => dmaTimerCredit chan d) s := rfl
@[simp] theorem exec_dmaPaused (chan : Nat) (upTo : Nat) (s : State) :
    exec (.dmaPaused chan upTo) s = act (isChan chan) (fun d => dmaPaused chan upTo d) s := rfl
@[simp] theorem exec_servoTick (s : State) :
    exec .servoTick s = act true (fun d => servoTick d) s := rfl
@[simp] theorem exec_stepUpdate (axis : Nat) (s : State) :
    exec (.stepUpdate axis) s = act (isAxis axis) (fun d => stepUpdate axis d) s := rfl
@[simp] theorem exec_limitSample (axis : Nat) (neg : Bool) (pos : Bool) (s : State) :
    exec (.limitSample axis neg pos) s = act (isAxis axis) (fun d => limitSample axis neg pos d) s := rfl
@[simp] theorem exec_axOvercurrent (axis : Nat) (s : State) :
    exec (.axOvercurrent axis) s = act (isAxis axis) (fun d => axOvercurrent axis d) s := rfl
@[simp] theorem exec_axBridgeFault (axis : Nat) (s : State) :
    exec (.axBridgeFault axis) s = act (isAxis axis) (fun d => axBridgeFault axis d) s := rfl
@[simp] theorem exec_axBrakeDelay (axis : Nat) (s : State) :
    exec (.axBrakeDelay axis) s = act (isAxis axis) (fun d => axBrakeDelay axis d) s := rfl
@[simp] theorem exec_axHoldDelay (axis : Nat) (s : State) :
    exec (.axHoldDelay axis) s = act (isAxis axis) (fun d => axHoldDelay axis d) s := rfl
@[simp] theorem exec_auxSettleDone (chain : Nat) (s : State) :
    exec (.auxSettleDone chain) s = act (isChain chain) (fun d => auxSettleDone chain d) s := rfl
@[simp] theorem exec_auxCode (chain : Nat) (raw : Int) (ovf : Bool) (s : State) :
    exec (.auxCode chain raw ovf) s = act (isChain chain) (fun d => auxCode chain raw ovf d) s := rfl
@[simp] theorem exec_auxConvPin (chain : Nat) (level : Bool) (s : State) :
    exec (.auxConvPin chain level) s = act (isChain chain) (fun d => auxConvPin chain level d) s := rfl
@[simp] theorem exec_ratioTimeout (output : Nat) (s : State) :
    exec (.ratioTimeout output) s = act (decide (output < 8)) (fun d => ratioTimeout output d) s := rfl
@[simp] theorem exec_powerFailAssert (s : State) :
    exec .powerFailAssert s = act true (fun d => powerFail d) s := rfl
@[simp] theorem exec_powerFailDeassert (s : State) :
    exec .powerFailDeassert s = act true (fun d => powerBack s.fuses d) s := rfl
@[simp] theorem exec_supplyOutOfRange (domain : Nat) (s : State) :
    exec (.supplyOutOfRange domain) s = act (decide (domain ≤ 24)) (fun d => assertSource s.fuses (if domain = 24 then 0 else 1 + domain) 0 none d) s := rfl
@[simp] theorem exec_resetNLow (s : State) :
    exec .resetNLow s = act true (fun d => assertSource s.fuses 25 0 none d) s := rfl
@[simp] theorem exec_pciePerst (s : State) :
    exec .pciePerst s = act true (fun d => assertSource s.fuses 26 0 none d) s := rfl
@[simp] theorem exec_pcieHotReset (s : State) :
    exec .pcieHotReset s = act true (fun d => assertSource s.fuses 27 0 none d) s := rfl
@[simp] theorem exec_pcieFlr (s : State) :
    exec .pcieFlr s = act true (fun d => assertSource s.fuses 28 0 none d) s := rfl
@[simp] theorem exec_watchdogExpiry (processor : Nat) (s : State) :
    exec (.watchdogExpiry processor) s = act (decide (processor < 5)) (fun d => assertSource s.fuses (29 + processor) 0 none d) s := rfl
@[simp] theorem exec_clockLoss (clock : Nat) (s : State) :
    exec (.clockLoss clock) s = act (decide (clock < 7)) (fun d => assertSource s.fuses (35 + clock) 0 none d) s := rfl
@[simp] theorem exec_thermal (s : State) :
    exec .thermal s = act true (fun d => if tooHot d then assertSource s.fuses 42 0 none d else d) s := rfl
@[simp] theorem exec_resetAssert (source : Nat) (s : State) :
    exec (.resetAssert source) s = act (decide (source < 51)) (fun d => if source = 34 then restartSource s.fuses d else assertSource s.fuses source 0 none d) s := rfl
@[simp] theorem exec_domainIdle (domain : Nat) (s : State) :
    exec (.domainIdle domain) s = act (decide (domain < 24)) (fun d => domainIdle s.fuses domain d) s := rfl
@[simp] theorem exec_rstIdleTimeout (s : State) :
    exec .rstIdleTimeout s = act true (fun d => idleTimeout s.fuses d) s := rfl
@[simp] theorem exec_resetDeassert (source : Nat) (s : State) :
    exec (.resetDeassert source) s = act (decide (source < 51)) (fun d => resetDeassert s.fuses source d) s := rfl
@[simp] theorem exec_winderReleaseStep (rate : Nat) (width : Nat) (s : State) :
    exec (.winderReleaseStep rate width) s = act (decide (rate ≤ 6) && decide (width ≤ 16)) (fun d => winderStep s.fuses rate width d) s := rfl
@[simp] theorem exec_domainPowerTimeout (s : State) :
    exec .domainPowerTimeout s = act true (fun d => powerTimeout s.fuses d) s := rfl
@[simp] theorem exec_fwVerified (s : State) :
    exec .fwVerified s = act true (fun d => fwVerified s.fuses d) s := rfl
@[simp] theorem exec_bootComplete (s : State) :
    exec .bootComplete s = act true (fun d => bootComplete d) s := rfl
@[simp] theorem exec_startTimeout (s : State) :
    exec .startTimeout s = act true (fun d => startTimeout s.fuses d) s := rfl
@[simp] theorem exec_svnBurn (s : State) :
    exec .svnBurn s = actFuses true (fun f d => { f with svn := burnSvn f d }) (fun d => svnBurn s.fuses d) s := rfl
@[simp] theorem exec_replay (torn : Nat) (s : State) :
    exec (.replay torn) s = act true (fun d => replay torn d) s := rfl
@[simp] theorem exec_replayResume (s : State) :
    exec .replayResume s = act true (fun d => replayResume d) s := rfl
@[simp] theorem exec_bankRestoreDone (cls : Nat) (s : State) :
    exec (.bankRestoreDone cls) s = act (isClass cls) (fun d => bankRestoreDone cls d) s := rfl
@[simp] theorem exec_scrubPass (stack : Nat) (errors : List (List Nat)) (s : State) :
    exec (.scrubPass stack errors) s = act (decide (stack < 2)) (fun d => scrubPass s.fuses stack errors d) s := rfl
@[simp] theorem exec_tjUpdate (temps : List Int) (s : State) :
    exec (.tjUpdate temps) s = act (decide (temps.length = 8)) (fun d => tjUpdate temps d) s := rfl
@[simp] theorem exec_encFaultClears (enc : Nat) (s : State) :
    exec (.encFaultClears enc) s = act (isEncoder enc) (fun d => encFaultClears enc d) s := rfl
@[simp] theorem exec_checkpointInterval (s : State) :
    exec .checkpointInterval s = act true (fun d => ckptInterval d) s := rfl
@[simp] theorem exec_arrayScrub (errors : List (List Nat)) (s : State) :
    exec (.arrayScrub errors) s = act true (fun d => arrayScrub s.fuses errors d) s := rfl
@[simp] theorem exec_nvsWriteDone (what : Nat) (ok : Bool) (s : State) :
    exec (.nvsWriteDone what ok) s = act (decide (what < 3)) (fun d => if what = 0 then slotWritten ok d else if what = 1 then optionWritten ok d else baselineWritten ok d) s := rfl
@[simp] theorem exec_rpPerstNHigh (port : Nat) (s : State) :
    exec (.rpPerstNHigh port) s = act (isDrive port) (fun d => rpPerstHigh port d) s := rfl
@[simp] theorem exec_chopperCycle (axis : Nat) (coil : Nat) (reach : Nat) (sensed : Int) (s : State) :
    exec (.chopperCycle axis coil reach sensed) s = act (isAxis axis && decide (coil < 2)) (fun d => chopperCycle axis coil reach sensed d) s := rfl

/-- Everything a command's meaning is: an operand check that is its well-formedness, and a change of the device, with a change of fuses for
SVN_BURN and FW_STAGE alone. -/
theorem exec_form (c : Instr) (s : State) :
    (∃ f, exec c s = act c.wf f s) ∨
    ((c = .svnBurn ∨ ∃ sq tag, c = .fwStage sq tag) ∧ ∃ f, exec c s = actFuses c.wf (match c with
      | .fwStage sq tag => stageFuses sq tag
      | _ => fun f d => { f with svn := burnSvn f d }) f s) := by
  cases c with
  | registerWrite x0 x1 x2 => exact .inl ⟨_, exec_registerWrite x0 x1 x2 s⟩
  | bar0ReadSpecial x0 x1 => exact .inl ⟨_, exec_bar0ReadSpecial x0 x1 s⟩
  | lowWordRead x0 => exact .inl ⟨_, exec_lowWordRead x0 s⟩
  | highWordWrite x0 x1 => exact .inl ⟨_, exec_highWordWrite x0 x1 s⟩
  | bar2Access x0 x1 x2 => exact .inl ⟨_, exec_bar2Access x0 x1 x2 s⟩
  | sqEnable x0 => exact .inl ⟨_, exec_sqEnable x0 s⟩
  | sqDisable x0 => exact .inl ⟨_, exec_sqDisable x0 s⟩
  | sqDrainDone x0 => exact .inl ⟨_, exec_sqDrainDone x0 s⟩
  | cqEnable x0 => exact .inl ⟨_, exec_cqEnable x0 s⟩
  | cqDisable x0 => exact .inl ⟨_, exec_cqDisable x0 s⟩
  | dbellSq x0 x1 => exact .inl ⟨_, exec_dbellSq x0 x1 s⟩
  | dbellCq x0 x1 => exact .inl ⟨_, exec_dbellCq x0 x1 s⟩
  | commandFetch x0 x1 x2 => exact .inl ⟨_, exec_commandFetch x0 x1 x2 s⟩
  | completionWrite x0 => exact .inl ⟨_, exec_completionWrite x0 s⟩
  | cqHoldoffExpiry x0 => exact .inl ⟨_, exec_cqHoldoffExpiry x0 s⟩
  | identify x0 x1 => exact .inl ⟨_, exec_identify x0 x1 s⟩
  | getFeature x0 x1 => exact .inl ⟨_, exec_getFeature x0 x1 s⟩
  | setFeature x0 x1 => exact .inl ⟨_, exec_setFeature x0 x1 s⟩
  | abort x0 x1 => exact .inl ⟨_, exec_abort x0 x1 s⟩
  | syncDurable x0 x1 => exact .inl ⟨_, exec_syncDurable x0 x1 s⟩
  | ledgerRead x0 x1 => exact .inl ⟨_, exec_ledgerRead x0 x1 s⟩
  | reset x0 x1 => exact .inl ⟨_, exec_reset x0 x1 s⟩
  | reserveQuery x0 x1 => exact .inl ⟨_, exec_reserveQuery x0 x1 s⟩
  | ttblLoad x0 x1 x2 => exact .inl ⟨_, exec_ttblLoad x0 x1 x2 s⟩
  | ttblActivate x0 x1 => exact .inl ⟨_, exec_ttblActivate x0 x1 s⟩
  | ttblUnload x0 x1 => exact .inl ⟨_, exec_ttblUnload x0 x1 s⟩
  | refAlloc x0 x1 => exact .inl ⟨_, exec_refAlloc x0 x1 s⟩
  | refLoad x0 x1 x2 => exact .inl ⟨_, exec_refLoad x0 x1 x2 s⟩
  | refFree x0 x1 => exact .inl ⟨_, exec_refFree x0 x1 s⟩
  | captureStart x0 x1 => exact .inl ⟨_, exec_captureStart x0 x1 s⟩
  | captureStop x0 x1 => exact .inl ⟨_, exec_captureStop x0 x1 s⟩
  | bufferPost x0 x1 => exact .inl ⟨_, exec_bufferPost x0 x1 s⟩
  | contextOpen x0 x1 => exact .inl ⟨_, exec_contextOpen x0 x1 s⟩
  | contextClose x0 x1 => exact .inl ⟨_, exec_contextClose x0 x1 s⟩
  | calRun x0 x1 => exact .inl ⟨_, exec_calRun x0 x1 s⟩
  | calTileRun x0 x1 => exact .inl ⟨_, exec_calTileRun x0 x1 s⟩
  | baselineWrite x0 x1 => exact .inl ⟨_, exec_baselineWrite x0 x1 s⟩
  | move x0 x1 => exact .inl ⟨_, exec_move x0 x1 s⟩
  | home x0 x1 => exact .inl ⟨_, exec_home x0 x1 s⟩
  | stop x0 x1 => exact .inl ⟨_, exec_stop x0 x1 s⟩
  | resume x0 x1 => exact .inl ⟨_, exec_resume x0 x1 s⟩
  | auxConfig x0 x1 => exact .inl ⟨_, exec_auxConfig x0 x1 s⟩
  | auxConvert x0 x1 => exact .inl ⟨_, exec_auxConvert x0 x1 s⟩
  | ratioSet x0 x1 => exact .inl ⟨_, exec_ratioSet x0 x1 s⟩
  | driveScan x0 x1 => exact .inl ⟨_, exec_driveScan x0 x1 s⟩
  | restanteRead x0 x1 x2 => exact .inl ⟨_, exec_restanteRead x0 x1 x2 s⟩
  | restanteRelease x0 x1 => exact .inl ⟨_, exec_restanteRelease x0 x1 s⟩
  | mirrorSet x0 x1 => exact .inl ⟨_, exec_mirrorSet x0 x1 s⟩
  | fwStage x0 x1 => exact .inr ⟨.inr ⟨_, _, rfl⟩, _, exec_fwStage x0 x1 s⟩
  | fwActivate x0 x1 => exact .inl ⟨_, exec_fwActivate x0 x1 s⟩
  | certRead x0 x1 => exact .inl ⟨_, exec_certRead x0 x1 s⟩
  | diagLoopback x0 x1 x2 => exact .inl ⟨_, exec_diagLoopback x0 x1 x2 s⟩
  | diagLogRead x0 x1 => exact .inl ⟨_, exec_diagLogRead x0 x1 s⟩
  | crownGo x0 => exact .inl ⟨_, exec_crownGo x0 s⟩
  | ratioArm => exact .inl ⟨_, exec_ratioArm s⟩
  | ratioCancel => exact .inl ⟨_, exec_ratioCancel s⟩
  | ttblHandoverNow => exact .inl ⟨_, exec_ttblHandoverNow s⟩
  | ttblGenCommit x0 => exact .inl ⟨_, exec_ttblGenCommit x0 s⟩
  | portResume x0 => exact .inl ⟨_, exec_portResume x0 s⟩
  | portPowerOff x0 => exact .inl ⟨_, exec_portPowerOff x0 s⟩
  | calRestore => exact .inl ⟨_, exec_calRestore s⟩
  | pageCtrlOpen => exact .inl ⟨_, exec_pageCtrlOpen s⟩
  | pageCtrlClose => exact .inl ⟨_, exec_pageCtrlClose s⟩
  | syncCtrlArm x0 => exact .inl ⟨_, exec_syncCtrlArm x0 s⟩
  | syncCtrlDisarm => exact .inl ⟨_, exec_syncCtrlDisarm s⟩
  | dmaChTail x0 x1 => exact .inl ⟨_, exec_dmaChTail x0 x1 s⟩
  | dmaChEnable x0 x1 => exact .inl ⟨_, exec_dmaChEnable x0 x1 s⟩
  | dmaChPause x0 x1 => exact .inl ⟨_, exec_dmaChPause x0 x1 s⟩
  | dmaChRestart x0 => exact .inl ⟨_, exec_dmaChRestart x0 s⟩
  | axEnable x0 x1 x2 => exact .inl ⟨_, exec_axEnable x0 x1 x2 s⟩
  | axClearFault x0 x1 => exact .inl ⟨_, exec_axClearFault x0 x1 s⟩
  | gearArm x0 => exact .inl ⟨_, exec_gearArm x0 s⟩
  | gearCancel x0 => exact .inl ⟨_, exec_gearCancel x0 s⟩
  | auxForce x0 => exact .inl ⟨_, exec_auxForce x0 s⟩
  | auxUrgent x0 x1 x2 x3 => exact .inl ⟨_, exec_auxUrgent x0 x1 x2 x3 s⟩
  | optionCommit => exact .inl ⟨_, exec_optionCommit s⟩
  | evtSwSet x0 => exact .inl ⟨_, exec_evtSwSet x0 s⟩
  | evtClearCount x0 => exact .inl ⟨_, exec_evtClearCount x0 s⟩
  | evtStatusClear x0 x1 => exact .inl ⟨_, exec_evtStatusClear x0 x1 s⟩
  | evtEnableWrite x0 x1 => exact .inl ⟨_, exec_evtEnableWrite x0 x1 s⟩
  | evtLogRead x0 => exact .inl ⟨_, exec_evtLogRead x0 s⟩
  | evtLogCfgWrite x0 x1 => exact .inl ⟨_, exec_evtLogCfgWrite x0 x1 s⟩
  | diagInject x0 x1 x2 => exact .inl ⟨_, exec_diagInject x0 x1 x2 s⟩
  | uqPop x0 => exact .inl ⟨_, exec_uqPop x0 s⟩
  | msixEnable => exact .inl ⟨_, exec_msixEnable s⟩
  | msixUnmask x0 => exact .inl ⟨_, exec_msixUnmask x0 s⟩
  | spdmRequest x0 => exact .inl ⟨_, exec_spdmRequest x0 s⟩
  | encoderEdge x0 x1 x2 => exact .inl ⟨_, exec_encoderEdge x0 x1 x2 s⟩
  | encIndex x0 x1 x2 => exact .inl ⟨_, exec_encIndex x0 x1 x2 s⟩
  | encLos x0 => exact .inl ⟨_, exec_encLos x0 s⟩
  | trackStill => exact .inl ⟨_, exec_trackStill s⟩
  | slotRelease => exact .inl ⟨_, exec_slotRelease s⟩
  | slotRefill => exact .inl ⟨_, exec_slotRefill s⟩
  | genCopyDone x0 => exact .inl ⟨_, exec_genCopyDone x0 s⟩
  | evoutPulseEnd x0 => exact .inl ⟨_, exec_evoutPulseEnd x0 s⟩
  | handover x0 => exact .inl ⟨_, exec_handover x0 s⟩
  | pgRunEnd x0 x1 x2 => exact .inl ⟨_, exec_pgRunEnd x0 x1 x2 s⟩
  | clkFault x0 => exact .inl ⟨_, exec_clkFault x0 s⟩
  | laneFrameRx x0 x1 x2 x3 x4 x5 x6 => exact .inl ⟨_, exec_laneFrameRx x0 x1 x2 x3 x4 x5 x6 s⟩
  | laneWindowClose x0 => exact .inl ⟨_, exec_laneWindowClose x0 s⟩
  | laneLock x0 => exact .inl ⟨_, exec_laneLock x0 s⟩
  | laneLos x0 => exact .inl ⟨_, exec_laneLos x0 s⟩
  | flitResend x0 x1 => exact .inl ⟨_, exec_flitResend x0 x1 s⟩
  | dieLinkUp x0 => exact .inl ⟨_, exec_dieLinkUp x0 s⟩
  | i3cHotJoin x0 x1 x2 => exact .inl ⟨_, exec_i3cHotJoin x0 x1 x2 s⟩
  | i3cIbi x0 => exact .inl ⟨_, exec_i3cIbi x0 s⟩
  | i3cPoll x0 x1 x2 => exact .inl ⟨_, exec_i3cPoll x0 x1 x2 s⟩
  | i3cPollRetry x0 x1 => exact .inl ⟨_, exec_i3cPollRetry x0 x1 s⟩
  | segPowerEnable x0 => exact .inl ⟨_, exec_segPowerEnable x0 s⟩
  | segLanesAcquire x0 => exact .inl ⟨_, exec_segLanesAcquire x0 s⟩
  | segLockTimeout x0 => exact .inl ⟨_, exec_segLockTimeout x0 s⟩
  | segRelockTimeout x0 => exact .inl ⟨_, exec_segRelockTimeout x0 s⟩
  | segClocksOff x0 => exact .inl ⟨_, exec_segClocksOff x0 s⟩
  | lineComplete x0 x1 => exact .inl ⟨_, exec_lineComplete x0 x1 s⟩
  | verdictPath => exact .inl ⟨_, exec_verdictPath s⟩
  | regBandResult => exact .inl ⟨_, exec_regBandResult s⟩
  | edgeFit => exact .inl ⟨_, exec_edgeFit s⟩
  | cropForm => exact .inl ⟨_, exec_cropForm s⟩
  | triggerPinEdge x0 x1 => exact .inl ⟨_, exec_triggerPinEdge x0 x1 s⟩
  | triggerTimeout x0 => exact .inl ⟨_, exec_triggerTimeout x0 s⟩
  | seqTimerExpiry x0 => exact .inl ⟨_, exec_seqTimerExpiry x0 s⟩
  | button x0 x1 => exact .inl ⟨_, exec_button x0 x1 s⟩
  | parcelFlush x0 => exact .inl ⟨_, exec_parcelFlush x0 s⟩
  | parcelDeliver x0 => exact .inl ⟨_, exec_parcelDeliver x0 s⟩
  | parcelReachedHost x0 => exact .inl ⟨_, exec_parcelReachedHost x0 s⟩
  | ledgerNvsWrite => exact .inl ⟨_, exec_ledgerNvsWrite s⟩
  | checkpointSigned => exact .inl ⟨_, exec_checkpointSigned s⟩
  | syncFrameRx x0 => exact .inl ⟨_, exec_syncFrameRx x0 s⟩
  | syncEnumTimer => exact .inl ⟨_, exec_syncEnumTimer s⟩
  | syncPosTimer => exact .inl ⟨_, exec_syncPosTimer s⟩
  | syncFireApply => exact .inl ⟨_, exec_syncFireApply s⟩
  | syncRxLos => exact .inl ⟨_, exec_syncRxLos s⟩
  | syncPosTimeout => exact .inl ⟨_, exec_syncPosTimeout s⟩
  | calDecision => exact .inl ⟨_, exec_calDecision s⟩
  | calTimeout => exact .inl ⟨_, exec_calTimeout s⟩
  | calHoldoffExpiry x0 => exact .inl ⟨_, exec_calHoldoffExpiry x0 s⟩
  | tileSettleDone => exact .inl ⟨_, exec_tileSettleDone s⟩
  | queueLevelUpdate => exact .inl ⟨_, exec_queueLevelUpdate s⟩
  | spillWriteDone x0 x1 => exact .inl ⟨_, exec_spillWriteDone x0 x1 s⟩
  | restanteReturnDone x0 x1 x2 => exact .inl ⟨_, exec_restanteReturnDone x0 x1 x2 s⟩
  | drivePresent x0 => exact .inl ⟨_, exec_drivePresent x0 s⟩
  | driveLinkUp x0 x1 x2 => exact .inl ⟨_, exec_driveLinkUp x0 x1 x2 s⟩
  | driveTrainTimeout x0 => exact .inl ⟨_, exec_driveTrainTimeout x0 s⟩
  | driveInitDone x0 x1 x2 => exact .inl ⟨_, exec_driveInitDone x0 x1 x2 s⟩
  | driveCmdTimeout x0 x1 x2 => exact .inl ⟨_, exec_driveCmdTimeout x0 x1 x2 s⟩
  | driveRemoved x0 x1 => exact .inl ⟨_, exec_driveRemoved x0 x1 s⟩
  | mirrorRebuildDone x0 => exact .inl ⟨_, exec_mirrorRebuildDone x0 s⟩
  | driveScanSettled x0 => exact .inl ⟨_, exec_driveScanSettled x0 s⟩
  | dmaDescriptorStart x0 x1 x2 x3 => exact .inl ⟨_, exec_dmaDescriptorStart x0 x1 x2 x3 s⟩
  | dmaDescriptorDone x0 => exact .inl ⟨_, exec_dmaDescriptorDone x0 s⟩
  | dmaReadError x0 x1 x2 => exact .inl ⟨_, exec_dmaReadError x0 x1 x2 s⟩
  | dmaTimerCredit x0 => exact .inl ⟨_, exec_dmaTimerCredit x0 s⟩
  | dmaPaused x0 x1 => exact .inl ⟨_, exec_dmaPaused x0 x1 s⟩
  | servoTick => exact .inl ⟨_, exec_servoTick s⟩
  | stepUpdate x0 => exact .inl ⟨_, exec_stepUpdate x0 s⟩
  | limitSample x0 x1 x2 => exact .inl ⟨_, exec_limitSample x0 x1 x2 s⟩
  | axOvercurrent x0 => exact .inl ⟨_, exec_axOvercurrent x0 s⟩
  | axBridgeFault x0 => exact .inl ⟨_, exec_axBridgeFault x0 s⟩
  | axBrakeDelay x0 => exact .inl ⟨_, exec_axBrakeDelay x0 s⟩
  | axHoldDelay x0 => exact .inl ⟨_, exec_axHoldDelay x0 s⟩
  | auxSettleDone x0 => exact .inl ⟨_, exec_auxSettleDone x0 s⟩
  | auxCode x0 x1 x2 => exact .inl ⟨_, exec_auxCode x0 x1 x2 s⟩
  | auxConvPin x0 x1 => exact .inl ⟨_, exec_auxConvPin x0 x1 s⟩
  | ratioTimeout x0 => exact .inl ⟨_, exec_ratioTimeout x0 s⟩
  | powerFailAssert => exact .inl ⟨_, exec_powerFailAssert s⟩
  | powerFailDeassert => exact .inl ⟨_, exec_powerFailDeassert s⟩
  | supplyOutOfRange x0 => exact .inl ⟨_, exec_supplyOutOfRange x0 s⟩
  | resetNLow => exact .inl ⟨_, exec_resetNLow s⟩
  | pciePerst => exact .inl ⟨_, exec_pciePerst s⟩
  | pcieHotReset => exact .inl ⟨_, exec_pcieHotReset s⟩
  | pcieFlr => exact .inl ⟨_, exec_pcieFlr s⟩
  | watchdogExpiry x0 => exact .inl ⟨_, exec_watchdogExpiry x0 s⟩
  | clockLoss x0 => exact .inl ⟨_, exec_clockLoss x0 s⟩
  | thermal => exact .inl ⟨_, exec_thermal s⟩
  | resetAssert x0 => exact .inl ⟨_, exec_resetAssert x0 s⟩
  | domainIdle x0 => exact .inl ⟨_, exec_domainIdle x0 s⟩
  | rstIdleTimeout => exact .inl ⟨_, exec_rstIdleTimeout s⟩
  | resetDeassert x0 => exact .inl ⟨_, exec_resetDeassert x0 s⟩
  | winderReleaseStep x0 x1 => exact .inl ⟨_, exec_winderReleaseStep x0 x1 s⟩
  | domainPowerTimeout => exact .inl ⟨_, exec_domainPowerTimeout s⟩
  | fwVerified => exact .inl ⟨_, exec_fwVerified s⟩
  | bootComplete => exact .inl ⟨_, exec_bootComplete s⟩
  | startTimeout => exact .inl ⟨_, exec_startTimeout s⟩
  | svnBurn => exact .inr ⟨.inl rfl, _, exec_svnBurn s⟩
  | replay x0 => exact .inl ⟨_, exec_replay x0 s⟩
  | replayResume => exact .inl ⟨_, exec_replayResume s⟩
  | bankRestoreDone x0 => exact .inl ⟨_, exec_bankRestoreDone x0 s⟩
  | scrubPass x0 x1 => exact .inl ⟨_, exec_scrubPass x0 x1 s⟩
  | tjUpdate x0 => exact .inl ⟨_, exec_tjUpdate x0 s⟩
  | encFaultClears x0 => exact .inl ⟨_, exec_encFaultClears x0 s⟩
  | checkpointInterval => exact .inl ⟨_, exec_checkpointInterval s⟩
  | arrayScrub x0 => exact .inl ⟨_, exec_arrayScrub x0 s⟩
  | nvsWriteDone x0 x1 => exact .inl ⟨_, exec_nvsWriteDone x0 x1 s⟩
  | rpPerstNHigh x0 => exact .inl ⟨_, exec_rpPerstNHigh x0 s⟩
  | chopperCycle x0 x1 x2 x3 => exact .inl ⟨_, exec_chopperCycle x0 x1 x2 x3 s⟩

end Sys2Proof.Machine
end

