-- ==== Sys2Proof/Laws/Sparse.lean ====
section
/-!
SUPPORT. Laws/Sparse.lean: reading a sparse map or a byte memory after a write, and that every write keeps the canonical form.
-/
namespace Sys2Proof.Machine

variable {V : Type} [DecidableEq V]

theorem spWfFrom_mono (dflt : Nat → V) (m : List (Nat × V)) (lo lo' : Nat) (h : lo' ≤ lo) (w : spWfFrom dflt lo m = true) :
    spWfFrom dflt lo' m = true := by
  cases m with
  | nil => rfl
  | cons x t =>
    simp only [spWfFrom, Bool.and_eq_true, decide_eq_true_eq] at w ⊢
    exact ⟨⟨Nat.le_trans h w.1.1, w.1.2⟩, w.2⟩

/-- A key below every listed one is not listed. -/
theorem spGet_below (dflt : Nat → V) (d : V) (k : Nat) (m : List (Nat × V)) (lo : Nat) (w : spWfFrom dflt lo m = true) (h : k < lo) :
    spGet d k m = d := by
  cases m with
  | nil => rfl
  | cons x t =>
    simp only [spWfFrom, Bool.and_eq_true, decide_eq_true_eq] at w
    simp [spGet, Nat.lt_of_lt_of_le h w.1.1]

theorem spSet_wfFrom (dflt : Nat → V) (k : Nat) (v : V) (m : List (Nat × V)) :
    ∀ lo, lo ≤ k → spWfFrom dflt lo m = true → spWfFrom dflt lo (spSet (dflt k) k v m) = true := by
  induction m with
  | nil =>
    intro lo h _
    unfold spSet
    by_cases e : v = dflt k <;> simp [e, spWfFrom, h]
  | cons x t ih =>
    intro lo h w
    obtain ⟨a, u⟩ := x
    have w' := w
    simp only [spWfFrom, Bool.and_eq_true, decide_eq_true_eq] at w
    unfold spSet
    by_cases e : v = dflt k <;> simp only [e, ite_true, ite_false]
    · by_cases c : k < a
      · simp [c, w']
      · by_cases c2 : k = a
        · simp only [c2, Nat.lt_irrefl, ite_true, ite_false]
          exact spWfFrom_mono dflt t (a + 1) lo (by omega) w.2
        · simp only [c, c2, ite_false, spWfFrom, Bool.and_eq_true, decide_eq_true_eq]
          exact ⟨w.1, e ▸ ih (a + 1) (by omega) w.2⟩
    · by_cases c : k < a
      · simp only [c, ite_true, spWfFrom, Bool.and_eq_true, decide_eq_true_eq]
        exact ⟨⟨h, e⟩, ⟨by omega, w.1.2⟩, w.2⟩
      · by_cases c2 : k = a
        · subst c2
          simp only [Nat.lt_irrefl, ite_true, ite_false, spWfFrom, Bool.and_eq_true, decide_eq_true_eq]
          exact ⟨⟨h, e⟩, w.2⟩
        · simp only [c, c2, ite_false, spWfFrom, Bool.and_eq_true, decide_eq_true_eq]
          exact ⟨w.1, ih (a + 1) (by omega) w.2⟩

/-- Every write keeps the canonical form. -/
theorem spSet_wf (dflt : Nat → V) (k : Nat) (v : V) (m : List (Nat × V)) (w : spWf dflt m = true) :
    spWf dflt (spSet (dflt k) k v m) = true := spSet_wfFrom dflt k v m 0 (Nat.zero_le k) w

theorem spGet_spSet_fromSame (dflt : Nat → V) (k : Nat) (v : V) (m : List (Nat × V)) :
    ∀ lo, spWfFrom dflt lo m = true → spGet (dflt k) k (spSet (dflt k) k v m) = v := by
  induction m with
  | nil =>
    intro lo _
    by_cases e : v = dflt k <;> simp [spSet, spGet, e]
  | cons x t ih =>
    intro lo w
    obtain ⟨a, u⟩ := x
    simp only [spWfFrom, Bool.and_eq_true, decide_eq_true_eq] at w
    by_cases c : k < a
    · by_cases e : v = dflt k <;> simp [spSet, spGet, c, e]
    · by_cases c2 : k = a
      · subst c2
        by_cases e : v = dflt k
        · simp only [spSet, Nat.lt_irrefl, e, ite_true, ite_false]
          exact spGet_below dflt (dflt k) k t (k + 1) w.2 (by omega)
        · simp [spSet, spGet, e]
      · simp only [spSet, c, c2, ite_false, spGet]
        exact ih (a + 1) w.2

/-- What is read at a key after a write there. -/
theorem spGet_spSet_same (dflt : Nat → V) (k : Nat) (v : V) (m : List (Nat × V)) (w : spWf dflt m = true) :
    spGet (dflt k) k (spSet (dflt k) k v m) = v := spGet_spSet_fromSame dflt k v m 0 w

theorem spGet_spSet_fromOther (dflt : Nat → V) (d' : V) (k k' : Nat) (v : V) (n : k ≠ k') (m : List (Nat × V)) :
    ∀ lo, spWfFrom dflt lo m = true → spGet d' k' (spSet (dflt k) k v m) = spGet d' k' m := by
  induction m with
  | nil =>
    intro lo _
    by_cases e : v = dflt k <;> simp [spSet, spGet, e, Ne.symm n]
  | cons x t ih =>
    intro lo w
    obtain ⟨a, u⟩ := x
    simp only [spWfFrom, Bool.and_eq_true, decide_eq_true_eq] at w
    by_cases c : k < a
    · by_cases e : v = dflt k
      · simp [spSet, c, e]
      · simp only [spSet, c, e, ite_true, ite_false, spGet]
        by_cases c3 : k' < k
        · simp [c3, Nat.lt_trans c3 c]
        · simp only [c3, Ne.symm n, ite_false]
    · by_cases c2 : k = a
      · subst c2
        by_cases e : v = dflt k
        · simp only [spSet, Nat.lt_irrefl, e, ite_true, ite_false, spGet]
          by_cases c3 : k' < k
          · simp only [c3, ite_true]
            exact spGet_below dflt d' k' t (k + 1) w.2 (by omega)
          · simp only [c3, Ne.symm n, ite_false]
        · simp [spSet, spGet, e, Ne.symm n]
      · simp only [spSet, c, c2, ite_false, spGet]
        rw [ih (a + 1) w.2]

/-- A write leaves every other key alone. -/
theorem spGet_spSet_other (dflt : Nat → V) (d' : V) (k k' : Nat) (v : V) (m : List (Nat × V)) (w : spWf dflt m = true) (n : k ≠ k') :
    spGet d' k' (spSet (dflt k) k v m) = spGet d' k' m := spGet_spSet_fromOther dflt d' k k' v n m 0 w

/-! ### Byte memories -/

theorem Mem.write_wf (m : Mem) (a : Nat) (b : Byte) (w : m.wf = true) : (m.write a b).wf = true :=
  spSet_wf (fun _ => 0#8) a b m w

theorem Mem.read_write_same (m : Mem) (a : Nat) (b : Byte) (w : m.wf = true) : (m.write a b).read a = b :=
  spGet_spSet_same (fun _ => 0#8) a b m w

theorem Mem.read_write_other (m : Mem) (a a' : Nat) (b : Byte) (w : m.wf = true) (n : a ≠ a') :
    (m.write a b).read a' = m.read a' := spGet_spSet_other (fun _ => 0#8) 0#8 a a' b m w n

theorem Mem.writeBytes_wf (b : Bytes) : ∀ (m : Mem) (a : Nat), m.wf = true → (m.writeBytes a b).wf = true := by
  induction b with
  | nil => intro m a w; exact w
  | cons x t ih => intro m a w; exact ih (m.write a x) (a + 1) (m.write_wf a x w)

theorem Mem.clear_wfFrom (a n : Nat) (m : Mem) : ∀ lo, spWfFrom (fun _ => 0#8) lo m = true →
    spWfFrom (fun _ => 0#8) lo (m.clear a n) = true := by
  induction m with
  | nil => intro lo _; rfl
  | cons x t ih =>
    intro lo w
    simp only [spWfFrom, Bool.and_eq_true, decide_eq_true_eq] at w
    unfold Mem.clear List.filter
    split
    · simp only [spWfFrom, Bool.and_eq_true, decide_eq_true_eq]
      exact ⟨w.1, ih _ w.2⟩
    · exact spWfFrom_mono _ _ (x.1 + 1) lo (by omega) (ih _ w.2)

/-- Clearing a range keeps the canonical form. -/
theorem Mem.clear_wf (m : Mem) (a n : Nat) (w : m.wf = true) : (m.clear a n).wf = true := Mem.clear_wfFrom a n m 0 w

/-- The canonical form of a memory holds its addresses strictly rising. -/
theorem Mem.wf_nil : Mem.wf [] = true := rfl

end Sys2Proof.Machine
end

