-- ==== Sys2Proof/Laws/Regs.lean ====
section
/-!
SUPPORT. Laws/Regs.lean: reading registers after an update: other state leaves them alone, and a write in a canonical register file reads back.
-/
namespace Sys2Proof.Machine

variable (d : Dev) (r : Reg) (i : Nat)

@[simp] theorem rd_mark (r' : Reg) (i' n : Nat) : rd (mark r' i' n d) r i = rd d r i := rfl
@[simp] theorem rd_emit (o : Out) : rd (emit o d) r i = rd d r i := rfl
@[simp] theorem rd_useFresh : rd (useFresh d) r i = rd d r i := rfl
@[simp] theorem rd_ask (q : Req) : rd (ask q d) r i = rd d r i := rfl
@[simp] theorem rd_hostWrite (a : Nat) (b : Bytes) : rd (hostWrite a b d) r i = rd d r i := rfl
@[simp] theorem rd_winPut (w : Win) (o : Nat) (b : Byte) : rd (winPut w o b d) r i = rd d r i := rfl
@[simp] theorem rd_esc (f : Esc → Esc) : rd (esc f d) r i = rd d r i := rfl
@[simp] theorem rd_fe (f : Fe → Fe) : rd (fe f d) r i = rd d r i := rfl
@[simp] theorem rd_pipe (f : Pipe → Pipe) : rd (pipe f d) r i = rd d r i := rfl
@[simp] theorem rd_strm (f : Strm → Strm) : rd (strm f d) r i = rd d r i := rfl
@[simp] theorem rd_pages (f : Pages → Pages) : rd (pages f d) r i = rd d r i := rfl
@[simp] theorem rd_cmpr (f : Cmpr → Cmpr) : rd (cmpr f d) r i = rd d r i := rfl
@[simp] theorem rd_mot (f : Mot → Mot) : rd (mot f d) r i = rd d r i := rfl
@[simp] theorem rd_cal (f : Cal → Cal) : rd (cal f d) r i = rd d r i := rfl
@[simp] theorem rd_sec (f : Sec → Sec) : rd (sec f d) r i = rd d r i := rfl
@[simp] theorem rd_que (f : Que → Que) : rd (que f d) r i = rd d r i := rfl
@[simp] theorem rd_aux (f : Aux → Aux) : rd (aux f d) r i = rd d r i := rfl
@[simp] theorem rd_rst (f : Rst → Rst) : rd (rst f d) r i = rd d r i := rfl
@[simp] theorem rd_sync (f : SyncSt → SyncSt) : rd (sync f d) r i = rd d r i := rfl

/-- What a register holds after a write of it, in a register file in canonical form. -/
theorem rd_wr_same (dflt : Nat → Word) (v : Word) (h : dflt (rkey r i) = r.reset i) (w : spWf dflt d.regs = true) :
    rd (wr r i v d) r i = v := by
  unfold rd wr; rw [← h]; exact spGet_spSet_same dflt (rkey r i) v d.regs w

/-- A write of one register leaves every other alone. -/
theorem rd_wr_other (dflt : Nat → Word) (v : Word) (r' : Reg) (i' : Nat) (h : dflt (rkey r i) = r.reset i)
    (w : spWf dflt d.regs = true) (n : rkey r i ≠ rkey r' i') : rd (wr r i v d) r' i' = rd d r' i' := by
  unfold rd wr; rw [← h]; exact spGet_spSet_other dflt _ (rkey r i) (rkey r' i') v d.regs w n

/-- A write keeps the canonical form of the register file. -/
theorem wr_wf (dflt : Nat → Word) (v : Word) (h : dflt (rkey r i) = r.reset i) (w : spWf dflt d.regs = true) :
    spWf dflt (wr r i v d).regs = true := by
  unfold wr; rw [← h]; exact spSet_wf dflt (rkey r i) v d.regs w

/-- Whether a domain runs depends on the registers alone. -/
theorem domUp_congr (d d' : Dev) (n : Nat) (h : d.regs = d'.regs) : domUp d n = domUp d' n := by
  unfold domUp rn rd; rw [h]

end Sys2Proof.Machine
end

