-- ==== Sys2Proof/Tests/Slice0.lean ====
section
/-!
SUPPORT. Tests/Slice0.lean: small states, the checks of WellFormed, decoded words, and a witness for the hypotheses of each statement.
-/
namespace Sys2Proof.Tests
set_option Elab.async false
open Sys2Proof Sys2Proof.Machine

/-- Every domain powered and out of reset, and no replay; then some changes. -/
def dev (l : List (Dev → Dev)) : Dev :=
  l.foldl (fun d f => f d) 
    (sf .LEDG_STATUS 0 LEDG_STATUS.REPLAYING 0 (wn .RST_DOMAIN_RESET 0 0 (wn .RST_DOMAIN_POWER 0 0xFFFFFF State.reset.dev)))

def st (l : List (Dev → Dev)) : State := { State.reset with dev := dev l }

/-- 64 bytes with numbers placed in them: offset, size, value. -/
def entry (l : List (Nat × Nat × Nat)) : Bytes := l.foldl (fun b x => putBytes b x.1 (leBytes x.2.1 x.2.2)) (zeros 64)

/-- A command of an opcode on ring 0, TAG 0, not started, and the device with only it in flight. -/
def cmd (op : Nat) (l : List (Nat × Nat × Nat)) (block : Bytes) : Cmd := ⟨0, 0, 0, 0, op, false, entry l, block, 0, false, []⟩
def fly (c : Cmd) (d : Dev) : Dev := { d with post := { d.post with cmds := [c] } }
def go (c : Cmd) (l : List (Dev → Dev)) : State := st (fly c :: l)

/-! ### Hypotheses of the statements, met -/

theorem wit_StepOnEmptyQueue : State.reset.pending = [] ∧
    (let s := st [wn .RST_DOMAIN_POWER 0 0]; s.pending = [] ∧ domUp s.dev dAON = false) ∧
    (let s := st []; s.pending = [] ∧ domUp s.dev dAON = true ∧ s.dev.esc.srcKind ≠ 2) ∧
    (let s := st [esc (fun e => { e with srcKind := 2 })]; s.pending = [] ∧ domUp s.dev dAON = true ∧ s.dev.esc.srcKind = 2) := by
  decide +kernel

theorem wit_CommandsComplete : (Instr.encLos 7).wf = true ∧ (Instr.encLos 8).wf = false := by decide +kernel

theorem wit_CommandsComplete_queue : ∃ t, exec .trackStill State.reset = .next t := ⟨_, rfl⟩

theorem wit_Fuses : Instr.trackStill ≠ .svnBurn ∧ (∀ sq tag, Instr.trackStill ≠ .fwStage sq tag) ∧
    (∃ t, exec .trackStill State.reset = .next t) ∧ (∃ t, exec .svnBurn State.reset = .next t) :=
  ⟨nofun, fun _ _ => nofun, ⟨_, rfl⟩, ⟨_, rfl⟩⟩

theorem wit_StepKeepsInvariant : State.reset.fuses.legal ∧ State.reset.dev.rq = [] ∧ ∃ t, step State.reset = .next t :=
  ⟨⟨by decide, fun _ => Nat.zero_le _⟩, rfl, ⟨_, rfl⟩⟩

theorem wit_SettleQuiet : (let d := State.reset.dev; d.rq = [] ∧ d.fe.heads = [] ∧ d.cal.run = none ∧
    rb d .CAL_STATUS 0 CAL_STATUS.BUSY = calBusy d ∧ d.post.sinceCkpt < 65536) := by decide +kernel

theorem wit_ResetCourse_outputs :
    (let d := (st [wn .RST_DOMAIN_POWER 0 0]).dev
     (∀ n, n < 4 → domUp d (dDIG n) = false ∧ domUp d (dANA n) = false) ∧ domUp d dFABRIC = false ∧ domUp d dRP = false) ∧
    15 / 4 = 3 ∧ portDie 47 = 3 ∧ 7 / 2 = 3 := by decide +kernel

theorem wit_Bar0WriteLands :
    (let s := st [wn .RST_DOMAIN_POWER 0 0]; domUp s.dev (addrDom 0x19FFFFC) = false) ∧
    (let s := st []
     domUp s.dev (addrDom 0) = true ∧ placeOf_ s.dev 0xFFFFFFC = .unmapped ∧
     placeOf_ s.dev 0xC = .reg .GLB_TIME 0 true ∧ Reg.GLB_TIME.info.wide = true ∧ placeOf_ s.dev 8 = .reg .GLB_TIME 0 false ∧
     placeOf_ s.dev 0 = .reg .GLB_ID 0 false ∧ Reg.GLB_ID.info.wide = false ∧
     placeOf_ s.dev 0x1FC = .bytes .option 0xFC false ∧ placeOf_ s.dev 0x17002FC = .bytes .optionStage 0xFC true ∧
     placeOf_ s.dev 0x307FFC = .bytes .msixTable 0x7FFC true ∧ domUp s.dev (addrDom 0x307FFC) = true ∧
     placeOf_ s.dev 0x94FFFC = .table 1 0xFFFC ∧ bankIsBusy s.dev 1 = false ∧ domUp s.dev (addrDom 0x94FFFC) = true ∧
     placeOf_ s.dev 0x137FFFC = .drift 0x3FFFC ∧ placeOf_ s.dev 0x13FFFFC = .baseline 0x7FFFC ∧
     domUp s.dev (addrDom 0x13FFFFC) = true ∧ domUp s.dev (addrDom 0x17002FC) = true) ∧
    bankIsBusy (st [esc (fun e => { e with bankBusy := [(1, 0)] })]).dev 1 = true := by decide +kernel

theorem wit_Bar0Read : Reg.GLB_TIME ≠ .QUE_UQ_POP ∧ ¬ ((2 = 4 ∧ 0xFFFFFFE % 4 = 0) ∨ (2 = 8 ∧ 0xFFFFFFE % 8 = 0)) ∧
    ¬ ((8 = 4 ∧ 4 % 4 = 0) ∨ (8 = 8 ∧ 4 % 8 = 0)) := by decide

theorem wit_Bar0Read_whole :
    (let s := st [wn .RST_DOMAIN_POWER 0 0]; domUp s.dev (addrDom 0x19FFFF8) = false) ∧
    (let s := st []
     domUp s.dev (addrDom 0) = true ∧ placeOf_ s.dev 0xFFFFFF8 = .unmapped ∧
     placeOf_ s.dev 8 = .reg .GLB_TIME 0 false ∧ Reg.GLB_TIME.info.wide = true ∧
     placeOf_ s.dev 0 = .reg .GLB_ID 0 false ∧ Reg.GLB_ID.info.wide = false ∧
     placeOf_ s.dev 0x1F8 = .bytes .option 0xF8 false ∧ placeOf_ s.dev 0x1FC = .bytes .option 0xFC false ∧
     placeOf_ s.dev 0x17002F8 = .bytes .optionStage 0xF8 true ∧ placeOf_ s.dev 0x17002FC = .bytes .optionStage 0xFC true ∧
     domUp s.dev (addrDom 0x17002F8) = true ∧
     placeOf_ s.dev 0x94FFF8 = .table 1 0xFFF8 ∧ placeOf_ s.dev 0x94FFFC = .table 1 0xFFFC ∧ bankIsBusy s.dev 1 = false ∧
     domUp s.dev (addrDom 0x94FFF8) = true) ∧
    (let s := st [wn .RST_DOMAIN_POWER 0 0]
     placeOf_ s.dev 8 = .reg .GLB_TIME 0 false ∧ domUp s.dev (addrDom 8) = false) := by decide +kernel

theorem wit_AccessCodes : ∃ x, x ∈ Reg.GLB_SCRATCH.info.fields := ⟨_, List.mem_cons_self⟩

theorem wit_Bar2Access :
    (let s := st [winPut .option 8 1#8]
     bar2Size s.dev ≠ 0 ∧ hbmVisible - 1 + [0#8].length ≤ hbmVisible ∧
     hbmVisible < hbmVisible + [0#8].length ∧ domUp s.dev (dMEM 0) = true ∧ domUp s.dev (dMEM 1) = true) ∧
    (let s := st [winPut .option 8 1#8, wn .RST_DOMAIN_POWER 0 0]
     bar2Size s.dev ≠ 0 ∧ domUp s.dev (dMEM 0) = false) ∧
    bar2Size (st [winPut .option 8 0#8]).dev = 0 ∧ bar2Size (st [winPut .option 8 1#8, sf .RST_STATUS 0 RST_STATUS.CROWN 1]).dev = 0 := by
  decide +kernel

theorem wit_MemoryWriteFrame : Mem.wf [] = true ∧ 0 < [0#8].length ∧ (0 < 1 ∨ 1 + [0#8].length ≤ 0) := by decide

def ring (f : Dev → Dev) : State :=
  st [sf .RING_SQ_CFG 63 RING_SQ_CFG.SIZE 512, sf .RING_SQ_QUOTA 63 RING_SQ_QUOTA.QUOTA 512, sf .RING_CQ_CFG 0 RING_CQ_CFG.SIZE 512,
    sf .RING_CQ_STATUS 0 RING_CQ_STATUS.ENABLED 1, f]

theorem wit_RingEnable :
    (let d (f : Dev → Dev) := sf .RING_SQ_CTRL 63 RING_SQ_CTRL.ENABLE 1 (ring f).dev
     domUp (ring id).dev dPOST = true ∧ sqEnabled (d id) 63 = false ∧ sqQuota (d id) 63 ≤ sqSize (d id) 63 ∧ sqSize (d id) 63 ≠ 0 ∧
     sqQuota (d id) 63 ≠ 0 ∧ quotaSum (d id) + sqQuota (d id) 63 ≤ 512 ∧ cqEnabled (d id) (rf (d id) .RING_SQ_CFG 63 RING_SQ_CFG.CQ) = true ∧
     sqSize (d (sf .RING_SQ_CFG 63 RING_SQ_CFG.SIZE 0)) 63 = 0 ∧
     (let e := d (sf .RING_SQ_QUOTA 63 RING_SQ_QUOTA.QUOTA 513)
      sqEnabled e 63 = false ∧ sqSize e 63 < sqQuota e 63 ∧ cqEnabled e (rf e .RING_SQ_CFG 63 RING_SQ_CFG.CQ) = true) ∧
     (let e := d (sf .RING_CQ_STATUS 0 RING_CQ_STATUS.ENABLED 0)
      sqEnabled e 63 = false ∧ sqSize e 63 ≠ 0 ∧ sqQuota e 63 ≠ 0 ∧ cqEnabled e (rf e .RING_SQ_CFG 63 RING_SQ_CFG.CQ) = false) ∧
     (let e := d (fun d => sf .RING_SQ_QUOTA 62 RING_SQ_QUOTA.QUOTA 1 (sf .RING_SQ_STATUS 62 RING_SQ_STATUS.ENABLED 1 d))
      sqEnabled e 63 = false ∧ cqEnabled e (rf e .RING_SQ_CFG 63 RING_SQ_CFG.CQ) = true ∧ 512 < quotaSum e + sqQuota e 63) ∧
     sqEnabled (d (sf .RING_SQ_STATUS 63 RING_SQ_STATUS.ENABLED 1)) 63 = true) := by
  decide +kernel

theorem wit_SqDrain :
    (let s := st [sf .RING_SQ_STATUS 0 RING_SQ_STATUS.ENABLED 1, fly (cmd 1 [] [])]
     let d := sf .RING_SQ_CTRL 0 RING_SQ_CTRL.ENABLE 0 s.dev
     domUp s.dev dPOST = true ∧ sqEnabled d 0 = true ∧ sqInFlight d 0 ≠ 0 ∧ sqInFlight s.dev 0 ≠ 0 ∧
     s.dev.post.draining.contains 0 = false) ∧
    (let s := st [sf .RING_SQ_STATUS 63 RING_SQ_STATUS.ENABLED 1]
     let d := sf .RING_SQ_CTRL 63 RING_SQ_CTRL.ENABLE 0 s.dev
     sqEnabled d 63 = true ∧ sqInFlight d 63 = 0) ∧
    sqEnabled (sf .RING_SQ_CTRL 63 RING_SQ_CTRL.ENABLE 0 (st []).dev) 63 = false ∧
    (∀ en < 2, let s := st [sf .RING_SQ_CTRL 63 RING_SQ_CTRL.ENABLE en, fun d => { d with post := { d.post with draining := [63] } }]
     let d := sf .RING_SQ_STATUS 63 RING_SQ_STATUS.ENABLED 0
       { s.dev with post := { s.dev.post with draining := s.dev.post.draining.filter (· ≠ 63) } }
     s.dev.post.draining.contains 63 = true ∧ sqInFlight s.dev 63 = 0 ∧
     rb d .RING_SQ_CTRL 63 RING_SQ_CTRL.ENABLE = decide (en = 1)) := by
  decide +kernel

theorem wit_RingEnable_completion :
    (let s := st []
     let d := sf .RING_CQ_CTRL 63 RING_CQ_CTRL.ENABLE 1 s.dev
     domUp s.dev dPOST = true ∧ cqEnabled d 63 = false ∧ cqSize d 63 = 0 ∧
     (∀ q, q < 64 → sqEnabled s.dev q = true → rf s.dev .RING_SQ_CFG q RING_SQ_CFG.CQ ≠ 63)) ∧
    (let s := st [sf .RING_CQ_CFG 63 RING_CQ_CFG.SIZE 1]
     let d := sf .RING_CQ_CTRL 63 RING_CQ_CTRL.ENABLE 1 s.dev
     cqEnabled d 63 = false ∧ cqSize d 63 ≠ 0) ∧
    (let s := st [sf .RING_CQ_STATUS 63 RING_CQ_STATUS.ENABLED 1]
     cqEnabled (sf .RING_CQ_CTRL 63 RING_CQ_CTRL.ENABLE 1 s.dev) 63 = true) ∧
    (let s := st [sf .RING_SQ_STATUS 63 RING_SQ_STATUS.ENABLED 1]
     domUp s.dev dPOST = true ∧ sqEnabled s.dev 63 = true ∧ rf s.dev .RING_SQ_CFG 63 RING_SQ_CFG.CQ = 0) := by decide +kernel

theorem wit_Doorbells :
    (let s := st [sf .RING_SQ_CFG 63 RING_SQ_CFG.SIZE 1, sf .RING_SQ_QUOTA 63 RING_SQ_QUOTA.QUOTA 1,
       sf .RING_SQ_STATUS 63 RING_SQ_STATUS.ENABLED 1]
     domUp s.dev dEP = true ∧ replaying s.dev = false ∧ sqEnabled s.dev 63 = true ∧ 1 < ringL (sqSize s.dev 63) ∧
     notBehind (sqSize s.dev 63) 1 (mget s.dev.post.dbSq 63) = true ∧ notBehind (sqSize s.dev 63) (sqCredit s.dev 63) 1 = true ∧
     notBehind (sqSize s.dev 63) (sqCredit s.dev 63) 2 = false) ∧
    (let s := st [sf .RING_CQ_CFG 63 RING_CQ_CFG.SIZE 1, sf .RING_CQ_STATUS 63 RING_CQ_STATUS.ENABLED 1, wn .RING_CQ_WRITTEN 63 1]
     domUp s.dev dEP = true ∧ replaying s.dev = false ∧ cqEnabled s.dev 63 = true ∧ 1 < ringL (cqSize s.dev 63) ∧
     notBehind (cqSize s.dev 63) 1 (mget s.dev.post.dbCq 63) = true ∧
     notBehind (cqSize s.dev 63) (rn s.dev .RING_CQ_WRITTEN 63) 1 = true ∧
     notBehind (cqSize s.dev 63) (rn s.dev .RING_CQ_WRITTEN 63) 2 = false) ∧
    (let s := st []; sqEnabled s.dev 0 = false ∧ cqEnabled s.dev 0 = false) ∧
    (let s := st [sf .LEDG_STATUS 0 LEDG_STATUS.REPLAYING 1, fun d => { d with post := { d.post with replayStep := 1 } }]
     domUp s.dev dEP = true ∧ replaying s.dev = true ∧ s.dev.post.replayStep < 2) := by decide +kernel

def cpl : Cpl := ⟨0, 0, 0, 0, 0, 0, 1, 0, 0, 0, [], false⟩
def withCpl (n : Nat) : State :=
  st [sf .RING_CQ_CFG 0 RING_CQ_CFG.SIZE 1, sf .RING_CQ_STATUS 0 RING_CQ_STATUS.ENABLED 1, wn .RING_CQ_WRITTEN 0 n,
    fun d => { d with post := { d.post with formed := [cpl], busMaster := true } }]

theorem wit_CompletionDelivery :
    (let s := withCpl 0
     domUp s.dev dPOST = true ∧ s.dev.post.busMaster = true ∧ cqEnabled s.dev 0 = true ∧ nextCpl s.dev 0 = some cpl ∧
     cqInUse s.dev 0 < cqSize s.dev 0 ∧ s.dev.post.written = []) ∧
    (let s := withCpl 1
     s.dev.post.busMaster = true ∧ cqEnabled s.dev 0 = true ∧ nextCpl s.dev 0 = some cpl ∧ cqSize s.dev 0 ≤ cqInUse s.dev 0 ∧
     rb s.dev .RING_CQ_STATUS 0 RING_CQ_STATUS.FULL = false ∧
     rb (sf .RING_CQ_STATUS 0 RING_CQ_STATUS.FULL 1 s.dev) .RING_CQ_STATUS 0 RING_CQ_STATUS.FULL = true) ∧
    (∀ k ∈ [0, 256], let s := st [sf .RING_CQ_CFG 0 RING_CQ_CFG.SIZE 1, sf .RING_CQ_STATUS 0 RING_CQ_STATUS.ENABLED 1, wn .RING_CQ_WRITTEN 0 1,
       fun d => { d with post := { d.post with formed := [cpl], busMaster := true, dbCq := mset 0 1 [], written := [⟨0, 0, []⟩] } },
       fun d => { d with post := { d.post with backlog := List.replicate k ⟨kLOSS, 1, 0, zeros 40⟩ } }]
     nextCpl s.dev 0 = some cpl ∧ cqInUse s.dev 0 < cqSize s.dev 0 ∧
     s.dev.post.written.any (fun x => x.cq == 0 && x.count == (1 + ringL 1 - 1) % ringL 1) = true ∧
     canStage kCOMPLETE (leBytes 4 0 ++ leBytes 4 1) s.dev = decide (k = 0)) ∧
    nextCpl (sf .RING_CQ_STATUS 63 RING_CQ_STATUS.ENABLED 1 (st []).dev) 63 = none ∧
    (let s := st [sf .RING_CQ_STATUS 63 RING_CQ_STATUS.ENABLED 1, sf .RING_CQ_CFG 63 RING_CQ_CFG.IRQ_EN 1,
       fun d => { d with post := { d.post with cqSince := mset 63 1 [] } }]
     domUp s.dev dPOST = true ∧ cqEnabled s.dev 63 = true ∧ rb s.dev .RING_CQ_CFG 63 RING_CQ_CFG.IRQ_EN = true ∧
     0 < mget s.dev.post.cqSince 63) := by decide +kernel

theorem wit_AccessCodes_registers :
    let dflt : Nat → Word := fun k => (Reg.ofNat (k % 1024)).reset (k / 1024)
    (∀ q j, dflt (rkey q j) = q.reset j) ∧ spWf dflt State.reset.dev.regs = true ∧ 1535 < 1536 ∧ 0 ≠ 1535 := by
  refine ⟨fun q j => ?_, rfl, by decide, by decide⟩
  have h : q.ctorIdx < 1024 := by cases q <;> decide
  have e : Reg.ofNat q.ctorIdx = q := by cases q <;> rfl
  dsimp only
  rw [show rkey q j % 1024 = q.ctorIdx by unfold rkey; omega, show rkey q j / 1024 = j by unfold rkey; omega, e]

/-- A host ring with one entry to fetch, and an IDENTIFY entry. -/
def fetching : State :=
  st [sf .RING_SQ_CFG 63 RING_SQ_CFG.SIZE 512, sf .RING_SQ_STATUS 63 RING_SQ_STATUS.ENABLED 1,
    fun d => { d with post := { d.post with dbSq := mset 63 1 [], busMaster := true } }]

theorem wit_CrownAndFetch :
    (let d := fetching.dev
     let d1 := stage 0x01 (leBytes 1 63 ++ zeros 3 ++ leBytes 4 1) (wn .RING_SQ_FETCHED 63 1 d)
     let d2 := { d1 with post := { d1.post with fetches := d1.post.fetches + 1 } }
     mayFetch d 63 = true ∧ (rn d .RING_SQ_FETCHED 63 + 1) % ringL (sqSize d 63) = 1 ∧
     (let e := entry [(0, 1, 1)]
      e.length = 64 ∧ bitOf (leAt e 1 1) 0 = false ∧ entryFails d1 63 e = none ∧ lengthFails d2 (leAt e 0 1) e [] = none) ∧
     (let e := entry [(0, 1, 0x43), (8, 1, 1), (12, 4, 4096)]
      e.length = 64 ∧ bitOf (leAt e 1 1) 0 = false ∧ entryFails d1 63 e = none ∧ (lengthFails d2 (leAt e 0 1) e []).isSome = true) ∧
     (entryFails d1 63 (entry [])).isSome = true ∧
     (let e := entry [(0, 1, 0x42), (1, 1, 1), (8, 8, 64), (16, 4, 16)]
      entryFails d1 63 e = none ∧ bitOf (leAt e 1 1) 0 = true ∧
      (let b := leBytes 8 4096 ++ leBytes 4 4096 ++ zeros 4
       blockFails 0x42 (fitBytes 16 b) = none ∧ lengthFails d2 0x42 e (fitBytes 16 b) = none) ∧
      (blockFails 0x42 (fitBytes 16 (zeros 15 ++ [1#8]))).isSome = true ∧
      (blockFails 0x42 (fitBytes 16 (zeros 8 ++ leBytes 4 0)) = none ∧ (lengthFails d2 0x42 e (fitBytes 16 (zeros 16))).isSome = true))) ∧
    mayFetch (st []).dev 63 = false ∧
    (let s := st []; crown s.dev = false ∧ domUp s.dev dFABRIC = true) ∧
    (let s := st [wn .RST_DOMAIN_POWER 0 0]; crown s.dev = false ∧ domUp s.dev dFABRIC = false) ∧
    (let s := st [sf .RST_STATUS 0 RST_STATUS.CROWN 1, sf .RST_CROWN_STATUS 0 RST_CROWN_STATUS.BUSY 1]
     crown s.dev = true ∧ rb s.dev .RST_CROWN_STATUS 0 RST_CROWN_STATUS.BUSY = true) := by decide +kernel

/-- Crown mode with an entry in the mailbox. -/
def crowned (e : Bytes) : Dev := (st [sf .RST_STATUS 0 RST_STATUS.CROWN 1, winWrite .crownCmd 0 e]).dev

theorem wit_CrownAndFetch_go :
    let d (e : Bytes) := sf .RST_CROWN_STATUS 0 RST_CROWN_STATUS.BUSY 1 (sf .RST_CROWN_STATUS 0 RST_CROWN_STATUS.DONE 0 (crowned e))
    let d' (e : Bytes) : Dev := { d e with post := { (d e).post with fetches := (d e).post.fetches + 1 } }
    let m (e : Bytes) := fitBytes 64 (winRead (crowned e) .crownCmd 0 64)
    crown (crowned []) = true ∧ rb (crowned []) .RST_CROWN_STATUS 0 RST_CROWN_STATUS.BUSY = false ∧
    (entryFails (d []) 64 (m [])).isSome = true ∧
    (let e := entry [(0, 1, 0x01)]
     entryFails (d e) 64 (m e) = none ∧ bitOf (leAt (m e) 1 1) 0 = false ∧ lengthFails (d' e) (leAt (m e) 0 1) (m e) [] = none) ∧
    (let e := entry [(0, 1, 0xF0)]
     entryFails (d e) 64 (m e) = none ∧ (lengthFails (d' e) (leAt (m e) 0 1) (m e) []).isSome = true) ∧
    (let e := entry [(0, 1, 0xA0), (1, 1, 1), (8, 8, 64), (16, 4, 5632)]
     entryFails (d e) 64 (m e) = none ∧ bitOf (leAt (m e) 1 1) 0 = true ∧ blockFails 0xA0 (fitBytes 5632 []) = none ∧
     lengthFails (d' e) 0xA0 (m e) (fitBytes 5632 []) = none) := by decide +kernel

theorem wit_Completes : cpl.sq < 64 ∧ cpl.status < 256 ∧ cpl.tag < 65536 ∧ cpl.ctx < 65536 ∧ cpl.op < 256 ∧ cpl.detail < 256 := by decide

theorem wit_Features :
    (let c := cmd 0x01 [] []; (go c []).dev.awaits 0 0 0x01 c) ∧
    (let c := cmd 0x02 [(8, 2, 0x13)] []
     let s := go c []
     s.dev.awaits 0 0 0x02 c ∧ (featureValue (s.dev.begun c) (leAt c.entry 8 2)).isSome = true) ∧
    (let c := cmd 0x02 [(8, 2, 0x14)] []
     let s := go c []
     s.dev.awaits 0 0 0x02 c ∧ featureValue (s.dev.begun c) (leAt c.entry 8 2) = none) ∧
    (let c := cmd 0x03 [(8, 2, 0x13)] []; (go c []).dev.awaits 0 0 0x03 c ∧ 0x10 ≤ leAt c.entry 8 2 ∧ leAt c.entry 8 2 ≤ 0x13) ∧
    (let c := cmd 0x03 [(8, 2, 0x14)] []; (go c []).dev.awaits 0 0 0x03 c ∧ 0x13 < leAt c.entry 8 2) := by
  unfold Dev.awaits; decide +kernel

/-- A RESET with a reach, a target and flags. -/
def rstCmd (reach tgt fl : Nat) : Cmd := cmd 0x07 [(8, 1, reach), (9, 1, tgt), (10, 1, fl)] []

theorem wit_IdentifyAbortReset :
    (let c := cmd 0x04 [(10, 2, 7)] []
     let s := go c []
     s.dev.awaits 0 0 0x04 c ∧ findCmd (s.dev.begun c) (leAt c.entry 8 1 % 64) (leAt c.entry 10 2) = none) ∧
    (let c := cmd 0x04 [(10, 2, 7)] []
     let t : Cmd := { cmd 0x01 [] [] with tag := 7, order := 1 }
     let s := st [fun d => { d with post := { d.post with cmds := [c, t] } }]
     s.dev.awaits 0 0 0x04 c ∧ findCmd (s.dev.begun c) (leAt c.entry 8 1 % 64) (leAt c.entry 10 2) = some t ∧ t.order ≠ c.order ∧
     t.started = false) ∧
    (let c := cmd 0x04 [(10, 2, 0)] []
     let s := go c []
     s.dev.awaits 0 0 0x04 c ∧ ∃ t ∈ findCmd (s.dev.begun c) (leAt c.entry 8 1 % 64) (leAt c.entry 10 2), t.order = c.order) ∧
    (∀ op ∈ [0x05, 0xF1, 0x21, 0x42, 0x60, 0x81, 0x70, 0x71, 0x73, 0x40, 0x04],
     let c := cmd 0x04 [(10, 2, 7)] []
     let t : Cmd := { cmd op [] [] with tag := 7, order := 1, started := true }
     let s := st [fun d => { d with post := { d.post with cmds := [c, t] } }]
     s.dev.awaits 0 0 0x04 c ∧ findCmd (s.dev.begun c) (leAt c.entry 8 1 % 64) (leAt c.entry 10 2) = some t ∧ t.order ≠ c.order ∧
     t.started = true ∧ t.op = op) ∧
    (∀ x ∈ [(1, 2, 0), (1, 24, 0), (2, 3, 0), (2, 4, 0), (3, 0, 0), (3, 1, 0), (3, 0, 1), (1, 3, 0), (1, 23, 0), (4, 0, 3), (5, 0, 0)],
      let c := rstCmd x.1 x.2.1 x.2.2
      (go c []).dev.awaits 0 0 0x07 c ∧ leAt c.entry 8 1 = x.1 ∧ leAt c.entry 9 1 = x.2.1 ∧ leAt c.entry 10 1 = x.2.2) := by
  unfold Dev.awaits; decide +kernel

theorem wit_LedgerAndReserve :
    (let c := cmd 0x05 [(8, 1, 1)] []
     let s := go c []
     s.dev.post.cmds = [c] ∧ s.dev.awaits 0 0 0x05 c ∧ bitOf (leAt c.entry 8 1) 0 = true ∧
     (∀ p ∈ pairsOf c.data, p.2 ≤ durable (s.dev.begun c) p.1)) ∧
    (let c := { cmd 0x44 [] [] with ctx := 2047 }
     let s := go c [sf .PROD_CTX_STATUS 2047 PROD_CTX_STATUS.STATE 1]
     let d := s.dev.begun c
     s.dev.awaits 0 0 0x44 c ∧ domUp d dFABRIC = true ∧ ctxState d c.ctx = 1 ∧ produced d c.ctx ≤ durable d c.ctx) ∧
    (let c := cmd 0x44 [] []
     let s := go c []
     s.dev.awaits 0 0 0x44 c ∧ domUp (s.dev.begun c) dFABRIC = true ∧ ctxState (s.dev.begun c) c.ctx = 0) ∧
    (let c := cmd 0x05 [] []
     let s := go c []
     s.dev.awaits 0 0 0x05 c ∧ bitOf (leAt c.entry 8 1) 0 = false ∧ ctxState (s.dev.begun c) c.ctx = 0) ∧
    (let c := { cmd 0x05 [(8, 1, 1)] [] with data := [2047, 1] }
     let s := go c []
     s.dev.awaits 0 0 0x05 c ∧ s.dev.post.cmds = [c] ∧ bitOf (leAt c.entry 8 1) 0 = true ∧
     ∃ p ∈ pairsOf c.data, durable (s.dev.begun c) p.1 < p.2) ∧
    (let c := cmd 0x44 [] []
     let s := go c [sf .PROD_CTX_STATUS 0 PROD_CTX_STATUS.STATE 2]
     s.dev.awaits 0 0 0x44 c ∧ domUp (s.dev.begun c) dFABRIC = true ∧ ctxState (s.dev.begun c) c.ctx = 2) ∧
    (let c := cmd 0x44 [] []
     let s := go c [sf .PROD_CTX_STATUS 0 PROD_CTX_STATUS.STATE 1, wn .PROD_CTX_PRODUCED 0 1]
     let d := s.dev.begun c
     s.dev.awaits 0 0 0x44 c ∧ domUp d dFABRIC = true ∧ ctxState d c.ctx = 1 ∧ s.dev.post.cmds = [c] ∧
     durable d c.ctx < produced d c.ctx) := by
  unfold Dev.awaits; refine ⟨?_, ?_, ?_, ?_, ?_, ?_, ?_⟩ <;> decide +kernel

theorem wit_LedgerAndReserve_buffers :
    (let c := cmd 0x42 [] (leBytes 8 64 ++ leBytes 4 4096 ++ zeros 4)
     let s := go c [sf .PROD_CTX_STATUS 0 PROD_CTX_STATUS.STATE 1, sf .PROD_CTX_PARCEL 0 PROD_CTX_PARCEL.BYTES 4096,
       strm (fun x => { x with ctxs := [emptyCtx 0 0] })]
     let d := s.dev.begun c
     s.dev.awaits 0 0 0x42 c ∧ domUp d dFABRIC = true ∧ ctxState d c.ctx ≠ 0 ∧ (findCtx d c.ctx).isSome = true ∧
     0 < c.block.length / 16 ∧ (∀ i, i < c.block.length / 16 →
       leAt c.block (16 * i + 8) 4 ≠ 0 ∧ leAt c.block (16 * i + 8) 4 % max 1 (ctxSize d c.ctx) = 0)) ∧
    (let c := cmd 0x06 [] []; (go c []).dev.awaits 0 0 0x06 c) ∧
    (let c := cmd 0x08 [(8, 8, 64)] []
     (go c []).dev.awaits 0 0 0x08 c ∧ domUp ((go c []).dev.begun c) dFABRIC = true ∧ leAt c.entry 8 8 ≠ 0) ∧
    (let c := cmd 0x08 [] []; (go c []).dev.awaits 0 0 0x08 c ∧ leAt c.entry 8 8 = 0) := by
  unfold Dev.awaits; decide +kernel

theorem wit_LedgerAndReserve_refused :
    (let c := cmd 0x42 [] (leBytes 8 64 ++ leBytes 4 4096 ++ zeros 4)
     let s := go c []
     s.dev.awaits 0 0 0x42 c ∧ domUp (s.dev.begun c) dFABRIC = true ∧ ctxState (s.dev.begun c) c.ctx = 0) ∧
    (let c := cmd 0x42 [] (leBytes 8 64 ++ leBytes 4 4096 ++ zeros 4 ++ leBytes 8 64 ++ leBytes 4 4095 ++ zeros 4)
     let s := go c [sf .PROD_CTX_STATUS 0 PROD_CTX_STATUS.STATE 1, sf .PROD_CTX_PARCEL 0 PROD_CTX_PARCEL.BYTES 4096]
     let d := s.dev.begun c
     s.dev.awaits 0 0 0x42 c ∧ domUp d dFABRIC = true ∧ ctxState d c.ctx ≠ 0 ∧
     (List.range (c.block.length / 16)).find? (fun i => leAt c.block (16 * i + 8) 4 % max 1 (ctxSize d c.ctx) != 0) = some 1) := by
  unfold Dev.awaits; decide +kernel

def dirEntry (kind off len count : Nat) : Bytes := leBytes 2 kind ++ zeros 2 ++ leBytes 4 off ++ leBytes 4 len ++ leBytes 4 count

/-- A timetable image of one product set, one ladder and one segment with a lane at port 0, written out from R84, R117, R209. -/
def imgWith (check : Nat) : Bytes :=
  leBytes 4 0x31545644 ++ leBytes 2 1 ++ leBytes 2 3 ++ leBytes 4 896 ++ leBytes 4 check ++ leBytes 4 1000 ++ zeros 4 ++
  leBytes 4 1 ++ leBytes 4 1 ++ leBytes 4 1 ++ leBytes 4 1 ++ zeros 24 ++
  dirEntry 6 256 512 1 ++ dirEntry 7 768 16 1 ++ dirEntry 9 832 64 1 ++ zeros 144 ++
  ([1#8] ++ zeros 3 ++ leBytes 4 1000 ++ zeros 8 ++ [1#8] ++ zeros 495) ++
  (leBytes 4 64 ++ leBytes 4 64 ++ leBytes 4 64 ++ leBytes 4 64 ++ zeros 48) ++
  ([0#8, 0#8, 1#8, 4#8] ++ zeros 4 ++ leBytes 8 1 ++ leBytes 2 1 ++ leBytes 2 1 ++ leBytes 2 1 ++ zeros 2 ++ leBytes 4 8 ++
    zeros 8 ++ leBytes 4 8 ++ zeros 24)

/-- The image with its CHECK. -/
def image : Bytes := imgWith 1573740706

/-- The image loaded and active. -/
def active : Dev → Dev := fun d =>
  sf .TTBL_STATUS 0 TTBL_STATUS.NONE 0 (sf .TTBL_STATUS 0 TTBL_STATUS.ACTIVE_NUM 0
    (esc (fun e => { e with images := setAt e.images 0 (some image) }) d))

set_option maxRecDepth 100000 in
theorem wit_TimetableCommands :
    (let c := cmd 0x20 [] (zeros 8 ++ leBytes 4 896 ++ zeros 20)
     let s := go c []
     s.dev.awaits 0 0 0x20 c ∧ domUp (s.dev.begun c) dESC = true ∧
     imageBad (s.dev.begun c) (fitBytes (leAt c.block 8 4) image) (leAt c.block 8 4) = none) ∧
    (let c := cmd 0x21 [] []
     let s := go c [esc (fun e => { e with images := setAt e.images 0 (some image) })]
     let d := s.dev.begun c
     s.dev.awaits 0 0 0x21 c ∧ domUp d dESC = true ∧ (d.esc.images.getD (leAt c.entry 8 1) none).isSome = true ∧
     d.esc.actPend = none ∧ d.strm.captures = [] ∧ trackPos d ≤ sx 64 (leAt c.entry 16 8)) ∧
    (let c := cmd 0x21 [(8, 1, 3)] []
     let s := go c []
     s.dev.awaits 0 0 0x21 c ∧ (s.dev.begun c).esc.images.getD (leAt c.entry 8 1) none = none) ∧
    (let c := cmd 0x20 [] (zeros 8 ++ leBytes 4 895 ++ zeros 20)
     let s := go c []
     s.dev.awaits 0 0 0x20 c ∧ domUp (s.dev.begun c) dESC = true ∧
     (imageBad (s.dev.begun c) (fitBytes (leAt c.block 8 4) image) (leAt c.block 8 4)).isSome = true) := by
  unfold Dev.awaits; decide +kernel

theorem wit_TimetableCommands_free (d : Dev) (h : d.esc.images = State.reset.dev.esc.images) : ∃ n, pickFree d (freeImages d) = some n := by
  refine pickFree_some d ?_
  unfold freeImages; rw [h]; decide

theorem wit_TimetableCommands_late :
    (∀ f ∈ [id, sf .TTBL_STATUS 0 TTBL_STATUS.NONE 0],
     let c := cmd 0x21 [(8, 1, 3), (16, 8, 2 ^ 64 - 1)] []
     let s := go c [esc (fun e => { e with images := setAt e.images 3 (some []) }), f]
     let d := s.dev.begun c
     s.dev.awaits 0 0 0x21 c ∧ domUp d dESC = true ∧ d.esc.images.getD (leAt c.entry 8 1) none = some [] ∧ d.esc.actPend = none ∧
     d.strm.captures = [] ∧ sx 64 (leAt c.entry 16 8) < trackPos d) ∧
    activeNone (occur Src.TTBL_LATE 3 0 0 (st [sf .TTBL_STATUS 0 TTBL_STATUS.NONE 0]).dev) = false ∧
    activeNone (occur Src.TTBL_LATE 3 0 0 (st []).dev) = true ∧
    (let c := cmd 0x21 [(8, 1, 3)] []
     let s := go c [esc (fun e => { e with images := setAt e.images 3 (some []), actPend := some ⟨0, 0, false, 0, 0⟩ })]
     s.dev.awaits 0 0 0x21 c ∧ domUp (s.dev.begun c) dESC = true ∧ (s.dev.begun c).esc.actPend.isSome = true) := by
  unfold Dev.awaits; refine ⟨?_, ?_, ?_, ?_⟩ <;> decide +kernel

theorem wit_ImageUnload :
    (let c := cmd 0x22 [] []
     let s := go c [esc (fun e => { e with images := setAt e.images 0 (some image) })]
     let d := s.dev.begun c
     s.dev.awaits 0 0 0x22 c ∧ domUp d dESC = true ∧ (d.esc.images.getD (leAt c.entry 8 1) none).isSome = true ∧
     d.esc.actPend = none ∧ activeNone d = true) ∧
    (let c := cmd 0x22 [(8, 1, 3)] []
     let s := go c []
     s.dev.awaits 0 0 0x22 c ∧ domUp (s.dev.begun c) dESC = true ∧ (s.dev.begun c).esc.images.getD (leAt c.entry 8 1) none = none) ∧
    (let c := cmd 0x22 [] []
     let s := go c [active]
     let d := s.dev.begun c
     s.dev.awaits 0 0 0x22 c ∧ domUp d dESC = true ∧ activeNone d = false ∧ activeNum d = leAt c.entry 8 1) ∧
    (let c := cmd 0x22 [(8, 1, 3)] []
     let s := go c [esc (fun e => { e with actPend := some ⟨3, 0, false, 0, 0⟩ })]
     let d := s.dev.begun c
     s.dev.awaits 0 0 0x22 c ∧ domUp d dESC = true ∧ d.esc.actPend = some ⟨3, 0, false, 0, 0⟩ ∧ 3 = leAt c.entry 8 1) ∧
    (firstBad (inlineChecks 0x22 (entry [(8, 1, 4)]))).isSome = true := by
  unfold Dev.awaits; refine ⟨?_, ?_, ?_, ?_, ?_⟩ <;> decide +kernel

/-- A reference page of one pixel with its CHECK, by R159. -/
def pageWith (check : Nat) : Bytes :=
  leBytes 4 0x31464552 ++ leBytes 2 1 ++ [1#8, 3#8] ++ zeros 4 ++ leBytes 4 1 ++ leBytes 4 1 ++ leBytes 4 64 ++ zeros 4 ++
  leBytes 4 check ++ leBytes 8 128 ++ zeros 88
def page : Bytes := pageWith 3826977216

theorem wit_ReferenceCommands :
    (let c := cmd 0x23 [(8, 8, 1)] []
     let s := go c [wn .CMPR_REGION_SIZE 0 2097152]
     let d := s.dev.begun c
     s.dev.awaits 0 0 0x23 c ∧ domUp d dCOMPARE = true ∧ (leAt c.entry 8 8 + 2097151) / 2097152 * 2097152 = 2097152 ∧
     freeRegions d ≠ [] ∧ 2097152 ≤ hFree d ∧ placeFree d 2097152 2097152 = true ∧
     2097152 ∈ 0 :: (List.range 16).map (fun r => regionBase d r + regionSize d r)) ∧
    (let c := cmd 0x23 [(8, 8, 2 ^ 40)] []
     let s := go c []
     s.dev.awaits 0 0 0x23 c ∧ hFree (s.dev.begun c) < (leAt c.entry 8 8 + 2097151) / 2097152 * 2097152) := by
  unfold Dev.awaits; decide +kernel

/-- A page of region 0 that a track of the comparator follows. -/
def boundPage : RefPage := ⟨0, 0, 1, 128, 1, 8, 64, 1, 64, 0⟩
def follows : Dev → Dev := cmpr (fun x => { x with tracks := [⟨1, 0, some boundPage, 0, 0, 0, 0, 0, [], []⟩] })

theorem wit_ReferenceCommands_free :
    (let c := cmd 0x25 [(8, 1, 15)] []
     let s := go c [wn .CMPR_REGION_SIZE 15 2097152, follows]
     s.dev.awaits 0 0 0x25 c ∧ domUp (s.dev.begun c) dCOMPARE = true ∧ boundIn (s.dev.begun c) (leAt c.entry 8 1 % 16) = []) ∧
    (let c := cmd 0x25 [] []
     let s := go c [follows]
     s.dev.awaits 0 0 0x25 c ∧ domUp (s.dev.begun c) dCOMPARE = true ∧ boundIn (s.dev.begun c) (leAt c.entry 8 1 % 16) ≠ []) := by
  unfold Dev.awaits; decide +kernel

theorem wit_ReferenceCommands_load :
    (∀ x ∈ [(0, 128), (128, 128), (127, 128)],
     let c := cmd 0x24 [] (zeros 24 ++ leBytes 4 x.2 ++ zeros 4)
     let s := go c [wn .CMPR_REGION_SIZE 0 x.1]
     let d := s.dev.begun c
     s.dev.awaits 0 0 0x24 c ∧ domUp d dCOMPARE = true ∧ c.block.length = 32 ∧ bitOf (leAt c.block 1 1) 0 = false ∧
     leAt c.block 24 4 = 128 ∧ regionSize d 0 = x.1 ∧ boundIn d 0 = []) ∧
    (let c := cmd 0x24 [] (zeros 24 ++ leBytes 4 128 ++ zeros 4)
     let s := go c [wn .CMPR_REGION_SIZE 0 128, follows]
     let d := s.dev.begun c
     s.dev.awaits 0 0 0x24 c ∧ leAt c.block 8 8 + 128 ≤ regionSize d 0 ∧
     (∃ p ∈ boundIn d 0, rangesMeet (leAt c.block 8 8) 128 p.offset p.length = true)) ∧
    (∀ x ∈ [(page, none, true), (pageWith 0, none, false), (([] : Bytes), some 2, false)],
     let c := cmd 0x24 [] (zeros 24 ++ leBytes 4 128 ++ zeros 4)
     let s := go c [wn .CMPR_REGION_SIZE 0 128]
     let d := s.dev.begun c
     let p := Mem.readBytes ((Mem.clear d.hbm 0 128).writeBytes 0 (fitBytes 128 x.1)) 0 128
     s.dev.awaits 0 0 0x24 c ∧ regionBase d 0 + leAt c.block 8 8 = 0 ∧ refHeaderCheck p (some 128) = x.2.1 ∧
     (leAt p 28 4 == refCheck p) = x.2.2) ∧
    (let c := cmd 0x24 [] ([0#8, 1#8] ++ zeros 14)
     let s := go c [wn .CMPR_REGION_SIZE 0 128, fun d => { d with hbm := d.hbm.writeBytes 0 page }]
     let d := s.dev.begun c
     let n := leNat (Mem.readBytes d.hbm (regionBase d 0 + 0 + 32) 8)
     s.dev.awaits 0 0 0x24 c ∧ c.block.length = 16 ∧ bitOf (leAt c.block 1 1) 0 = true ∧ n = 128 ∧
     refHeaderCheck (Mem.readBytes d.hbm 0 n) none = none) := by
  unfold Dev.awaits; refine ⟨?_, ?_, ?_, ?_⟩ <;> decide +kernel

/-- Parcel 5 of context 0, held by write unit 0. -/
def held : Parcel := ⟨0, 5, 4096, [], 0, 0, false, 0, 1, 1, false, false, false, false, []⟩

/-- A capture whose leading context is 0, of the image's product set. -/
def capture : Capture :=
  ⟨0, 1, (section_ image 6).1, [64, 64, 64, 64], 0, 10, false, 0, 0, 0, 0, 0, 0, [], [], [[]], [[]], 0, 0, 0, 0, []⟩

set_option maxRecDepth 100000 in
theorem wit_CapturesAndContexts :
    (let c := cmd 0x40 [(16, 4, 1000)] []
     let s := go c [active, sf .GLB_STATUS 0 GLB_STATUS.LINK_RATE 1, sf .GLB_STATUS 0 GLB_STATUS.LINK_WIDTH 1,
       sf .PROD_CTX_STATUS 0 PROD_CTX_STATUS.STATE 1, sf .PROD_CTX_STATUS 0 PROD_CTX_STATUS.KIND 1]
     let d := s.dev.begun c
     let t := record image 6 512 (leAt c.entry 8 2)
     s.dev.awaits 0 0 0x40 c ∧ domUp d dFABRIC = true ∧ activeImage d = some image ∧ leAt c.entry 8 2 < (section_ image 6).2 ∧
     leAt c.entry 16 4 ≤ leAt t 4 4 ∧ c.ctx + setEntries t ≤ 2048 ∧
     (∀ e, e < setEntries t → ctxState d (c.ctx + e) = 1 ∧ ctxKind d (c.ctx + e) = eKind t e) ∧
     d.strm.captures.length < 16 ∧ canStage 0x05 (zeros 20) d = true ∧
     (match admission d (1000 * 64) (imgLineRate image * 64) with | .ok r => !r | _ => false) = true ∧
     leAt (record image 7 16 (leAt c.entry 8 2)) 0 4 = 64) := by
  unfold Dev.awaits; decide +kernel

set_option maxRecDepth 100000 in
/-- CAPTURE_START refused: no image, the set, the lines, the contexts, a context's state, the 16 captures, no room in staging. -/
theorem wit_CapturesAndContexts_refused :
    (let c := cmd 0x40 [] []
     let s := go c []
     s.dev.awaits 0 0 0x40 c ∧ domUp (s.dev.begun c) dFABRIC = true ∧ activeImage (s.dev.begun c) = none) ∧
    (∀ x ∈ [(1, 0, 0), (0, 1001, 0), (0, 1000, 2048), (0, 1000, 2047)],
     let c := { cmd 0x40 [(8, 2, x.1), (16, 4, x.2.1)] [] with ctx := x.2.2 }
     let s := go c [active]
     let d := s.dev.begun c
     s.dev.awaits 0 0 0x40 c ∧ activeImage d = some image ∧ (section_ image 6).2 = 1 ∧ leAt (record image 6 512 0) 4 4 = 1000 ∧
     setEntries (record image 6 512 0) = 1 ∧ ctxState d x.2.2 ≠ 1 ∧ leAt c.entry 8 2 = x.1 ∧ leAt c.entry 16 4 = x.2.1) ∧
    ((st [active, strm (fun x => { x with captures := List.replicate 16 capture })]).dev.strm.captures.length = 16) ∧
    canStage 0x05 (zeros 20) (st [fun d => { d with post := { d.post with backlog := List.replicate 256 ⟨kLOSS, 1, 0, zeros 40⟩ } }]).dev = false := by
  unfold Dev.awaits; refine ⟨?_, ?_, ?_, ?_⟩ <;> decide +kernel

/-- A link, and a MEMBER of 64 kB for parcels at a rate that is known. -/
def linked : Dev → Dev := fun d => sf .GLB_STATUS 0 GLB_STATUS.LINK_RATE 1 (sf .GLB_STATUS 0 GLB_STATUS.LINK_WIDTH 1 d)
def reserved (b : Nat) : Dev → Dev := fun d => { d with post := { d.post with reserve := [⟨1, 0, false, b, 64, 64, 1, 1, false⟩] } }
def withDrive : Dev → Dev := fun d => setPort 0 RP_PORT_STATUS.STATE rpMember (onDrive 0 (fun x => { x with width := 4, code := 1, cap := 65536 }) d)

theorem wit_CapturesAndContexts_admission :
    admission (st []).dev 1 1 = .error 3 ∧
    admission (st [linked, reserved 63410065408]).dev 65536 64 = .error 1 ∧
    admission (st [linked, reserved 63410065408, withDrive]).dev 65536 64 = .ok true ∧
    admission (st [linked, reserved 63410065408, withDrive, onDrive 0 (fun x => { x with code := 0 })]).dev 65536 64 = .error 2 ∧
    admission (st [linked]).dev 65536 64 = .ok false := by
  decide +kernel

theorem wit_CapturesAndContexts_open :
    (let c := { cmd 0x43 [(8, 1, 10), (12, 4, 4096)] [] with ctx := 2047 }
     let s := go c []
     let d := s.dev.begun c
     s.dev.awaits 0 0 0x43 c ∧ domUp d dFABRIC = true ∧ ctxState d c.ctx = 0 ∧ d.strm.parcels = []) ∧
    (let c := cmd 0x43 [] []
     let s := go c [sf .PROD_CTX_STATUS 0 PROD_CTX_STATUS.STATE 1]
     s.dev.awaits 0 0 0x43 c ∧ domUp (s.dev.begun c) dFABRIC = true ∧ ctxState (s.dev.begun c) c.ctx ≠ 0) ∧
    (∀ x < 3, let c := cmd 0x43 [] []
     let s := go c [onDrive 3 (fun y => { y with seen := x }), strm (fun y => { y with parcels := [{ held with held := 8 }] })]
     let d := s.dev.begun c
     s.dev.awaits 0 0 0x43 c ∧ domUp d dFABRIC = true ∧ ctxState d c.ctx = 0 ∧
     ∃ p ∈ d.strm.parcels, p.ctx = c.ctx ∧ p.unit ≠ 0 ∧ bitsOf p.held 4 = [3] ∧ (drive d 3).seen = x) := by
  unfold Dev.awaits; refine ⟨?_, ?_, ?_⟩ <;> decide +kernel

theorem wit_CapturesAndContexts_stop :
    (∀ x ∈ [(0, 0, 0, 0), (0, 0, 1, 10), (0, 0, 1, 4), (3, 0, 1, 10), (1, 0, 1, 10), (2, 0, 1, 10), (0, 3, 1, 10), (0, 4, 1, 10), (0, 4, 0, 0)],
     let c := cmd 0x41 [(8, 1, if x.1 = 3 then 0 else x.1), (16, 7, x.2.1)] []
     let s := go c [sf .ESC_LINE 0 ESC_LINE.NUM 5,
       strm (fun y => { y with captures := [{ capture with stop := if x.1 = 3 then 3 else 0, first := x.2.2.1, last := x.2.2.2 }] })]
     let d := s.dev.begun c
     s.dev.awaits 0 0 0x41 c ∧ domUp d dFABRIC = true ∧ (findCap d c.ctx).isSome = true ∧
     leAt c.entry 8 1 = (if x.1 = 3 then 0 else x.1) ∧ leAt c.entry 16 7 = x.2.1 ∧ rf d .ESC_LINE 0 ESC_LINE.NUM = 5) ∧
    (let c := { cmd 0x41 [] [] with ctx := 1 }
     let s := go c [strm (fun x => { x with captures := [capture] })]
     s.dev.awaits 0 0 0x41 c ∧ domUp (s.dev.begun c) dFABRIC = true ∧ findCap (s.dev.begun c) c.ctx = none) ∧
    (let c := cmd 0x21 [(8, 1, 3)] []
     let s := go c [esc (fun e => { e with images := setAt e.images 3 (some []) }), strm (fun x => { x with captures := [capture] })]
     let d := s.dev.begun c
     s.dev.awaits 0 0 0x21 c ∧ domUp d dESC = true ∧ d.esc.images.getD (leAt c.entry 8 1) none = some [] ∧ d.strm.captures ≠ [] ∧
     activeImage d = none) := by
  unfold Dev.awaits; refine ⟨?_, ?_, ?_⟩ <;> decide +kernel

/-- An active image with a segment of a lane at port 0 and one table of motion segments. -/
def motionImage : Bytes :=
  zeros 6 ++ leBytes 2 2 ++ zeros 56 ++ dirEntry 9 96 64 1 ++ dirEntry 5 160 64 1 ++
  ([0#8, 0#8, 1#8, 4#8] ++ zeros 4 ++ leBytes 8 1 ++ leBytes 2 1 ++ leBytes 2 1 ++ leBytes 2 1 ++ zeros 2 ++ leBytes 4 8 ++
    zeros 8 ++ leBytes 4 8 ++ zeros 24) ++ (zeros 8 ++ leBytes 4 64 ++ zeros 52)
def motion : Dev → Dev := fun d =>
  sf .TTBL_STATUS 0 TTBL_STATUS.NONE 0 (esc (fun e => { e with images := setAt e.images 0 (some motionImage) }) d)
/-- Segment 0 in a state. -/
def segIs (t : SegState) : Dev → Dev := setSeg 0 (fun x => { x with st := t })

/-- A baseline record of kind 5 of generators at 0, with a certificate of zeros but for its header and the digest. -/
def baseHead (check : Nat) : Bytes :=
  leBytes 4 0x4C534142 ++ leBytes 2 1 ++ [5#8, 255#8] ++ zeros 20 ++ leBytes 4 16 ++ zeros 24 ++ leBytes 4 8698 ++ leBytes 4 check ++
  zeros 80
/-- SHAKE256 of the record, computed outside the model. -/
def baseDigest : Bytes := leBytes 64 0x14acc21dbd7e37363e4260c5cd4f26d8c9759d806b80d506ce530091b265003124133ba90ff73d3fb06f3a5f9341fe51618419edef71c455c831e7ffd35b7b8b
def baseBlock : Bytes :=
  baseHead 3980447638 ++ leBytes 4 0x54524543 ++ leBytes 2 1 ++ [1#8, 0#8] ++ baseDigest ++ zeros 8626

theorem test_shake256 : digest (baseHead 3980447638) = baseDigest := by decide +kernel

theorem wit_CalibrationCommands :
    (let c := cmd 0x60 [(8, 6, 1)] []
     let s := go c [motion, segIs .live]
     s.dev.awaits 0 0 0x60 c ∧ domUp (s.dev.begun c) dREGUL = true ∧ c.data = [] ∧ calSegsOk (s.dev.begun c) (leAt c.entry 8 6) = true) ∧
    (let c := cmd 0x60 [(8, 6, 1)] []
     let s := go c []
     s.dev.awaits 0 0 0x60 c ∧ calSegsOk (s.dev.begun c) (leAt c.entry 8 6) = false) ∧
    (let c := cmd 0x61 [(8, 6, 1)] []
     let s := go c [motion, segIs .live]
     let d := s.dev.begun c
     s.dev.awaits 0 0 0x61 c ∧ domUp d dREGUL = true ∧ c.data = [] ∧ calSegsOk d (leAt c.entry 8 6) = true ∧ hostOwns d 4 = true ∧
     bitOf (rf d .TTBL_GEN_STATUS 0 TTBL_GEN_STATUS.PENDING) 4 = false ∧ activeImage d = some motionImage ∧
     (segTable motionImage (rf d .CAL_TILE_CFG 0 CAL_TILE_CFG.TABLE_IN)).isSome = true ∧
     (segTable motionImage (rf d .CAL_TILE_OUT 0 CAL_TILE_OUT.TABLE_OUT)).isSome = true) := by
  unfold Dev.awaits; decide +kernel

theorem wit_CalibrationCommands_start :
    (let c := { cmd 0x60 [(8, 6, 1), (16, 1, 3)] [] with data := [1] }
     let d := (go c [motion, segIs .live]).dev
     domUp d dREGUL = true ∧ calBusy d = false ∧ rb d .CAL_CTRL 0 CAL_CTRL.STAGE_HOLD = false ∧ calWaiting d = some c ∧
     leAt c.entry 16 1 < 4) ∧
    (let c := cmd 0x61 [(8, 6, 1)] []
     let s := go c [motion, segIs .live, sf .CAL_TILE_OUT 0 CAL_TILE_OUT.TABLE_OUT 1]
     let d := s.dev.begun c
     s.dev.awaits 0 0 0x61 c ∧ domUp d dREGUL = true ∧ c.data = [] ∧ calSegsOk d (leAt c.entry 8 6) = true ∧
     (segTable motionImage (rf d .CAL_TILE_OUT 0 CAL_TILE_OUT.TABLE_OUT)).isSome = false) ∧
    (∀ x ∈ [(zeros 256, false, some 0), (baseHead 1, true, none)],
     let c := cmd 0x62 [] x.1
     (go c []).dev.awaits 0 0 0x62 c ∧ (x.2.1 = false → (baseHeaderBad c.block c.block.length).isSome = true) ∧
     (x.2.1 = true → baseCheckOk c.block = false)) := by
  unfold Dev.awaits; refine ⟨?_, ?_, ?_⟩ <;> decide +kernel

/-- Where every signature verifies, what is left of the check of a certificate whose signer is a firmware root. -/
theorem certOk_of (h : ∀ k m s, Config.mldsaVerify k m s = true) (d : Dev) (b : Bytes) (n : Nat) (hn : 128 + leAt b 28 4 = n)
    (e : (let c := b.drop n
      leAt c 0 4 == 0x54524543 && leAt c 4 2 == 1 && leAt c 7 1 == 0 && zeroIn c 72 128 && leAt c 6 1 == 1 && c.length == 8698 &&
      (c.drop 8).take 64 == digest (b.take n)) = true) : certOk d b = true := by
  subst hn
  simp only [Bool.and_eq_true, beq_iff_eq] at e
  obtain ⟨⟨⟨⟨⟨⟨e1, e2⟩, e3⟩, e4⟩, e5⟩, e6⟩, e7⟩ := e
  unfold certOk
  simp only [h, e1, e2, e3, e4, e5, e6, e7, beq_self_eq_true, Bool.and_self, if_true]

set_option maxRecDepth 100000 in
theorem base_head : baseBlock.take (128 + leAt baseBlock 28 4) = baseHead 3980447638 := by decide +kernel

set_option maxRecDepth 100000 in
theorem base_cert : (let c := baseBlock.drop (128 + leAt baseBlock 28 4)
    leAt c 0 4 == 0x54524543 && leAt c 4 2 == 1 && leAt c 7 1 == 0 && zeroIn c 72 128 && leAt c 6 1 == 1 && c.length == 8698 &&
    (c.drop 8).take 64 == baseDigest) = true := by decide +kernel

theorem wit_CalibrationCommands_cert (h : ∀ k m s, Config.mldsaVerify k m s = true) (d : Dev) : certOk d baseBlock = true := by
  refine certOk_of h d baseBlock _ rfl ?_
  rw [base_head, test_shake256]
  exact base_cert

theorem wit_CalibrationCommands_free : ∀ s : State, s.dev.cal.base = [] → (baseFree s.dev).isSome = true := by
  intro s h
  unfold baseFree
  rw [h]
  obtain ⟨n, e⟩ := pickFree_some s.dev (l := (List.range 256).filter (fun e => ([] : List Baseline).all (·.entry != e))) (by decide)
  rw [e]; rfl

set_option maxRecDepth 100000 in
theorem wit_CalibrationCommands_baseline : baseHeaderBad baseBlock baseBlock.length = none ∧ baseCheckOk baseBlock = true ∧
    (let s := go (cmd 0x62 [] baseBlock) []
     s.dev.cal.base = [] ∧ baseUsed s.dev + baseBlock.length ≤ 201326592) := by decide +kernel

/-- Axis 7 in a state. -/
def axisIs (n : Nat) : Dev → Dev := setAxState 7 n
def moveCmd (l : List (Nat × Nat × Nat)) : Cmd := cmd 0x70 ((8, 1, 7) :: l) []
def gearMove : Move := ⟨1, true, [], 0, 0, 0, false, 0, 7, 1, 1, 1, 1, false⟩

theorem wit_Moves :
    (∀ x ∈ [axDISABLED, axENABLING, axDISABLING, axFAULT],
      let c := moveCmd []
      let s := go c [axisIs x]
      s.dev.awaits 0 0 0x70 c ∧ domUp (s.dev.begun c) dREMON = true ∧ mvParam c 8 1 % 8 = 7 ∧ axState (s.dev.begun c) 7 = x) ∧
    (∀ n ∈ [7, 8],
      let c := moveCmd [(9, 1, 2)]
      let s := go c [axisIs axHOLDING, onAxis 7 (fun x => { x with queue := List.replicate n gearMove })]
      let d := s.dev.begun c
      s.dev.awaits 0 0 0x70 c ∧ mvParam c 8 1 % 8 = 7 ∧ axRefuses d 7 = false ∧ mvParam c 9 1 % 4 = 2 ∧ (axis d 7).queue.length = n) ∧
    (let c := moveCmd []
     let s := go c [motion, axisIs axHOLDING]
     let d := s.dev.begun c
     s.dev.awaits 0 0 0x70 c ∧ domUp d dREMON = true ∧ axRefuses d 7 = false ∧ mvParam c 9 1 % 4 = 0 ∧
     (activeImage d).bind (fun i => segTable i (mvParam c 10 2)) = some (zeros 8 ++ leBytes 4 64 ++ zeros 52) ∧
     (let m := tableMove (c.order + 1) (zeros 8 ++ leBytes 4 64 ++ zeros 52) (if bitOf (mvParam c 9 1) 2 then mvParam c 12 4 else 0)
      (axis d 7).queue.length < 8 ∧ tableOver d 7 m = false ∧ m.blend ≤ m.total ∧ m.blend = 0)) := by
  unfold Dev.awaits; decide +kernel

/-- A table of one segment of 100 servo periods to position `p`, written out from R317. -/
def table (p : Nat) : Bytes := zeros 4 ++ leBytes 4 1 ++ leBytes 4 80 ++ zeros 52 ++ leBytes 4 100 ++ leBytes 8 p ++ zeros 4

theorem wit_Moves_refused :
    (let c := moveCmd [(10, 2, 1)]
     let s := go c [motion, axisIs axHOLDING]
     let d := s.dev.begun c
     s.dev.awaits 0 0 0x70 c ∧ domUp d dREMON = true ∧ axRefuses d 7 = false ∧
     (activeImage d).bind (fun i => segTable i (mvParam c 10 2)) = none) ∧
    (let c := moveCmd []
     let s := go c [motion, axisIs axHOLDING, onAxis 7 (fun x => { x with queue := List.replicate 8 gearMove })]
     let d := s.dev.begun c
     s.dev.awaits 0 0 0x70 c ∧ axRefuses d 7 = false ∧ (axis d 7).queue.length = 8 ∧
     ((activeImage d).bind (fun i => segTable i (mvParam c 10 2))).isSome = true) ∧
    (∀ x ∈ [(2 ^ 40, 0, true), (65536, 101, false), (65536, 100, false)],
     let c := { moveCmd [(1, 1, 1)] with block := [7#8, 5#8] ++ zeros 2 ++ leBytes 4 x.2.1 ++ zeros 56 ++ table x.1 }
     let s := go c [axisIs axHOLDING]
     let d := s.dev.begun c
     s.dev.awaits 0 0 0x70 c ∧ mvParam c 8 1 % 8 = 7 ∧ axRefuses d 7 = false ∧ mvParam c 9 1 % 4 = 1 ∧ (axis d 7).queue.length < 8 ∧
     (let m := tableMove (c.order + 1) (c.block.drop 64) (if bitOf (mvParam c 9 1) 2 then mvParam c 12 4 else 0)
      tableOver d 7 m = x.2.2 ∧ m.blend = x.2.1 ∧ m.total = 100)) ∧
    ((axis (st []).dev 7).queue = [] ∧ ({ gearMove with blend := 1 } : Move).blend ≠ 0) := by
  unfold Dev.awaits; refine ⟨?_, ?_, ?_, ?_⟩ <;> decide +kernel

theorem wit_HomeStopResume :
    (let c := cmd 0x71 [(8, 1, 7), (9, 1, 4)] []
     let s := go c [axisIs axHOLDING]
     s.dev.awaits 0 0 0x71 c ∧ domUp (s.dev.begun c) dREMON = true ∧ axState (s.dev.begun c) 7 = axHOLDING ∧ leAt c.entry 8 1 % 8 = 7 ∧
     leAt c.entry 9 1 = 4) ∧
    (let c := cmd 0x71 [(8, 1, 7)] []
     let s := go c []
     s.dev.awaits 0 0 0x71 c ∧ axState (s.dev.begun c) 7 ≠ axHOLDING) ∧
    (∀ m ∈ [0, 3],
      let c := cmd 0x71 [(8, 1, 7), (9, 1, m)] []
      let s := go c [axisIs axHOLDING, wn .AX_HOME_VEL 7 100, wn .AX_STALL_VMIN 7 100]
      let d := s.dev.begun c
      s.dev.awaits 0 0 0x71 c ∧ axState d 7 = axHOLDING ∧ leAt c.entry 9 1 = m ∧
      ¬ (m < 2 ∧ rn d .AX_HOME_VEL 7 < rn d .AX_STALL_VMIN 7) ∧ rb d .AX_STATUS 7 AX_STATUS.LATCH_NEG = false ∧
      rb d .AX_STATUS 7 AX_STATUS.LATCH_POS = false) ∧
    (let c := cmd 0x72 [(8, 1, 7), (9, 1, 2)] []
     let s := go c [axisIs axMOVING, onAxis 7 (fun x => { x with prog := .ramp 1 })]
     let d := s.dev.begun c
     s.dev.awaits 0 0 0x72 c ∧ domUp d dREMON = true ∧ axState d 7 = axMOVING ∧ (axis d 7).home = none ∧ (axis d 7).prog = .ramp 1 ∧
     leAt c.entry 9 1 = 2) ∧
    (let c := cmd 0x73 [(8, 1, 7)] []
     let s := go c [axisIs axSUSPENDED, setAxRef 7 3]
     let d := s.dev.begun c
     s.dev.awaits 0 0 0x73 c ∧ domUp d dREMON = true ∧ axState d 7 = axSUSPENDED ∧ axRef d 7 ≠ 0 ∧ (axis d 7).pace = none) ∧
    (let c := cmd 0x73 [(8, 1, 7)] []
     let s := go c []
     s.dev.awaits 0 0 0x73 c ∧ axState (s.dev.begun c) 7 ≠ axSUSPENDED) := by
  unfold Dev.awaits; refine ⟨?_, ?_, ?_, ?_, ?_, ?_⟩ <;> decide +kernel

/-- A configuration record of the bridge of die 1. -/
def bridgeRec : Bytes := [4#8, 1#8, 2#8] ++ zeros 29

theorem wit_HomeStopResume_rest :
    (let c := cmd 0x71 [(8, 1, 7), (9, 1, 1)] []
     let s := go c [axisIs axHOLDING, wn .AX_HOME_VEL 7 99, wn .AX_STALL_VMIN 7 100]
     let d := s.dev.begun c
     s.dev.awaits 0 0 0x71 c ∧ domUp d dREMON = true ∧ axState d 7 = axHOLDING ∧ leAt c.entry 9 1 = 1 ∧
     axN d .AX_HOME_VEL 7 < axN d .AX_STALL_VMIN 7) ∧
    (∀ x ∈ [(0, axHOLDING), (1, axHOLDING), (1, axSUSPENDED)],
     let c := cmd 0x72 [(8, 1, 7), (10, 1, x.1)] []
     let s := go c [axisIs x.2]
     let d := s.dev.begun c
     let d1 := onAxis 7 (fun y => { y with stops := y.stops ++ [c.order + 1], flush := y.flush || bitOf x.1 0 }) d
     s.dev.awaits 0 0 0x72 c ∧ domUp d dREMON = true ∧ leAt c.entry 10 1 = x.1 ∧ axMoves d1 7 = false ∧ axState d1 7 = x.2) ∧
    (∀ n ∈ [0, 1],
     let c := cmd 0x72 [(8, 1, 7)] []
     let s := go c [axisIs axMOVING, onAxis 7 (fun y => { y with queue := List.replicate n gearMove })]
     let d := s.dev.begun c
     s.dev.awaits 0 0 0x72 c ∧ domUp d dREMON = true ∧ axMoves d 7 = true ∧ (axis d 7).prog = .hold ∧ (axis d 7).queue.length = n ∧
     (axis d 7).ahead = 0) ∧
    (let c := cmd 0x73 [(8, 1, 7)] []
     let s := go c [axisIs axSUSPENDED]
     s.dev.awaits 0 0 0x73 c ∧ domUp (s.dev.begun c) dREMON = true ∧ axRef (s.dev.begun c) 7 = 0 ∧ bitOf (leAt c.entry 9 1) 0 = false) ∧
    (let c := cmd 0x73 [(8, 1, 7), (9, 1, 1)] []
     let s := go c [axisIs axSUSPENDED, onAxis 7 (fun y => { y with pace := some ⟨1, 0, 0, 0, 0, 0, 0, 0, 1, [], false⟩ })]
     let d := s.dev.begun c
     s.dev.awaits 0 0 0x73 c ∧ domUp d dREMON = true ∧ axState d 7 = axSUSPENDED ∧ bitOf (leAt c.entry 9 1) 0 = true ∧
     (axis d 7).pace.isSome = true) := by
  unfold Dev.awaits; refine ⟨?_, ?_, ?_, ?_, ?_⟩ <;> decide +kernel

theorem wit_AuxCommands_refused :
    (let c := cmd 0x80 [] ([4#8, 2#8] ++ zeros 30)
     let s := go c []
     s.dev.awaits 0 0 0x80 c ∧ (auxRecField (c.block.take 32)).isSome = true) ∧
    (let c := cmd 0x80 [] ([3#8, 0#8, 0#8, 16#8] ++ zeros 28)
     let s := go c []
     s.dev.awaits 0 0 0x80 c ∧ auxRecField (c.block.take 32) = none ∧ domUp (s.dev.begun c) (dANA (auxRecDie (c.block.take 32))) = true ∧
     auxRecOk (auxApply (c.block.take 32) (s.dev.begun c)) (c.block.take 32) = false) ∧
    (let c := cmd 0x81 [(8, 4, 2 ^ 31)] []
     let s := go c []
     s.dev.awaits 0 0 0x81 c ∧ (bitsOf (leAt c.entry 8 4) 32).find? (fun i =>
       !domUp (s.dev.begun c) (dANA (i / 16)) || !iEnable (inRec (s.dev.begun c) i)) = some 31) := by
  unfold Dev.awaits; refine ⟨?_, ?_, ?_⟩ <;> decide +kernel

theorem wit_AuxCommands :
    (let c := cmd 0x80 [] bridgeRec
     let s := go c []
     s.dev.awaits 0 0 0x80 c ∧ c.block.length = 32 ∧ auxRecField (c.block.take 32) = none ∧
     domUp (s.dev.begun c) (dANA (auxRecDie (c.block.take 32))) = true ∧ auxRecOk (auxApply (c.block.take 32) (s.dev.begun c)) (c.block.take 32) = true) ∧
    (let c := cmd 0x80 [] bridgeRec
     let s := go c [wn .RST_DOMAIN_POWER 0 0x10]
     s.dev.awaits 0 0 0x80 c ∧ c.block.length = 32 ∧ auxRecField (c.block.take 32) = none ∧
     domUp (s.dev.begun c) (dANA (auxRecDie (c.block.take 32))) = false) ∧
    (let c := cmd 0x81 [(8, 4, 2 ^ 31)] []
     let s := go c [winPut .auxIn (32 * 31 + 2) 1#8]
     s.dev.awaits 0 0 0x81 c ∧ bitsOf (leAt c.entry 8 4) 32 = [31] ∧ domUp (s.dev.begun c) (dANA 1) = true ∧
     iEnable (inRec (s.dev.begun c) 31) = true) ∧
    (let c := cmd 0x82 [(8, 1, 7), (9, 1, 1)] []
     let s := go c []
     s.dev.awaits 0 0 0x82 c ∧ domUp (s.dev.begun c) (dANA (leAt c.entry 8 1 % 8 / 4)) = true ∧ leAt c.entry 9 1 ≠ 0) ∧
    (let c := cmd 0x82 [(8, 1, 7)] []
     let s := go c [wn .RST_DOMAIN_POWER 0 0x10]
     s.dev.awaits 0 0 0x82 c ∧ domUp (s.dev.begun c) (dANA (leAt c.entry 8 1 % 8 / 4)) = false) := by
  unfold Dev.awaits; decide +kernel

/-- Ports 0 and 1 are MEMBERs. -/
def members : Dev → Dev := fun d => setPort 0 RP_PORT_STATUS.STATE rpMember (setPort 1 RP_PORT_STATUS.STATE rpMember d)

theorem wit_DrivesAndFirmware :
    (let c := cmd 0x90 [] []
     let s := go c []
     s.dev.awaits 0 0 0x90 c ∧ domUp (s.dev.begun c) dRP = true ∧
     (∀ p, p < 4 → rpState (s.dev.begun c) p ≠ 3 ∧ rpState (s.dev.begun c) p ≠ 4 ∧ rpState (s.dev.begun c) p ≠ 6)) ∧
    (∀ x ∈ [(0, 4096), (1, 4095), (1, 4096)],
     let c := cmd 0x91 [] (leBytes 8 5 ++ leBytes 8 1 ++ leBytes 8 64 ++ leBytes 8 x.2)
     let s := go c [strm (fun y => { y with parcels := [held] }), onDrive 0 (fun y => { y with seen := x.1 })]
     let d := s.dev.begun c
     s.dev.awaits 0 0 0x91 c ∧ domUp d dRP = true ∧ leAt c.block 8 4 = 1 ∧ c.block.length = 32 ∧ leAt c.block 24 4 = x.2 ∧
     d.strm.parcels.find? (fun p => p.ctx == c.ctx && p.num == leAt c.block 0 7 && heldBy d p) = if x.1 = 1 then some held else none) ∧
    (let c := cmd 0x92 [(8, 7, 5), (16, 4, 1)] []
     let s := go c [strm (fun y => { y with parcels := [held] }), onDrive 0 (fun y => { y with seen := 1 }),
       sf .PROD_CTX_STATUS 0 PROD_CTX_STATUS.STATE 1]
     let d := s.dev.begun c
     s.dev.awaits 0 0 0x92 c ∧ domUp d dRP = true ∧ ctxState d c.ctx ≠ 0 ∧ held.host = false ∧ held.back = false ∧ heldBy d held = true) ∧
    (let c := cmd 0x92 [] []
     let s := go c []
     s.dev.awaits 0 0 0x92 c ∧ ctxState (s.dev.begun c) c.ctx = 0) ∧
    (let c := cmd 0x93 [(8, 1, 1)] []
     let s := go c [members]
     let d := s.dev.begun c
     s.dev.awaits 0 0 0x93 c ∧ domUp d dRP = true ∧ (∀ p ∈ d.strm.parcels, heldBy d p = false) ∧ sRes d = 0 ∧
     (∀ j ∈ bitsOf (leAt c.entry 8 1 % 4) 2, pairWhole d (2 * j) = true)) ∧
    (let c := cmd 0x93 [] []
     let s := go c [fun d => { d with post := { d.post with reserve := [⟨1, 0, true, 64, 64, 1, 0, 1, false⟩] } }]
     s.dev.awaits 0 0 0x93 c ∧ sRes (s.dev.begun c) ≠ 0) := by
  unfold Dev.awaits; refine ⟨?_, ?_, ?_, ?_, ?_, ?_⟩ <;> decide +kernel

/-- A firmware image of 64 bytes of body, written out from R394, with root key and signatures of zeros. -/
def fwImage : Bytes :=
  leBytes 4 0x4D495746 ++ leBytes 2 1 ++ [1#8] ++ zeros 9 ++ leBytes 4 5632 ++ leBytes 4 64 ++
  leBytes 64 0x9c495d5ec8b746c279c4acdad33a2f12ce821b5ed2f31eb2b3ee285ae9dd708366a66d9b4ec08d7556c23891864fa91eb0853bf8b915347de87949eeaf2a57e ++ zeros 5544

/-- SHAKE256 of 64 bytes of 0, computed outside the model. -/
theorem test_shake256_zeros : digest (zeros 64) = leBytes 64 0x9c495d5ec8b746c279c4acdad33a2f12ce821b5ed2f31eb2b3ee285ae9dd708366a66d9b4ec08d7556c23891864fa91eb0853bf8b915347de87949eeaf2a57e := by decide +kernel

set_option maxRecDepth 100000 in
theorem fwImage_body : fwImage.drop 5568 = zeros 64 ∧ (fwImage.drop 24).take 64 = leBytes 64 0x9c495d5ec8b746c279c4acdad33a2f12ce821b5ed2f31eb2b3ee285ae9dd708366a66d9b4ec08d7556c23891864fa91eb0853bf8b915347de87949eeaf2a57e ∧ fwRootKey fwImage = zeros 1952 := by
  decide +kernel

theorem wit_DrivesAndFirmware_digest : fwDigestOk fwImage = true := by
  unfold fwDigestOk; rw [fwImage_body.1, fwImage_body.2.1, test_shake256_zeros]; exact beq_self_eq_true _

theorem wit_DrivesAndFirmware_signature (h : ∀ k m s, Config.mldsaVerify k m s = true) (r : digest (zeros 1952) = Config.rootDigest) :
    fwSigOk fwImage = true := by
  unfold fwSigOk; rw [fwImage_body.2.2, r, h, beq_self_eq_true]; rfl

set_option maxRecDepth 100000 in
theorem wit_DrivesAndFirmware_stage :
    (let c := cmd 0xA0 [] fwImage
     let s := go c []
     let d := s.dev.begun c
     s.dev.awaits 0 0 0xA0 c ∧ domUp d dFRANK = true ∧ fwInFlight d c.order = false ∧ committing d = false ∧ leAt c.block 6 1 ≠ 2 ∧
     fwHeaderBad c.block = none ∧ s.fuses.svn ≤ fwSvn c.block) ∧
    (let c := cmd 0xA0 [] (zeros 6 ++ [2#8])
     let s := go c []
     s.dev.awaits 0 0 0xA0 c ∧ leAt c.block 6 1 = 2 ∧ crown (s.dev.begun c) = false ∧ crown s.dev = false) ∧
    (let c := cmd 0xA1 [(8, 1, 1)] []
     let s := go c [setSlot 1 1 []]
     let d := s.dev.begun c
     s.dev.awaits 0 0 0xA1 c ∧ fwInFlight d c.order = false ∧ committing d = false ∧ slotState d (leAt c.entry 8 1 % 2) = 1) ∧
    (∀ n ∈ [16, 15],
      let c := cmd 0xA2 [(8, 1, 2), (32, 4, n)] []
      let s := go c [sec (fun x => { x with ckpts := [zeros 16] })]
      s.dev.awaits 0 0 0xA2 c ∧ certItem (s.dev.begun c) (leAt c.entry 8 1) (leAt c.entry 16 8) = some (zeros 16) ∧
      leAt c.entry 32 4 = n) := by
  unfold Dev.awaits; decide +kernel

/-- A fuse request of REACH section 50, written out from R405. -/
def fuseReq (n : Nat) : Bytes :=
  leBytes 4 0x4D495746 ++ leBytes 2 1 ++ [2#8] ++ zeros 9 ++ leBytes 4 320 ++ zeros 286 ++ [BitVec.ofNat 8 n] ++ zeros 13

theorem wit_DrivesAndFirmware_fuses :
    (∀ x ∈ [(5, none), (6, some 306)],
     let c := cmd 0xA0 [] (fuseReq x.1)
     let s := go c [sf .RST_STATUS 0 RST_STATUS.CROWN 1]
     let d := s.dev.begun c
     s.dev.awaits 0 0 0xA0 c ∧ domUp d dFRANK = true ∧ fwInFlight d c.order = false ∧ committing d = false ∧ leAt c.block 6 1 = 2 ∧
     crown d = true ∧ fuseReqBad c.block = x.2 ∧ fwInFlight s.dev c.order = false ∧ committing s.dev = false) ∧
    (let c := cmd 0xA0 [] (leBytes 8 1)
     let s := go c []
     s.dev.awaits 0 0 0xA0 c ∧ leAt c.block 6 1 ≠ 2 ∧ fwHeaderBad c.block = some 0) ∧
    (let c := cmd 0xA1 [(8, 1, 1)] []
     let s := go c []
     s.dev.awaits 0 0 0xA1 c ∧ slotState (s.dev.begun c) (leAt c.entry 8 1 % 2) ≠ 1) ∧
    (let c := cmd 0xA2 [(8, 1, 2)] []
     let s := go c []
     s.dev.awaits 0 0 0xA2 c ∧ certItem (s.dev.begun c) (leAt c.entry 8 1) (leAt c.entry 16 8) = none) := by
  unfold Dev.awaits; refine ⟨?_, ?_, ?_, ?_⟩ <;> decide +kernel

theorem wit_DiagnosticCommands_crown :
    (∀ n ∈ [0, 1], let c := cmd 0xF1 [(8, 1, n)] []
     let s := go c [sf .RST_STATUS 0 RST_STATUS.CROWN 1]
     s.dev.awaits 0 0 0xF1 c ∧ crown (s.dev.begun c) = true ∧ leAt c.entry 8 1 ≠ 2) ∧
    (let c := cmd 0xF1 [(8, 1, 1)] []; (go c []).dev.awaits 0 0 0xF1 c ∧ crown ((go c []).dev.begun c) = false ∧ leAt c.entry 8 1 = 1) ∧
    (let c := cmd 0xF0 [(24, 4, 64)] []
     let s := go c [wn .RST_DOMAIN_POWER 0 (2 ^ dMEM 0 + 0x10)]
     s.dev.awaits 0 0 0xF0 c ∧ crown (s.dev.begun c) = false ∧ domUp (s.dev.begun c) (dMEM 0) = true ∧
     domUp (s.dev.begun c) (dMEM 1) = false) := by
  unfold Dev.awaits; refine ⟨?_, ?_, ?_⟩ <;> decide +kernel

theorem wit_DiagnosticCommands :
    (let c := cmd 0xF0 [(24, 4, 64)] []
     let s := go c []
     s.dev.awaits 0 0 0xF0 c ∧ domUp (s.dev.begun c) (dMEM 0) = true ∧ domUp (s.dev.begun c) (dMEM 1) = true) ∧
    (let c := cmd 0xF0 [(24, 4, 64)] []
     let s := go c [wn .RST_DOMAIN_POWER 0 0x10]
     s.dev.awaits 0 0 0xF0 c ∧ crown (s.dev.begun c) = false ∧ domUp (s.dev.begun c) (dMEM 0) = false) ∧
    (∀ n ∈ [0, 2], let c := cmd 0xF1 [(8, 1, n)] []
     (go c []).dev.awaits 0 0 0xF1 c ∧ crown ((go c []).dev.begun c) = false ∧ leAt c.entry 8 1 = n) := by
  unfold Dev.awaits; decide +kernel

/-- A ratio armed at a source count. -/
def ratio (n m at_ count : Nat) : Dev → Dev := fun d =>
  ws64 .ESC_MASTER 0 count (ws64 .ESC_RATIO_AT 0 at_ (sf .ESC_RATIO_NEXT 0 ESC_RATIO_NEXT.N n (sf .ESC_RATIO_NEXT 0 ESC_RATIO_NEXT.D m d)))

theorem wit_RatioAndGenerations :
    (let d := (st [ratio 1 0 0 0]).dev; domUp d dESC = true ∧ rf d .ESC_RATIO_NEXT 0 ESC_RATIO_NEXT.D = 0) ∧
    (let d := (st [ratio 16777216 1 5 5]).dev
     domUp d dESC = true ∧ rf d .ESC_RATIO_NEXT 0 ESC_RATIO_NEXT.N = 16777216 * rf d .ESC_RATIO_NEXT 0 ESC_RATIO_NEXT.D ∧
     rs64 d .ESC_MASTER 0 = rs64 d .ESC_RATIO_AT 0) ∧
    (let d := (st [ratio 1 1 6 5]).dev; rs64 d .ESC_MASTER 0 ≠ rs64 d .ESC_RATIO_AT 0 ∧ velocity d = 0) ∧
    (let d := (st [ratio 1 1 4 5, wn .ESC_VELOCITY 0 1]).dev
     rs64 d .ESC_RATIO_AT 0 < rs64 d .ESC_MASTER 0 ∧ 0 < velocity d) ∧
    (let d := (st []).dev; activeNone d = true ∧ hostOwns d 10 = true ∧ bankIsBusy d 10 = false) ∧
    (let d := (st [motion, sf .TTBL_GEN_OWNER 0 TTBL_GEN_OWNER.TT 2]).dev; activeNone d = false ∧ hostOwns d 1 = false) ∧
    (let d := (st [esc (fun e => { e with bankBusy := [(1, 0)] })]).dev; hostOwns d 1 = true ∧ bankIsBusy d 1 = true) := by
  refine ⟨?_, ?_, ?_, ?_, ?_, ?_, ?_⟩ <;> decide +kernel

theorem wit_Segments :
    (let s := st []; domUp s.dev (dDIG 3) = true ∧ segOfPort s.dev 47 = none) ∧
    (∀ x ∈ [SegState.ready, .fault, .off, .absent, .powering, .live], let s := st [motion, segIs x]
     domUp s.dev (dDIG 0) = true ∧ (segOfPort s.dev 0).map (·.1) = some 0 ∧ (seg s.dev 0).st = x) ∧
    (let s := st [motion, setSeg 0 (fun x => { x with st := .powering, step := 1 })]
     (segRec s.dev 0).isSome = true ∧ (seg s.dev 0).st = .powering ∧ (seg s.dev 0).step = 1) ∧
    (let s := st [motion, setSeg 0 (fun x => { x with st := .powering, step := 2 })]
     (segRec s.dev 0).map (rSrc · 2) = some true ∧ (seg s.dev 0).st = .powering ∧ (seg s.dev 0).step = 2) ∧
    (let s := st [motion, fun d => esc (fun e => { e with images := setAt e.images 0 (some (putBytes motionImage 99 [1#8])) }) d,
       setSeg 0 (fun x => { x with st := .powering, step := 2 })]
     (segRec s.dev 0).map (rSrc · 2) = some false ∧ (seg s.dev 0).st = .powering ∧ (seg s.dev 0).step = 2) ∧
    (let s := st [motion, setSeg 0 (fun x => { x with st := .powering, step := 3 })]
     (segRec s.dev 0).map (lanesLocked s.dev) = some false ∧ (seg s.dev 0).st = .powering ∧ (seg s.dev 0).step = 3) ∧
    (let s := st [motion, segIs .relock]
     (segRec s.dev 0).map (lanesLocked s.dev) = some false ∧ (seg s.dev 0).st = .relock ∧ (seg s.dev 0).powered = false ∧
     (seg s.dev 0).st ≠ .powering) := by
  refine ⟨?_, ?_, ?_, ?_, ?_, ?_, ?_⟩ <;> decide +kernel

/-- Cells of a drift record: MAGIC, FORMAT and a CHECK. -/
def driftCells (check : Nat) : Mem :=
  [(0, 0x44#8), (1, 0x52#8), (2, 0x46#8), (3, 0x54#8), (4, 1#8), (12, BitVec.ofNat 8 check), (13, BitVec.ofNat 8 (check / 256)),
    (14, BitVec.ofNat 8 (check / 65536)), (15, BitVec.ofNat 8 (check / 16777216))]

/-- The check takes its own bytes as 0, so writing it does not change it. -/
theorem driftCheck_own (v : Nat) : driftCheck (driftCells v) = driftCheck (driftCells 0) := by
  unfold driftCheck
  refine congrArg crc32c (List.map_congr_left fun o _ => ?_)
  by_cases lo : o < 12
  · simp only [Mem.read, driftCells, spGet, if_pos lo]
  · by_cases hi : o < 16
    · rw [if_pos (by simp only [Bool.and_eq_true, decide_eq_true_eq]; omega), if_pos (by simp only [Bool.and_eq_true, decide_eq_true_eq]; omega)]
    · have n : ∀ a, a < 16 → ¬ o < a ∧ o ≠ a := fun a h => by omega
      simp only [Mem.read, driftCells, spGet, n 12 (by decide), n 13 (by decide), n 14 (by decide), n 15 (by decide), if_false]

theorem wit_PagesSyncAndRestore :
    (let d := (st []).dev
     domUp d dFABRIC = true ∧ domUp d dREGUL = true ∧ d.pages.cur = none ∧ ringMaster d = false ∧ rb d .CAL_CTRL 0 CAL_CTRL.STAGE_HOLD = false) ∧
    (let d := (st [pages (fun p => { p with cur := some ⟨1, 0, 0, 0, 0, 0⟩ })]).dev; d.pages.cur.isSome = true) ∧
    (let d := (st [sf .SYNC_CFG 0 SYNC_CFG.MASTER 1, sf .CAL_CTRL 0 CAL_CTRL.STAGE_HOLD 1]).dev
     ringMaster d = true ∧ rb d .CAL_CTRL 0 CAL_CTRL.STAGE_HOLD = true ∧
     leNat (Mem.readBytes (driftContent d (bankOut d 11)) 0 4) ≠ 0x54465244) ∧
    (let m := driftCells 0
     leNat (Mem.readBytes m 0 4) = 0x54465244 ∧ leNat (Mem.readBytes m 4 2) = 1 ∧ driftReservedOk m = true) := by
  refine ⟨?_, ?_, ?_, ?_⟩ <;> decide +kernel

theorem crcBitR_lt (c : Nat) (h : c < 2 ^ 32) : crcBitR 0x82F63B78 c < 2 ^ 32 := by
  unfold crcBitR
  split
  · exact Nat.xor_lt_two_pow (by omega) (by decide)
  · omega

theorem crc32c_lt (b : Bytes) : crc32c b < 2 ^ 32 := by
  have step : ∀ (l : Bytes) (c : Nat), c < 2 ^ 32 → l.foldl (crcByteR 0x82F63B78) c < 2 ^ 32 := by
    intro l
    induction l with
    | nil => exact fun _ h => h
    | cons x t ih =>
      intro c h
      refine ih _ ?_
      have hx : c.xor x.toNat < 2 ^ 32 := Nat.xor_lt_two_pow h (Nat.lt_trans x.isLt (by decide))
      exact crcBitR_lt _ (crcBitR_lt _ (crcBitR_lt _ (crcBitR_lt _ (crcBitR_lt _ (crcBitR_lt _ (crcBitR_lt _ (crcBitR_lt _ hx)))))))
  exact Nat.xor_lt_two_pow (step b _ (by decide)) (by decide)

theorem driftCells_check (v : Nat) (h : v < 2 ^ 32) : leNat (Mem.readBytes (driftCells v) 12 4) = v := by
  have e : Mem.readBytes (driftCells v) 12 4 =
    [BitVec.ofNat 8 v, BitVec.ofNat 8 (v / 256), BitVec.ofNat 8 (v / 65536), BitVec.ofNat 8 (v / 16777216)] := rfl
  rw [e]; simp only [leNat, BitVec.toNat_ofNat]; omega

/-- The drift bank not in force holds a record. -/
def drifting (v : Nat) : State :=
  st [sf .CAL_CTRL 0 CAL_CTRL.STAGE_HOLD 1, fun d => { d with tables := (driftCells v).map (fun c => (bankAddr 11 1 0 + c.1, c.2)) }]

theorem drifting_content (v : Nat) : driftContent (drifting v).dev (bankOut (drifting v).dev 11) = driftCells v := by
  have e : bankOut (drifting v).dev 11 = bankOut (drifting 0).dev 11 := rfl
  have f : bankOut (drifting 0).dev 11 = 1 := by decide +kernel
  have g : (drifting v).dev.tables = (driftCells v).map (fun c => (bankAddr 11 1 0 + c.1, c.2)) := rfl
  have small : ∀ c ∈ driftCells v, c.1 < 2 ^ 28 := by
    intro c hc
    simp only [driftCells, List.mem_cons, List.not_mem_nil, or_false] at hc
    rcases hc with rfl | rfl | rfl | rfl | rfl | rfl | rfl | rfl | rfl <;> (dsimp only; decide)
  rw [e, f]
  unfold driftContent
  rw [g]
  generalize driftCells v = l at small
  generalize bankAddr 11 1 0 = b
  induction l with
  | nil => rfl
  | cons c t ih =>
    have h := small c List.mem_cons_self
    simp only [List.map_cons, List.filter_cons, Nat.le_add_right, decide_true, Bool.true_and,
      show b + c.1 < b + 2 ^ 28 from Nat.add_lt_add_left h b, if_true, Nat.add_sub_cancel_left]
    rw [ih (fun x hx => small x (List.mem_cons_of_mem _ hx))]

theorem wit_PagesSyncAndRestore_good : ∃ v, leNat (Mem.readBytes (driftCells v) 12 4) = driftCheck (driftCells v) :=
  ⟨driftCheck (driftCells 0), by
    rw [driftCells_check _ (by unfold driftCheck; exact crc32c_lt _)]; exact (driftCheck_own _).symm⟩

theorem wit_PagesSyncAndRestore_bad : ∃ v, leNat (Mem.readBytes (driftCells v) 12 4) ≠ driftCheck (driftCells v) := by
  by_cases h : driftCheck (driftCells 0) = 0
  · exact ⟨1, by rw [driftCells_check 1 (by decide), driftCheck_own, h]; decide⟩
  · exact ⟨0, by rw [driftCells_check 0 (by decide)]; exact fun e => h e.symm⟩

theorem wit_PagesSyncAndRestore_serials : (∀ k, k < 48 → leNat (Mem.readBytes (driftCells 0) (offSerial k) 8) = 0) := by decide +kernel

/-- A descriptor of 8 bytes within host memory, without index, check or pacing. -/
def goodDesc : Bytes := entry [(24, 4, 8)]

/-- DMA channel 47 in a state, with a ring of 4. -/
def channel (n : Nat) : Dev → Dev := fun d => setCh 47 n (sf .DMA_CH_RING_SIZE 47 DMA_CH_RING_SIZE.SIZE 4 d)

theorem wit_DmaChannelControl :
    (let d := (st [channel chIDLE]).dev
     domUp d dDMA = true ∧ chState d 47 ≠ chDISABLED ∧ chState d 47 = chIDLE ∧ 4 < ringL (chSize d 47) ∧
     notBehind (chSize d 47) 4 (chan d 47).tail = true ∧ ringDiff (chSize d 47) 4 (chHead d 47) ≤ chSize d 47 ∧
     chSize d 47 < ringDiff (chSize d 47) 5 (chHead d 47)) ∧
    (let d := (st [channel chDISABLED]).dev
     chState d 47 = chDISABLED ∧ chSize d 47 ≠ 0 ∧ ringPlaceOk d 47 = true) ∧
    (∀ n ∈ [chDISABLED, chIDLE, chACTIVE, chWAIT, chPAUSING, chPAUSED, chHALTED], chState (st [channel n]).dev 47 = n) ∧
    (let d := (st [sf .DMA_CH_RING_BASE 47 DMA_CH_RING_BASE.BASE 1]).dev; chState d 47 = chDISABLED ∧ chSize d 47 = 0) ∧
    domUp (st []).dev dDMA = true ∧ 48 ≤ 48 := by decide +kernel

/-- Channel 47 as the start of a descriptor leaves it. -/
def started (b : Bytes) (d : Dev) : Dev :=
  let d := onChan 47 (fun x => { x with again := x.again.drop 1, addr := headAddr d 47, reissue := false, wrote := 0, paid := 0 })
    (wn .DMA_CH_CUR_DESC 47 (headAddr d 47) (wn .DMA_CH_DONE_BYTES 47 0 (setCh 47 chACTIVE d)))
  wn .DMA_CH_CRC 47 (crcInit (dCrc b)) (onChan 47 (fun x => { x with desc := b, idx := [], src := [], crc0 := crcInit (dCrc b) }) d)

theorem wit_DmaDescriptor :
    (let d := (st [channel chIDLE, onChan 47 (fun x => { x with tail := 1 })]).dev
     domUp d dDMA = true ∧ chState d 47 = chIDLE ∧ (chan d 47).desc = [] ∧ (chan d 47).again = [] ∧ chWork d 47 = true ∧
     rb d .DMA_CH_RING_BASE 47 DMA_CH_RING_BASE.SPACE = false ∧ dCont (zeros 64) = false ∧
     descCheck (started (zeros 64) d) (zeros 64) 0 (chan d 47).lastCrc ≠ 0) ∧
    (let d := (st [channel chACTIVE, onChan 47 (fun x => { x with tail := 1 }), wn .CMPR_REGION_SIZE 0 2097152]).dev
     chState d 47 = chACTIVE ∧ dCont goodDesc = false ∧ descCheck (started goodDesc d) goodDesc (leAt goodDesc 60 1) (chan d 47).lastCrc = 0) ∧
    (let d := (st [channel chIDLE, onChan 47 (fun x => { x with again := [64] })]).dev
     chState d 47 = chIDLE ∧ (chan d 47).desc = [] ∧ (chan d 47).again = [64] ∧ leAt (putBytes (zeros 64) 60 [1#8]) 60 1 = 1) ∧
    (let d := (st [channel chPAUSING]).dev; chState d 47 = chPAUSING ∧ (chan d 47).desc = []) ∧
    (∀ n ∈ [chACTIVE, chPAUSING], let d := (st [channel n, onChan 47 (fun x => { x with desc := goodDesc })]).dev
     chState d 47 = n ∧ (chan d 47).desc ≠ [] ∧ groupsOf (chan d 47).desc ≤ (chan d 47).paid ∧ idxFault d (chan d 47) = none) ∧
    (∀ n ∈ [2, 1], rf (st [sf .DMA_CH_CFG 47 DMA_CH_CFG.CREDIT_SRC n]).dev .DMA_CH_CFG 47 DMA_CH_CFG.CREDIT_SRC = n) := by
  refine ⟨?_, ?_, ?_, ?_, ?_, ?_⟩ <;> decide +kernel

theorem wit_AxisControl :
    (let d := (st [axisIs axDISABLED]).dev; domUp d dREMON = true ∧ axState d 7 = axDISABLED ∧ (axis d 7).prog = .hold) ∧
    (∀ n ∈ [axENABLING, axHOLDING, axSUSPENDED, axMOVING, axSTOPPING, axHOMING, axFAULT, axDISABLING], axState (st [axisIs n]).dev 7 = n) ∧
    axMoves (sf .AX_CTRL 7 AX_CTRL.ENABLE 0 (st [axisIs axMOVING]).dev) 7 = true ∧
    axMoves (sf .AX_CTRL 7 AX_CTRL.ENABLE 0 (st [axisIs axFAULT]).dev) 7 = false ∧
    (let d := (st [axisIs axMOVING, onAxis 7 (fun x => { x with prog := .gear 0 0 0 0 1 1, queue := [gearMove] })]).dev
     gearOk (rf d .AX_GEAR_NEXT 7 AX_GEAR_NEXT.N) 0 = false ∧ headMove d 7 = some gearMove ∧
     rs64 d .ENC_COUNT gearMove.enc = rs64 d .AX_GEAR_AT 7) ∧
    axState (sf .AXH_STATUS 7 AXH_STATUS.FAULT_IN 0 (st [axisIs axFAULT]).dev) 7 = axFAULT ∧
    (let d := (st [axisIs axMOVING, ws64 .AX_GEAR_AT 7 9, sf .AX_GEAR_NEXT 7 AX_GEAR_NEXT.N 65536, sf .AX_GEAR_NEXT 7 AX_GEAR_NEXT.D 1,
       onAxis 7 (fun x => { x with prog := .gear 0 0 0 0 1 1, queue := [gearMove] })]).dev
     (axis d 7).prog = .gear 0 0 0 0 1 1 ∧ headMove d 7 = some gearMove ∧
     velocityEdges d.now (spGet [] gearMove.enc d.mot.encEdges) = [] ∧ rs64 d .ENC_COUNT gearMove.enc ≠ rs64 d .AX_GEAR_AT 7 ∧
     gearOk (rf d .AX_GEAR_NEXT 7 AX_GEAR_NEXT.N) (rf d .AX_GEAR_NEXT 7 AX_GEAR_NEXT.D) = true) := by decide +kernel

theorem wit_AxisEvents :
    (let d := (st [axisIs axHOLDING]).dev
     domUp d (dDIG (7 / 2)) = true ∧ domUp d dREMON = true ∧ axState d 7 ≠ axDISABLED ∧ axState d 7 ≠ axFAULT ∧ axState d 7 = axHOLDING ∧
     (axis d 7).comp.v = 0) ∧
    (let d := sf .AXH_STATUS 7 AXH_STATUS.FAULT_IN 1 (st [axisIs axHOLDING]).dev; axState d 7 ≠ axDISABLED ∧ axState d 7 ≠ axFAULT) ∧
    axState (sf .AXH_STATUS 7 AXH_STATUS.FAULT_IN 1 (st [axisIs axFAULT]).dev) 7 = axFAULT ∧
    axState (st [axisIs axENABLING]).dev 7 = axENABLING ∧ axState (st [axisIs axDISABLING]).dev 7 = axDISABLING ∧
    domUp (st [wn .RST_DOMAIN_POWER 0 0]).dev (dDIG (7 / 2)) = false ∧ domUp (st [wn .RST_DOMAIN_POWER 0 0]).dev dREMON = false := by
  decide +kernel

/-- Chain 3 converts input 31 in a state and a phase. -/
def converting (n phase : Nat) : Dev → Dev := fun d =>
  setCvState 3 n (cvSet 3 AUX_CHAIN_STATUS.PHASE phase (cvSet 3 AUX_CHAIN_STATUS.INPUT 31 d))

theorem wit_AuxInputs :
    (let d := (st [converting 3 0]).dev
     domUp d (dANA (3 / 2)) = true ∧ cvState d 3 = 3 ∧ cvInput d 3 = 31 ∧ cvLeadPhase d 3 = false ∧ iWire (inRec d 31) = false) ∧
    (let d := (st [winPut .auxIn (32 * 31 + 2) 1#8]).dev; 31 / 8 = 3 ∧ iEnable (inRec d 31) = true ∧ (chain d 3).job = 0) ∧
    (∀ x ∈ [(2, 0, 0), (1, 0, 0), (1, 1, 0), (0, 0, 1)], let d := (st [winPut .auxIn (32 * 31 + 2) 1#8, onChain 3 (fun y => { y with job := x.1, begunAt := x.2.1, endAt := x.2.2 })]).dev
     d.now = 0 ∧ iEnable (inRec d 31) = true ∧ (chain d 3).job = x.1 ∧ (chain d 3).begunAt = x.2.1 ∧ (chain d 3).endAt = x.2.2) ∧
    cvState (st [converting 1 0]).dev 3 = 1 ∧
    (let d := (st [converting 2 1]).dev; 2 ≤ cvState d 3 ∧ cvLeadPhase d 3 = true) ∧
    (∀ w ∈ [0, 32], let d := (st [converting 2 0, winPut .auxIn (32 * 31 + 2) (BitVec.ofNat 8 w)]).dev
     let e := onChain 3 (fun y => { y with main := rawOk 5, mainGain := (chain d 3).gain, mainOver := false || rawFull (rawOk 5), at_ := samplingInstant d 3 })
       (wn .AUX_RAW 31 (ux 24 (rawOk 5)) d)
     2 ≤ cvState d 3 ∧ cvLeadPhase d 3 = false ∧ cvInput d 3 = 31 ∧ (iWire (inRec e 31) && mget e.aux.lead 31 == 0) = decide (w = 32)) ∧
    (let d := (st []).dev
     (chain d 3).pin ≠ true ∧ cvStartBit (onChain 3 (fun x => { x with pin := true }) d) 3 0 = false) ∧
    (let d := (st [sf .AUX_CHAIN_CFG 3 AUX_CHAIN_CFG.START 1]).dev
     let e := onChain 3 (fun x => { x with pin := true }) d
     (chain d 3).pin ≠ true ∧ cvStartBit e 3 0 = true ∧ cvStartBit e 3 1 ≠ true) ∧
    (let d := (st [sf .AUX_RATIO_CFG 7 AUX_RATIO_CFG.FLAGS 3]).dev
     7 / 4 = 3 / 2 ∧ ratioFlag d 7 0 = true ∧ ratioFlag d 7 1 = true) := by
  refine ⟨?_, ?_, ?_, ?_, ?_, ?_, ?_, ?_, ?_⟩ <;> decide +kernel

theorem wit_EventControl :
    (let d := (st []).dev
     domUp d dFABRIC = true ∧ Src.SW_EVENT 0 ≤ 1535 ∧ 0 < Src.SW_EVENT 0 ∧ rb d .EVT_LOG_CFG 0 EVT_LOG_CFG.ENABLE = false ∧
     rb d .DIAG_INJECT 0 DIAG_INJECT.ARMED = false ∧ d.cyc.at_ ≠ d.now + 1) ∧
    (let d := (st [wn .EVT_ENABLE 47 5]).dev; ∀ b, b < 32 → bitOf 5 b = true → evEnabled d (32 * 47 + b) = true) ∧
    (let d := (st [sf .EVT_LOG_CFG 0 EVT_LOG_CFG.ENABLE 1, sf .EVT_LOG_CFG 0 EVT_LOG_CFG.SIZE 65535, wn .EVT_LOG_WRITTEN 0 1]).dev
     let z := rf d .EVT_LOG_CFG 0 EVT_LOG_CFG.SIZE
     rb d .EVT_LOG_CFG 0 EVT_LOG_CFG.ENABLE = true ∧ 1 < ringL z ∧ notBehind z 1 d.evt.logRead = true ∧
     notBehind z (rn d .EVT_LOG_WRITTEN 0) 1 = true) ∧
    (let d := (st [sf .EVT_LOG_CFG 0 EVT_LOG_CFG.ENABLE 1, sf .EVT_LOG_CFG 0 EVT_LOG_CFG.SIZE 4,
       fun d => { d with evt := { d.evt with logRead := 1 } }]).dev
     notBehind (rf d .EVT_LOG_CFG 0 EVT_LOG_CFG.SIZE) 0 d.evt.logRead = false) ∧
    rb (st [sf .DIAG_INJECT 0 DIAG_INJECT.ARMED 1]).dev .DIAG_INJECT 0 DIAG_INJECT.ARMED = true := by decide +kernel

theorem wit_QueuesInterruptsAndOptions :
    (let s := st [fun d => { d with evt := { d.evt with uq := setAt (List.replicate 16 []) 15 [7] } }]
     domUp s.dev dFABRIC = true ∧ s.dev.evt.uq.getD 15 [] = [7] ∧ s.dev.evt.uq.getD 0 [] = []) ∧
    (let s := st [winPut .msixPba 255 128#8, fun d => { d with post := { d.post with msixEnable := true } }]
     domUp s.dev dEP = true ∧ bitOf (winGet s.dev .msixPba (2047 / 8)).toNat (2047 % 8) = true ∧ s.dev.post.msixEnable = true) ∧
    (let s := st []
     bitOf (winGet s.dev .msixPba (2047 / 8)).toNat (2047 % 8) = false ∧ s.dev.post.msixEnable = false) ∧
    flaggedVectors { (st []).dev with post := { (st []).dev.post with msixEnable := true } } = [] ∧
    (let d := (st []).dev
     domUp d dFRANK = true ∧ committing d = false ∧ fwInFlight d d.post.fetches = false ∧ optionOk (optionCommitRec d) = true) ∧
    optionOk (optionCommitRec (st [winPut .optionStage 10 0#8]).dev) = false ∧
    committing (st [sf .SEC_OPTION_STATUS 0 SEC_OPTION_STATUS.BUSY 1]).dev = true ∧
    leAt (leBytes 2 1 ++ zeros 10) 0 2 = 1 ∧ leAt (leBytes 2 1 ++ zeros 10) 2 1 = 0 ∧
    leAt (leBytes 2 1 ++ [1#8] ++ zeros 9) 2 1 = 1 ∧ 1 < leAt (leBytes 2 1 ++ [2#8] ++ zeros 9) 2 1 ∧ leAt (zeros 12) 0 2 ≠ 1 ∧
    domUp (st []).dev dEP = true := by
  refine ⟨?_, ?_, ?_, ?_, ?_, ?_, ?_, ?_, ?_, ?_, ?_, ?_, ?_⟩ <;> decide +kernel


theorem wit_EncoderEvents :
    (let s := st [sf .ENC_CFG 7 ENC_CFG.ENABLE 1, sf .ENC_CFG 7 ENC_CFG.INDEX_EN 1]
     islandUp s.dev = true ∧ encDecodes s.dev 7 = true ∧ bitOf s.dev.esc.chanA 7 = false ∧ bitOf s.dev.esc.chanB 7 = false ∧
     encDecodes (encoderEdge 7 true true s.dev) 7 = true ∧ rb (encoderEdge 7 true true s.dev) .ENC_CFG 7 ENC_CFG.INDEX_EN = true ∧
     rb s.dev .ENC_STATUS 7 ENC_STATUS.LOS = false) ∧
    islandUp (st [wn .RST_DOMAIN_POWER 0 0]).dev = false ∧ encDecodes (st []).dev 7 = false ∧
    rb (st [sf .ENC_STATUS 7 ENC_STATUS.LOS 1]).dev .ENC_STATUS 7 ENC_STATUS.LOS = true := by decide +kernel

theorem wit_EscapementEvents :
    (let e : TEvent := ⟨0, 1, 0, [], true⟩
     dueSlot (st [esc (fun x => { x with slots := [e] })]).dev = some (e, [])) ∧
    (let a : Actuation := ⟨0, 0, false, 0, false, true, 0⟩
     let d := (st [esc (fun x => { x with acts := [a] })]).dev
     dueSlot d = none ∧ takeFirst (fun a => reached d a.pos) d.esc.acts = some (a, [])) ∧
    (let g : GenPend := ⟨11, 1, 0, true, false, false, false⟩
     let d := (st [esc (fun x => { x with genPend := [g] })]).dev
     domUp d dESC = true ∧ d.esc.genPend.find? (fun g => g.cls == 11 && g.started && !g.copied) = some g) ∧
    (let d := (st []).dev
     dueSlot d = none ∧ takeFirst (fun a => reached d a.pos) d.esc.acts = none ∧
     d.esc.genPend.find? (fun g => g.cls == 11 && g.started && !g.copied) = none) ∧
    domUp (st [wn .RST_DOMAIN_POWER 0 0]).dev dESC = false := by refine ⟨?_, ?_, ?_, ?_, ?_⟩ <;> decide +kernel

theorem wit_LineHandovers :
    (let d := (st [esc (fun x => { x with actPend := some ⟨3, 0, false, 0, 0⟩ })]).dev
     domUp d dESC = true ∧ d.esc.reverse = false ∧ activeImage d = none ∧ d.esc.actPend = some ⟨3, 0, false, 0, 0⟩ ∧ 0 ≤ trackPos d) ∧
    (let d := (st [esc (fun x => { x with actPend := some ⟨3, 1, false, 0, 0⟩ })]).dev
     activeImage d = none ∧ d.esc.actPend = some ⟨3, 1, false, 0, 0⟩ ∧ trackPos d < 1) ∧
    (∀ b ∈ [false, true], ∀ x ∈ [(335, false), (336, true), (368, true), (369, false)],
     let d := (st [motion, esc (fun x => { x with imageBad := b })]).dev
     domUp d dESC = true ∧ d.esc.reverse = false ∧ activeImage d = some motionImage ∧
     startOk d (linePlace d motionImage d.esc.lineK) x.1 = x.2 ∧ paceHolds d (linePlace d motionImage d.esc.lineK) = false ∧
     d.esc.imageBad = b) ∧
    (st [motion, esc (fun x => { x with reverse := true })]).dev.esc.reverse = true ∧
    (let d := (st [motion, que (fun q => { q with withheld := some (1, 0) })]).dev
     activeImage d = some motionImage ∧ paceHolds d (linePlace d motionImage d.esc.lineK) = true) ∧
    (∀ p ∈ [0, 1], let d := (st [wn .RST_DOMAIN_POWER 0 0, motion, esc (fun x => { x with actPos := p })]).dev
     domUp d dESC = false ∧ activeImage d = some motionImage ∧ d.esc.reverse = false ∧
     paceHolds d (linePlace d motionImage d.esc.lineK) = false ∧ linePlace d motionImage d.esc.lineK = p ∧ trackPos d = 0) := by
  refine ⟨?_, ?_, ?_, ?_, ?_, ?_⟩ <;> decide +kernel

def aHead : Head := ⟨0, 9, 1, []⟩

theorem wit_DieAndI3cEvents :
    (let d := (st [sf .PG_STATUS 15 PG_STATUS.RUNNING 1, fe (fun x => { x with runLine := [(15, 1)] })]).dev
     domUp d (dDIG 3) = true ∧ 15 / 4 = 3 ∧ rb d .PG_STATUS 15 PG_STATUS.RUNNING = true ∧ mget d.fe.runLine 15 ≠ 0 ∧
     d.esc.lines = []) ∧
    (let d := (st [sf .FE_STATUS 3 FE_STATUS.LINK_UP 1, fe (fun x => { x with flitFails := [(3, 7)] })]).dev
     rb d .FE_STATUS 3 FE_STATUS.LINK_UP = true ∧ mget (mset 3 (mget d.fe.flitFails 3 + 1) d.fe.flitFails) 3 = 8 ∧
     mget (mset 3 0 d.fe.flitFails) 3 < 8) ∧
    (let d := (st []).dev; rb d .PG_STATUS 15 PG_STATUS.RUNNING = false ∧ mget d.fe.runLine 15 = 0) ∧
    (let d := (st [motion]).dev; (segRec d 0).map rBus = some 0 ∧ (seg d 0).pollFailed = false) ∧
    rb (st [sf .FE_STATUS 3 FE_STATUS.LINK_UP 0]).dev .FE_STATUS 3 FE_STATUS.LINK_UP = false ∧
    (let d := (st [motion, setSeg 0 (fun x => { x with pollFailed := true }), fe (fun x => { x with heads := [aHead] })]).dev
     (segRec d 0).map rBus = some 0 ∧ (seg d 0).pollFailed = true ∧ d.fe.heads.any (fun h => h.seg == 1) = true) := by decide +kernel

/-- The lane at port 0 in a state, with a window of line 2 open. -/
def lane (n : Nat) : Dev → Dev := fun d =>
  sf .LANE_STATUS 0 LANE_STATUS.STATE n (fe (fun x => { x with winLine := [(0, 3)] }) (motion d))

theorem wit_LaneEvents :
    (let d := (st []).dev; domUp d (dDIG (portDie 47)) = true ∧ segOfPort d 47 = none) ∧
    (let d := (st [lane 2]).dev
     domUp d (dDIG (portDie 0)) = true ∧ (segOfPort d 0).map (·.1) = some 0 ∧ laneState d 0 = 2 ∧ mget d.fe.winLine 0 ≠ 0 ∧
     bitOf d.fe.winGot 0 = false ∧ mget d.fe.winAt 0 ≤ 16 * d.now ∧
     (segOfPort d 0).map (fun x => (rSamples x.2 2 * rLaneBits x.2 + 7) / 8) = some (zeros 10).length ∧
     (bitOf (fe (fun x => { x with winGot := putBit x.winGot 0 true }) d).fe.seqFresh 0 = false) ∧
     (rf d .LANE_SEQ 0 LANE_SEQ.SEQ + 1) % 65536 = 1) ∧
    (∀ x ∈ [(1, 0), (0, 1)], let d := (st [lane 2, fe (fun y => { y with winGot := x.1, winAt := [(0, x.2)] })]).dev
     laneState d 0 = 2 ∧ mget d.fe.winLine 0 ≠ 0 ∧ bitOf d.fe.winGot 0 = decide (x.1 = 1) ∧ mget d.fe.winAt 0 = x.2) ∧
    (let d := (st [lane 1, fe (fun y => { y with winLine := [] })]).dev; laneState d 0 = 1 ∧ mget d.fe.winLine 0 = 0) ∧
    (∀ x ∈ [(SegState.powering, 3), (.relock, 0), (.live, 0)], let d := (st [lane 1, setSeg 0 (fun y => { y with st := x.1, step := x.2 })]).dev
     let e := setLane 0 2 d
     laneState d 0 = 1 ∧ segOfPort e 0 = segOfPort d 0 ∧ (segOfPort e 0).map (fun y => lanesLocked e y.2) = some true ∧
     (seg e 0).st = x.1 ∧ (seg e 0).step = x.2) ∧
    (∀ w ∈ [[], [(0, 3)]], ∀ x ∈ [SegState.live, .relock], let d := (st [lane 2, fe (fun x => { x with winLine := w }), segIs x]).dev
     let e := occur (Src.LANE_LOS (portDie 0)) (portDie 0) 0 0 (setLane 0 1 d)
     laneState d 0 = 2 ∧ mget d.fe.winLine 0 = mget w 0 ∧ (segOfPort e 0).map (·.1) = some 0 ∧ (seg e 0).st = x) := by
  refine ⟨?_, ?_, ?_, ?_, ?_, ?_⟩ <;> decide +kernel

/-- An image of two lanes in one segment, where one lane may lock before the other. -/
theorem wit_LaneEvents_partial :
    (let d := (st [lane 1, fun d => esc (fun e => { e with images := setAt e.images 0 (some (putBytes motionImage 104 [3#8])) }) d]).dev
     let e := setLane 0 2 d
     laneState d 0 = 1 ∧ segOfPort e 0 = segOfPort d 0 ∧ (segOfPort e 0).map (fun y => lanesLocked e y.2) = some false) := by decide +kernel

/-- Line 2, captured with every port masked. -/
def line : LineRec :=
  ⟨2, 0, 0, 0, 0, 0, [], [], [], 2 ^ 48 - 1, 0, false, false, 0, false, 0, 0, false, false, 0, [], [], [], false, 0, motionImage⟩

theorem wit_LinesAndBands :
    (let d := (st [motion, esc (fun e => { e with lines := [line] })]).dev
     nextLine d = some line ∧ domUp d (dPIPE 0) = true ∧ domUp d (dPIPE 1) = true ∧ lineReady d line line.img = true ∧
     (∀ x ∈ d.esc.lines, line.num ≤ x.num ∨ x.verdict = true)) ∧
    (let l := { line with complete := true }
     let d := (st [esc (fun e => { e with lines := [l] })]).dev
     domUp d dCOMPARE = true ∧ d.esc.lines.find? (fun l => l.complete && !l.verdict) = some l ∧
     d.cmpr.jlines.find? (fun x => x.line == l.num) = none) ∧
    (let d := (st [cmpr (fun x => { x with jlines := [⟨2, 0, true, 0, false, []⟩] })]).dev
     (d.cmpr.jlines.find? (fun x => x.line == line.num)).isSome = true) ∧
    nextLine (st []).dev = none ∧ domUp (st [wn .RST_DOMAIN_POWER 0 0]).dev dCOMPARE = false ∧ (st []).dev.cmpr.full = none ∧
    (let d := (st [cmpr (fun x => { x with full := some ⟨1, 1, [], [], []⟩ })]).dev
     domUp d dCOMPARE = true ∧ d.cmpr.full = some ⟨1, 1, [], [], []⟩) := by decide +kernel

theorem wit_FitAndCrop :
    (let e : EdgeAcc := ⟨1, 0, [], motionImage, 0⟩
     let d := (st [sf .ESC_LINE 0 ESC_LINE.NUM 64, pages (fun p => { p with edges := [e] })]).dev
     domUp d dFABRIC = true ∧ d.pages.edges.find? (fitDue d) = some e) ∧
    (let e : EdgeAcc := ⟨1, 0, [], motionImage, 0⟩
     let d := (st [sf .ESC_LINE 0 ESC_LINE.NUM 63, pages (fun p => { p with edges := [e] })]).dev
     d.pages.edges.find? (fitDue d) = none) ∧
    (let q : CropReq := ⟨0, 0, 0, false, 0, 4, 0, 0⟩
     let c := { capture with crops := [[q]] }
     let d := (st [sf .PIPE_LINE_DONE 0 PIPE_LINE_DONE.LINE 4, strm (fun x => { x with captures := [c] })]).dev
     d.strm.captures = [c] ∧ 0 < setEntries c.set ∧ c.crops.getD 0 [] = [q] ∧
     q.lastLine + eMargin c.set 0 ≤ rf d .PIPE_LINE_DONE 0 PIPE_LINE_DONE.LINE) := by decide +kernel

/-- An active image with trigger unit 31, which watches a level for 5 ns, and state 0 of sequencer 3, which leaves for state 2 after 7 ns. -/
def trigImage : Bytes :=
  zeros 6 ++ leBytes 2 1 ++ zeros 56 ++ dirEntry 8 80 128 2 ++
  ([1#8, 31#8, 3#8] ++ zeros 13 ++ leBytes 8 5 ++ zeros 40) ++
  ([2#8, 3#8] ++ zeros 7 ++ [2#8, 2#8] ++ zeros 5 ++ leBytes 8 7 ++ zeros 40)
def triggers : Dev → Dev := fun d =>
  sf .TTBL_STATUS 0 TTBL_STATUS.NONE 0 (esc (fun e => { e with images := setAt e.images 0 (some trigImage) })
    (pages (fun p => { p with units := [⟨31, none, none, some ⟨0, 0, 0⟩, false, false, none⟩], seqs := [⟨3, ⟨0, 0, 0⟩, none⟩] }) d))

theorem wit_TriggerEvents :
    (let d := (st []).dev
     domUp d dFABRIC = true ∧ (true != rb d .TRIG_PIN_CFG 15 TRIG_PIN_CFG.INVERT) ≠ bitOf (rn d .TRIG_PIN_STATE 0) 15 ∧
     (false != rb d .TRIG_PIN_CFG 15 TRIG_PIN_CFG.INVERT) = bitOf (rn d .TRIG_PIN_STATE 0) 15 ∧
     (true != rb d .BTN_CFG 7 BTN_CFG.INVERT) ≠ bitOf (rn d .BTN_STATE 0) 7 ∧
     (false != rb d .BTN_CFG 7 BTN_CFG.INVERT) = bitOf (rn d .BTN_STATE 0) 7) ∧
    (let d := (st [triggers]).dev
     (unitRec d 31).map tuKind = some 3 ∧ (findUnit d 31).bind (·.start) = some ⟨0, 0, 0⟩ ∧
     (match unitRec d 31, findUnit d 31 with
      | some r, some x => elapse d ⟨0, 0, 0⟩ (if x.again then tuMax r else tuMin r) (tuUnitKind r)
      | _, _ => none) = some ⟨5, 0, lastLine d⟩ ∧
     (seqRec d 3 (seqState d 3)).map (fun r => (bitOf (leAt r 10 1) 1, leAt r 16 8, leAt r 11 1)) = some (true, 7, 0) ∧
     d.pages.seqs.find? (fun x => x.seq == 3) = some ⟨3, ⟨0, 0, 0⟩, none⟩ ∧ elapse d ⟨0, 0, 0⟩ 7 0 = some ⟨7, 0, lastLine d⟩) := by decide +kernel

theorem wit_ParcelEvents :
    (let x := { emptyCtx 2047 0 with pend := [1#8] }
     let d := (st [strm (fun s => { s with ctxs := [x] })]).dev
     domUp d dDMA = true ∧ findCtx d 2047 = some x ∧ x.pend ≠ []) ∧
    (let p := { held with ctx := 2047, resident := true, unit := 0 }
     let b : Buf := ⟨0, 64, 4096, 0, 0, 0⟩
     let x := { emptyCtx 2047 0 with bufs := [b] }
     let d := (st [strm (fun s => { s with ctxs := [x], parcels := [p] }), fun d => { d with post := { d.post with busMaster := true } }]).dev
     canDeliver d = true ∧ inHead d 2047 < 4 ∧ lowest d 2047 (fun p => !p.host && !p.sent) = some p ∧ findCtx d 2047 = some x ∧
     x.bufs.find? (fun b => decide (b.used + p.size ≤ b.len)) = some b ∧ p.sent = false ∧ (p.resident = true ∨ p.back = true)) ∧
    (let p := { held with ctx := 2047, sent := true }
     let d := (st [strm (fun s => { s with parcels := [p] }), fun d => { d with post := { d.post with busMaster := true } }]).dev
     lowest d 2047 (fun p => !p.host) = some p ∧ p.sent = true ∧ canReach d = true) ∧
    findCtx (st []).dev 2047 = none ∧ lowest (st []).dev 2047 (fun p => !p.host) = none := by refine ⟨?_, ?_, ?_, ?_, ?_⟩ <;> decide +kernel

theorem wit_LedgerEvents :
    (∀ k ∈ [kADMIT, kCHECKPOINT, kPOWER_CLOSE, kDELIVER, kSPILL],
      let d := (st [fun d => { d with post := { d.post with backlog := [⟨k, 1, 0, []⟩] } }]).dev
      domUp d dNVS = true ∧ d.post.backlog = [⟨k, 1, 0, []⟩] ∧ journalRoom ⟨k, 1, 0, []⟩ d.post.journal = true) ∧
    kADMIT ≠ kCHECKPOINT ∧ kADMIT ≠ kPOWER_CLOSE ∧ kADMIT ≠ kDELIVER ∧ kADMIT ≠ kSPILL ∧ (st []).dev.post.backlog = [] ∧ (st []).dev.sec.signing = 0 ∧
    domUp (st [wn .RST_DOMAIN_POWER 0 0]).dev dNVS = false ∧
    (let d := (st [sec (fun x => { x with signing := 1 })]).dev
     d.sec.signing ≠ 0 ∧ domUp d dFRANK = true ∧ domUp d dPOST = true ∧ canStage kCHECKPOINT [] d = true) := by decide +kernel

/-- A journal that is full of records that no later checkpoint covers has no room. -/
theorem wit_LedgerEvents_full (r : LRec) (h : r.kind = kADMIT) : journalRoom r (List.replicate 1048576 ⟨kADMIT, 1, 0, []⟩) = false := by
  unfold journalRoom
  rw [List.length_replicate, List.take_replicate, List.any_cons, List.any_replicate, h]
  rfl

theorem wit_SyncRing :
    (let d := (st [sf .SYNC_CFG 0 SYNC_CFG.ENABLE 1, sf .SYNC_STATUS 0 SYNC_STATUS.NODE 1, sf .SYNC_STATUS 0 SYNC_STATUS.ARMED 1]).dev
     let e := emit (.ringFrame (frameBytes 4 7 1 255 255 (sx 64 (leNat (zeros 8))))) d
     domUp d dFABRIC = true ∧ rb d .SYNC_CFG 0 SYNC_CFG.ENABLE = true ∧ (zeros 8).length = 8 ∧ ringMaster d = false ∧ ownNode d ≠ 7 ∧
     ownNode d < 8 ∧ ringMaster e = false ∧ ringArmed e = true ∧ mget e.sync.lastFire 7 ≠ 256) ∧
    crc16 (leBytes 1 0 ++ leBytes 1 0 ++ leBytes 1 0 ++ leBytes 1 0 ++ zeros 8 ++ [0#8]) ≠ 0 ∧
    (let d := (st [sf .SYNC_CFG 0 SYNC_CFG.ENABLE 1, sf .SYNC_CFG 0 SYNC_CFG.MASTER 1]).dev
     rb d .SYNC_CFG 0 SYNC_CFG.ENABLE = true ∧ ringMaster d = true ∧ ringUp d = false) ∧
    (let d := (st [sf .SYNC_CFG 0 SYNC_CFG.ENABLE 1, sf .SYNC_CFG 0 SYNC_CFG.MASTER 1, sf .SYNC_STATUS 0 SYNC_STATUS.UP 1]).dev
     rb d .SYNC_CFG 0 SYNC_CFG.ENABLE = true ∧ ringMaster d = true ∧ ringUp d = true) ∧
    (st [sync (fun s => { s with collected := [⟨7, 0, 0⟩] })]).dev.sync.collected = [⟨7, 0, 0⟩] ∧
    (let d := (st []).dev; rb d .SYNC_CFG 0 SYNC_CFG.ENABLE = false ∧ ringArmed d = false ∧ d.sync.collected = []) ∧
    mget (st [sync (fun s => { s with lastFire := mset 7 256 s.lastFire })]).dev.sync.lastFire 7 = 255 + 1 := by
  refine ⟨?_, ?_, ?_, ?_, ?_, ?_, ?_⟩ <;> decide +kernel

/-- A calibration run of sources over segment 0, complete; what its two sets hold of source 96. -/
def calRun (kind lines : Nat) (a b : List (Nat × CalAcc)) : CalRun :=
  ⟨1, kind, 0, 0, false, false, lines, 0, 0, 1, [⟨0, 2, false⟩], 1, [], 0, 0, 0, a, b⟩
def running (r : CalRun) : Dev → Dev := cal (fun c => { c with run := some r })
def runFinds (d : Dev) : List CalFind :=
  match d.cal.run with
  | some run => (calKeys d motionImage run).map (calFind d run (fun q => !hasDark d motionImage run q))
  | none => []
/-- Source 96 with a run of one place and a dark column there. -/
def dark : Dev → Dev := fun d =>
  sf .CAL_MIN_SAMPLES 0 CAL_MIN_SAMPLES.COUNT 1 (sf .CAL_DARK 0 CAL_DARK.EN 1 (sf .CAL_DARK 0 CAL_DARK.COUNT 1
    { d with tables := [(2 ^ 33 + 770, 1#8), (2 ^ 33 + 772, 1#8), (2 ^ 33 + 10240, 1#8)] }))
def src96 (s : Int) : List (Nat × CalAcc) := [(2 ^ 20 + 96, ⟨1, s, 0⟩)]

theorem wit_CalibrationRun :
    (let d := (st [motion, running (calRun 1 1 [] [])]).dev
     domUp d dREGUL = true ∧ (d.cal.run.map runFull) = some true ∧ activeImage d = some motionImage ∧
     (runFinds d).length = 1 ∧ (runFinds d).any (·.tested) = false) ∧
    (let d := (st [motion, dark, running (calRun 1 1 (src96 1000000) (src96 0))]).dev
     (d.cal.run.map runFull) = some true ∧ activeImage d = some motionImage ∧
     (runFinds d).any (fun x => x.tested && !x.agrees) = true) ∧
    (let d := (st [motion, dark, running (calRun 1 1 (src96 0) (src96 0))]).dev
     (d.cal.run.map runFull) = some true ∧ activeImage d = some motionImage ∧ (runFinds d).any (·.tested) = true ∧
     (runFinds d).any (fun x => x.tested && !x.agrees) = false) ∧
    (let d := (st [motion, running (calRun 1 2 [] [])]).dev; (d.cal.run.map runFull) = some false) ∧
    (let d := (st [running { calRun 16 1 [] [] with tile := 1 }, sf .CAL_TILE_CFG 0 CAL_TILE_CFG.AXIS 7, axisIs axHOLDING]).dev
     rf d .CAL_TILE_CFG 0 CAL_TILE_CFG.AXIS = 7 ∧ axState d 7 = axHOLDING ∧ (axis d 7).queue = []) := by
  refine ⟨?_, ?_, ?_, ?_, ?_⟩ <;> decide +kernel

def spilling : Dev → Dev := sf .QUE_SPILL_STATUS 0 QUE_SPILL_STATUS.ACTIVE 1

theorem wit_QueueAndSpill :
    (let d := (st []).dev
     domUp d dFABRIC = true ∧ levelOf d < rf d .QUE_SPILL_CFG 0 QUE_SPILL_CFG.ON ∧
     rb (sf .QUE_LEVEL 0 QUE_LEVEL.LEVEL (levelOf d) (showSpace d)) .QUE_SPILL_STATUS 0 QUE_SPILL_STATUS.ACTIVE = false) ∧
    (let d := (st [sf .QUE_SPILL_CFG 0 QUE_SPILL_CFG.ON 0]).dev; rf d .QUE_SPILL_CFG 0 QUE_SPILL_CFG.ON ≤ levelOf d) ∧
    (let d := (st [spilling]).dev
     rb (sf .QUE_LEVEL 0 QUE_LEVEL.LEVEL (levelOf d) (showSpace d)) .QUE_SPILL_STATUS 0 QUE_SPILL_STATUS.ACTIVE = true ∧
     levelOf d ≤ rf d .QUE_SPILL_CFG 0 QUE_SPILL_CFG.OFF) ∧
    (let d := (st [spilling, sf .QUE_SPILL_CFG 0 QUE_SPILL_CFG.OFF 0, fun d => { d with strm := { d.strm with parcels :=
       [{ held with resident := true, size := 2 ^ 36, unit := 0 }] } }]).dev
     rf d .QUE_SPILL_CFG 0 QUE_SPILL_CFG.OFF < levelOf d) ∧
    (let p := { held with unit := 0, resident := true, spilling := 1 }
     let d := (st [members, strm (fun s => { s with parcels := [p] })]).dev
     domUp d dRP = true ∧ d.strm.parcels.find? (fun p => p.spilling == 0 + 1) = some p ∧ (writeUnits d).contains 0 = true ∧
     canStage kSPILL (pairBytes 0 0) d = true) ∧
    (let d := (st [strm (fun s => { s with parcels := [held] }), onDrive 0 (fun x => { x with seen := 1 })]).dev
     lowest d 0 (fun p => !p.host) = some held ∧ lowest d 0 (fun p => heldBy d p && !p.resident && !p.back && !p.host) = some held ∧
     held.num < held.num + 64 ∧ returnUsed d + held.size ≤ 4294967296) ∧
    (st []).dev.strm.parcels = [] ∧ domUp (st [wn .RST_DOMAIN_POWER 0 0]).dev dFABRIC = false := by
  refine ⟨?_, ?_, ?_, ?_, ?_, ?_, ?_, ?_⟩ <;> decide +kernel

def portIs (n : Nat) : Dev → Dev := setPort 3 RP_PORT_STATUS.STATE n
def fourPorts : Dev → Dev := fun d => sf .RP_CFG 0 RP_CFG.BIFURCATION 3 <| sf .RP_CFG 0 RP_CFG.ENABLED 1 { d with que := { d.que with pwr := 8, perst := 8 } }

theorem wit_DriveEvents :
    (∀ n ∈ [0, 1, 2, rpMember], let d := (st [fourPorts, portIs n]).dev
     rpRuns d 3 = true ∧ rpState d 3 = n ∧ bitOf d.que.perst 3 = true ∧ bitOf d.que.pwr 3 = true) ∧
    rpRuns (st []).dev 3 = false ∧ domUp (st []).dev dRP = true ∧ rpMember ≠ 0 ∧ rpMember ≠ 1 ∧ rpMember ≠ 2 ∧
    [2 ^ 34 + 1].any (fun b => decide (2 ^ 34 < b)) = true ∧ [2 ^ 34].any (fun b => decide (2 ^ 34 < b)) = false ∧
    nsChoice [[1, 512, 0, 10]] = none ∧ nsChoice [[3, 4096, 0, 10], [2, 4096, 0, 20], [1, 4096, 8, 30]] = some [2, 4096, 0, 20] ∧
    (let d := (st [portIs rpMember, setPort 2 RP_PORT_STATUS.STATE rpMember, sf .RP_PAIRING 0 RP_PAIRING.PAIRS 3,
       setPort 3 RP_PORT_STATUS.REBUILDING 1]).dev
     domUp d dRP = true ∧ paired d 2 = true ∧ pairWhole d 2 = true ∧ rb d .RP_PORT_STATUS (2 + 1) RP_PORT_STATUS.REBUILDING = true) ∧
    (∀ n ∈ [1, 0], let c := { cmd 0x90 [] [] with started := true }
     let d := (go c [setPort 3 RP_PORT_STATUS.STATE n]).dev
     domUp d dRP = true ∧ d.post.cmds.find? (fun c => c.op == 0x90 && c.started) = some c ∧ rpSettled d 3 = decide (n = 0) ∧
     ∀ k, k < 3 → rpSettled d k = true) := by
  refine ⟨?_, ?_, ?_, ?_, ?_, ?_, ?_, ?_, ?_, ?_, ?_, ?_⟩ <;> decide +kernel

/-- No source asserted and no release running. -/
def idle : Dev → Dev := fun d =>
  sf .RST_STATUS 0 RST_STATUS.RELEASING 0 (rst (fun r => { r with now_ := [], later := [] }) d)

theorem wit_ResetSources :
    (let d := (st [idle]).dev
     (∀ k, k < 51 → d.rst.now_.any (fun x => x.src == k) = false ∧ d.rst.later.any (fun x => x.src == k) = false) ∧
     releasing d = false ∧ tooHot d = false) ∧
    tooHot (st [winPut .option 14 100#8, sf .GLB_TJ 7 GLB_TJ.VALID 1, sf .GLB_TJ 7 GLB_TJ.TEMP 25600]).dev = true ∧
    (st [rst (fun r => { r with fail := true })]).dev.rst.fail = true ∧ (st []).dev.rst.fail = false := by decide +kernel

/-- RESET_N and CLOCK_LOSS of MEM's clock where RESET_N has asserted already, and during a release of a shorter reach, of a reach no shorter whose
domains are all to come, and of one whose domains are released. -/
theorem wit_ResetSources_release :
    ((st [rst (fun r => { r with now_ := [⟨25, 5, 0, 0, false⟩] })]).dev.rst.now_.any (fun x => x.src == 25) = true) ∧
    (∀ x ∈ [(3, ([] : List Nat)), (4, List.range 24), (4, [])],
     let d := (st [idle, sf .RST_STATUS 0 RST_STATUS.RELEASING 1, rst (fun r => { r with reach := x.1, left := x.2 })]).dev
     releasing d = true ∧ effReach d 25 0 = 4 ∧ d.rst.reach = x.1 ∧
     ((reachSet (effReach d 25 0) (srcDefault 25).2).land (domMask d.rst.left) == reachSet (effReach d 25 0) (srcDefault 25).2) = decide (x.2 ≠ [])) ∧
    (∀ b ∈ [true, false], let d := (st [sec (fun x => { x with restart := b })]).dev
     d.sec.restart = b ∧ d.post.formed.any (fun c => c.op == 0xA1) = false) := by
  refine ⟨?_, ?_, ?_⟩ <;> decide +kernel


/-- A start in which a domain is next. -/
def releaseOf (l : List Nat) : Dev → Dev := fun d =>
  sf .RST_STATUS 0 RST_STATUS.RELEASING 1 (rst (fun r => { r with left := l, now_ := [], reach := 5, verified := true, read_ := true }) (winPut .option 11 15#8 d))

theorem wit_ResetCourse :
    bitOf (st [rst (fun r => { r with quiet := 2 ^ 23 })]).dev.rst.quiet 23 = true ∧
    bitsOf (st [rst (fun r => { r with quiet := 2 ^ 23 })]).dev.rst.quiet 24 ≠ [] ∧
    srcPulse 0 = false ∧ srcPulse 35 = false ∧
    (∀ n ∈ [1, 4, 15, 23], let s := (st [releaseOf [n]])
     s.dev.rst.left.head? = some n ∧ mayRelease s.dev n = true ∧ (beforeFrank s.dev).rst.left = [n] ∧
     leftOff (beforeFrank s.dev) n = false ∧ leftOff (rst (fun r => { r with left := [] }) (beforeFrank s.dev)) n = false) := by
  decide +kernel

/-- A processor to be released whose copy of the firmware is bad; a domain that is left off; no domain left, or one that may not be released yet. -/
theorem wit_ResetCourse_firmware :
    (let s := st [releaseOf [4], rst (fun r => { r with reach := 1, doms := 2 ^ 4 }), sec (fun x => { x with fwBad := true })]
     s.dev.rst.left.head? = some 4 ∧ mayRelease s.dev 4 = true ∧ (beforeFrank s.dev).rst.left = [4] ∧ loadsFw 4 = true ∧
     bitOf (beforeFrank s.dev).rst.doms dFRANK = false ∧ fwGood (beforeFrank s.dev) = false) ∧
    (let s := st [releaseOf [16], winPut .option 11 14#8]
     s.dev.rst.left.head? = some 16 ∧ mayRelease s.dev 16 = true ∧ (beforeFrank s.dev).rst.left = [16] ∧ leftOff (beforeFrank s.dev) 16 = true) ∧
    (st [releaseOf []]).dev.rst.left.head? = none ∧ bitsOf (st []).dev.rst.quiet 24 = [] ∧ bitOf (st []).dev.rst.quiet 23 = false ∧
    srcPulse 34 = true := by
  refine ⟨?_, ?_, ?_, ?_, ?_, ?_⟩ <;> decide +kernel

theorem wit_StartCourse :
    (let d := (st [rst (fun r => { r with verified := false })]).dev
     let r := verifySlots 0 d
     domUp d dFRANK = true ∧ d.rst.verified = false ∧
     crown (wn .SEC_VERIFY_TIME 0 ((r.1.now - r.1.sec.frankAt) / 1000) (rst (fun x => { x with verified := true }) r.1)) = false ∧
     r.2.1 = none) ∧
    (let d := (st [rst (fun r => { r with verified := false }), sf .RST_STATUS 0 RST_STATUS.CROWN 1]).dev
     let r := verifySlots 0 d
     d.rst.verified = false ∧
     crown (wn .SEC_VERIFY_TIME 0 ((r.1.now - r.1.sec.frankAt) / 1000) (rst (fun x => { x with verified := true }) r.1)) = true) ∧
    (let d := (st [rst (fun r => { r with armed := true, left := [] })]).dev
     d.rst.armed = true ∧ crown d = false ∧ hubUp d = true ∧ replaying d = false) ∧
    (let d := (st [rst (fun r => { r with armed := false })]).dev; d.rst.armed = false) ∧
    (let s := st []; burnSvn s.fuses s.dev = s.fuses.svn) ∧
    (let s := st [sf .RST_STATUS 0 RST_STATUS.BOOT_COMPLETE 1, sf .SEC_STATUS 0 SEC_STATUS.RUNNING 1,
       setSlot 0 1 (zeros 7 ++ [1#8, 0#8, 0#8, 1#8])]
     burnSvn s.fuses s.dev ≠ s.fuses.svn) := by refine ⟨?_, ?_, ?_, ?_, ?_, ?_⟩ <;> decide +kernel

def replay (reach step : Nat) : Dev → Dev := fun d =>
  sf .LEDG_STATUS 0 LEDG_STATUS.REPLAYING 1 { d with post := { d.post with replayReach := reach, replayStep := step } }

theorem wit_ReplayAndPowerFail_waits :
    (let d := (st [replay 3 0, fun d => { d with post := { d.post with backlog := List.replicate 256 ⟨kLOSS, 1, 0, zeros 40⟩ } }]).dev
     domUp d dPOST = true ∧ replaying d = true ∧ d.post.replayStep < 2 ∧ canStage kRESET (leBytes 8 3 ++ leBytes 8 d.rst.cause) d = false ∧
     canStage kREPLAY_DONE [] d = false) ∧
    replaying (st []).dev = false ∧ bitOf (winGet (st []).dev .option 8).toNat 1 = false ∧
    (let d := (st [wn .RST_DOMAIN_POWER 0 0]).dev
     domUp ((List.range 8).foldl (fun d a => if domUp d (dDIG (a / 2)) then axFaultWith a 0 d else d)
       (rst (fun r => { r with fail := true }) d)) dPOST = false) := by refine ⟨?_, ?_, ?_, ?_⟩ <;> decide +kernel

theorem wit_ReplayAndPowerFail :
    (∀ x ∈ [0, 1, 5], let d := (st [replay x 0]).dev
     domUp d dPOST = true ∧ replaying d = true ∧ d.post.replayStep < 2 ∧ d.post.replayReach = x ∧
     canStage kRESET (leBytes 8 x ++ leBytes 8 d.rst.cause) d = true) ∧
    (let d := (st [replay 3 2]).dev
     domUp d dEP = true ∧ replaying d = true ∧ d.post.replayStep = 2 ∧ canStage kREPLAY_DONE [] d = true) ∧
    (let d := (st [winPut .option 8 2#8]).dev
     d.rst.fail = false ∧ bitOf (winGet d .option 8).toNat 1 = true ∧
     domUp ((List.range 8).foldl (fun d a => if domUp d (dDIG (a / 2)) then axFaultWith a 0 d else d)
       (rst (fun r => { r with fail := true }) d)) dPOST = true) := by refine ⟨?_, ?_, ?_⟩ <;> decide +kernel

theorem wit_IntegrityAndNvs :
    (let d := (st []).dev
     domUp d (dMEM 0) = true ∧ domUp d (dMEM 1) = true ∧ rb d .DIAG_INJECT 0 DIAG_INJECT.ARMED = false ∧ domUp d dAON = true ∧
     d.strm.ctxs = []) ∧
    (st [strm (fun s => { s with ctxs := [emptyCtx 2047 0] })]).dev.strm.ctxs ≠ [] ∧
    domUp (st [wn .RST_DOMAIN_POWER 0 0]).dev (dMEM 0) = false ∧ domUp (st [wn .RST_DOMAIN_POWER 0 0]).dev dAON = false ∧
    (List.replicate 8 (0 : Int)).length = 8 ∧
    (∀ op ∈ [0xA0, 0x62], let c := { cmd op [] [] with started := true, data := [0, 1] }
     (go c []).dev.post.cmds.find? (fun c => c.op == op && c.started && !c.data.isEmpty) = some c) ∧
    (∀ n < 3, let c := { cmd 0xA1 [] [] with started := true }
     let d := (go c [sec (fun x => { x with optPend := some (n, []) })]).dev
     d.sec.optPend = some (n, []) ∧ d.post.cmds.find? (fun c => c.order + 1 == n) = if n = 1 then some c else none) ∧
    (let d := (st [fourPorts, portIs 1]).dev
     rpRuns d 3 = true ∧ rpState d 3 = 1 ∧ bitOf d.que.pwr 3 = true) ∧
    (let d := (st [sf .AXH_STATUS 7 AXH_STATUS.DRIVE 1]).dev
     let e := sf .AXH_CURRENT 7 AXH_CURRENT.IA (ux 16 4) d
     domUp d (dDIG (7 / 2)) = true ∧ rb d .AXH_STATUS 7 AXH_STATUS.DRIVE = true ∧ coilTarget e 7 0 = 0) ∧
    (∀ x ∈ [(0, false), (768, false), (252, true), (1023, false)], let d := (st [sf .AXH_STATUS 7 AXH_STATUS.DRIVE 1, sf .AXH_ANGLE 7 AXH_ANGLE.THETA x.1, axisIs axMOVING,
       onAxis 7 (fun y => { y with amps := { y.amps with run := 1000 } })]).dev
     let e := sf .AXH_CURRENT 7 AXH_CURRENT.IA (ux 16 4) d
     let t := coilTarget e 7 0
     t = 0 ∨ decide ((t.natAbs : Int) ≤ rdiv (3827 * axCurrent e 7) 10000) = x.2) := by refine ⟨?_, ?_, ?_, ?_, ?_, ?_, ?_, ?_, ?_, ?_⟩ <;> decide +kernel

set_option maxRecDepth 100000 in
/-- A start that finds the valid image of slot 0, where every signature verifies and the ROM holds its root key's digest. -/
theorem wit_StartCourse_slot (h : ∀ k m s, Config.mldsaVerify k m s = true) (r : digest (zeros 1952) = Config.rootDigest)
    (d : Dev) (e : fwState 0 fwImage = 1 → d = (st [setSlot 0 1 fwImage, rst (fun r => { r with verified := false })]).dev) :
    fwState 0 fwImage = 1 ∧ (verifySlots 0 d).2.1 = some 0 := by
  have f : fwState 0 fwImage = 1 := by
    unfold fwState
    rw [wit_DrivesAndFirmware_signature h r, wit_DrivesAndFirmware_digest]
    decide +kernel
  refine ⟨f, ?_⟩
  rw [e f]
  have a : slotState (st [setSlot 0 1 fwImage, rst (fun r => { r with verified := false })]).dev 0 = 1 := by decide +kernel
  have b : slotImage (st [setSlot 0 1 fwImage, rst (fun r => { r with verified := false })]).dev 0 = fwImage := by decide +kernel
  unfold verifySlots
  simp only [List.foldl_cons, List.foldl_nil, a, b, f]
  decide +kernel

/-- One operand of a command out of its range, for each check of WellFormed. -/
theorem test_ill_formed_1 : ∀ i ∈ ([
    .registerWrite 268435456 0 0, .bar0ReadSpecial 268435456 0, .lowWordRead 268435456, .highWordWrite 268435456 0, .sqEnable 64, .sqDisable 64,
    .sqDrainDone 64, .cqEnable 64, .cqDisable 64, .dbellSq 64 4294967295, .dbellSq 63 4294967296, .dbellCq 64 4294967295, .dbellCq 63 4294967296,
    .commandFetch 64 (.ok []) (.ok []), .completionWrite 64, .cqHoldoffExpiry 64, .identify 65 65535, .identify 64 65536, .getFeature 65 65535,
    .getFeature 64 65536, .setFeature 65 65535, .setFeature 64 65536, .abort 65 65535, .abort 64 65536, .syncDurable 65 65535,
    .syncDurable 64 65536, .ledgerRead 65 65535, .ledgerRead 64 65536, .reset 65 65535, .reset 64 65536, .reserveQuery 65 65535,
    .reserveQuery 64 65536, .ttblLoad 65 65535 (.ok []), .ttblLoad 64 65536 (.ok []), .ttblActivate 65 65535, .ttblActivate 64 65536,
    .ttblUnload 65 65535, .ttblUnload 64 65536, .refAlloc 65 65535, .refAlloc 64 65536, .refLoad 65 65535 (.ok []), .refLoad 64 65536 (.ok []),
    .refFree 65 65535, .refFree 64 65536, .captureStart 65 65535, .captureStart 64 65536, .captureStop 65 65535, .captureStop 64 65536,
    .bufferPost 65 65535, .bufferPost 64 65536, .contextOpen 65 65535, .contextOpen 64 65536, .contextClose 65 65535, .contextClose 64 65536,
    .calRun 65 65535, .calRun 64 65536, .calTileRun 65 65535, .calTileRun 64 65536, .baselineWrite 65 65535, .baselineWrite 64 65536] : List Instr), i.wf = false := by decide +kernel

/-- One operand of a command out of its range, for each check of WellFormed. -/
theorem test_ill_formed_2 : ∀ i ∈ ([
    .move 65 65535, .move 64 65536, .home 65 65535, .home 64 65536, .stop 65 65535, .stop 64 65536, .resume 65 65535, .resume 64 65536,
    .auxConfig 65 65535, .auxConfig 64 65536, .auxConvert 65 65535, .auxConvert 64 65536, .ratioSet 65 65535, .ratioSet 64 65536,
    .driveScan 65 65535, .driveScan 64 65536, .restanteRead 65 65535 (0, []), .restanteRead 64 65536 (0, []), .restanteRelease 65 65535,
    .restanteRelease 64 65536, .mirrorSet 65 65535, .mirrorSet 64 65536, .fwStage 65 65535, .fwStage 64 65536, .fwActivate 65 65535,
    .fwActivate 64 65536, .certRead 65 65535, .certRead 64 65536, .diagLoopback 65 65535 (.ok []), .diagLoopback 64 65536 (.ok []),
    .diagLogRead 65 65535, .diagLogRead 64 65536, .ttblGenCommit 4096, .portResume 48, .portPowerOff 48, .syncCtrlArm 4, .dmaChTail 64 4294967295,
    .dmaChTail 63 4294967296, .dmaChEnable 64 false, .dmaChPause 64 false, .dmaChRestart 64, .axEnable 8 false false, .axClearFault 8 false,
    .gearArm 8, .gearCancel 8, .auxForce 4, .auxUrgent 4 31 15 false, .auxUrgent 3 32 15 false, .auxUrgent 3 31 16 false, .evtSwSet 1536,
    .evtClearCount 1536, .evtStatusClear 48 4294967295, .evtStatusClear 47 4294967296, .evtEnableWrite 48 4294967295,
    .evtEnableWrite 47 4294967296, .evtLogRead 4294967296, .evtLogCfgWrite 65536 false, .diagInject 18 false false, .uqPop 16, .msixUnmask 2048] : List Instr), i.wf = false := by decide +kernel

/-- One operand of a command out of its range, for each check of WellFormed. -/
theorem test_ill_formed_3 : ∀ i ∈ ([
    .encoderEdge 8 false false, .encIndex 8 false false, .encLos 8, .genCopyDone 12, .evoutPulseEnd 16, .pgRunEnd 16 0 [], .clkFault 16,
    .laneFrameRx 48 false false 0 [] [] 0, .laneWindowClose 48, .laneLock 48, .laneLos 48, .flitResend 4 false, .dieLinkUp 4, .i3cHotJoin 4 [] [],
    .i3cIbi 4, .i3cPoll 4 [] 0, .i3cPollRetry 48 false, .segPowerEnable 48, .segLanesAcquire 48, .segLockTimeout 48, .segRelockTimeout 48,
    .segClocksOff 48, .triggerPinEdge 16 false, .triggerTimeout 32, .seqTimerExpiry 4, .button 8 false, .parcelFlush 2048, .parcelDeliver 2048,
    .parcelReachedHost 2048, .calHoldoffExpiry 48, .spillWriteDone 4 false, .restanteReturnDone 2048 false (some []), .drivePresent 4,
    .driveLinkUp 4 0 0, .driveTrainTimeout 4, .driveInitDone 4 [] ([], 2), .driveInitDone 3 [] ([], 3), .driveCmdTimeout 4 2 false, .driveCmdTimeout 3 3 false, .driveRemoved 4 false, .mirrorRebuildDone 4,
    .dmaDescriptorStart 64 (.ok []) [] [], .dmaDescriptorDone 64, .dmaReadError 64 0 0, .dmaTimerCredit 64, .dmaPaused 64 0, .stepUpdate 8,
    .limitSample 8 false false, .axOvercurrent 8, .axBridgeFault 8, .axBrakeDelay 8, .axHoldDelay 8, .auxSettleDone 4, .auxCode 4 0 false,
    .auxConvPin 4 false, .ratioTimeout 8, .supplyOutOfRange 25, .watchdogExpiry 5, .clockLoss 7, .resetAssert 51, .domainIdle 24, .resetDeassert 51] : List Instr), i.wf = false := by decide +kernel

/-- One operand of a command out of its range, for each check of WellFormed. -/
theorem test_ill_formed_4 : ∀ i ∈ ([
    .winderReleaseStep 7 16, .winderReleaseStep 6 17, .bankRestoreDone 12, .scrubPass 2 [], .tjUpdate (List.replicate 7 0), .encFaultClears 8,
    .nvsWriteDone 3 false, .rpPerstNHigh 4, .chopperCycle 8 1 0 0, .chopperCycle 7 2 0 0] : List Instr), i.wf = false := by decide +kernel

/-- Every checked operand at the top of its range. -/
theorem test_well_formed_1 : ∀ i ∈ ([
    .registerWrite 268435455 0 0, .bar0ReadSpecial 268435455 0, .lowWordRead 268435455, .highWordWrite 268435455 0, .sqEnable 63, .sqDisable 63,
    .sqDrainDone 63, .cqEnable 63, .cqDisable 63, .dbellSq 63 4294967295, .dbellCq 63 4294967295, .commandFetch 63 (.ok []) (.ok []),
    .completionWrite 63, .cqHoldoffExpiry 63, .identify 64 65535, .getFeature 64 65535, .setFeature 64 65535, .abort 64 65535,
    .syncDurable 64 65535, .ledgerRead 64 65535, .reset 64 65535, .reserveQuery 64 65535, .ttblLoad 64 65535 (.ok []), .ttblActivate 64 65535,
    .ttblUnload 64 65535, .refAlloc 64 65535, .refLoad 64 65535 (.ok []), .refFree 64 65535, .captureStart 64 65535, .captureStop 64 65535,
    .bufferPost 64 65535, .contextOpen 64 65535, .contextClose 64 65535, .calRun 64 65535, .calTileRun 64 65535, .baselineWrite 64 65535,
    .move 64 65535, .home 64 65535, .stop 64 65535, .resume 64 65535, .auxConfig 64 65535, .auxConvert 64 65535, .ratioSet 64 65535,
    .driveScan 64 65535, .restanteRead 64 65535 (0, []), .restanteRelease 64 65535, .mirrorSet 64 65535, .fwStage 64 65535, .fwActivate 64 65535,
    .certRead 64 65535, .diagLoopback 64 65535 (.ok []), .diagLogRead 64 65535, .ttblGenCommit 4095, .portResume 47, .portPowerOff 47,
    .syncCtrlArm 3, .dmaChTail 63 4294967295, .dmaChEnable 63 false, .dmaChPause 63 false, .dmaChRestart 63] : List Instr), i.wf = true := by decide +kernel

/-- Every checked operand at the top of its range. -/
theorem test_well_formed_2 : ∀ i ∈ ([
    .axEnable 7 false false, .axClearFault 7 false, .gearArm 7, .gearCancel 7, .auxForce 3, .auxUrgent 3 31 15 false, .evtSwSet 1535,
    .evtClearCount 1535, .evtStatusClear 47 4294967295, .evtEnableWrite 47 4294967295, .evtLogRead 4294967295, .evtLogCfgWrite 65535 false,
    .diagInject 17 false false, .uqPop 15, .msixUnmask 2047, .encoderEdge 7 false false, .encIndex 7 false false, .encLos 7, .genCopyDone 11,
    .evoutPulseEnd 15, .pgRunEnd 15 0 [], .clkFault 15, .laneFrameRx 47 false false 0 [] [] 0, .laneWindowClose 47, .laneLock 47, .laneLos 47,
    .flitResend 3 false, .dieLinkUp 3, .i3cHotJoin 3 [] [], .i3cIbi 3, .i3cPoll 3 [] 0, .i3cPollRetry 47 false, .segPowerEnable 47,
    .segLanesAcquire 47, .segLockTimeout 47, .segRelockTimeout 47, .segClocksOff 47, .triggerPinEdge 15 false, .triggerTimeout 31,
    .seqTimerExpiry 3, .button 7 false, .parcelFlush 2047, .parcelDeliver 2047, .parcelReachedHost 2047, .calHoldoffExpiry 47,
    .spillWriteDone 3 false, .restanteReturnDone 2047 false (some []), .drivePresent 3, .driveLinkUp 3 0 0, .driveTrainTimeout 3, .driveInitDone 3 [] ([], 2),
    .driveCmdTimeout 3 2 false, .driveRemoved 3 false, .mirrorRebuildDone 3, .dmaDescriptorStart 63 (.ok []) [] [], .dmaDescriptorDone 63,
    .dmaReadError 63 0 0, .dmaTimerCredit 63, .dmaPaused 63 0, .stepUpdate 7] : List Instr), i.wf = true := by decide +kernel

/-- Every checked operand at the top of its range. -/
theorem test_well_formed_3 : ∀ i ∈ ([
    .limitSample 7 false false, .axOvercurrent 7, .axBridgeFault 7, .axBrakeDelay 7, .axHoldDelay 7, .auxSettleDone 3, .auxCode 3 0 false,
    .auxConvPin 3 false, .ratioTimeout 7, .supplyOutOfRange 24, .watchdogExpiry 4, .clockLoss 6, .resetAssert 50, .domainIdle 23,
    .resetDeassert 50, .winderReleaseStep 6 16, .bankRestoreDone 11, .scrubPass 1 [], .tjUpdate (List.replicate 8 0), .encFaultClears 7,
    .nvsWriteDone 2 false, .rpPerstNHigh 3, .chopperCycle 7 1 0 0] : List Instr), i.wf = true := by decide +kernel

/-- The table gives no row any bits, so no word spells a command. -/
theorem test_decode_none : ∀ x ∈ [(0, 0), (8, 1), (32, 0xFFFFFFFF), (64, 5)], decodeTableWord x.1 x.2 = none := by decide

/-- The check value of CRC-32C: nine bytes "123456789" give 0xE3069283. -/
theorem test_crc32c : crc32c [0x31#8, 0x32#8, 0x33#8, 0x34#8, 0x35#8, 0x36#8, 0x37#8, 0x38#8, 0x39#8] = 0xE3069283 := by decide +kernel

/-- R3: little-endian. -/
theorem test_little_endian : leBytes 4 0x01020304 = [4#8, 3#8, 2#8, 1#8] := by decide

/-- R4: 1s clear bits of a W1C register: the second source flag of word 0 goes and the others stay. -/
theorem test_w1c : rn (evtStatusClear 0 2 (st [wn .EVT_STATUS 0 7]).dev) .EVT_STATUS 0 = 5 := by decide +kernel

end Sys2Proof.Tests
end

/-!
PROOFS. A field of a word and a number with one bit set, bit by bit; what follows for the access codes (R4), the register file, the count of
an event and the byte memories.
-/
namespace Sys2Proof

/-- The bits of a field lie within a register's word. -/
abbrev Fld.InWord (f : Fld) : Prop := f.lo + f.w ≤ 64

/-- Two fields share no bit. -/
abbrev Fld.Apart (f g : Fld) : Prop := f.lo + f.w ≤ g.lo ∨ g.lo + g.w ≤ f.lo

theorem Fld.testBit_get (f : Fld) (v : Word) (j : Nat) :
    (f.get v).testBit j = (decide (j < f.w) && v.getLsbD (j + f.lo)) := by
  simp only [Fld.get, Nat.testBit_mod_two_pow, Nat.testBit_div_two_pow, BitVec.testBit_toNat]

/-- The mask of a field holds the field's bits. -/
theorem Fld.getLsbD_mask (f : Fld) (j : Nat) :
    f.mask.getLsbD j = decide (j < 64 ∧ f.lo ≤ j ∧ j < f.lo + f.w) := by
  have h : j - f.lo < f.w ∧ f.lo ≤ j ↔ f.lo ≤ j ∧ j < f.lo + f.w := by omega
  simp only [Fld.mask, BitVec.getLsbD_ofNat, Nat.testBit_mul_two_pow, Nat.testBit_two_pow_sub_one, ← h]
  by_cases f.lo ≤ j <;> simp [*]

/-- Placing a number in a field changes the field's bits only. -/
theorem Fld.getLsbD_put (f : Fld) (x : Nat) (v : Word) {j : Nat} (hj : j < 64) :
    (f.put x v).getLsbD j = if f.lo ≤ j ∧ j < f.lo + f.w then x.testBit (j - f.lo) else v.getLsbD j := by
  simp only [Fld.put, BitVec.getLsbD_or, BitVec.getLsbD_and, BitVec.getLsbD_not, Fld.getLsbD_mask, BitVec.getLsbD_ofNat,
    Nat.testBit_mul_two_pow, Nat.testBit_mod_two_pow, hj]
  by_cases h : f.lo ≤ j ∧ j < f.lo + f.w
  · simp [h, show j - f.lo < f.w by omega]
  · by_cases lo : f.lo ≤ j
    · simp [h, show ¬ j - f.lo < f.w by omega]
    · simp [lo]

/-- A field reads back what was placed in it, as far as its width goes. -/
theorem Fld.get_put_same {f : Fld} (h : f.InWord) (x : Nat) (v : Word) : f.get (f.put x v) = x % 2 ^ f.w := by
  refine Nat.eq_of_testBit_eq fun j => ?_
  rw [Fld.testBit_get, Nat.testBit_mod_two_pow]
  by_cases hj : j < f.w
  · rw [Fld.getLsbD_put f x v (by omega), if_pos (by omega), Nat.add_sub_cancel]
  · simp [hj]

/-- The value of one field placed in another word is that word's value of the field. -/
theorem Fld.get_put_get {f : Fld} (h : f.InWord) (u v : Word) : f.get (f.put (f.get u) v) = f.get u := by
  rw [Fld.get_put_same h]; exact Nat.mod_mod _ _

/-- Placing a number in a field leaves every field apart from it as it was. -/
theorem Fld.get_put_apart {f g : Fld} (h : f.Apart g) (hg : g.InWord) (x : Nat) (v : Word) : g.get (f.put x v) = g.get v := by
  refine Nat.eq_of_testBit_eq fun j => ?_
  rw [Fld.testBit_get, Fld.testBit_get]
  by_cases hj : j < g.w
  · rw [Fld.getLsbD_put f x v (by omega), if_neg (by omega)]
  · simp [hj]

end Sys2Proof

namespace Sys2Proof.Machine

/-! ### A number with one bit set -/

/-- Adding the power of a bit that is clear sets that bit and leaves the others. -/
theorem testBit_add_two_pow (i : Nat) : ∀ (v : Nat), v.testBit i = false → ∀ j, (v + 2 ^ i).testBit j = (v.testBit j || decide (i = j)) := by
  induction i with
  | zero =>
    intro v h j
    have even : v % 2 = 0 := by simpa [Nat.testBit_zero] using h
    cases j with
    | zero => simp [Nat.testBit_zero]; omega
    | succ j => simp [Nat.testBit_succ, show (v + 1) / 2 = v / 2 by omega]
  | succ i ih =>
    intro v h j
    cases j with
    | zero => simp [Nat.testBit_zero, Nat.pow_succ]
    | succ j =>
      rw [Nat.testBit_succ] at h ⊢
      rw [Nat.testBit_succ, show (v + 2 ^ (i + 1)) / 2 = v / 2 + 2 ^ i by omega, ih (v / 2) h j]
      simp

/-- Setting a bit sets that bit and leaves the others. -/
theorem bitOf_putBit_true (v i j : Nat) : bitOf (putBit v i true) j = (bitOf v j || decide (i = j)) := by
  unfold bitOf putBit
  cases h : v.testBit i with
  | false => simpa using testBit_add_two_pow i v h j
  | true =>
    by_cases e : i = j
    · subst e; simp [h]
    · simp [e]

/-- A number of some bits with one of them set is a number of as many bits. -/
theorem putBit_true_lt {v i n : Nat} (hv : v < 2 ^ n) (hi : i < n) : putBit v i true < 2 ^ n := by
  refine Nat.lt_pow_two_of_testBit _ fun j hj => ?_
  have clear : v.testBit j = false := Nat.testBit_lt_two_pow (Nat.lt_of_lt_of_le hv (Nat.pow_le_pow_right (by decide) hj))
  have := bitOf_putBit_true v i j
  simpa [bitOf, clear, show i ≠ j by omega] using this

/-! ### The access codes of R4 -/

/-- The word whose bits of a field the field holds after a write of `v` over `old` (R4). -/
def FieldInfo.written (x : FieldInfo) (old v : Word) : Word :=
  match x.acc with
  | .rw | .rws => v
  | .w1c => old &&& ~~~ v
  | .w1s => old ||| v
  | _ => old

/-- What one field of a register does to a word that a write forms: the step of `coded`. -/
def FieldInfo.step (old v w : Word) (x : FieldInfo) : Word :=
  match x.acc with
  | .rw | .rws => x.fld.put (x.fld.get v) w
  | .w1c => x.fld.put (x.fld.get (old &&& ~~~ v)) w
  | .w1s => x.fld.put (x.fld.get (old ||| v)) w
  | _ => w

theorem coded_eq_foldl (r : Reg) (old v : Word) : coded r old v = r.info.fields.foldl (FieldInfo.step old v) old := rfl

/-- A field's step places in it what was written, or leaves the word. -/
theorem FieldInfo.step_cases (old v w : Word) (x : FieldInfo) :
    FieldInfo.step old v w x = x.fld.put (x.fld.get (x.written old v)) w ∨
      (FieldInfo.step old v w x = w ∧ x.written old v = old) := by
  unfold FieldInfo.step FieldInfo.written
  cases x.acc <;> simp

theorem FieldInfo.get_step_same {x : FieldInfo} (hx : x.fld.InWord) (old v w : Word) (h : x.fld.get w = x.fld.get old) :
    x.fld.get (FieldInfo.step old v w x) = x.fld.get (x.written old v) := by
  obtain put | ⟨keep, asOld⟩ := FieldInfo.step_cases old v w x
  · rw [put, Fld.get_put_get hx]
  · rw [keep, asOld, h]

theorem FieldInfo.get_step_apart {x y : FieldInfo} (hxy : x.fld.Apart y.fld) (hy : y.fld.InWord) (old v w : Word) :
    y.fld.get (FieldInfo.step old v w x) = y.fld.get w := by
  obtain put | ⟨keep, -⟩ := FieldInfo.step_cases old v w x
  · rw [put, Fld.get_put_apart hxy hy]
  · rw [keep]

/-- A write leaves a field that is apart from every field it may change. -/
theorem FieldInfo.get_foldl_apart (old v : Word) {y : FieldInfo} (hy : y.fld.InWord) (l : List FieldInfo) :
    ∀ w : Word, (∀ x ∈ l, x.fld.Apart y.fld) → y.fld.get (l.foldl (FieldInfo.step old v) w) = y.fld.get w := by
  induction l with
  | nil => intro w _; rfl
  | cons x t ih =>
    intro w h
    rw [List.foldl_cons, ih _ fun z hz => h z (List.mem_cons_of_mem _ hz),
      FieldInfo.get_step_apart (h x List.mem_cons_self) hy]

/-- Among fields that share no bit, a write gives each the value its access code says. -/
theorem FieldInfo.get_foldl_mem (old v : Word) {y : FieldInfo} (hy : y.fld.InWord) (l : List FieldInfo) :
    ∀ w : Word, l.Pairwise (fun x z => x.fld.Apart z.fld) → y ∈ l → y.fld.get w = y.fld.get old →
      y.fld.get (l.foldl (FieldInfo.step old v) w) = y.fld.get (y.written old v) := by
  induction l with
  | nil => intro w _ hm; cases hm
  | cons x t ih =>
    intro w hp hm hw
    obtain ⟨hx, ht⟩ := List.pairwise_cons.mp hp
    rw [List.foldl_cons]
    obtain rfl | hmt := List.mem_cons.mp hm
    · rw [FieldInfo.get_foldl_apart old v hy t _ fun z hz => (hx z hz).symm, FieldInfo.get_step_same hy old v w hw]
    · exact ih _ ht hmt (by rw [FieldInfo.get_step_apart (hx y hmt) hy, hw])

/-- The register map: the fields of a register lie within its word. -/
theorem Reg.fields_inWord (r : Reg) : ∀ x ∈ r.info.fields, x.fld.InWord := by
  cases r <;> decide

/-- The register map: no two fields of a register share a bit. -/
theorem Reg.fields_apart (r : Reg) : r.info.fields.Pairwise (fun x y => x.fld.Apart y.fld) := by
  cases r <;> decide

/-- After a write each field of a register holds the value its access code says (R4). -/
theorem get_coded {r : Reg} {x : FieldInfo} (hx : x ∈ r.info.fields) (old v : Word) :
    x.fld.get (coded r old v) = x.fld.get (x.written old v) := by
  rw [coded_eq_foldl]
  exact FieldInfo.get_foldl_mem old v (r.fields_inWord x hx) _ old r.fields_apart hx rfl

/-! ### The register file -/

theorem Reg.ctorIdx_lt (r : Reg) : r.ctorIdx < 1024 := by
  cases r <;> decide

/-- The key of a register file tells the register and its number. -/
theorem rkey_inj {r q : Reg} {i j : Nat} (h : rkey r i = rkey q j) : r = q ∧ i = j := by
  have hr := r.ctorIdx_lt
  have hq := q.ctorIdx_lt
  unfold rkey at h
  refine ⟨?_, by omega⟩
  rw [← Reg.ofNat_ctorIdx r, ← Reg.ofNat_ctorIdx q, show r.ctorIdx = q.ctorIdx by omega]

theorem rkey_ne {r q : Reg} {i j : Nat} (h : q ≠ r ∨ j ≠ i) : rkey r i ≠ rkey q j := by
  intro e
  obtain ⟨hr, hi⟩ := rkey_inj e
  exact h.elim (fun n => n hr.symm) (fun n => n hi.symm)

/-- A register file in canonical form, whose unlisted registers read as their reset values. -/
structure Dev.RegsCanonical (dflt : Nat → Word) (d : Dev) : Prop where
  atReset : ∀ q j, dflt (rkey q j) = q.reset j
  form : spWf dflt d.regs = true

section
variable {dflt : Nat → Word} {d : Dev}

theorem Dev.RegsCanonical.keep_wr (h : d.RegsCanonical dflt) (r : Reg) (i : Nat) (v : Word) : (wr r i v d).RegsCanonical dflt :=
  ⟨h.atReset, wr_wf d r i dflt v (h.atReset r i) h.form⟩

theorem Dev.RegsCanonical.keep_wn (h : d.RegsCanonical dflt) (r : Reg) (i x : Nat) : (wn r i x d).RegsCanonical dflt :=
  h.keep_wr r i _

theorem Dev.RegsCanonical.keep_mark (h : d.RegsCanonical dflt) (r : Reg) (i n : Nat) : (mark r i n d).RegsCanonical dflt :=
  ⟨h.atReset, h.form⟩

theorem Dev.RegsCanonical.rd_wr_other (h : d.RegsCanonical dflt) {r q : Reg} {i j : Nat} (n : q ≠ r ∨ j ≠ i) (v : Word) :
    rd (wr r i v d) q j = rd d q j :=
  Machine.rd_wr_other d r i dflt v q j (h.atReset r i) h.form (rkey_ne n)

theorem Dev.RegsCanonical.rn_wn_same (h : d.RegsCanonical dflt) (r : Reg) (i : Nat) {x : Nat} (hx : x < 2 ^ 64) :
    rn (wn r i x d) r i = x := by
  unfold rn wn
  rw [rd_wr_same d r i dflt _ (h.atReset r i) h.form, BitVec.toNat_ofNat, Nat.mod_eq_of_lt hx]

theorem Dev.RegsCanonical.rn_wn_other (h : d.RegsCanonical dflt) {r q : Reg} {i j : Nat} (n : q ≠ r ∨ j ≠ i) (x : Nat) :
    rn (wn r i x d) q j = rn d q j := by
  unfold rn wn
  rw [h.rd_wr_other n]

end

@[simp] theorem rn_mark (d : Dev) (r q : Reg) (i j n : Nat) : rn (mark r i n d) q j = rn d q j := rfl

/-! ### What counts an event (R415, R427) -/

/-- The status flag of a source set: the first act of `flagCount`. -/
def flagSet (s : Nat) (d : Dev) : Dev := wn .EVT_STATUS (s / 32) (putBit (rn d .EVT_STATUS (s / 32)) (s % 32) true) d

/-- The wrap of a source's counter shown in EVT_WRAPPED: the second act of `flagCount`. -/
def showWrap (s : Nat) (d : Dev) : Dev :=
  if rn d .EVT_COUNT s = 0xFFFFFFFF
  then mark .EVT_WRAPPED s 1 (wn .EVT_WRAPPED (s / 32) (putBit (rn d .EVT_WRAPPED (s / 32)) (s % 32) true) d) else d

theorem flagCount_eq (s : Nat) (d : Dev) : flagCount s d = incWrap .EVT_COUNT s (showWrap s (flagSet s d)) := rfl

section
variable {dflt : Nat → Word} {d : Dev}

theorem Dev.RegsCanonical.keep_flagSet (h : d.RegsCanonical dflt) (s : Nat) : (flagSet s d).RegsCanonical dflt :=
  h.keep_wn _ _ _

theorem Dev.RegsCanonical.keep_showWrap (h : d.RegsCanonical dflt) (s : Nat) : (showWrap s d).RegsCanonical dflt := by
  unfold showWrap
  split
  · exact (h.keep_wn _ _ _).keep_mark _ _ _
  · exact h

theorem Dev.RegsCanonical.rn_showWrap (h : d.RegsCanonical dflt) (s : Nat) {q : Reg} (hq : q ≠ .EVT_WRAPPED) (j : Nat) :
    rn (showWrap s d) q j = rn d q j := by
  unfold showWrap
  split
  · rw [rn_mark, h.rn_wn_other (.inl hq)]
  · rfl

/-- After the count of an event every register but EVT_COUNT and EVT_WRAPPED holds what it held once the flag was set. -/
theorem Dev.RegsCanonical.rn_flagCount (h : d.RegsCanonical dflt) (s : Nat) {q : Reg} (hc : q ≠ .EVT_COUNT) (hw : q ≠ .EVT_WRAPPED)
    (j : Nat) : rn (flagCount s d) q j = rn (flagSet s d) q j := by
  rw [flagCount_eq]
  unfold incWrap
  rw [rn_mark, ((h.keep_flagSet s).keep_showWrap s).rn_wn_other (.inl hc), (h.keep_flagSet s).rn_showWrap s hw]

/-- The flags of a word after one of them is set. -/
theorem Dev.RegsCanonical.bitOf_flagSet (h : d.RegsCanonical dflt) (s t : Nat) :
    bitOf (rn (flagSet s d) .EVT_STATUS (t / 32)) (t % 32) =
      (bitOf (rn d .EVT_STATUS (t / 32)) (t % 32) || decide (s = t)) := by
  unfold flagSet
  by_cases hw : t / 32 = s / 32
  · have small : putBit (rn d .EVT_STATUS (s / 32)) (s % 32) true < 2 ^ 64 := putBit_true_lt (BitVec.isLt _) (by omega)
    have same : s % 32 = t % 32 ↔ s = t := by omega
    rw [hw, h.rn_wn_same _ _ small, bitOf_putBit_true, decide_eq_decide.mpr same]
  · rw [h.rn_wn_other (.inr hw)]
    simp [show s ≠ t by rintro rfl; exact hw rfl]

theorem Dev.RegsCanonical.bitOf_flagCount (h : d.RegsCanonical dflt) (s t : Nat) :
    bitOf (rn (flagCount s d) .EVT_STATUS (t / 32)) (t % 32) =
      (bitOf (rn d .EVT_STATUS (t / 32)) (t % 32) || decide (s = t)) := by
  rw [h.rn_flagCount s (by decide) (by decide), h.bitOf_flagSet]

/-- Setting a flag and showing a wrap leave every counter of events. -/
theorem Dev.RegsCanonical.count_beforeInc (h : d.RegsCanonical dflt) (s t : Nat) :
    rn (showWrap s (flagSet s d)) .EVT_COUNT t = rn d .EVT_COUNT t := by
  rw [(h.keep_flagSet s).rn_showWrap s (by decide)]
  exact h.rn_wn_other (.inl (by decide)) _

theorem Dev.RegsCanonical.count_flagCount_same (h : d.RegsCanonical dflt) (s : Nat) :
    rn (flagCount s d) .EVT_COUNT s = (rn d .EVT_COUNT s + 1) % 2 ^ 32 := by
  have small : (rn d .EVT_COUNT s + 1) % 2 ^ 32 < 2 ^ 64 := by omega
  rw [flagCount_eq]
  unfold incWrap
  rw [rn_mark, h.count_beforeInc, ((h.keep_flagSet s).keep_showWrap s).rn_wn_same _ _ small]

theorem Dev.RegsCanonical.count_flagCount_other (h : d.RegsCanonical dflt) {s t : Nat} (n : t ≠ s) :
    rn (flagCount s d) .EVT_COUNT t = rn d .EVT_COUNT t := by
  rw [flagCount_eq]
  unfold incWrap
  rw [rn_mark, ((h.keep_flagSet s).keep_showWrap s).rn_wn_other (.inr n), h.count_beforeInc]

end

/-! ### Byte memories -/

/-- A byte of the written range reads back, in a memory in canonical form. -/
theorem Mem.read_writeBytes (b : Bytes) : ∀ (m : Mem) (a x : Nat), m.wf = true →
    (m.writeBytes a b).read x = if a ≤ x ∧ x < a + b.length then b.getD (x - a) 0#8 else m.read x := by
  induction b with
  | nil => intro m a x _; simp [Mem.writeBytes, show ¬ (a ≤ x ∧ x < a) by omega]
  | cons y t ih =>
    intro m a x w
    rw [Mem.writeBytes, ih _ _ _ (m.write_wf a y w), List.length_cons]
    by_cases first : x = a
    · subst first
      simp [Mem.read_write_same m x y w]
    · rw [Mem.read_write_other m a x y w (Ne.symm first)]
      by_cases inside : a ≤ x ∧ x < a + (t.length + 1)
      · rw [if_pos (by omega), if_pos inside, show x - a = (x - (a + 1)) + 1 by omega, List.getD_cons_succ]
      · rw [if_neg (by omega), if_neg inside]

end Sys2Proof.Machine

/-!
PROOFS. What an access through BAR0 does, by the place it lands in.
-/
namespace Sys2Proof.Machine

/-- Bytes that are no register: of a window, a table bank, the drift window or the baseline window. -/
def Place.isBytes : Place → Bool
  | .reg _ _ _ | .unmapped => false
  | _ => true

/-- An access at an address is not stopped by a domain that does not run (R22). -/
def Dev.Reaches (d : Dev) (a : Nat) : Prop := domUp d (addrDom a) = true ∨ 0x1A00000 ≤ a

section
variable {d : Dev} {a : Nat}

theorem Dev.Reaches.notOff (h : d.Reaches a) : (!domUp d (addrDom a) && decide (a < 0x1A00000)) = false := by
  obtain up | beyond := h
  · simp [up]
  · simp [Nat.not_lt.mpr beyond]

/-! ### 32-bit writes -/

theorem write32_domainOff (ha : a < 0x1A00000) (hd : domUp d (addrDom a) = false) (v : Nat) :
    write32 a v d = barFlag Src.BAR0_DOMAIN_OFF d := by
  simp [write32, ha, hd]

theorem write32_unmapped (h : d.Reaches a) (p : placeOf_ d a = .unmapped) (v : Nat) :
    write32 a v d = barFlag Src.BAR0_UNMAPPED d := by
  simp [write32, h.notOff, p]

theorem write32_narrow (h : d.Reaches a) {r : Reg} {i : Nat} {high : Bool} (p : placeOf_ d a = .reg r i high)
    (w : r.info.wide = false) (v : Nat) :
    write32 a v d = regWrite r i (BitVec.ofNat 64 (v % 2 ^ 32)) (dropLatch r i d) := by
  simp [write32, h.notOff, p, w]

theorem write32_low (h : d.Reaches a) {r : Reg} {i : Nat} (p : placeOf_ d a = .reg r i false) (w : r.info.wide = true) (v : Nat) :
    write32 a v d = { dropLatch r i d with loHeld := spSet none (rkey r i) (some (v % 2 ^ 32)) d.loHeld } := by
  simp [write32, h.notOff, p, w, dropLatch]

theorem write32_high (h : d.Reaches a) {r : Reg} {i : Nat} (p : placeOf_ d a = .reg r i true) (w : r.info.wide = true) (v : Nat) :
    write32 a v d =
      regWrite r i (BitVec.ofNat 64 (v % 2 ^ 32 * 2 ^ 32 + (spGet none (rkey r i) d.loHeld).getD (formLow d r i)))
        { dropLatch r i d with loHeld := spSet none (rkey r i) none d.loHeld } := by
  simp only [write32, h.notOff, p, w]
  rfl

theorem write32_bytes (h : d.Reaches a) {p : Place} (hp : placeOf_ d a = p) (b : p.isBytes = true) (v : Nat) :
    write32 a v d = placeWrite p (leBytes 4 v) d := by
  unfold write32
  rw [h.notOff, hp]
  cases p with
  | reg | unmapped => cases b
  | _ => rfl

/-! ### Writes of bytes -/

theorem placeWrite_writable {w : Win} (hw : w ≠ .msixTable) (off : Nat) (b : Bytes) :
    placeWrite (.bytes w off true) b d = winWrite w off b d := by
  cases w with
  | msixTable => exact absurd rfl hw
  | _ => rfl

theorem placeWrite_readOnly {w : Win} (hw : w ≠ .msixTable) (off : Nat) (b : Bytes) :
    placeWrite (.bytes w off false) b d = d := by
  cases w with
  | msixTable => exact absurd rfl hw
  | _ => rfl

theorem placeWrite_table {c : Nat} (free : bankIsBusy d c = false) (off : Nat) (b : Bytes) :
    placeWrite (.table c off) b d = { d with tables := Mem.writeBytes d.tables (bankAddr c (bankOut d c) off) b } := by
  simp [placeWrite, free]

theorem placeWrite_tableBusy {c : Nat} (busy : bankIsBusy d c = true) (off : Nat) (b : Bytes) :
    placeWrite (.table c off) b d = occur Src.SHADOW_BANK_BUSY c 0 0 d := by
  simp [placeWrite, busy]

/-! ### 32-bit reads -/

section
variable (f : Fuses)

theorem read32_domainOff (ha : a < 0x1A00000) (hd : domUp d (addrDom a) = false) :
    read32 f a d = (0, barFlag Src.BAR0_DOMAIN_OFF d) := by
  simp [read32, ha, hd]

theorem read32_unmapped (h : d.Reaches a) (p : placeOf_ d a = .unmapped) : read32 f a d = (0, barFlag Src.BAR0_UNMAPPED d) := by
  simp [read32, h.notOff, p]

theorem read32_narrow (h : d.Reaches a) {r : Reg} {i : Nat} {high : Bool} (p : placeOf_ d a = .reg r i high)
    (w : r.info.wide = false) : read32 f a d = ((regValue f d r i).toNat % 2 ^ 32, d) := by
  simp [read32, h.notOff, p, w]

theorem read32_low (h : d.Reaches a) {r : Reg} {i : Nat} (p : placeOf_ d a = .reg r i false) (w : r.info.wide = true) :
    read32 f a d = ((regValue f d r i).toNat % 2 ^ 32,
      let d := { d with hiLatch := spSet none (rkey r i) (some ((regValue f d r i).toNat / 2 ^ 32)) d.hiLatch }
      if r = .QUE_UQ_POP then uqDrop i d else d) := by
  simp [read32, h.notOff, p, w]

theorem read32_high (h : d.Reaches a) {r : Reg} {i : Nat} (p : placeOf_ d a = .reg r i true) (w : r.info.wide = true) :
    read32 f a d = ((spGet none (rkey r i) d.hiLatch).getD ((regValue f d r i).toNat / 2 ^ 32), dropLatch r i d) := by
  simp [read32, h.notOff, p, w]

theorem read32_bytes (h : d.Reaches a) {p : Place} (hp : placeOf_ d a = p) (b : p.isBytes = true) :
    read32 f a d = (leNat ((List.range 4).map (placeByte d p)), d) := by
  unfold read32
  rw [h.notOff, hp]
  cases p with
  | reg | unmapped => cases b
  | _ => rfl

end

/-! ### 64-bit accesses (R8, R463) -/

theorem wholeAt_reg {r : Reg} {i : Nat} {high : Bool} (p : placeOf_ d a = .reg r i high) : wholeAt d a = r.info.wide := by
  simp [wholeAt, p]

theorem wholeAt_bytes {p q : Place} (hp : placeOf_ d a = p) (hq : placeOf_ d (a + 4) = q) (bp : p.isBytes = true) :
    wholeAt d a = q.isBytes := by
  unfold wholeAt
  rw [hp, hq]
  cases p with
  | reg | unmapped => cases bp
  | _ => cases q <;> rfl

theorem wholeAt_unmapped (p : placeOf_ d a = .unmapped) : wholeAt d a = false := by
  simp [wholeAt, p]

/-- Two words of which one is no byte of a window, and the first no 64-bit register, are no one target. -/
theorem wholeAt_words (narrow : ∀ r i h, placeOf_ d a = .reg r i h → r.info.wide = false)
    (words : (placeOf_ d a).isBytes = false ∨ (placeOf_ d (a + 4)).isBytes = false) : wholeAt d a = false := by
  cases p : placeOf_ d a with
  | reg r i high => rw [wholeAt_reg p, narrow r i high p]
  | unmapped => exact wholeAt_unmapped p
  | _ => rw [wholeAt_bytes p rfl rfl]; simpa [p, Place.isBytes] using words

theorem write64_words (h : wholeAt d a = false) (v : Nat) :
    write64 a v d = write32 (a + 4) (v / 2 ^ 32) (write32 a (v % 2 ^ 32) d) := by
  simp [write64, h]

theorem write64_domainOff (h : wholeAt d a = true) (ha : a < 0x1A00000) (hd : domUp d (addrDom a) = false) (v : Nat) :
    write64 a v d = barFlag Src.BAR0_DOMAIN_OFF d := by
  simp [write64, h, ha, hd]

theorem write64_reg (h : d.Reaches a) {r : Reg} {i : Nat} {high : Bool} (p : placeOf_ d a = .reg r i high) (w : r.info.wide = true)
    (v : Nat) : write64 a v d =
      regWrite r i (BitVec.ofNat 64 v) (dropLatch r i { d with loHeld := spSet none (rkey r i) none d.loHeld }) := by
  simp [write64, wholeAt_reg p, h.notOff, p, w]

theorem write64_bytes (h : d.Reaches a) {p q : Place} (hp : placeOf_ d a = p) (hq : placeOf_ d (a + 4) = q) (bp : p.isBytes = true)
    (bq : q.isBytes = true) (v : Nat) : write64 a v d = placeWrite p (leBytes 8 v) d := by
  unfold write64
  rw [wholeAt_bytes hp hq bp, bq, h.notOff, hp]
  cases p with
  | reg | unmapped => cases bp
  | _ => rfl

section
variable (f : Fuses)

theorem read64_words (h : wholeAt d a = false) :
    read64 f a d =
      ((read32 f a d).1 + (read32 f (a + 4) (read32 f a d).2).1 * 2 ^ 32, (read32 f (a + 4) (read32 f a d).2).2) := by
  simp [read64, h]

theorem read64_domainOff (h : wholeAt d a = true) (ha : a < 0x1A00000) (hd : domUp d (addrDom a) = false) :
    read64 f a d = (0, barFlag Src.BAR0_DOMAIN_OFF d) := by
  simp [read64, h, ha, hd]

theorem read64_reg (h : d.Reaches a) {r : Reg} {i : Nat} {high : Bool} (p : placeOf_ d a = .reg r i high) (w : r.info.wide = true) :
    read64 f a d = ((regValue f d r i).toNat, if r = .QUE_UQ_POP then uqDrop i (dropLatch r i d) else dropLatch r i d) := by
  simp [read64, wholeAt_reg p, h.notOff, p, w]

theorem read64_bytes (h : d.Reaches a) {p q : Place} (hp : placeOf_ d a = p) (hq : placeOf_ d (a + 4) = q) (bp : p.isBytes = true)
    (bq : q.isBytes = true) : read64 f a d = (leNat ((List.range 8).map (placeByte d p)), d) := by
  unfold read64
  rw [wholeAt_bytes hp hq bp, bq, h.notOff, hp]
  cases p with
  | reg | unmapped => cases bp
  | _ => rfl

end
end

/-! ### The rows REGISTER_WRITE, HIGH_WORD_WRITE, BAR0_READ_SPECIAL and LOW_WORD_READ -/

/-- What a read leaves: its answer goes out. -/
def answered (x : Nat × Dev) : Dev := emit (.readData x.1) x.2

theorem sizeOk_iff (a size : Nat) : sizeOk a size = true ↔ (size = 4 ∧ a % 4 = 0) ∨ (size = 8 ∧ a % 8 = 0) := by
  simp [sizeOk]

section
variable {a : Nat} (s : State)

theorem exec_write_word (ha : a < 0x10000000) (h4 : a % 4 = 0) (v : Nat) :
    exec (.registerWrite a 4 v) s = .next (s.after (write32 a v s.dev)) := by
  rw [exec_registerWrite, act_ok _ _ s (by simpa [inBar0] using ha)]
  simp [State.after, bar0Write, sizeOk, h4]

theorem exec_highWordWrite_word (ha : a < 0x10000000) (h4 : a % 4 = 0) (v : Nat) :
    exec (.highWordWrite a v) s = .next (s.after (write32 a v s.dev)) :=
  exec_write_word s ha h4 v

theorem exec_write_double (ha : a < 0x10000000) (h8 : a % 8 = 0) (v : Nat) :
    exec (.registerWrite a 8 v) s = .next (s.after (write64 a v s.dev)) := by
  rw [exec_registerWrite, act_ok _ _ s (by simpa [inBar0] using ha)]
  simp [State.after, bar0Write, sizeOk, h8]

theorem exec_read_word (ha : a < 0x10000000) (h4 : a % 4 = 0) :
    exec (.bar0ReadSpecial a 4) s = .next (s.after (answered (read32 s.fuses a s.dev))) := by
  rw [exec_bar0ReadSpecial, act_ok _ _ s (by simpa [inBar0] using ha)]
  simp [State.after, bar0Read, sizeOk, h4, answered]

theorem exec_lowWordRead_word (ha : a < 0x10000000) (h4 : a % 4 = 0) :
    exec (.lowWordRead a) s = .next (s.after (answered (read32 s.fuses a s.dev))) :=
  exec_read_word s ha h4

theorem exec_read_double (ha : a < 0x10000000) (h8 : a % 8 = 0) :
    exec (.bar0ReadSpecial a 8) s = .next (s.after (answered (read64 s.fuses a s.dev))) := by
  rw [exec_bar0ReadSpecial, act_ok _ _ s (by simpa [inBar0] using ha)]
  simp [State.after, bar0Read, sizeOk, h8, answered]

theorem exec_write_badSize (ha : a < 0x10000000) {size : Nat} (bad : sizeOk a size = false) (v : Nat) :
    exec (.registerWrite a size v) s = .next (s.after (occur0 Src.BAR0_ACCESS_SIZE s.dev)) := by
  rw [exec_registerWrite, act_ok _ _ s (by simpa [inBar0] using ha)]
  simp [State.after, bar0Write, bad]

theorem exec_read_badSize (ha : a < 0x10000000) {size : Nat} (bad : sizeOk a size = false) :
    exec (.bar0ReadSpecial a size) s = .next (s.after (occur0 Src.BAR0_ACCESS_SIZE (emit (.readData 0) s.dev))) := by
  rw [exec_bar0ReadSpecial, act_ok _ _ s (by simpa [inBar0] using ha)]
  simp [State.after, bar0Read, bad]

end

end Sys2Proof.Machine

/-!
PROOFS. The statements of 00_scope.md.
-/
namespace Sys2Proof.Scope
open Sys2Proof.Machine

/-- Settles O10: the fields of a register share no bit, so each takes the value of its own access code; the register file reads back by
its keys, which tell registers and their numbers apart; an event changes its flag, then EVT_WRAPPED, then its counter. -/
theorem accessCodes : Obligations.AccessCodes := by
  unfold Obligations.AccessCodes
  refine ⟨fun r x old v hx => ?_, fun dflt d r i v hd hw => ?_, fun dflt d s _ hd hw => ?_⟩
  · rw [get_coded hx]
    unfold FieldInfo.written
    cases x.acc <;> rfl
  · have h : d.RegsCanonical dflt := ⟨hd, hw⟩
    exact ⟨rd_wr_same d r i dflt v (hd r i) hw, fun q j n => h.rd_wr_other n v, (h.keep_wr r i v).form⟩
  · have h : d.RegsCanonical dflt := ⟨hd, hw⟩
    refine ⟨?_, fun t _ n => ?_, h.count_flagCount_same s, fun t _ n => h.count_flagCount_other n⟩
    · simp [h.bitOf_flagCount s s]
    · simp [h.bitOf_flagCount s t, Ne.symm n]

/-- Settles O12, by the reading rule of a written memory. -/
theorem memoryWriteFrame : Obligations.MemoryWriteFrame := by
  unfold Obligations.MemoryWriteFrame
  intro m a b w
  refine ⟨fun k hk => ?_, fun x hx => ?_, Mem.writeBytes_wf b m a w⟩
  · rw [Mem.read_writeBytes b m a _ w, if_pos (by omega), Nat.add_sub_cancel_left]
  · rw [Mem.read_writeBytes b m a x w, if_neg (by omega)]

/-- Settles O8: one 32-bit write, by the place it lands in. -/
theorem bar0WriteLands : Obligations.Bar0WriteLands := by
  unfold Obligations.Bar0WriteLands
  intro s a v ha h4
  rw [exec_write_word s ha h4, exec_highWordWrite_word s ha h4]
  refine ⟨fun low off => ?_, fun (h : s.dev.Reaches a) => ⟨fun p => ?_, fun r i p w => ?_, fun r i p w => ?_, fun r i p w => ?_,
    fun w off p hw => ?_, fun w off p hw => ?_, fun c off p => ⟨fun free => ?_, fun busy => ?_⟩, fun off b p => ?_, fun off p => ?_,
    fun off p => ?_⟩⟩
  · rw [write32_domainOff low off]
    exact ⟨rfl, rfl⟩
  · rw [write32_unmapped h p]
  · rw [write32_narrow h p w]
  · rw [write32_low h p w]
  · rw [write32_high h p w]
  · rw [write32_bytes h p rfl, placeWrite_writable hw]
  · rw [write32_bytes h p rfl, placeWrite_readOnly hw]
  · rw [write32_bytes h p rfl, placeWrite_table free]
  · rw [write32_bytes h p rfl, placeWrite_tableBusy busy]
  · rw [write32_bytes h p rfl]; rfl
  · rw [write32_bytes h p rfl]; rfl
  · rw [write32_bytes h p rfl]; rfl

/-- Settles O9: a 32-bit read by the place it lands in; a 64-bit access by whether it is one target or two words; the sizes and alignments
that R7 does not name. -/
theorem bar0Read : Obligations.Bar0Read := by
  unfold Obligations.Bar0Read
  refine ⟨fun s a ha h4 => ?_, fun s a v ha h8 => ⟨fun r i high p w => ?_, fun narrow words => ?_, fun w off b w' off' b' up p q => ?_,
    fun c off c' off' up p q => ?_⟩, fun s a size v ha bad => ?_⟩
  · rw [exec_read_word s ha h4, exec_lowWordRead_word s ha h4]
    refine ⟨fun low off => ?_, fun (h : s.dev.Reaches a) => ⟨fun p => ?_, fun r i p w => ?_, fun r i p w => ?_, fun r i p w => ?_,
      fun w off b p => ?_, fun c off p => ?_, fun off p => ?_, fun off p => ?_⟩⟩
    · rw [read32_domainOff _ low off]; rfl
    · rw [read32_unmapped _ h p]; rfl
    · rw [read32_narrow _ h p w]; rfl
    · rw [read32_low _ h p w]; rfl
    · rw [read32_high _ h p w]; rfl
    · rw [read32_bytes _ h p rfl]; rfl
    · rw [read32_bytes _ h p rfl]; rfl
    · rw [read32_bytes _ h p rfl]; rfl
    · rw [read32_bytes _ h p rfl]; rfl
  · rw [exec_read_double s ha h8, exec_write_double s ha h8]
    have whole : wholeAt s.dev a = true := by rw [wholeAt_reg p, w]
    refine ⟨fun low off => ?_, fun up => ?_⟩
    · rw [read64_domainOff _ whole low off, write64_domainOff whole low off]
      exact ⟨rfl, rfl⟩
    · rw [read64_reg _ (.inl up) p w, write64_reg (.inl up) p w]
      exact ⟨rfl, rfl⟩
  · have noBytes : (placeOf_ s.dev a).isBytes = false ∨ (placeOf_ s.dev (a + 4)).isBytes = false := by
      obtain p | q | ⟨r, i, high, p⟩ | ⟨r, i, high, q⟩ := words
      · exact .inl (by rw [p]; rfl)
      · exact .inr (by rw [q]; rfl)
      · exact .inl (by rw [p]; rfl)
      · exact .inr (by rw [q]; rfl)
    have parts : wholeAt s.dev a = false := wholeAt_words narrow noBytes
    rw [exec_read_double s ha h8, exec_write_double s ha h8, read64_words _ parts, write64_words parts]
    exact ⟨rfl, rfl⟩
  · rw [exec_read_double s ha h8, exec_write_double s ha h8, read64_bytes _ (.inl up) p q rfl rfl]
    refine ⟨rfl, fun writable hw => ?_⟩
    subst writable
    rw [write64_bytes (.inl up) p q rfl rfl, placeWrite_writable hw]
  · rw [exec_read_double s ha h8, exec_write_double s ha h8, read64_bytes _ (.inl up) p q rfl rfl]
    refine ⟨rfl, fun free => ?_⟩
    rw [write64_bytes (.inl up) p q rfl rfl, placeWrite_table free]
  · have misfit : sizeOk a size = false := by rw [← Bool.not_eq_true, sizeOk_iff]; exact bad
    exact ⟨exec_write_badSize s ha misfit v, exec_read_badSize s ha misfit⟩

end Sys2Proof.Scope

/-!
PROOFS. What an access through BAR2 does, what the feature commands answer, and what the events of an FE die, its generators and its I3C
buses do, by the guards of each.
-/
namespace Sys2Proof.Machine

/-- A meaning whose operands name what the device has, by the device its effect leaves. -/
theorem act_after {ok : Bool} (h : ok = true) (f : Dev → Dev) (s : State) : act ok f s = .next (s.after (f s.dev)) :=
  act_ok ok f s h

/-! ### BAR2 (R24) -/

theorem bar2Size_eq_zero (d : Dev) : bar2Size d = 0 ↔ crown d = true ∨ (winGet d .option 8).toNat % 2 = 0 := by
  unfold bar2Size
  split
  case isTrue off => exact iff_of_true rfl (by simpa using off)
  case isFalse on => exact iff_of_false (by decide) (by simpa using on)

theorem bar2Access_absent {d : Dev} (absent : bar2Size d = 0) (w : Bool) (off : Nat) (b : Bytes) : bar2Access w off b d = d := by
  simp [bar2Access, absent]

section
variable {d : Dev} {off : Nat} {b : Bytes} (here : bar2Size d ≠ 0)
include here

theorem bar2Access_unmapped (beyond : hbmVisible < off + b.length) (w : Bool) :
    bar2Access w off b d = barFlag Src.BAR0_UNMAPPED (if w then d else emit (.readData 0) d) := by
  simp [bar2Access, here, beyond]

theorem bar2Access_domainOff (within : off + b.length ≤ hbmVisible) (stopped : domUp d (dMEM 0) = false ∨ domUp d (dMEM 1) = false)
    (w : Bool) : bar2Access w off b d = barFlag Src.BAR0_DOMAIN_OFF (if w then d else emit (.readData 0) d) := by
  have stopped : (!domUp d (dMEM 0) || !domUp d (dMEM 1)) = true := by simpa using stopped
  simp [bar2Access, here, Nat.not_lt.mpr within, stopped]

theorem bar2Access_runs (within : off + b.length ≤ hbmVisible) (up0 : domUp d (dMEM 0) = true) (up1 : domUp d (dMEM 1) = true)
    (w : Bool) :
    bar2Access w off b d =
      if w then { d with hbm := Mem.writeBytes d.hbm off b } else emit (.readData (leNat (Mem.readBytes d.hbm off b.length))) d := by
  cases w <;> simp [bar2Access, here, Nat.not_lt.mpr within, up0, up1]

end

/-! ### Checks of a submission entry -/

/-- What `firstBad` has found after one more check. -/
def noteBad (r : Option (Nat × Nat)) (c : Chk) : Option (Nat × Nat) :=
  if c.1 then r
  else match r with
    | some x => if c.2.2 < x.2 then some (c.2.1, c.2.2) else r
    | none => some (c.2.1, c.2.2)

theorem firstBad_eq_foldl (l : List Chk) : firstBad l = l.foldl noteBad none := rfl

theorem noteBad_eq_none {r : Option (Nat × Nat)} {c : Chk} : noteBad r c = none ↔ r = none ∧ c.1 = true := by
  unfold noteBad
  split
  case isTrue ok => simp [ok]
  case isFalse bad =>
    cases r with
    | none => simp [bad]
    | some x => dsimp only; split <;> simp

theorem foldl_noteBad_eq_none (l : List Chk) : ∀ r, l.foldl noteBad r = none ↔ r = none ∧ ∀ c ∈ l, c.1 = true := by
  induction l with
  | nil => simp
  | cons c t ih => intro r; rw [List.foldl_cons, ih, noteBad_eq_none, List.forall_mem_cons, and_assoc]

/-- No check fails exactly where each one holds. -/
theorem firstBad_eq_none (l : List Chk) : firstBad l = none ↔ ∀ c ∈ l, c.1 = true := by
  simp [firstBad_eq_foldl, foldl_noteBad_eq_none]

theorem inlineChecks_getFeature (e : Bytes) : inlineChecks 0x02 e = [chkZero e 10 64] := rfl

theorem inlineChecks_setFeature (e : Bytes) : inlineChecks 0x03 e = [chkZero e 10 16, chkZero e 24 64] := rfl

@[simp] theorem chkZero_ok (e : Bytes) (lo hi : Nat) : (chkZero e lo hi).1 = zeroIn e lo hi := rfl

/-! ### Features (R28) -/

theorem featureValue_scratch (d : Dev) {k : Nat} (hk : k < 4) : featureValue d (0x10 + k) = some (rn d .GLB_SCRATCH k, 0) := by
  have scratch : 0x10 ≤ 0x10 + k ∧ 0x10 + k ≤ 0x13 := by omega
  unfold featureValue
  rw [if_neg (by omega), if_neg (by omega), if_neg (by omega), if_neg (by omega), if_pos scratch, Nat.add_sub_cancel_left]

theorem featureValue_reserved (d : Dev) {n : Nat} (hn : n = 0 ∨ (5 ≤ n ∧ n ≤ 15) ∨ 0x14 ≤ n) : featureValue d n = none := by
  unfold featureValue
  rw [if_neg (by omega), if_neg (by omega), if_neg (by omega), if_neg (by omega), if_neg (by omega)]

section
variable {c : Cmd} {d : Dev}

theorem getFeature_value {x : Nat × Nat} (h : featureValue d (leAt c.entry 8 2) = some x) :
    getFeature c d = completeOk c (featureResult x) d := by
  simp [getFeature, h]

theorem getFeature_reserved (h : featureValue d (leAt c.entry 8 2) = none) : getFeature c d = complete c stPARAM 8 [] d := by
  simp [getFeature, h]

theorem setFeature_scratch (h : 0x10 ≤ leAt c.entry 8 2 ∧ leAt c.entry 8 2 ≤ 0x13) :
    setFeature c d = completeOk c (featureResult (leAt c.entry 16 8, 0))
      (wn .GLB_SCRATCH (leAt c.entry 8 2 - 0x10) (leAt c.entry 16 8) d) := by
  simp only [setFeature, if_pos h]

theorem setFeature_refused (h : leAt c.entry 8 2 < 0x10 ∨ 0x13 < leAt c.entry 8 2) : setFeature c d = complete c stPARAM 8 [] d := by
  have noScratch : ¬ (0x10 ≤ leAt c.entry 8 2 ∧ leAt c.entry 8 2 ≤ 0x13) := by omega
  simp only [setFeature, if_neg noScratch]

end

/-! ### Generators (R107, R127) -/

section
variable {d : Dev} {g : Nat}

/-- The drivers of a generator off, and the segments it serves in FAULT. -/
def faultGen (g : Nat) (d : Dev) : Dev :=
  (List.range 48).foldl (fun d s => match segRec d s with
    | some r => if (rGens r).contains g then segPowerDown s .fault 9 (maskWaiting r d) else d
    | none => d) (genOff g d)

theorem clkFault_running (up : domUp d (dDIG (g / 4)) = true) (run : rb d .PG_STATUS g PG_STATUS.RUNNING = true) :
    clkFault g d = occur (Src.CLK_FAULT (g / 4)) (g / 4 : Nat) g 0 (faultGen g d) := by
  simp only [clkFault, up, run]
  rfl

theorem clkFault_stopped (stop : rb d .PG_STATUS g PG_STATUS.RUNNING = false) : clkFault g d = d := by
  simp [clkFault, stop]

/-- The samples of a generator's run that ends, taken only over a link that is up. -/
def runSamples (g run : Nat) (clamp : Int) (volts : List (List (Int × Int))) (d : Dev) : Dev :=
  if rb d .FE_STATUS (g / 4) FE_STATUS.LINK_UP then (volts.take 6).zipIdx.foldl (fun d x => channelEnd g run clamp x d) d else d

/-- The next run of a generator moves up, and no line up to that of the ended run waits for the generator any more. -/
def nextRun (g run : Nat) (d : Dev) : Dev :=
  esc (fun e => { e with lines := e.lines.map (fun l => if l.num ≤ run then { l with runs := putBit l.runs g false } else l) })
    (sf .PG_STATUS g PG_STATUS.RUNNING (b2n (mget d.fe.runNext g != 0))
      (fe (fun x => { x with runLine := mset g (mget d.fe.runNext g) x.runLine, runNext := mset g 0 x.runNext }) d))

/-- The last line whose runs are all over, once that of line `run` is. -/
def lastRunOver (run : Nat) (d : Dev) : Nat :=
  match d.esc.lines.find? (fun l => l.runs ≠ 0) with
  | some l => l.num - 1
  | none => run

theorem pgRunEnd_run (up : domUp d (dDIG (g / 4)) = true) (run : mget d.fe.runLine g ≠ 0) (clamp : Int)
    (volts : List (List (Int × Int))) :
    pgRunEnd g clamp volts d =
      let k := mget d.fe.runLine g - 1
      let e := nextRun g k (runSamples g k clamp volts d)
      dropLines (freeBanks [1] (lastRunOver k e) e) := by
  simp only [pgRunEnd, up, run]
  rfl

theorem pgRunEnd_idle (idle : mget d.fe.runLine g = 0) (clamp : Int) (volts : List (List (Int × Int))) :
    pgRunEnd g clamp volts d = d := by
  simp [pgRunEnd, idle]

end

/-! ### Die links (R14) -/

section
variable {d : Dev} {n : Nat} {ok : Bool}

/-- The resend of a flit counted, with the failed ones in a row up to the eighth. -/
def countResend (n : Nat) (ok : Bool) (d : Dev) : Dev :=
  fe (fun x => { x with
    resends := mset n (sat32 (mget x.resends n + 1)) x.resends
    flitFails := mset n (if flitFails n ok d < 8 then flitFails n ok d else 0) x.flitFails }) d

/-- The link of a die down, with its event, and the die's segments ABSENT. -/
def linkDown (n : Nat) (d : Dev) : Dev :=
  occur (Src.DIE_LINK_RETRAIN n) n 0 0 (dieSegsAbsent n false 5 (sf .FE_STATUS n FE_STATUS.LINK_UP 0 d))

theorem flitRetrain_few (up : domUp d (dDIG n) = true) (link : rb d .FE_STATUS n FE_STATUS.LINK_UP = true)
    (few : flitFails n ok d < 8) : flitRetrain n ok d = countResend n ok d := by
  simp [flitRetrain, flitResend, countResend, up, link, few, Nat.not_le.mpr few]

theorem flitRetrain_eighth (up : domUp d (dDIG n) = true) (link : rb d .FE_STATUS n FE_STATUS.LINK_UP = true)
    (eighth : 8 ≤ flitFails n ok d) :
    flitRetrain n ok d = [2 * n, 2 * n + 1].foldl (fun d a => axCut false a d)
      (cutCmds [0x70, 0x71, 0x73] (fun a => a / 2 == n) (linkDown n (countResend n ok d))) := by
  simp [flitRetrain, flitResend, countResend, linkDown, up, link, eighth, Nat.not_lt.mpr eighth]

theorem flitRetrain_down (down : rb d .FE_STATUS n FE_STATUS.LINK_UP = false) : flitRetrain n ok d = d := by
  simp [flitRetrain, flitResend, down]

theorem dieLinkUp_returns (up : domUp d (dDIG n) = true) (down : rb d .FE_STATUS n FE_STATUS.LINK_UP = false) :
    dieLinkUp n d = (List.range 4).foldl (fun d b => discover b d) (sf .FE_STATUS n FE_STATUS.LINK_UP 1 d) := by
  simp [dieLinkUp, up, down]

theorem dieLinkUp_stays (link : rb d .FE_STATUS n FE_STATUS.LINK_UP = true) : dieLinkUp n d = d := by
  simp [dieLinkUp, link]

/-! ### I3C buses (R118 to R121, R128) -/

theorem i3cHotJoin_runs (up : domUp d (dDIG n) = true) (gone : List Nat) (descs : List Bytes) :
    i3cHotJoin n gone descs d =
      let left (h : Head) : Bool := h.bus == n && h.seg == 0 && gone.contains h.addr
      discover n (incSat .I3C_HOTJOINS n
        (fe (fun x => { x with heads := x.heads.filter (fun h => !left h) ++ descs.map (fun b => ⟨n, 0, 0, b⟩) }) d)) := by
  simp [i3cHotJoin, up]

theorem i3cIbi_runs (up : domUp d (dDIG n) = true) : i3cIbi n d = incSat .I3C_IBIS n d := by
  simp [i3cIbi, whenUp, up]

/-- What a poll of a bus does for one head: the mark of a bound head of the bus is set or cleared, another head is left. -/
def pollHead (bus : Nat) (failed : List Nat) (d : Dev) (h : Head) : Dev :=
  if h.bus = bus && h.seg ≠ 0 then
    if failed.contains (h.seg - 1) then setSeg (h.seg - 1) (fun x => { x with pollFailed := true }) d else pollOk (h.seg - 1) d
  else d

theorem i3cPoll_runs (up : domUp d (dDIG n) = true) (failed : List Nat) (errors : Nat) :
    i3cPoll n failed errors d =
      let e := (List.range errors).foldl (fun d _ => i3cError n d) d
      e.fe.heads.foldl (pollHead n failed) e := by
  simp only [i3cPoll, up]
  rfl

section
variable {k : Nat} {r : Bytes}

/-- The head of segment `k` has failed a poll and is still connected: its poll is repeated. -/
abbrev Repolled (d : Dev) (k : Nat) : Prop := (seg d k).pollFailed = true ∧ d.fe.heads.any (fun h => h.seg == k + 1) = true

theorem i3cPollRetry_repolled (up : domUp d (dDIG (rBus r)) = true) (found : segRec d k = some r) (polled : Repolled d k) (answered : Bool) :
    i3cPollRetry k answered d = if answered then pollOk k d else removeHead k r d := by
  obtain ⟨failed, bound⟩ := polled
  simp only [i3cPollRetry, found, up, failed, bound]
  rfl

theorem i3cPollRetry_other (found : segRec d k = some r) (other : ¬ Repolled d k) (answered : Bool) : i3cPollRetry k answered d = d := by
  have stays : (!(seg d k).pollFailed || !domUp d (dDIG (rBus r)) || !d.fe.heads.any (fun h => h.seg == k + 1)) = true := by
    obtain answering | gone := not_and_or.mp other
    · rw [Bool.eq_false_iff.mpr answering]; rfl
    · rw [Bool.eq_false_iff.mpr gone]; exact Bool.or_true _
  simp only [i3cPollRetry, found, stays]
  rfl

end
end

end Sys2Proof.Machine

/-!
PROOFS. The statements of 01_architecture.md.
-/
namespace Sys2Proof.Architecture
open Sys2Proof.Machine

/-- Settles O11: an access through BAR2 by whether BAR2 is implemented, the access lies within the visible size and the memories run. -/
theorem bar2Access : Obligations.Bar2Access := by
  unfold Obligations.Bar2Access
  intro s off b
  simp only [exec_bar2Access, act_after rfl]
  refine ⟨bar2Size_eq_zero s.dev, fun absent w => ?_,
    fun here => ⟨fun within up0 up1 => ?_, fun beyond => ?_, fun within stopped => ?_⟩⟩
  · rw [bar2Access_absent absent]
  · simp [bar2Access_runs here within up0 up1]
  · simp [bar2Access_unmapped here beyond]
  · simp [bar2Access_domainOff here within stopped]

/-- Settles O20: the checks of the two entries, the two commands by the feature they name, and the table of features. -/
theorem features : Obligations.Features := by
  unfold Obligations.Features
  refine ⟨⟨fun e => ⟨?_, ?_⟩, fun s q tag c => ⟨fun h => ?_, fun h => ?_⟩⟩, fun d => ⟨rfl, rfl, rfl, rfl, ?_, ?_⟩⟩
  · simp [inlineChecks_getFeature, firstBad_eq_none]
  · simp [inlineChecks_setFeature, firstBad_eq_none]
  · rw [exec_getFeature, act_awaits s q tag 0x02 c h]
    refine ⟨fun x value => ?_, fun reserved => ?_⟩
    · rw [getFeature_value (c := c.begun) value]; rfl
    · rw [getFeature_reserved (c := c.begun) reserved]; rfl
  · rw [exec_setFeature, act_awaits s q tag 0x03 c h]
    refine ⟨fun lo hi => ?_, fun refused => ?_⟩
    · rw [setFeature_scratch (c := c.begun) ⟨lo, hi⟩]; rfl
    · rw [setFeature_refused (c := c.begun) refused]; rfl
  · exact fun k hk => featureValue_scratch d hk
  · exact fun n hn => featureValue_reserved d hn

/-- Settles O43: each event by its guards, for a die that runs. -/
theorem dieAndI3cEvents : Obligations.DieAndI3cEvents := by
  unfold Obligations.DieAndI3cEvents
  refine ⟨fun s n hn up => ?_, fun s n hn up => ?_⟩
  · have die : isDie n = true := decide_eq_true hn
    simp only [exec_flitResend, exec_dieLinkUp, act_after die]
    refine ⟨fun g hg gen => ?_, fun ok => ⟨fun link few => ?_, fun link eighth => ?_, fun down => ?_⟩, fun down => ?_, fun link => ?_⟩
    · subst gen
      have unit : isGen g = true := decide_eq_true hg
      simp only [exec_clkFault, exec_pgRunEnd, act_after unit]
      refine ⟨fun run => ?_, fun stop => ?_, fun clamp volts => ⟨fun run => ?_, fun idle => ?_⟩⟩
      · rw [clkFault_running up run]; rfl
      · rw [clkFault_stopped stop]
      · rw [pgRunEnd_run up run]; rfl
      · rw [pgRunEnd_idle idle]
    · rw [flitRetrain_few up link few]; rfl
    · rw [flitRetrain_eighth up link eighth]; rfl
    · rw [flitRetrain_down down]
    · rw [dieLinkUp_returns up down]
    · rw [dieLinkUp_stays link]
  · have unit : isBus n = true := decide_eq_true hn
    simp only [exec_i3cHotJoin, exec_i3cIbi, exec_i3cPoll, act_after unit]
    refine ⟨fun gone descs => ?_, ?_, fun failed errors => ?_, fun k r hk found bus => ?_⟩
    · rw [i3cHotJoin_runs up]; rfl
    · rw [i3cIbi_runs up]
    · rw [i3cPoll_runs up]; rfl
    · subst bus
      have segment : isSegment k = true := decide_eq_true hk
      simp only [exec_i3cPollRetry, act_after segment]
      refine ⟨fun polled => ?_, fun polled => ?_, fun other b => ?_⟩
      · rw [i3cPollRetry_repolled up found polled]; rfl
      · rw [i3cPollRetry_repolled up found polled]; rfl
      · rw [i3cPollRetry_other found other]

end Sys2Proof.Architecture

/-!
PROOFS. The rings of the Postmaster by their guards: enabling and draining, doorbells, the delivery of completions and the signals of a
completion ring (R31 to R40).
-/
namespace Sys2Proof.Machine

/-! ### Registers of a domain that runs -/

theorem regCommand_up {r : Reg} {i n : Nat} {d : Dev} (place : addrDom (regAddr r i) = n) (up : domUp d n = true) (f : Dev → Dev) :
    regCommand r i f d = f d := by
  subst place; exact if_pos up

theorem addrDom_sqCtrl : ∀ n < 64, addrDom (regAddr .RING_SQ_CTRL n) = dPOST := by decide
theorem addrDom_cqCtrl : ∀ n < 64, addrDom (regAddr .RING_CQ_CTRL n) = dPOST := by decide
theorem addrDom_dbellSq : ∀ n < 64, addrDom (regAddr .DBELL_SQ n) = dEP := by decide
theorem addrDom_dbellCq : ∀ n < 64, addrDom (regAddr .DBELL_CQ n) = dEP := by decide

section
variable {n : Nat} (hn : n < 64) {s : State} (up : domUp s.dev dPOST = true)
include hn up

theorem exec_sqEnable_up : exec (.sqEnable n) s = .next (s.after (sqEnableWrite n s.dev)) := by
  rw [exec_sqEnable, act_after (by simpa [isSq] using hn), regCommand_up (addrDom_sqCtrl n hn) up]

theorem exec_sqDisable_up : exec (.sqDisable n) s = .next (s.after (sqDisableWrite n s.dev)) := by
  rw [exec_sqDisable, act_after (by simpa [isSq] using hn), regCommand_up (addrDom_sqCtrl n hn) up]

theorem exec_sqDrainDone_up : exec (.sqDrainDone n) s = .next (s.after (sqDrainDone n s.dev)) := by
  rw [exec_sqDrainDone, act_after (by simpa [isSq] using hn), whenUp, if_pos up]

theorem exec_cqEnable_up : exec (.cqEnable n) s = .next (s.after (cqEnableWrite n s.dev)) := by
  rw [exec_cqEnable, act_after (by simpa [isSq] using hn), regCommand_up (addrDom_cqCtrl n hn) up]

theorem exec_cqDisable_up : exec (.cqDisable n) s = .next (s.after (cqDisableWrite n s.dev)) := by
  rw [exec_cqDisable, act_after (by simpa [isSq] using hn), regCommand_up (addrDom_cqCtrl n hn) up]

end

section
variable {n c : Nat} (hn : n < 64) (hc : c < 2 ^ 32) {s : State} (up : domUp s.dev dEP = true)
include hn hc up

theorem exec_dbellSq_up : exec (.dbellSq n c) s = .next (s.after (dbellSqWrite n c s.dev)) := by
  rw [exec_dbellSq, act_after (by simpa [isSq, isWord, hn] using hc), regCommand_up (addrDom_dbellSq n hn) up]

theorem exec_dbellCq_up : exec (.dbellCq n c) s = .next (s.after (dbellCqWrite n c s.dev)) := by
  rw [exec_dbellCq, act_after (by simpa [isSq, isWord, hn] using hc), regCommand_up (addrDom_dbellCq n hn) up]

end

section
variable {d : Dev} {n : Nat}

/-! ### Enabling a submission ring (R36) -/

theorem sqEnableCheck_param (zero : sqSize d n = 0 ∨ sqQuota d n = 0) : sqEnableCheck d n = stPARAM := by
  simp [sqEnableCheck, zero]

theorem sqEnableCheck_state (size : sqSize d n ≠ 0) (quota : sqQuota d n ≠ 0)
    (off : cqEnabled d (rf d .RING_SQ_CFG n RING_SQ_CFG.CQ) = false) : sqEnableCheck d n = stSTATE := by
  simp [sqEnableCheck, size, quota, off]

theorem sqEnableCheck_bound (size : sqSize d n ≠ 0) (quota : sqQuota d n ≠ 0)
    (on : cqEnabled d (rf d .RING_SQ_CFG n RING_SQ_CFG.CQ) = true) (beyond : sqSize d n < sqQuota d n ∨ 512 < quotaSum d + sqQuota d n) :
    sqEnableCheck d n = stBOUND := by
  simp [sqEnableCheck, size, quota, on, beyond]

theorem sqEnableCheck_ok (size : sqSize d n ≠ 0) (quota : sqQuota d n ≠ 0)
    (on : cqEnabled d (rf d .RING_SQ_CFG n RING_SQ_CFG.CQ) = true) (ring : sqQuota d n ≤ sqSize d n) (sum : quotaSum d + sqQuota d n ≤ 512) :
    sqEnableCheck d n = stOK := by
  simp [sqEnableCheck, size, quota, on, Nat.not_lt.mpr ring, Nat.not_lt.mpr sum]

theorem sqTryEnable_refused {st : Nat} (check : sqEnableCheck d n = st) (bad : st ≠ stOK) :
    sqTryEnable n d = sf .RING_SQ_STATUS n RING_SQ_STATUS.CFG_ERR st d := by
  subst check; exact if_neg bad

theorem sqTryEnable_ok (check : sqEnableCheck d n = stOK) :
    sqTryEnable n d = { (sf .RING_SQ_STATUS n RING_SQ_STATUS.ENABLED 1 (sf .RING_SQ_STATUS n RING_SQ_STATUS.CFG_ERR 0
        (wn .RING_SQ_FETCHED n 0 d))) with
      post := { d.post with dbSq := mset n 0 d.post.dbSq, sqDone := mset n 0 d.post.sqDone } } :=
  if_pos check

theorem sqEnableWrite_enabled (on : sqEnabled (sf .RING_SQ_CTRL n RING_SQ_CTRL.ENABLE 1 d) n = true) :
    sqEnableWrite n d = sf .RING_SQ_CTRL n RING_SQ_CTRL.ENABLE 1 d :=
  if_pos on

theorem sqEnableWrite_disabled (off : sqEnabled (sf .RING_SQ_CTRL n RING_SQ_CTRL.ENABLE 1 d) n = false) :
    sqEnableWrite n d = sqTryEnable n (sf .RING_SQ_CTRL n RING_SQ_CTRL.ENABLE 1 d) :=
  if_neg (by simp [off])

/-! ### Enabling and disabling a completion ring (R36, R37) -/

theorem cqEnableWrite_enabled (on : cqEnabled (sf .RING_CQ_CTRL n RING_CQ_CTRL.ENABLE 1 d) n = true) :
    cqEnableWrite n d = sf .RING_CQ_CTRL n RING_CQ_CTRL.ENABLE 1 d :=
  if_pos on

theorem cqEnableWrite_param (off : cqEnabled (sf .RING_CQ_CTRL n RING_CQ_CTRL.ENABLE 1 d) n = false)
    (zero : cqSize (sf .RING_CQ_CTRL n RING_CQ_CTRL.ENABLE 1 d) n = 0) :
    cqEnableWrite n d = sf .RING_CQ_STATUS n RING_CQ_STATUS.CFG_ERR stPARAM (sf .RING_CQ_CTRL n RING_CQ_CTRL.ENABLE 1 d) := by
  simp [cqEnableWrite, off, zero]

theorem cqEnableWrite_ok (off : cqEnabled (sf .RING_CQ_CTRL n RING_CQ_CTRL.ENABLE 1 d) n = false)
    (size : cqSize (sf .RING_CQ_CTRL n RING_CQ_CTRL.ENABLE 1 d) n ≠ 0) :
    cqEnableWrite n d = dropWritten n
      { (sf .RING_CQ_STATUS n RING_CQ_STATUS.ENABLED 1 (sf .RING_CQ_STATUS n RING_CQ_STATUS.CFG_ERR 0
          (sf .RING_CQ_STATUS n RING_CQ_STATUS.FULL 0 (wn .RING_CQ_WRITTEN n 0 (sf .RING_CQ_CTRL n RING_CQ_CTRL.ENABLE 1 d))))) with
        post := { d.post with dbCq := mset n 0 d.post.dbCq, cqSince := mset n 0 d.post.cqSince } } := by
  simp [cqEnableWrite, off, size]

/-- An enabled submission ring names the completion ring. -/
abbrev CqNamed (d : Dev) (n : Nat) : Prop := ∃ q, q < 64 ∧ sqEnabled d q = true ∧ rf d .RING_SQ_CFG q RING_SQ_CFG.CQ = n

theorem cqNamed_iff (d : Dev) (n : Nat) :
    (List.range 64).any (fun q => sqEnabled d q && rf d .RING_SQ_CFG q RING_SQ_CFG.CQ == n) = true ↔ CqNamed d n := by
  simp

theorem cqDisableWrite_named (named : CqNamed d n) : cqDisableWrite n d = occur0 Src.RING_CFG_LOCKED d :=
  if_pos ((cqNamed_iff d n).mpr named)

theorem cqDisableWrite_free (free : ¬ CqNamed d n) :
    cqDisableWrite n d = dropWritten n (sf .RING_CQ_STATUS n RING_CQ_STATUS.ENABLED 0 (sf .RING_CQ_CTRL n RING_CQ_CTRL.ENABLE 0 d)) :=
  if_neg (fun h => free ((cqNamed_iff d n).mp h))

/-! ### Draining a submission ring (R37) -/

/-- A ring noted, once, as one that drains. -/
def noteDraining (n : Nat) (d : Dev) : Dev :=
  { d with post := { d.post with draining := if d.post.draining.contains n then d.post.draining else n :: d.post.draining } }

/-- A ring that drains no more: disabled. -/
def drained (n : Nat) (d : Dev) : Dev :=
  sf .RING_SQ_STATUS n RING_SQ_STATUS.ENABLED 0 { d with post := { d.post with draining := d.post.draining.filter (· ≠ n) } }

/-- A ring drains and nothing of it is in flight. -/
abbrev HasDrained (d : Dev) (n : Nat) : Prop := d.post.draining.contains n = true ∧ sqInFlight d n = 0

theorem sqDrainDone_drained (done : HasDrained d n) :
    sqDrainDone n d = if rb (drained n d) .RING_SQ_CTRL n RING_SQ_CTRL.ENABLE then sqTryEnable n (drained n d) else drained n d :=
  if_pos (by simpa [HasDrained] using done)

theorem sqDrainDone_other (other : ¬ HasDrained d n) : sqDrainDone n d = d :=
  if_neg (by simpa [HasDrained] using other)

theorem sqDisableWrite_disabled (off : sqEnabled (sf .RING_SQ_CTRL n RING_SQ_CTRL.ENABLE 0 d) n = false) :
    sqDisableWrite n d = sf .RING_SQ_CTRL n RING_SQ_CTRL.ENABLE 0 d :=
  if_neg (by simp [off])

theorem sqDisableWrite_enabled (on : sqEnabled (sf .RING_SQ_CTRL n RING_SQ_CTRL.ENABLE 0 d) n = true) :
    sqDisableWrite n d = sqDrainDone n (noteDraining n (sf .RING_SQ_CTRL n RING_SQ_CTRL.ENABLE 0 d)) :=
  if_pos on

end

/-! ### Doorbells (R39) -/

section
variable {d : Dev} {n c : Nat}

theorem dbellSqWrite_held (replay : replaying d = true) (early : d.post.replayStep < 2) :
    dbellSqWrite n c d = { d with post := { d.post with heldDb := d.post.heldDb ++ [(n, c)] } } := by
  simp [dbellSqWrite, replay, early]

theorem dbellCqWrite_held (replay : replaying d = true) (early : d.post.replayStep < 2) :
    dbellCqWrite n c d = { d with post := { d.post with heldDb := d.post.heldDb ++ [(n + 64, c)] } } := by
  simp [dbellCqWrite, replay, early]

theorem dbellSqWrite_judged (calm : replaying d = false) : dbellSqWrite n c d = dbellSqCheck n c d := by
  simp [dbellSqWrite, calm]

theorem dbellCqWrite_judged (calm : replaying d = false) : dbellCqWrite n c d = dbellCqCheck n c d := by
  simp [dbellCqWrite, calm]

theorem dbellSqCheck_valid (on : sqEnabled d n = true) (range : c < ringL (sqSize d n))
    (ahead : notBehind (sqSize d n) c (mget d.post.dbSq n) = true) (credit : notBehind (sqSize d n) (sqCredit d n) c = true) :
    dbellSqCheck n c d = { d with post := { d.post with dbSq := mset n c d.post.dbSq } } := by
  simp [dbellSqCheck, on, range, ahead, credit]

theorem dbellCqCheck_valid (on : cqEnabled d n = true) (range : c < ringL (cqSize d n))
    (ahead : notBehind (cqSize d n) c (mget d.post.dbCq n) = true)
    (credit : notBehind (cqSize d n) (rn d .RING_CQ_WRITTEN n) c = true) :
    dbellCqCheck n c d = cqFreed n { d with post := { d.post with dbCq := mset n c d.post.dbCq } } := by
  simp [dbellCqCheck, on, range, ahead, credit]

theorem dbellSqCheck_invalid (bad : sqEnabled d n = false ∨ ringL (sqSize d n) ≤ c ∨
      notBehind (sqSize d n) c (mget d.post.dbSq n) = false ∨ notBehind (sqSize d n) (sqCredit d n) c = false) :
    dbellSqCheck n c d = occur0 Src.DOORBELL_INVALID d := by
  obtain off | beyond | behind | uncovered := bad
  · simp [dbellSqCheck, off]
  · simp [dbellSqCheck, Nat.not_lt.mpr beyond]
  · simp [dbellSqCheck, behind]
  · simp [dbellSqCheck, uncovered]

theorem dbellCqCheck_invalid (bad : cqEnabled d n = false ∨ ringL (cqSize d n) ≤ c ∨
      notBehind (cqSize d n) c (mget d.post.dbCq n) = false ∨ notBehind (cqSize d n) (rn d .RING_CQ_WRITTEN n) c = false) :
    dbellCqCheck n c d = occur0 Src.DOORBELL_INVALID d := by
  obtain off | beyond | behind | unwritten := bad
  · simp [dbellCqCheck, off]
  · simp [dbellCqCheck, Nat.not_lt.mpr beyond]
  · simp [dbellCqCheck, behind]
  · simp [dbellCqCheck, unwritten]

end

/-! ### Completions (R40, R46, R62) -/

section
variable {d : Dev} {q : Nat}

/-- Staging keeps the previous occupant of the slot that the next completion of a ring goes to. -/
def coversOccupant (d : Dev) (q : Nat) : Bool :=
  d.post.written.any (fun x => x.cq == q &&
    x.count == (rn d .RING_CQ_WRITTEN q + ringL (cqSize d q) - cqSize d q) % ringL (cqSize d q))

/-- The body of the COMPLETE record that covers the completions of a ring written so far. -/
def coverBody (d : Dev) (q : Nat) : Bytes := leBytes 4 q ++ leBytes 4 (rn d .RING_CQ_WRITTEN q)

/-- The COMPLETE record staged, where the slot's previous occupant is kept. -/
def coverOccupant (q : Nat) (d : Dev) : Dev := if coversOccupant d q then stage kCOMPLETE (coverBody d q) d else d

/-- The completion leaves those that are formed, and its submission ring has one more done. -/
def countDone (c : Cpl) (d : Dev) : Dev :=
  { d with post := { d.post with
    formed := d.post.formed.filter (fun x => x.order ≠ c.order)
    sqDone := mset c.sq ((mget d.post.sqDone c.sq + 1) % ringL (sqSize d c.sq)) d.post.sqDone } }

/-- The completion in its slot, kept for replay beside the ring's others that no record covers, and counted. -/
def deliverCpl (q : Nat) (c : Cpl) (d : Dev) : Dev :=
  let n := cqSize d q
  let w := rn d .RING_CQ_WRITTEN q
  let e := countDone c (coverOccupant q d)
  let b := cplBytes c (decide (w / n % 2 = 0)) (sqCredit e c.sq)
  let kept := { e with post := { e.post with
    written := ⟨q, w, b⟩ :: d.post.written.filter (fun x => x.cq ≠ q || !coversOccupant d q) } }
  cqCount q (wn .RING_CQ_WRITTEN q ((w + 1) % ringL n) (sf .RING_CQ_STATUS q RING_CQ_STATUS.FULL 0
    (hostWrite (rf e .RING_CQ_BASE q RING_CQ_BASE.BASE * 32 + 32 * (w % n)) b kept)))

section
variable (up : domUp d dPOST = true) (master : d.post.busMaster = true) (on : cqEnabled d q = true)
include up master on

theorem completionWrite_idle (idle : nextCpl d q = none) : completionWrite q d = d := by
  simp [completionWrite, up, master, on, idle]

section
variable {c : Cpl} (turn : nextCpl d q = some c)
include turn

theorem completionWrite_waits (taken : cqSize d q ≤ cqInUse d q) :
    completionWrite q d = if rb d .RING_CQ_STATUS q RING_CQ_STATUS.FULL then d
      else occur Src.CQ_FULL q 0 0 (sf .RING_CQ_STATUS q RING_CQ_STATUS.FULL 1 d) := by
  simp [completionWrite, up, master, on, turn, taken]

theorem completionWrite_noRoom (slot : cqInUse d q < cqSize d q) (covers : coversOccupant d q = true)
    (full : canStage kCOMPLETE (coverBody d q) d = false) : completionWrite q d = d := by
  simp only [completionWrite, up, master, on, turn, Bool.not_true, Bool.or_self, Bool.false_eq_true, ite_false, if_neg (Nat.not_le.mpr slot)]
  exact if_pos (by rw [Bool.and_eq_true, Bool.not_eq_true']; exact ⟨covers, full⟩)

theorem completionWrite_delivers (slot : cqInUse d q < cqSize d q)
    (room : coversOccupant d q = false ∨ canStage kCOMPLETE (coverBody d q) d = true) :
    completionWrite q d = deliverCpl q c d := by
  have staged : ¬ (coversOccupant d q && !canStage kCOMPLETE (coverBody d q) d) = true := by
    obtain fresh | room := room
    · simp [fresh]
    · simp [room]
  simp only [completionWrite, up, master, on, turn, Bool.not_true, Bool.or_self, Bool.false_eq_true, ite_false, if_neg (Nat.not_le.mpr slot)]
  exact if_neg staged

end
end

/-! ### The signal of a completion ring (R40) -/

/-- A ring has a completion to signal: it is enabled, interrupts are on, and one has been written since the last signal. -/
abbrev CqSignals (d : Dev) (q : Nat) : Prop :=
  cqEnabled d q = true ∧ rb d .RING_CQ_CFG q RING_CQ_CFG.IRQ_EN = true ∧ 0 < mget d.post.cqSince q

theorem cqHoldoffExpiry_signals (up : domUp d dPOST = true) (due : CqSignals d q) : cqHoldoffExpiry q d = cqSignal q d := by
  obtain ⟨on, irq, since⟩ := due
  simp [cqHoldoffExpiry, up, on, irq, since]

theorem cqHoldoffExpiry_other (other : ¬ CqSignals d q) : cqHoldoffExpiry q d = d :=
  if_neg (by
    simp only [Bool.and_eq_true, decide_eq_true_eq]
    exact fun ⟨⟨⟨_, on⟩, irq⟩, since⟩ => other ⟨on, irq, since⟩)

end

end Sys2Proof.Machine

/-!
PROOFS. Little-endian fields of a byte string, how a command ends, how one is admitted, and what IDENTIFY, ABORT and RESET do, by their
guards (R44 to R56, R384 to R386).
-/
namespace Sys2Proof.Machine

/-! ### Fields of a byte string (R3) -/

@[simp] theorem leBytes_length (n : Nat) : ∀ v, (leBytes n v).length = n := by
  induction n with
  | zero => exact fun _ => rfl
  | succ n ih => exact fun v => congrArg (· + 1) (ih (v / 256))

theorem leNat_leBytes (n : Nat) : ∀ v, leNat (leBytes n v) = v % 256 ^ n := by
  induction n with
  | zero => intro v; simp [leBytes, leNat, Nat.mod_one]
  | succ n ih => intro v; rw [leBytes, leNat, ih, BitVec.toNat_ofNat, Nat.pow_succ' (m := 256), Nat.mod_mul]

/-- The first field of a string. -/
theorem leAt_leBytes_append (n v : Nat) (b : Bytes) : leAt (leBytes n v ++ b) 0 n = v % 256 ^ n := by
  simp [leAt, leNat_leBytes]

/-- A field behind the first. -/
theorem leAt_skip (k v : Nat) (b : Bytes) {off : Nat} (behind : k ≤ off) (n : Nat) :
    leAt (leBytes k v ++ b) off n = leAt b (off - k) n := by
  rw [leAt, leAt, List.drop_append, List.drop_eq_nil_of_le (by simpa using behind), leBytes_length, List.nil_append]

@[simp] theorem fitBytes_length (n : Nat) (b : Bytes) : (fitBytes n b).length = n := by
  simp [fitBytes, zeros]; omega

theorem leAt_whole (b : Bytes) : leAt b 0 b.length = leNat b := by
  simp [leAt]

/-! ### Completions and their entries (R46) -/

theorem complete_ring {c : Cmd} (ring : c.sq < 64) (st det : Nat) (r : Bytes) (d : Dev) :
    complete c st det r d = { d with post := { d.post with
      cmds := d.post.cmds.filter (fun x => x.order ≠ c.order)
      formed := d.post.formed ++ [⟨c.sq, c.num, c.order, rf d .RING_SQ_CFG c.sq RING_SQ_CFG.CQ, c.tag, c.ctx, c.op, st, det, d.now,
        resultBytes r, c.fence⟩] } } :=
  if_neg (Nat.ne_of_lt ring)

/-- A completion entry, its fields one behind the other. -/
theorem cplBytes_fields (c : Cpl) (phase : Bool) (credit : Nat) : cplBytes c phase credit =
    leBytes 1 (b2n phase + 2 * c.sq) ++ (leBytes 1 c.status ++ (leBytes 2 c.tag ++ (leBytes 2 c.ctx ++ (leBytes 1 c.op ++
      (leBytes 1 c.detail ++ (leBytes 4 credit ++ (leBytes 4 c.time ++ resultBytes c.result))))))) := by
  simp only [cplBytes, List.append_assoc]

theorem cplBytes_length (c : Cpl) (phase : Bool) (credit : Nat) : (cplBytes c phase credit).length = 32 := by
  simp [cplBytes, resultBytes]

/-! ### The admission of an entry (R44, R45) -/

/-- The count of fetches advanced. -/
def countFetch (d : Dev) : Dev := { d with post := { d.post with fetches := d.post.fetches + 1 } }

/-- The command of an entry `e` with its block `b`, as it is fetched. -/
def fetchedCmd (sq num : Nat) (e b : Bytes) (d : Dev) : Cmd :=
  ⟨sq, num, leAt e 2 2, leAt e 4 2 % 2048, leAt e 0 1, bitOf (leAt e 1 1) 1, e, b, d.post.fetches, false,
    if leAt e 0 1 = 0x05 then syncTargets (countFetch d) (bitOf (leAt e 8 1) 0) (leAt e 4 2 % 2048) else []⟩

/-- A fetched command ends at a check. -/
def endFetched (sq num : Nat) (e b : Bytes) (st det : Nat) (d : Dev) : Dev := complete (fetchedCmd sq num e b d) st det [] (countFetch d)

/-- A fetched command is in flight and has not started. -/
def enterFetched (sq num : Nat) (e b : Bytes) (d : Dev) : Dev :=
  { countFetch d with post := { (countFetch d).post with cmds := d.post.cmds ++ [fetchedCmd sq num e b d] } }

section
variable {sq num : Nat} {bytes e : Bytes} {block : Fetch} {d : Dev} (entry : fitBytes 64 bytes = e)
include entry

theorem admitCmd_entryFails {st det : Nat} (fails : entryFails d sq e = some (st, det)) :
    admitCmd sq num bytes block d = endFetched sq num e [] st det d := by
  subst entry; simp only [admitCmd, fails]; rfl

section
variable (passes : entryFails d sq e = none)
include passes

theorem admitCmd_plain_waits (plain : bitOf (leAt e 1 1) 0 = false) (lengths : lengthFails (countFetch d) (leAt e 0 1) e [] = none) :
    admitCmd sq num bytes block d = enterFetched sq num e [] d := by
  subst entry; unfold countFetch at lengths; simp only [admitCmd, passes, plain, lengths]; rfl

theorem admitCmd_plain_ends (plain : bitOf (leAt e 1 1) 0 = false) {st det : Nat}
    (lengths : lengthFails (countFetch d) (leAt e 0 1) e [] = some (st, det)) :
    admitCmd sq num bytes block d = endFetched sq num e [] st det d := by
  subst entry; unfold countFetch at lengths; simp only [admitCmd, passes, plain, lengths]; rfl

section
variable (blocked : bitOf (leAt e 1 1) 0 = true)
include blocked

theorem admitCmd_unread {cause : Nat} (unread : block = .failed cause) :
    admitCmd sq num bytes block d = endFetched sq num e [] stDMA_ERR cause d := by
  subst entry unread; simp only [admitCmd, passes, blocked]; rfl

section
variable {bb b : Bytes} (read : block = .ok bb) (fits : fitBytes (leAt e 16 4) bb = b)
include read fits

theorem admitCmd_blockFails {st det : Nat} (fails : blockFails (leAt e 0 1) b = some (st, det)) :
    admitCmd sq num bytes block d = endFetched sq num e b st det d := by
  subst entry read fits; simp only [admitCmd, passes, blocked, fails]; rfl

theorem admitCmd_block_waits (block_ok : blockFails (leAt e 0 1) b = none)
    (lengths : lengthFails (countFetch d) (leAt e 0 1) e b = none) :
    admitCmd sq num bytes block d = enterFetched sq num e b d := by
  subst entry read fits; unfold countFetch at lengths; simp only [admitCmd, passes, blocked, block_ok, lengths]; rfl

theorem admitCmd_block_ends (block_ok : blockFails (leAt e 0 1) b = none) {st det : Nat}
    (lengths : lengthFails (countFetch d) (leAt e 0 1) e b = some (st, det)) :
    admitCmd sq num bytes block d = endFetched sq num e b st det d := by
  subst entry read fits; unfold countFetch at lengths; simp only [admitCmd, passes, blocked, block_ok, lengths]; rfl

end
end
end
end

/-- What an instruction does that admits an entry: it ends at the first check that fails, or waits to start. -/
def Admits (i : Instr) (s : State) (sq num : Nat) (bytes : Bytes) (block : Fetch) (d : Dev) : Prop :=
  let e := fitBytes 64 bytes
  let op := leAt e 0 1
  let len := leAt e 16 4
  let ends (b : Bytes) (st det : Nat) := exec i s = .next (s.after (endFetched sq num e b st det d))
  let waits (b : Bytes) := exec i s = .next (s.after (enterFetched sq num e b d))
  (∀ st det, entryFails d sq e = some (st, det) → ends [] st det) ∧
  (entryFails d sq e = none → bitOf (leAt e 1 1) 0 = false →
    (lengthFails (countFetch d) op e [] = none → waits []) ∧
    (∀ st det, lengthFails (countFetch d) op e [] = some (st, det) → ends [] st det)) ∧
  (entryFails d sq e = none → bitOf (leAt e 1 1) 0 = true →
    (∀ cause, block = .failed cause → ends [] stDMA_ERR cause) ∧
    (∀ bb, block = .ok bb →
      (∀ st det, blockFails op (fitBytes len bb) = some (st, det) → ends (fitBytes len bb) st det) ∧
      (blockFails op (fitBytes len bb) = none →
        (lengthFails (countFetch d) op e (fitBytes len bb) = none → waits (fitBytes len bb)) ∧
        (∀ st det, lengthFails (countFetch d) op e (fitBytes len bb) = some (st, det) → ends (fitBytes len bb) st det))))

/-- Admission check by check. -/
theorem admits_of_exec {i : Instr} {s : State} {sq num : Nat} {bytes : Bytes} {block : Fetch} {d : Dev}
    (run : exec i s = .next (s.after (admitCmd sq num bytes block d))) : Admits i s sq num bytes block d := by
  unfold Admits
  simp only [run]
  refine ⟨fun st det fails => ?_, fun passes plain => ⟨fun lengths => ?_, fun st det lengths => ?_⟩,
    fun passes blocked => ⟨fun cause unread => ?_, fun bb read => ⟨fun st det fails => ?_, fun block_ok =>
      ⟨fun lengths => ?_, fun st det lengths => ?_⟩⟩⟩⟩
  · rw [admitCmd_entryFails rfl fails]
  · rw [admitCmd_plain_waits rfl passes plain lengths]
  · rw [admitCmd_plain_ends rfl passes plain lengths]
  · rw [admitCmd_unread rfl passes blocked unread]
  · rw [admitCmd_blockFails rfl passes blocked read rfl fails]
  · rw [admitCmd_block_waits rfl passes blocked read rfl block_ok lengths]
  · rw [admitCmd_block_ends rfl passes blocked read rfl block_ok lengths]

/-! ### COMMAND_FETCH and CROWN_GO (R45, R63, R384) -/

/-- An entry of a ring counted as fetched, with its ADMIT record. -/
def countEntry (q : Nat) (d : Dev) : Dev :=
  let next := (rn d .RING_SQ_FETCHED q + 1) % ringL (sqSize d q)
  stage kADMIT (leBytes 1 q ++ zeros 3 ++ leBytes 4 next) (wn .RING_SQ_FETCHED q next d)

section
variable {d : Dev} {q : Nat}

theorem commandFetch_not (not : mayFetch d q = false) (entry block : Fetch) : commandFetch q entry block d = d := by
  simp [commandFetch, not]

theorem commandFetch_unread (may : mayFetch d q = true) (cause : Nat) (block : Fetch) :
    commandFetch q (.failed cause) block d =
      complete ⟨q, rn d .RING_SQ_FETCHED q, 0, 0, 0, false, [], [], (countEntry q d).post.fetches, false, []⟩ stDMA_ERR cause
        (leBytes 4 (rn d .RING_SQ_FETCHED q)) (countFetch (countEntry q d)) := by
  simp only [commandFetch, may]; rfl

theorem commandFetch_read (may : mayFetch d q = true) (e : Bytes) (block : Fetch) :
    commandFetch q (.ok e) block d = admitCmd q (rn d .RING_SQ_FETCHED q) e block (countEntry q d) := by
  simp only [commandFetch, may]; rfl

end

section
variable {d : Dev} (block : Fetch)

theorem crownGo_denied (not : crown d = false ∨ rb d .RST_CROWN_STATUS 0 RST_CROWN_STATUS.BUSY = true) :
    crownGo block d = if domUp d dFABRIC then occur0 Src.CROWN_GO_DENIED d else d :=
  if_pos (by simpa using not)

theorem crownGo_admits (on : crown d = true) (free : rb d .RST_CROWN_STATUS 0 RST_CROWN_STATUS.BUSY = false) :
    crownGo block d = admitCmd crownSq 0 (winRead d .crownCmd 0 64) block
      (sf .RST_CROWN_STATUS 0 RST_CROWN_STATUS.BUSY 1 (sf .RST_CROWN_STATUS 0 RST_CROWN_STATUS.DONE 0 d)) :=
  if_neg (by simp [on, free])

end

/-! ### ABORT (R51) -/

section
variable {c : Cmd} {d : Dev}

/-- The command that an ABORT names. -/
abbrev abortTarget (c : Cmd) (d : Dev) : Option Cmd := findCmd d (leAt c.entry 8 1 % 64) (leAt c.entry 10 2)

theorem abortCmd_none (gone : abortTarget c d = none) : abortCmd c d = completeOk c (leBytes 1 1) d := by
  simp only [abortCmd, gone]

section
variable {t : Cmd} (named : abortTarget c d = some t)
include named

theorem abortCmd_itself (self : t.order = c.order) : abortCmd c d = completeOk c (leBytes 1 1) d := by
  simp only [abortCmd, named, if_pos self]

theorem abortCmd_waiting (other : t.order ≠ c.order) (waits : t.started = false) :
    abortCmd c d = completeOk c (leBytes 1 0) (complete t stABORTED 0 [] d) := by
  simp [abortCmd, named, other, waits]

theorem abortCmd_started (other : t.order ≠ c.order) (runs : t.started = true) :
    abortCmd c d = completeOk c (leBytes 1 (abortStarted t d).2) (abortStarted t d).1 := by
  simp [abortCmd, named, other, runs]

end

theorem abortStarted_atOnce {t : Cmd} (h : t.op ∈ [0x05, 0x06, 0x08, 0x91, 0xA2, 0xF0, 0xF1]) :
    abortStarted t d = (complete t stABORTED 0 [] d, 0) := by
  have apart : t.op ≠ 0x42 := fun e => by rw [e] at h; exact absurd h (by decide)
  simp only [abortStarted, if_neg apart, List.contains_iff_mem, if_pos h]

theorem abortStarted_activate {t : Cmd} (h : t.op = 0x21) : abortStarted t d = (complete t stABORTED 0 [] (actAbort t d), 0) := by
  simp [abortStarted, h]

theorem abortStarted_post {t : Cmd} (h : t.op = 0x42) : abortStarted t d = (postAbort t d, 0) := by
  simp [abortStarted, h]

theorem abortStarted_calRun {t : Cmd} (h : t.op = 0x60) : abortStarted t d = (calAbort t d, 0) := by
  simp [abortStarted, h]

theorem abortStarted_convert {t : Cmd} (h : t.op = 0x81) : abortStarted t d = (auxAbort t d, 0) := by
  simp [abortStarted, h]

theorem abortStarted_motion {t : Cmd} (h : t.op = 0x70 ∨ t.op = 0x71 ∨ t.op = 0x73) :
    abortStarted t d = ((axAbort t d).1, if (axAbort t d).2 then 0 else 2) := by
  obtain h | h | h := h <;> simp [abortStarted, h]

theorem abortStarted_never {t : Cmd} (h : t.op ∈ [0x40, 0x41, 0x07, 0xA0, 0xA1, 0x62, 0x20, 0x22, 0x23, 0x24, 0x25, 0x43, 0x44, 0x61, 0x90,
    0x92, 0x93, 0x80, 0x82, 0x72, 0x01, 0x02, 0x03, 0x04]) : abortStarted t d = (d, 2) := by
  have apart : ∀ n ∈ [0x42, 0x05, 0x06, 0x08, 0x91, 0xA2, 0xF0, 0xF1, 0x21, 0x70, 0x71, 0x73, 0x60, 0x81], n ≠ t.op := by
    intro n stops e
    subst e
    revert stops
    generalize t.op = n at h
    revert n
    decide
  simp only [List.forall_mem_cons, ne_comm] at apart
  simp [abortStarted, apart]

end

/-! ### RESET (R386) -/

section
variable {f : Fuses} {c : Cmd} {d : Dev}

/-- A target that the reach of a RESET may not have. -/
abbrev ResetTargetBad (reach tgt : Nat) : Prop :=
  reach = 1 ∧ tgt ≤ 2 ∨ (if reach = 1 then 23 else if reach = 2 then 3 else 0) < tgt

/-- What a RESET keeps of its flags before SOFTWARE asserts. -/
def noteReset (c : Cmd) (d : Dev) : Dev :=
  rst (fun r => { r with
    cmd := c.order + 1, crown := r.crown || bitOf (leAt c.entry 10 1) 1, starts := if bitOf (leAt c.entry 10 1) 0 then 0 else r.starts }) d

theorem resetCmd_target (bad : ResetTargetBad (leAt c.entry 8 1) (leAt c.entry 9 1)) : resetCmd f c d = complete c stPARAM 9 [] d := by
  by_cases own : leAt c.entry 8 1 = 1 ∧ leAt c.entry 9 1 ≤ 2
  · simp [resetCmd, own]
  · simp only [resetCmd, Bool.and_eq_true, decide_eq_true_eq, if_neg own, if_pos (bad.resolve_left own)]

theorem resetCmd_flags (good : ¬ ResetTargetBad (leAt c.entry 8 1) (leAt c.entry 9 1)) (low : leAt c.entry 8 1 < 4)
    (flags : leAt c.entry 10 1 ≠ 0) : resetCmd f c d = complete c stPARAM 10 [] d := by
  obtain ⟨own, range⟩ := not_or.mp good
  have refused : (decide (leAt c.entry 8 1 < 4) && leAt c.entry 10 1 != 0) = true := by simp [low, flags]
  simp only [resetCmd, Bool.and_eq_true, decide_eq_true_eq, if_neg own, if_neg range]
  rw [if_pos (by simpa using refused)]

theorem resetCmd_asserts (good : ¬ ResetTargetBad (leAt c.entry 8 1) (leAt c.entry 9 1))
    (flags : 4 ≤ leAt c.entry 8 1 ∨ leAt c.entry 10 1 = 0) :
    resetCmd f c d = assertSource f 34 (leAt c.entry 8 1)
      (if leAt c.entry 8 1 = 1 then some (leAt c.entry 9 1) else if leAt c.entry 8 1 = 2 then some (dDIG (leAt c.entry 9 1)) else none)
      (noteReset c d) := by
  obtain ⟨own, range⟩ := not_or.mp good
  have kept : ¬ (leAt c.entry 8 1 < 4 ∧ leAt c.entry 10 1 ≠ 0) := by omega
  simp only [resetCmd, Bool.and_eq_true, decide_eq_true_eq, bne_iff_ne, if_neg own, if_neg range, if_neg kept]
  rfl

end

end Sys2Proof.Machine

/-!
PROOFS. What waits for durability, the Ledger's reading and its reserves, contexts and captures, by the guards of each command (R49 to R60,
R205, R215 to R218).
-/
namespace Sys2Proof.Machine

/-! ### Commands that wait for durability (R50, R52, R217) -/

theorem Dev.awaits.op_eq {d : Dev} {sq tag op : Nat} {c : Cmd} (h : d.awaits sq tag op c) : c.op = op := by
  obtain ⟨_, _, _, _, _, named, _, _⟩ := h
  exact named

/-- The one command in flight has started. -/
theorem begun_alone {d : Dev} {c : Cmd} (alone : d.post.cmds = [c]) : (d.begun c).post.cmds = [c.begun] := by
  simp [Dev.begun, updCmd, alone]

theorem settleWaiting_alone {d : Dev} {c : Cmd} (alone : d.post.cmds = [c]) : settleWaiting d = waitOne c d := by
  simp [settleWaiting, alone]

section
variable {d : Dev} {c : Cmd} (started : c.started = true)
include started

section
variable (sync : c.op = 0x05)
include sync

theorem waitOne_sync_ends (covered : ∀ p, p ∈ pairsOf c.data → p.2 ≤ durable d p.1) :
    waitOne c d = completeOk c (leBytes 8 (if bitOf (leAt c.entry 8 1) 0 then 0 else durable d c.ctx)) d := by
  have all : (pairsOf c.data).all (fun p => decide (p.2 ≤ durable d p.1)) = true := by
    simpa only [List.all_eq_true, decide_eq_true_eq] using covered
  simp [waitOne, started, sync, all]

theorem waitOne_sync_waits (short : ∃ p, p ∈ pairsOf c.data ∧ durable d p.1 < p.2) : waitOne c d = d := by
  obtain ⟨p, listed, less⟩ := short
  have some_short : ¬ (pairsOf c.data).all (fun p => decide (p.2 ≤ durable d p.1)) = true := fun all =>
    absurd (of_decide_eq_true (List.all_eq_true.mp all p listed)) (Nat.not_le.mpr less)
  simp [waitOne, started, sync, some_short]

end

section
variable (close : c.op = 0x44)
include close

theorem waitOne_close_ends (covered : produced d c.ctx ≤ durable d c.ctx) :
    waitOne c d = completeOk c (leBytes 8 (produced d c.ctx)) (closeContext c.ctx d) := by
  simp [waitOne, started, close, covered]

theorem waitOne_close_waits (short : durable d c.ctx < produced d c.ctx) : waitOne c d = d := by
  simp [waitOne, started, close, Nat.not_le.mpr short]

end

theorem waitOne_post_waits (post : c.op = 0x42) (short : postDone d c = false) : waitOne c d = d := by
  simp [waitOne, started, post, short]

end

/-! ### SYNC_DURABLE, CONTEXT_CLOSE and BUFFER_POST -/

section
variable {d : Dev} {c : Cmd}

theorem syncDurable_closed (one : bitOf (leAt c.entry 8 1) 0 = false) (closed : ctxState d c.ctx = 0) :
    syncDurable c d = complete c stCONTEXT 0 [] d := by
  simp [syncDurable, one, closed]

theorem syncDurable_waits (covers : bitOf (leAt c.entry 8 1) 0 = true ∨ ctxState d c.ctx ≠ 0) : syncDurable c d = settleWaiting d := by
  obtain all | here := covers
  · simp [syncDurable, all]
  · simp [syncDurable, here]

theorem contextClose_closed (closed : ctxState d c.ctx = 0) : contextClose c d = complete c stCONTEXT 0 [] d := by
  simp [contextClose, closed]

theorem contextClose_bound (bound : ctxState d c.ctx = 2) : contextClose c d = complete c stSTATE dFABRIC [] d := by
  simp [contextClose, bound]

theorem contextClose_open (opened : ctxState d c.ctx = 1) : contextClose c d = settleWaiting d := by
  simp [contextClose, opened]

/-- The buffers that a BUFFER_POST lists. -/
def postedBufs (c : Cmd) : List Buf :=
  (List.range (c.block.length / 16)).map (fun i => ⟨c.order, leAt c.block (16 * i) 8, leAt c.block (16 * i + 8) 4, 0, i, 0⟩)

/-- The buffers a BUFFER_POST lists, posted to its context. -/
def addBufs (c : Cmd) (d : Dev) : Dev := onCtx c.ctx (fun x => { x with bufs := x.bufs ++ postedBufs c }) d

/-- The first listed buffer that is no multiple of the parcel size. -/
def oddBuf (c : Cmd) (d : Dev) : Option Nat :=
  (List.range (c.block.length / 16)).find? (fun i => leAt c.block (16 * i + 8) 4 % max 1 (ctxSize d c.ctx) != 0)

theorem bufferPost_closed (closed : ctxState d c.ctx = 0) : bufferPost c d = complete c stCONTEXT 0 [] d := by
  simp [bufferPost, closed]

theorem bufferPost_odd (here : ctxState d c.ctx ≠ 0) {i : Nat} (odd : oddBuf c d = some i) :
    bufferPost c d = complete c stPARAM (min 0xFF (0x40 + 16 * i + 8)) [] d := by
  unfold oddBuf at odd
  simp only [bufferPost, if_neg here, odd]

theorem bufferPost_fits (here : ctxState d c.ctx ≠ 0) (fits : oddBuf c d = none) : bufferPost c d = settleWaiting (addBufs c d) := by
  unfold oddBuf at fits
  simp only [bufferPost, if_neg here, fits]
  rfl

theorem oddBuf_eq_none (fit : ∀ i, i < c.block.length / 16 → leAt c.block (16 * i + 8) 4 % max 1 (ctxSize d c.ctx) = 0) :
    oddBuf c d = none := by
  simpa [oddBuf, List.find?_eq_none] using fit

/-- A context that is changed and keeps its number is found changed. -/
theorem findCtx_onCtx (n : Nat) {f : Ctx → Ctx} (keeps : ∀ x, (f x).num = x.num) (d : Dev) :
    findCtx (onCtx n f d) n = (findCtx d n).map f := by
  have same : (fun x : Ctx => x.num == n) ∘ (fun x => if x.num = n then f x else x) = fun x => x.num == n := by
    funext x
    by_cases here : x.num = n <;> simp [here, keeps]
  simp only [findCtx, onCtx, strm_own, List.find?_map, same]
  cases found : d.strm.ctxs.find? (fun x => x.num == n) with
  | none => rfl
  | some x =>
    have here : x.num = n := by simpa using List.find?_some found
    simp [here]

/-- A BUFFER_POST waits for the first buffer it has just posted. -/
theorem postDone_addBufs (here : (findCtx d c.ctx).isSome = true) (some_listed : 0 < c.block.length / 16)
    (length : leAt c.block 8 4 ≠ 0) : postDone (addBufs c d) c = false := by
  obtain ⟨x, found⟩ := Option.isSome_iff_exists.mp here
  have posted : findCtx (addBufs c d) c.ctx = some { x with bufs := x.bufs ++ postedBufs c } := by
    refine (findCtx_onCtx c.ctx (f := fun x => { x with bufs := x.bufs ++ postedBufs c }) (fun _ => rfl) d).trans ?_
    rw [found, Option.map_some]
  have first : (⟨c.order, leAt c.block 0 8, leAt c.block 8 4, 0, 0, 0⟩ : Buf) ∈ postedBufs c :=
    List.mem_map.mpr ⟨0, List.mem_range.mpr some_listed, rfl⟩
  simp only [postDone, posted]
  refine Bool.eq_false_iff.mpr fun all => ?_
  have filled := List.all_eq_true.mp all _ (List.mem_filter.mpr ⟨List.mem_append_right _ first, beq_self_eq_true _⟩)
  simp only [Bool.and_eq_true, beq_iff_eq] at filled
  exact length filled.1.symm

end

/-! ### LEDGER_READ and RESERVE_QUERY (R53, R54) -/

theorem ledgerPick_from {d : Dev} {first count : Nat} : ∀ r ∈ ledgerPick d first count, first ≤ r.seq := fun _ picked =>
  of_decide_eq_true (List.mem_filter.mp (List.mem_of_mem_take picked)).2

theorem ledgerPick_length (d : Dev) (first count : Nat) : (ledgerPick d first count).length ≤ count :=
  List.length_take_le _ _

/-- The sequence number of the first record of a list, 0 of none. -/
def firstSeq (l : List LRec) : Nat := (l.head?.map (·.seq)).getD 0

theorem ledgerRead_answer (c : Cmd) (d : Dev) :
    ledgerRead c d =
      let l := ledgerPick d (leAt c.entry 8 7) (leAt c.entry 16 4)
      completeOk c (leBytes 4 l.length ++ zeros 4 ++ leBytes 7 (firstSeq l)) (hostWrite (leAt c.entry 24 8) (l.flatMap lrecBytes) d) := by
  unfold ledgerRead
  generalize ledgerPick d (leAt c.entry 8 7) (leAt c.entry 16 4) = l
  cases l <;> rfl

theorem inlineChecks_reserveQuery (e : Bytes) : inlineChecks 0x08 e = [chkAlign e 8 64, chkZero e 16 64] := rfl

@[simp] theorem chkAlign_ok (e : Bytes) (o a : Nat) : (chkAlign e o a).1 = decide (leAt e o 8 % a = 0) := rfl

/-- What RESERVE_QUERY answers: H and S. -/
def reserveResult (d : Dev) : Bytes := leBytes 8 (hFree d) ++ leBytes 8 (restFree d)

/-- The record that RESERVE_QUERY writes. -/
def reserveRecord (d : Dev) : Bytes :=
  reserveResult d ++ leBytes 8 (hRes d) ++ leBytes 8 (sRes d) ++ leBytes 4 (restRate d) ++ leBytes 4 ((sumW d + 999999) / 1000000) ++
    leBytes 4 (kWhole d) ++ leBytes 1 d.strm.captures.length ++ zeros 19

theorem reserveRecord_take (d : Dev) : (reserveRecord d).take 16 = reserveResult d := by
  have length : (reserveResult d).length = 16 := by simp [reserveResult]
  simp only [reserveRecord, List.append_assoc]
  rw [← length, List.take_left']
  rfl

theorem reserveQuery_answer (c : Cmd) (d : Dev) :
    reserveQuery c d = completeOk c (reserveResult d)
      (if leAt c.entry 8 8 = 0 then useFresh d else hostWrite (leAt c.entry 8 8) (reserveRecord d) (useFresh d)) := by
  rw [← reserveRecord_take]; rfl

/-! ### CAPTURE_START (R49, R58, R218) -/

section
variable (i : Bytes) (c : Cmd)

/-- The stream set a CAPTURE_START names, the rates of its rungs and that of the floor rung. -/
def capSet : Bytes := record i 6 512 (leAt c.entry 8 2)
def capRungs : List Nat := (List.range 4).map (fun r => leAt (record i 7 16 (leAt c.entry 8 2)) (4 * r) 4)
def capFloor : Nat := (capRungs i c).getD (leAt c.entry 10 1) 0

/-- The bytes a capture reserves. -/
def capBytes : Nat := leAt c.entry 16 4 * capFloor i c

/-- The next reservation number. -/
def nextReserve (d : Dev) : Nat := (d.post.lastReserve + 1) % 2 ^ 32

/-- The body of the RESERVE record of a capture. -/
def reserveBody (rest : Bool) (d : Dev) : Bytes :=
  leBytes 4 (nextReserve d) ++ leBytes 2 c.ctx ++ leBytes 1 (b2n rest) ++ [0#8] ++ leBytes 8 (capBytes i c) ++ leBytes 4 (capFloor i c)

/-- The RESERVE record staged and the reservation noted. -/
def noteReservation (rest : Bool) (d : Dev) : Dev :=
  let e := stage kRESERVE (reserveBody i c rest d) d
  { e with post := { e.post with
    lastReserve := nextReserve d
    reserve := e.post.reserve ++ [⟨nextReserve d, c.ctx, rest, capBytes i c, capFloor i c, imgLineRate i * capFloor i c, 0, leAt c.entry 16 4, false⟩] } }

/-- The contexts of a capture bound to it. -/
def bindContexts (d : Dev) : Dev :=
  (List.range (setEntries (capSet i c))).foldl (fun d e => sf .PROD_CTX_STATUS (c.ctx + e) PROD_CTX_STATUS.STATE 2 d) d

/-- Staging a record leaves the pages alone. -/
theorem stage_pages (kind : Nat) (body : Bytes) (d : Dev) : (stage kind body d).pages = d.pages := by
  unfold stage; split <;> rfl

/-- Neither the reservation nor the binding touches the pages. -/
theorem boundReservation_pages (rest : Bool) (d : Dev) : (bindContexts i c (noteReservation i c rest d)).pages = d.pages := by
  have bound : ∀ (l : List Nat) (d : Dev),
      (l.foldl (fun d e => sf .PROD_CTX_STATUS (c.ctx + e) PROD_CTX_STATUS.STATE 2 d) d).pages = d.pages := by
    intro l
    induction l with
    | nil => exact fun _ => rfl
    | cons e t ih => exact fun d => ih (sf .PROD_CTX_STATUS (c.ctx + e) PROD_CTX_STATUS.STATE 2 d)
  exact (bound _ _).trans (stage_pages kRESERVE (reserveBody i c rest d) d)

/-- The capture as it waits for its first line. -/
def newCapture (d : Dev) : Capture :=
  ⟨c.ctx, nextReserve d, capSet i c, capRungs i c, leAt c.entry 10 1, leAt c.entry 16 4, bitOf (leAt c.entry 11 1) 0,
    sx 64 (leAt c.entry 24 8), d.pages.num, 0, 0, 0, 0, [], [], List.replicate (setEntries (capSet i c)) [],
    List.replicate (setEntries (capSet i c)) [], 0, 0, 0, 0, []⟩

/-- A capture begins. -/
def beginCapture (rest : Bool) (d : Dev) : Dev :=
  completeOk c (leBytes 8 (capBytes i c) ++ leBytes 4 (nextReserve d))
    (showSpace (showCaptures (strm (fun x => { x with captures := x.captures ++ [newCapture i c d] })
      (bindContexts i c (noteReservation i c rest d)))))

/-- A context of the set is not OPEN or has another kind. -/
abbrev SetMismatch (d : Dev) : Prop :=
  ∃ e, e < setEntries (capSet i c) ∧ (ctxState d (c.ctx + e) ≠ 1 ∨ ctxKind d (c.ctx + e) ≠ eKind (capSet i c) e)

end

section
variable {i : Bytes} {c : Cmd} {d : Dev}

theorem setMismatch_iff : (List.range (setEntries (capSet i c))).any (fun e =>
    ctxState d (c.ctx + e) != 1 || ctxKind d (c.ctx + e) != eKind (capSet i c) e) = true ↔ SetMismatch i c d := by
  simp [SetMismatch]

theorem captureStart_noImage (none : activeImage d = none) : captureStart c d = complete c stSTATE dESC [] d := by
  simp only [captureStart, none]

section
variable (image : activeImage d = some i)
include image

theorem captureStart_noSet (beyond : (section_ i 6).2 ≤ leAt c.entry 8 2) : captureStart c d = complete c stBOUND 8 [] d := by
  simp only [captureStart, image, if_pos beyond]

section
variable (set : leAt c.entry 8 2 < (section_ i 6).2)
include set

theorem captureStart_tooLong (long : leAt (capSet i c) 4 4 < leAt c.entry 16 4) : captureStart c d = complete c stBOUND 16 [] d := by
  unfold capSet at long
  simp only [captureStart, image, if_neg (Nat.not_le.mpr set), if_pos long]

section
variable (lines : leAt c.entry 16 4 ≤ leAt (capSet i c) 4 4)
include lines

theorem captureStart_tooMany (many : 2048 < c.ctx + setEntries (capSet i c)) : captureStart c d = complete c stBOUND 4 [] d := by
  unfold capSet at lines many
  simp only [captureStart, image, if_neg (Nat.not_le.mpr set), if_neg (Nat.not_lt.mpr lines), if_pos many]

section
variable (entries : c.ctx + setEntries (capSet i c) ≤ 2048)
include entries

theorem captureStart_mismatch (other : SetMismatch i c d) : captureStart c d = complete c stCONTEXT 0 [] d := by
  have differs := setMismatch_iff.mpr other
  unfold capSet at lines entries differs
  simp only [captureStart, image, if_neg (Nat.not_le.mpr set), if_neg (Nat.not_lt.mpr lines), if_neg (Nat.not_lt.mpr entries), if_pos differs]

section
variable (fits : ¬ SetMismatch i c d)
include fits

theorem captureStart_full (full : 16 ≤ d.strm.captures.length) : captureStart c d = complete c stBOUND 0 [] d := by
  have agrees := fun differs => fits (setMismatch_iff.mp differs)
  unfold capSet at lines entries agrees
  simp only [captureStart, image, if_neg (Nat.not_le.mpr set), if_neg (Nat.not_lt.mpr lines), if_neg (Nat.not_lt.mpr entries), if_neg agrees,
    if_pos full]

section
variable (free : d.strm.captures.length < 16)
include free

theorem captureStart_refused {k : Nat} (refused : admission d (capBytes i c) (imgLineRate i * capFloor i c) = .error k) :
    captureStart c d = complete c stNO_RESERVE k [] d := by
  have agrees := fun differs => fits (setMismatch_iff.mp differs)
  unfold capSet at lines entries agrees
  unfold capBytes capFloor capRungs at refused
  simp only [captureStart, image, if_neg (Nat.not_le.mpr set), if_neg (Nat.not_lt.mpr lines), if_neg (Nat.not_lt.mpr entries), if_neg agrees,
    if_neg (Nat.not_le.mpr free), refused]

section
variable {rest : Bool} (admitted : admission d (capBytes i c) (imgLineRate i * capFloor i c) = .ok rest)
include admitted

theorem captureStart_admitted : captureStart c d =
    if !canStage kRESERVE (reserveBody i c rest d) d then unstart c d else beginCapture i c rest d := by
  have agrees := fun differs => fits (setMismatch_iff.mp differs)
  unfold capSet at lines entries agrees
  unfold capBytes capFloor capRungs at admitted
  simp only [captureStart, image, if_neg (Nat.not_le.mpr set), if_neg (Nat.not_lt.mpr lines), if_neg (Nat.not_lt.mpr entries), if_neg agrees,
    if_neg (Nat.not_le.mpr free), admitted]
  rw [beginCapture, newCapture, ← boundReservation_pages i c rest d]
  rfl

theorem captureStart_noRoom (full : canStage kRESERVE (reserveBody i c rest d) d = false) : captureStart c d = unstart c d := by
  rw [captureStart_admitted image set lines entries fits free admitted, if_pos (by rw [full]; rfl)]

theorem captureStart_begins (room : canStage kRESERVE (reserveBody i c rest d) d = true) : captureStart c d = beginCapture i c rest d := by
  rw [captureStart_admitted image set lines entries fits free admitted, if_neg (by rw [room]; decide)]

end
end
end
end
end
end
end
end

/-! ### CONTEXT_OPEN and CAPTURE_STOP (R205, R216) -/

section
variable {c : Cmd} {d : Dev}

/-- A parcel of an earlier opening lies on a drive that the device has not counted yet. -/
abbrev ParcelOnDrive (c : Cmd) (d : Dev) : Prop :=
  ∃ p ∈ d.strm.parcels, p.ctx = c.ctx ∧ p.unit ≠ 0 ∧ ∃ k ∈ bitsOf p.held 4, (drive d k).seen ≠ 2

theorem parcelOnDrive_iff : d.strm.parcels.any (fun p => p.ctx == c.ctx && p.unit != 0 &&
    (bitsOf p.held 4).any (fun k => (drive d k).seen != 2)) = true ↔ ParcelOnDrive c d := by
  simp [ParcelOnDrive, and_assoc]

/-- The context OPEN, nothing of an earlier opening left. -/
def openContext (c : Cmd) (d : Dev) : Dev :=
  let d := strm (fun s => { s with
    ctxs := s.ctxs ++ [emptyCtx c.ctx (leAt c.entry 16 4)], parcels := s.parcels.filter (fun p => p.ctx ≠ c.ctx) }) d
  let d := sf .PROD_CTX_STATUS c.ctx PROD_CTX_STATUS.KIND (leAt c.entry 8 1) (sf .PROD_CTX_STATUS c.ctx PROD_CTX_STATUS.STATE 1 d)
  let d := wn .PROD_CTX_PARCEL c.ctx (leAt c.entry 12 4) (wn .PROD_CTX_PRODUCED c.ctx 0 (wn .PROD_CTX_LINE c.ctx 0 d))
  wn .LEDG_DURABLE c.ctx 0 { d with post := { d.post with durNvs := mset c.ctx 0 d.post.durNvs } }

/-- The durable number 0 in the mirror, where it is enabled. -/
def mirrorZero (c : Cmd) (d : Dev) : Dev :=
  if rb d .LEDG_MIRROR 0 LEDG_MIRROR.ENABLE then hostWrite (rf d .LEDG_MIRROR 0 LEDG_MIRROR.BASE * 4096 + 8 * c.ctx) (zeros 8) d else d

theorem contextOpen_notClosed (here : ctxState d c.ctx ≠ 0) : contextOpen c d = complete c stCONTEXT 0 [] d :=
  if_pos here

theorem contextOpen_drive (closed : ctxState d c.ctx = 0) (kept : ParcelOnDrive c d) : contextOpen c d = complete c stSTATE dRP [] d := by
  rw [contextOpen, if_neg (not_not_intro closed), if_pos (parcelOnDrive_iff.mpr kept)]

theorem contextOpen_opens (closed : ctxState d c.ctx = 0) (free : ¬ ParcelOnDrive c d) :
    contextOpen c d = completeOk c [] (mirrorZero c (openContext c d)) := by
  rw [contextOpen, if_neg (not_not_intro closed), if_neg (fun kept => free (parcelOnDrive_iff.mp kept))]; rfl

theorem captureStop_none (none : findCap d c.ctx = none) : captureStop c d = complete c stCONTEXT 0 [] d := by
  simp only [captureStop, none]

section
variable {cap : Capture} (found : findCap d c.ctx = some cap)
include found

/-- The capture has ended: it was cut before its first line, or its last line has been handed over. -/
abbrev CapEnded (cap : Capture) (d : Dev) : Prop :=
  cap.stop = 3 ∨ cap.stop = 0 ∧ cap.first ≠ 0 ∧ cap.last ≠ 0 ∧ cap.last ≤ rf d .ESC_LINE 0 ESC_LINE.NUM

/-- An earlier stop taken back. -/
def dropStop (c : Cmd) (d : Dev) : Dev :=
  onCap c.ctx (fun x => { x with stop := 0, last := if x.first = 0 then 0 else x.first + x.maxLines - 1 }) d

/-- A stop set: at the end of the page, at the next hand-over, or at the line named. -/
def setStop (c : Cmd) (cap : Capture) (next : Nat) (d : Dev) : Dev :=
  if leAt c.entry 8 1 = 1 then onCap c.ctx (fun x => { x with stop := 1 }) d
  else if leAt c.entry 8 1 = 2 ∨ leAt c.entry 16 7 + 1 < next then onCap c.ctx (fun x => { x with stop := 2 }) d
  else if cap.first = 0 then onCap c.ctx (fun x => { x with last := leAt c.entry 16 7 + 1 }) d
  else stopAt c.ctx (leAt c.entry 16 7) d

theorem captureStop_ended (ended : CapEnded cap d) : captureStop c d = endCaptures d := by
  simp only [captureStop, found]
  exact if_pos (by simpa [CapEnded, and_assoc] using ended)

theorem captureStop_sets (runs : ¬ CapEnded cap d) :
    captureStop c d = endCaptures (setStop c cap (rf d .ESC_LINE 0 ESC_LINE.NUM) (dropStop c d)) := by
  simp only [captureStop, found]
  rw [if_neg (by simpa [CapEnded, and_assoc] using runs)]
  simp only [setStop, Bool.or_eq_true, decide_eq_true_eq]
  rfl

end
end

end Sys2Proof.Machine

/-!
PROOFS. Parcels on their way to the host, records on their way to NVS, the sources of a reset, replay and the close at a power fail, by the
guards of each (R61 to R70, R221, R267, R368 to R372).
-/
namespace Sys2Proof.Machine

/-! ### Parcels (R66, R221, R267) -/

section
variable {d : Dev} {c : Nat}

theorem parcelFlush_closes {x : Ctx} (found : findCtx d c = some x) (up : domUp d dDMA = true) (part : x.pend ≠ []) :
    parcelFlush c d = closeParcel c x.pend.length false d := by
  simp [parcelFlush, found, up, part]

theorem parcelFlush_other (other : ∀ x, findCtx d c = some x → domUp d dDMA = true → x.pend = []) : parcelFlush c d = d := by
  cases found : findCtx d c with
  | none => simp only [parcelFlush, found]
  | some x =>
    have idle : (x.pend.isEmpty || !domUp d dDMA) = true := by
      cases up : domUp d dDMA with
      | false => exact Bool.or_true _
      | true => simp [other x found up]
    simp only [parcelFlush, found, if_pos idle]

/-- Parcel `p` of a context can be written into posted buffer `b` now. -/
def MayDeliver (d : Dev) (c : Nat) (x : Ctx) (p : Parcel) (b : Buf) : Prop :=
  canDeliver d = true ∧ inHead d c < 4 ∧ findCtx d c = some x ∧
  lowest d c (fun p => !p.host && !p.sent) = some p ∧ x.bufs.find? (fun b => decide (b.used + p.size ≤ b.len)) = some b ∧
  (p.resident = true ∨ p.back = true)

/-- The bytes of a parcel behind what a posted buffer holds, the parcel sent. -/
def writeParcel (c : Nat) (p : Parcel) (b : Buf) (d : Dev) : Dev :=
  onParcel c p.num (fun p => { p with sent := true })
    (onCtx c (fun x => { x with bufs := x.bufs.map (fun y =>
        if y.cmd = b.cmd && y.idx = b.idx then { y with used := y.used + p.size, last := p.num } else y) })
      { d with host := (Mem.clear d.host (b.addr + b.used) p.size).writeBytes (b.addr + b.used) (if p.ret.isEmpty then p.data else p.ret) })

theorem parcelDeliver_writes {x : Ctx} {p : Parcel} {b : Buf} (may : MayDeliver d c x p b) : parcelDeliver c d = writeParcel c p b d := by
  obtain ⟨can, few, found, low, place, here⟩ := may
  have runs : ¬ (!canDeliver d || decide (4 ≤ inHead d c)) = true := by simp [can, few]
  have stays : ¬ (!(p.resident || p.back)) = true := by rw [Bool.not_eq_true', Bool.not_eq_false, Bool.or_eq_true]; exact here
  simp only [parcelDeliver, if_neg runs, found, low, place, if_neg stays]
  rfl

theorem parcelDeliver_other (other : ∀ x p b, ¬ MayDeliver d c x p b) : parcelDeliver c d = d := by
  unfold parcelDeliver
  split
  · rfl
  · rename_i runs
    simp only [Bool.or_eq_true, Bool.not_eq_true', decide_eq_true_eq, not_or, Bool.not_eq_false, Nat.not_le] at runs
    split
    · rename_i x p found low
      split
      · rfl
      · rename_i b place
        split
        · rfl
        · rename_i here
          rw [Bool.not_eq_true', Bool.not_eq_false, Bool.or_eq_true] at here
          exact absurd ⟨runs.1, runs.2, found, low, place, here⟩ (other x p b)
    · rfl

/-- The lowest parcel of a context that has not reached the host is seen to have reached it. -/
def MayReach (d : Dev) (c : Nat) (p : Parcel) : Prop :=
  lowest d c (fun p => !p.host) = some p ∧ p.sent = true ∧ canReach d = true

/-- A parcel in host memory leaves the device. -/
def leaveDevice (c : Nat) (p : Parcel) (d : Dev) : Dev :=
  onParcel c p.num (fun p => { p with host := true, resident := false, back := false }) d

theorem parcelReachedHost_leaves {p : Parcel} (may : MayReach d c p) :
    parcelReachedHost c d = showCtx c (showSpace (dropDone
      (stageOrWait kDELIVER (pairBytes c (through (leaveDevice c p d) c (·.host))) (leaveDevice c p d)))) := by
  obtain ⟨low, sent, can⟩ := may
  simp only [parcelReachedHost, low, sent, can]
  rfl

theorem parcelReachedHost_other (other : ∀ p, ¬ MayReach d c p) : parcelReachedHost c d = d := by
  cases low : lowest d c (fun p => !p.host) with
  | none => simp only [parcelReachedHost, low]
  | some p =>
    have stays : (!p.sent || !canReach d) = true := by
      cases sent : p.sent with
      | false => rfl
      | true => simpa using fun can => other p ⟨low, sent, can⟩
    simp only [parcelReachedHost, low, if_pos stays]

end

/-! ### Records that reach NVS (R61, R64, R66) -/

section
variable {d : Dev}

theorem ledgerNvsWrite_down (down : domUp d dNVS = false) : ledgerNvsWrite d = d := by
  simp [ledgerNvsWrite, down]

section
variable (up : domUp d dNVS = true)
include up

theorem ledgerNvsWrite_empty (empty : d.post.backlog = []) : ledgerNvsWrite d = stageWaiting d := by
  simp [ledgerNvsWrite, up, empty]

section
variable {r : LRec} {t : List LRec} (oldest : d.post.backlog = r :: t)
include oldest

theorem ledgerNvsWrite_noRoom (full : journalRoom r d.post.journal = false) : ledgerNvsWrite d = d := by
  simp [ledgerNvsWrite, up, oldest, full]

/-- A record of the backlog in the journal, with the record that waits for its room staged and the number shown. -/
def enterJournal (r : LRec) (t : List LRec) (d : Dev) : Dev :=
  wn .LEDG_NVS_SEQ 0 r.seq (stageWaiting { d with post :=
    { d.post with backlog := t, journal := (r :: d.post.journal).take 1048576 } })

/-- The parcels that a DELIVER or SPILL record names durable, and what waits for them settled. -/
def makeDurable (r : LRec) (d : Dev) : Dev :=
  settleWaiting (showSpace (shrinkReserve ((recPairs r.body).foldl (fun d p => setDurable p.1 p.2 d) d)))

/-- What a record in the journal does by its kind. -/
def recordTakesEffect (r : LRec) (d : Dev) : Dev :=
  if r.kind = kCHECKPOINT then wn .LEDG_CKPT_SEQ 0 r.seq d
  else if r.kind = kPOWER_CLOSE then sf .LEDG_STATUS 0 LEDG_STATUS.CLOSED 1 d
  else if r.kind = kDELIVER ∨ r.kind = kSPILL then makeDurable r d
  else d

theorem ledgerNvsWrite_enters (room : journalRoom r d.post.journal = true) :
    ledgerNvsWrite d = recordTakesEffect r (enterJournal r t d) := by
  simp only [ledgerNvsWrite, up, oldest, room]
  unfold recordTakesEffect
  by_cases ckpt : r.kind = kCHECKPOINT
  · simp [ckpt, enterJournal, kCHECKPOINT, kPOWER_CLOSE, kDELIVER, kSPILL]
  by_cases close : r.kind = kPOWER_CLOSE
  · simp [close, enterJournal, kCHECKPOINT, kPOWER_CLOSE, kDELIVER, kSPILL]
  simp [ckpt, close, enterJournal, makeDurable]

end
end

section
variable {r : LRec}

theorem recordTakesEffect_checkpoint (kind : r.kind = kCHECKPOINT) : recordTakesEffect r d = wn .LEDG_CKPT_SEQ 0 r.seq d :=
  if_pos kind

theorem recordTakesEffect_powerClose (kind : r.kind = kPOWER_CLOSE) :
    recordTakesEffect r d = sf .LEDG_STATUS 0 LEDG_STATUS.CLOSED 1 d := by
  simp [recordTakesEffect, kind, kCHECKPOINT, kPOWER_CLOSE]

theorem recordTakesEffect_durable (kind : r.kind = kDELIVER ∨ r.kind = kSPILL) : recordTakesEffect r d = makeDurable r d := by
  obtain kind | kind := kind <;> simp [recordTakesEffect, kind, kCHECKPOINT, kPOWER_CLOSE, kDELIVER, kSPILL]

theorem recordTakesEffect_other (ckpt : r.kind ≠ kCHECKPOINT) (close : r.kind ≠ kPOWER_CLOSE) (deliver : r.kind ≠ kDELIVER)
    (spill : r.kind ≠ kSPILL) : recordTakesEffect r d = d := by
  simp [recordTakesEffect, ckpt, close, deliver, spill]

end

/-! ### Checkpoints (R64, R407) -/

/-- A block is being signed, and its record can be staged. -/
def MaySign (d : Dev) : Prop :=
  d.sec.signing ≠ 0 ∧ domUp d dFRANK = true ∧ domUp d dPOST = true ∧ canStage kCHECKPOINT [] d = true

/-- The number of the next checkpoint block. -/
def nextCkpt (d : Dev) : Nat := leAt (d.sec.ckpts.headD []) 8 8 + 1

/-- The text of the next checkpoint block, and the block with its signature. -/
def ckptText (d : Dev) : Bytes :=
  let last := d.sec.signing - 1
  let prev := d.sec.ckpts.headD []
  leBytes 4 0x54504B43 ++ leBytes 2 1 ++ zeros 2 ++ leBytes 8 (nextCkpt d) ++ leBytes 7 (d.sec.ckptSeq + 1) ++ [0#8] ++ leBytes 7 last ++
    [0#8] ++ leBytes 8 d.now ++ (if prev.isEmpty then zeros 64 else digest prev) ++
    digest ((ledgerRange d (d.sec.ckptSeq + 1) last).flatMap lrecBytes) ++ unitId ++ zeros 8
def ckptBlock (d : Dev) : Bytes := ckptText d ++ fitBytes 3309 (Config.mldsaSign d.fresh (ckptText d))

/-- The signed block kept, with its record. -/
def keepCkpt (d : Dev) : Dev :=
  let e := stage kCHECKPOINT (leBytes 8 (nextCkpt d) ++ shake256 32 (ckptBlock d)) (sec (fun s => { s with
    ckpts := (ckptBlock d :: s.ckpts).take 256, ckptSeq := d.sec.signing - 1, signing := 0 }) (useFresh d))
  showSec (wn .LEDG_CKPT_SEQ 0 e.post.seq e)

theorem checkpointSigned_keeps (may : MaySign d) : checkpointSigned d = keepCkpt d := by
  obtain ⟨signing, frank, up, room⟩ := may
  exact if_neg (by simp [signing, frank, up, room])

theorem checkpointSigned_other (other : ¬ MaySign d) : checkpointSigned d = d := by
  refine if_pos (by_contra fun go => other ?_)
  simpa only [MaySign, ne_eq, Bool.or_eq_true, Bool.not_eq_true', decide_eq_true_eq, not_or, Bool.not_eq_false, and_assoc] using go

end

/-! ### Reset sources (R368 to R372) -/

section
variable {k : Nat} {d : Dev}

/-- A source's bit of RST_CAUSE; POWER_ON alone starts the register and the counters afresh. -/
def markCause (k : Nat) (d : Dev) : Dev :=
  if k = 0 then wn .RST_CAUSE 0 1 (wn .RST_COUNT_BLOCK 0 0 (wn .RST_COUNT_DIE 0 0 (wn .RST_COUNT_PATH 0 0 (wn .RST_COUNT_WARM 0 0
    (wn .RST_ISOLATIONS 0 0 d)))))
  else mark .RST_CAUSE k 1 (wn .RST_CAUSE 0 (putBit (rn d .RST_CAUSE 0) k true) d)

/-- What a source does before it joins: its bit, and for PCIE_FLR the function's state. -/
def markSource (k : Nat) (d : Dev) : Dev :=
  if k = 28 then { markCause k d with
    post := { (markCause k d).post with busMaster := false, msixEnable := false }
    wins := (markCause k d).wins.filter (fun x => x.1 / 2 ^ 32 ≠ Win.msixTable.ctorIdx && x.1 / 2 ^ 32 ≠ Win.msixPba.ctorIdx) }
  else markCause k d

/-- A source as it asserts, with its reach and its domains. -/
def assertedBy (k : Nat) (d : Dev) : Asserted := ⟨k, effReach d k 0, reachSet (effReach d k 0) (srcDefault k).2, 0, false⟩

/-- A source that is asserted already, in the reset in progress or behind it. -/
def sourceKnown (k : Nat) (d : Dev) : Bool := d.rst.now_.any (fun x => x.src == k) || d.rst.later.any (fun x => x.src == k)

/-- Any source but SOFTWARE, with its bit set: what it does by the reset in progress. -/
def sourceActs (f : Fuses) (a : Asserted) (d : Dev) : Dev :=
  if sourceKnown a.src d then rst (fun r => { r with later := r.later.map (fun x => if x.src = a.src then { x with gone := false } else x) }) d
  else if !releasing d then joinReset f a d
  else if d.rst.reach < a.reach then joinReset f a
    (sf .RST_STATUS 0 RST_STATUS.RELEASING 0 (isolate (d.rst.doms.lor a.doms) (rst (fun r => { r with left := [] }) d)))
  else if a.doms.land (domMask d.rst.left) = a.doms then endPulses f (rst (fun r => { r with now_ := r.now_ ++ [a] }) d)
  else rst (fun r => { r with later := r.later ++ [a] }) d

theorem assertSource_eq (f : Fuses) (own : k ≠ 34) (d : Dev) :
    assertSource f k 0 none d = sourceActs f (assertedBy k d) (markSource k d) := by
  have other : (k != 34) = true := by simpa using own
  simp only [assertSource, if_neg own, other, Bool.true_and, ite_true, List.append_nil]
  rfl

section
variable {f : Fuses} {a : Asserted}

theorem sourceActs_known (known : sourceKnown a.src d = true) :
    sourceActs f a d = rst (fun r => { r with later := r.later.map (fun x => if x.src = a.src then { x with gone := false } else x) }) d :=
  if_pos known

section
variable (new : sourceKnown a.src d = false)
include new

theorem sourceActs_joins (calm : releasing d = false) : sourceActs f a d = joinReset f a d := by
  simp [sourceActs, new, calm]

section
variable (release : releasing d = true)
include release

theorem sourceActs_overtakes (longer : d.rst.reach < a.reach) : sourceActs f a d = joinReset f a
    (sf .RST_STATUS 0 RST_STATUS.RELEASING 0 (isolate (d.rst.doms.lor a.doms) (rst (fun r => { r with left := [] }) d))) := by
  simp [sourceActs, new, release, longer]

theorem sourceActs_partOf (within : a.reach ≤ d.rst.reach) (left : a.doms.land (domMask d.rst.left) = a.doms) :
    sourceActs f a d = endPulses f (rst (fun r => { r with now_ := r.now_ ++ [a] }) d) := by
  simp only [sourceActs, new, release, if_neg (Nat.not_lt.mpr within), if_pos left]
  rfl

theorem sourceActs_waits (within : a.reach ≤ d.rst.reach) (released : a.doms.land (domMask d.rst.left) ≠ a.doms) :
    sourceActs f a d = rst (fun r => { r with later := r.later ++ [a] }) d := by
  simp only [sourceActs, new, release, if_neg (Nat.not_lt.mpr within), if_neg released]
  rfl

end
end
end

/-- What a command does that asserts source `k` at the device `b`, by the reset in progress. -/
def SourceAsserts (i : Instr) (s : State) (k : Nat) (b : Dev) : Prop :=
  let d := markSource k b
  let a := assertedBy k b
  (sourceKnown k d = true → exec i s = .next (s.after (rst (fun r => { r with
    later := r.later.map (fun x => if x.src = k then { x with gone := false } else x) }) d))) ∧
  (sourceKnown k d = false → releasing d = false → exec i s = .next (s.after (joinReset s.fuses a d))) ∧
  (sourceKnown k d = false → releasing d = true → d.rst.reach < a.reach → exec i s = .next (s.after (joinReset s.fuses a
    (sf .RST_STATUS 0 RST_STATUS.RELEASING 0 (isolate (d.rst.doms.lor a.doms) (rst (fun r => { r with left := [] }) d)))))) ∧
  (sourceKnown k d = false → releasing d = true → a.reach ≤ d.rst.reach → a.doms.land (domMask d.rst.left) = a.doms →
    exec i s = .next (s.after (endPulses s.fuses (rst (fun r => { r with now_ := r.now_ ++ [a] }) d)))) ∧
  (sourceKnown k d = false → releasing d = true → a.reach ≤ d.rst.reach → a.doms.land (domMask d.rst.left) ≠ a.doms →
    exec i s = .next (s.after (rst (fun r => { r with later := r.later ++ [a] }) d)))

theorem sourceAsserts_of_exec {i : Instr} {s : State} {b : Dev} (own : k ≠ 34)
    (run : exec i s = .next (s.after (assertSource s.fuses k 0 none b))) : SourceAsserts i s k b := by
  rw [assertSource_eq s.fuses own b] at run
  unfold SourceAsserts
  simp only [run]
  refine ⟨fun known => ?_, fun new calm => ?_, fun new release longer => ?_, fun new release within left => ?_,
    fun new release within released => ?_⟩
  · rw [sourceActs_known (a := assertedBy k b) known]; rfl
  · rw [sourceActs_joins (a := assertedBy k b) new calm]
  · rw [sourceActs_overtakes (a := assertedBy k b) new release longer]
  · rw [sourceActs_partOf (a := assertedBy k b) new release within left]
  · rw [sourceActs_waits (a := assertedBy k b) new release within released]

/-- A restart that an FW_ACTIVATE asked for, its completion being written. -/
abbrev RestartDue (d : Dev) : Prop := d.sec.restart = true ∧ d.post.formed.any (fun c => c.op == 0xA1) = false

theorem restartSource_restarts (f : Fuses) (due : RestartDue d) :
    restartSource f d = assertSource f 34 4 none (sec (fun s => { s with restart := false }) (rst (fun r => { r with cmd := 0 }) d)) := by
  obtain ⟨restart, written⟩ := due
  exact if_pos (by rw [restart, written]; rfl)

theorem restartSource_other (f : Fuses) (other : ¬ RestartDue d) : restartSource f d = d := by
  refine if_neg fun go => other ?_
  rwa [Bool.and_eq_true, Bool.not_eq_true'] at go

end

/-! ### Replay (R68, R69) -/

section
variable {torn : Nat} {d : Dev}

/-- The scan of a replay is due. -/
abbrev ScanDue (d : Dev) : Prop := domUp d dPOST = true ∧ replaying d = true ∧ d.post.replayStep < 2

/-- The Ledger as the scan leaves it. -/
def scanLedger (torn : Nat) (d : Dev) : Dev :=
  let e := sf .LEDG_STATUS 0 LEDG_STATUS.TORN (b2n (unread torn d != 0)) { d with post := { d.post with stageBad := [] } }
  if unread torn d = 0 then e else occur0 Src.LEDGER_TORN (scanEnds (unread torn d) e)

/-- The rebuild after COLD. -/
def rebuildLedger (ckptSeq : Nat) (d : Dev) : Dev :=
  let top := (d.post.journal.head?.map (·.seq)).getD 0
  let ck := ((d.post.journal.find? (fun r => r.kind == kCHECKPOINT)).map (·.seq)).getD 0
  let e := wn .LEDG_NVS_SEQ 0 top (wn .LEDG_CKPT_SEQ 0 ck (rebuildDurable d))
  releaseHeldDb (sf .LEDG_STATUS 0 LEDG_STATUS.REPLAYING 0 (sec (fun x => { x with ckptSeq := max top ckptSeq })
    { e with post := { e.post with seq := max top ckptSeq, replayStep := 7 } }))

/-- The body of the RESET record of a replay. -/
def resetBody (d : Dev) : Bytes := leBytes 8 d.post.replayReach ++ leBytes 8 d.rst.cause

/-- The replay counted and recorded, its second part to follow. -/
def beginReplay (body : Bytes) (d : Dev) : Dev :=
  let e := stage kRESET body (incSat .LEDG_REPLAYS 0 d)
  releaseHeldDb { e with post := { e.post with replayStep := 2 } }

theorem replay_other (other : ¬ ScanDue d) : replay torn d = d := by
  refine if_pos (by_contra fun go => other ?_)
  simpa only [Bool.or_eq_true, Bool.not_eq_true', decide_eq_true_eq, not_or, Bool.not_eq_false, Nat.not_le, and_assoc] using go

/-- A replay whose scan is due. -/
theorem replay_scans (due : ScanDue d) : replay torn d =
    if d.post.replayReach = 5 then rebuildLedger d.sec.ckptSeq (scanLedger torn d)
    else if !canStage kRESET (resetBody d) d then d else beginReplay (resetBody d) (scanLedger torn d) := by
  obtain ⟨up, replay_, early⟩ := due
  exact if_neg (by simp [up, replay_, early])

theorem replay_cold (due : ScanDue d) (cold : d.post.replayReach = 5) :
    replay torn d = rebuildLedger d.sec.ckptSeq (scanLedger torn d) := by
  rw [replay_scans due, if_pos cold]

theorem replay_records (due : ScanDue d) (short : d.post.replayReach ≠ 5) (room : canStage kRESET (resetBody d) d = true) :
    replay torn d = beginReplay (resetBody d) (scanLedger torn d) := by
  rw [replay_scans due, if_neg short, if_neg (by simp [room])]

theorem replay_noRoom (due : ScanDue d) (short : d.post.replayReach ≠ 5) (full : canStage kRESET (resetBody d) d = false) :
    replay torn d = d := by
  rw [replay_scans due, if_neg short, if_pos (by rw [full]; rfl)]

/-- The second part of a replay is due. -/
abbrev ResumeDue (d : Dev) : Prop :=
  domUp d dPOST = true ∧ domUp d dEP = true ∧ replaying d = true ∧ d.post.replayStep = 2 ∧ canStage kREPLAY_DONE [] d = true

/-- The kept completions written again, in order. -/
def rewriteCpls (d : Dev) : Dev :=
  d.post.written.reverse.foldl (fun d x =>
    hostWrite (rf d .RING_CQ_BASE x.cq RING_CQ_BASE.BASE * 32 + 32 * (x.count % max 1 (cqSize d x.cq))) x.bytes d) d

/-- Descriptors and commands issued again, and conversions started again. -/
def reissueWork (reach doms : Nat) (d : Dev) : Dev :=
  convRestart (d.post.cmds.foldl (fun d c => resumeCmd reach doms c d) (queueReissues d))

/-- The end of a replay, with the counts of parcels and descriptors it issues again. -/
def endReplay (reach parcels descs : Nat) (d : Dev) : Dev :=
  occur0 Src.REPLAY_DONE (sf .LEDG_STATUS 0 LEDG_STATUS.REPLAYING 0
    (stage kREPLAY_DONE (leBytes 4 reach ++ leBytes 4 d.post.written.length ++ leBytes 4 parcels ++ leBytes 4 descs) d))

theorem replayResume_resumes (due : ResumeDue d) : replayResume d =
    let e := rewriteCpls { d with post := { d.post with busMaster := true, replayStep := 7 } }
    endReplay d.post.replayReach (e.strm.parcels.filter (fun p => p.sent && !p.host)).length (reissues e).length
      (reissueWork d.post.replayReach (rf d .RST_LAST 0 RST_LAST.DOMAINS) e) := by
  obtain ⟨post, ep, replay_, second, room⟩ := due
  exact if_neg (by simp [post, ep, replay_, second, room])

theorem replayResume_other (other : ¬ ResumeDue d) : replayResume d = d := by
  refine if_pos (by_contra fun go => other ?_)
  simpa only [Bool.or_eq_true, Bool.not_eq_true', decide_eq_true_eq, not_or, Bool.not_eq_false, ne_eq, not_not, and_assoc] using go

/-! ### A power fail (R67, R388) -/

/-- A power fail acts: the option record enables it, and none has come before. -/
abbrev PowerFailActs (d : Dev) : Prop := d.rst.fail = false ∧ bitOf (winGet d .option 8).toNat 1 = true

/-- The power fail noted, and the axes of running dies in fault. -/
def faultAxes (d : Dev) : Dev :=
  (List.range 8).foldl (fun d a => if domUp d (dDIG (a / 2)) then axFaultWith a 0 d else d) (rst (fun r => { r with fail := true }) d)

/-- Parcels that are sent reach the host, and spill writes in flight end. -/
def endTransfers (d : Dev) : Dev :=
  (List.range 4).foldl (fun d u => spillWriteDone u true d)
    ((d.strm.parcels.filter (fun p => p.sent && !p.host)).foldl (fun d p => parcelReachedHost p.ctx d) d)

/-- The close: the Ledger drains, transfers end, and a POWER_CLOSE with the count of records follows them. -/
def closeDown (d : Dev) : Dev :=
  let d0 := { d with post := { d.post with closing := true } }
  let e := endTransfers (drainLedger d0)
  drainLedger (stage kPOWER_CLOSE (leBytes 4 (d0.post.backlog.length + d0.post.waiting.length + e.post.backlog.length + 1)) e)

theorem powerFail_acts (acts : PowerFailActs d) :
    powerFail d = if domUp (faultAxes d) dPOST then closeDown (faultAxes d) else faultAxes d := by
  obtain ⟨first, enabled⟩ := acts
  have go : ¬ (d.rst.fail || !bitOf (winGet d .option 8).toNat 1) = true := by simp [first, enabled]
  rw [powerFail, if_neg go]
  extract_lets +onlyGivenNames noted faulted
  have same : faultAxes d = faulted := rfl
  rw [same]
  clear_value faulted
  cases up : domUp faulted dPOST with
  | false => simp only [Bool.not_false, Bool.false_eq_true, ite_true, ite_false]
  | true => simp only [closeDown, endTransfers, Bool.not_true, Bool.false_eq_true, ite_true, ite_false]

theorem powerFail_other (other : ¬ PowerFailActs d) : powerFail d = d := by
  refine if_pos (by_contra fun go => other ?_)
  simpa only [Bool.or_eq_true, Bool.not_eq_true', not_or, Bool.not_eq_true, Bool.not_eq_false] using go

end

end Sys2Proof.Machine

/-!
PROOFS. Scrubs and sensors, the ends of NVS writes, a drive's reset input and the chopper, by the guards of each (R64, R76, R274, R330, R403,
R431, R433, R456).
-/
namespace Sys2Proof.Machine

/-! ### Scrubs (R431, R433, R434) -/

section
variable {f : Fuses} {d : Dev} {n : Nat}

theorem scrubPass_runs (up : domUp d (dMEM n) = true) (errors : List (List Nat)) :
    scrubPass f n errors d = occur Src.SCRUB_PASS n 0 0 (incWrap .MEM_SCRUB_PASSES n
      ((errors ++ (injected n d).1).foldl (fun d x => eccFound f n x d) (injected n d).2)) := by
  simp only [scrubPass, up]
  rfl

theorem scrubPass_stopped (down : domUp d (dMEM n) = false) (errors : List (List Nat)) : scrubPass f n errors d = d := by
  simp [scrubPass, down]

/-- An armed injection of a memory shows in its scrub. -/
def scrubInjected (f : Fuses) (d : Dev) (m : Nat) : Dev := (injected m d).1.foldl (fun d x => eccFound f m x d) (injected m d).2

/-- The errors that name an array, MEMORY 2 to 17. -/
def arrayErrors (errors : List (List Nat)) : List (List Nat) := errors.filter (fun x => decide (2 ≤ x.getD 0 0 ∧ x.getD 0 0 ≤ 17))

/-- The two memories that are HBM stacks are no arrays. -/
theorem foldl_arrays (step : Dev → Nat → Dev) (d : Dev) :
    (List.range 18).foldl (fun d m => if m < 2 then d else step d m) d = (List.range' 2 16).foldl step d := by
  have split : List.range 18 = 0 :: 1 :: List.range' 2 16 := by decide
  rw [split, List.foldl_cons, List.foldl_cons, if_pos (by decide), if_pos (by decide)]
  exact List.foldl_ext _ _ _ fun d m listed => if_neg (Nat.not_lt.mpr (List.mem_range'_1.mp listed).1)

theorem arrayScrub_eq (errors : List (List Nat)) : arrayScrub f errors d =
    (List.range' 2 16).foldl (scrubInjected f) ((arrayErrors errors).foldl (fun d x => eccFound f (x.getD 0 0) (x.drop 1) d) d) := by
  rw [← foldl_arrays]
  simp only [arrayScrub, arrayErrors, scrubInjected]

/-! ### Checkpoints that are due (R64) -/

theorem ckptInterval_starts (open_ : d.strm.ctxs ≠ []) : ckptInterval d = ckptStart d := by
  simp [ckptInterval, open_]

theorem ckptInterval_idle (none : d.strm.ctxs = []) : ckptInterval d = d := by
  simp [ckptInterval, none]

end

/-! ### The ends of NVS writes (R237, R401, R403) -/

theorem exec_nvsWriteDone_slot (ok : Bool) (s : State) : exec (.nvsWriteDone 0 ok) s = .next (s.after (slotWritten ok s.dev)) := rfl
theorem exec_nvsWriteDone_option (ok : Bool) (s : State) : exec (.nvsWriteDone 1 ok) s = .next (s.after (optionWritten ok s.dev)) := rfl
theorem exec_nvsWriteDone_baseline (ok : Bool) (s : State) : exec (.nvsWriteDone 2 ok) s = .next (s.after (baselineWritten ok s.dev)) := rfl

section
variable {d : Dev}

/-- A started command of an opcode whose write to NVS is in progress. -/
abbrev nvsWriter (op : Nat) (d : Dev) : Option Cmd := d.post.cmds.find? (fun c => c.op == op && c.started && !c.data.isEmpty)

theorem slotWritten_none (none : nvsWriter 0xA0 d = none) (ok : Bool) : slotWritten ok d = d := by
  simp only [slotWritten, none]

section
variable {c : Cmd} (stages : nvsWriter 0xA0 d = some c)
include stages

theorem slotWritten_agrees : slotWritten true d =
    showSec (completeOk c (leBytes 1 (c.data.getD 1 0)) (nvsFresh 2 (c.data.getD 1 0) (setSlot (c.data.getD 1 0) 1 c.block d))) := by
  simp only [slotWritten, stages, ite_true]

theorem slotWritten_differs : slotWritten false d = showSec (complete c stINTEGRITY 0 [] (setSlot (c.data.getD 1 0) 0 [] d)) := by
  simp only [slotWritten, stages, Bool.false_eq_true, ite_false]

end

theorem optionWritten_none (none : d.sec.optPend = none) (ok : Bool) : optionWritten ok d = d := by
  simp only [optionWritten, none]

/-- The write of an option record over, the record stored where its read-back agrees. -/
def optionEnds (ok : Bool) (r : Bytes) (d : Dev) : Dev := sec (fun x => { x with optPend := none }) (if ok then optionStore r d else d)

/-- What an FW_ACTIVATE asked for beside its record: the failed-start counter cleared, a restart. -/
def activateFlags (c : Cmd) (d : Dev) : Dev :=
  sec (fun x => { x with restart := x.restart || bitOf (leAt c.entry 9 1) 0 })
    (if bitOf (leAt c.entry 9 1) 1 then { d with rst := { d.rst with starts := 0 } } else d)

section
variable {who : Nat} {r : Bytes} (pend : d.sec.optPend = some (who, r)) {ok : Bool}
include pend

theorem optionWritten_register (register : who = 0) : optionWritten ok d = showSec (sf .SEC_OPTION_STATUS 0 SEC_OPTION_STATUS.BUSY 0
    (sf .SEC_OPTION_STATUS 0 SEC_OPTION_STATUS.RESULT (if ok then 1 else 3) (optionEnds ok r d))) := by
  simp only [optionWritten, pend, if_pos register]
  rfl

section
variable (command : who ≠ 0)
include command

theorem optionWritten_gone (gone : (optionEnds ok r d).post.cmds.find? (fun c => c.order + 1 == who) = none) :
    optionWritten ok d = showSec (optionEnds ok r d) := by
  unfold optionEnds at gone ⊢
  simp only [optionWritten, pend, if_neg command, gone]

section
variable {c : Cmd} (sets : (optionEnds ok r d).post.cmds.find? (fun c => c.order + 1 == who) = some c)
include sets

theorem optionWritten_differs (differs : ok = false) : optionWritten ok d = showSec (complete c stINTEGRITY 0 [] (optionEnds ok r d)) := by
  have refused : (!ok) = true := by rw [differs]; rfl
  unfold optionEnds at sets ⊢
  simp only [optionWritten, pend, if_neg command, sets, if_pos refused]

theorem optionWritten_agrees (agrees : ok = true) : optionWritten ok d = showSec (completeOk c [] (activateFlags c (optionEnds ok r d))) := by
  have kept : ¬ (!ok) = true := by rw [agrees]; decide
  unfold optionEnds at sets ⊢
  simp only [optionWritten, pend, if_neg command, sets, if_neg kept, activateFlags]

end
end
end

theorem baselineWritten_none (none : nvsWriter 0x62 d = none) (ok : Bool) : baselineWritten ok d = d := by
  simp only [baselineWritten, none]

section
variable {c : Cmd} (writes : nvsWriter 0x62 d = some c)
include writes

theorem baselineWritten_agrees :
    baselineWritten true d = completeOk c [] (baseStore ((baseFree d).getD 0) c.block (useFresh d)) := by
  simp only [baselineWritten, writes, ite_true]

theorem baselineWritten_differs : baselineWritten false d = complete c stINTEGRITY 0 [] d := by
  simp only [baselineWritten, writes, Bool.false_eq_true, ite_false]

end
end

/-! ### RP_PERST_N (R274) -/

section
variable {d : Dev} {p : Nat}

/-- A running port that is TRAINING and powered. -/
abbrev PortTrains (d : Dev) (p : Nat) : Prop := rpRuns d p = true ∧ rpState d p = 1 ∧ bitOf d.que.pwr p = true

theorem rpPerstHigh_rises (trains : PortTrains d p) :
    rpPerstHigh p d = que (fun q => { q with perst := putBit q.perst p true, pulse := putBit q.pulse p false }) d := by
  obtain ⟨runs, training, powered⟩ := trains
  exact if_neg (by simp [runs, training, powered])

theorem rpPerstHigh_other (other : ¬ PortTrains d p) : rpPerstHigh p d = d := by
  refine if_pos (by_contra fun go => other ?_)
  simpa only [Bool.or_eq_true, Bool.not_eq_true', decide_eq_true_eq, not_or, Bool.not_eq_false, ne_eq, not_not, and_assoc] using go

end

/-! ### CHOPPER_CYCLE (R330, R339) -/

section
variable {d : Dev} {a k reach : Nat} {v : Int}

/-- A coil of an axis whose die runs is driven. -/
abbrev CoilDriven (d : Dev) (a : Nat) : Prop := domUp d (dDIG (a / 2)) = true ∧ rb d .AXH_STATUS a AXH_STATUS.DRIVE = true

/-- The sensed current shown. -/
def showCurrent (a k : Nat) (v : Int) (d : Dev) : Dev := sf .AXH_CURRENT a (if k = 0 then AXH_CURRENT.IA else AXH_CURRENT.IB) (ux 16 v) d

/-- How long the on phase lasts, in 10 ns. -/
def onPhase (a reach : Nat) (d : Dev) : Nat := min (rn d .AXH_TON_MAX a) (max reach (rf d .AXH_CHOP a AXH_CHOP.T_BLANK))

/-- A coil's on phase begun toward its target. -/
def startCoil (a k reach : Nat) (d : Dev) : Dev :=
  onAxis a (fun x => { x with coils := setAt x.coils k ⟨coilTarget d a k, d.now, 10 * onPhase a reach d,
    (rdiv (100 * rf d .AXH_CHOP a AXH_CHOP.T_OFF * rf d .AXH_CHOP a AXH_CHOP.DECAY) 16).toNat⟩ }) d

/-- The on phases that reach T_ON_MAX counted. -/
def countLimited (a lim reach : Nat) (d : Dev) : Dev := if lim ≤ reach then incSat .AX_TON_LIMITED a d else d

/-- The time of an on phase averaged. -/
def averageOn (a on : Nat) (d : Dev) : Dev := onAxis a (fun x => { x with onSum := x.onSum + 10 * on, onNum := x.onNum + 1 }) d

theorem chopperCycle_other (other : ¬ CoilDriven d a) : chopperCycle a k reach v d = d := by
  refine if_pos (by_contra fun go => other ?_)
  simpa only [Bool.or_eq_true, Bool.not_eq_true', not_or, Bool.not_eq_false] using go

theorem chopperCycle_driven (driven : CoilDriven d a) : chopperCycle a k reach v d =
    let e := showCurrent a k v d
    let t := coilTarget e a k
    let g := countLimited a (rn e .AXH_TON_MAX a) reach (startCoil a k reach e)
    if t = 0 then startCoil a k reach e
    else if (t.natAbs : Int) ≤ rdiv (3827 * axCurrent g a) 10000 then averageOn a (onPhase a reach e) g else g := by
  obtain ⟨up, drive⟩ := driven
  exact if_neg (by simp [up, drive])

end

end Sys2Proof.Machine

/-!
PROOFS. The statements of 02_command_interface.md.
-/
namespace Sys2Proof.CommandInterface
open Sys2Proof.Machine

/-- Settles O13: the checks of a ring one by one, in their order; a completion ring by whether it is enabled, has a size and is named. -/
theorem ringEnable : Obligations.RingEnable := by
  unfold Obligations.RingEnable
  refine ⟨fun s n hn up => ?_, fun s n hn up => ?_⟩
  · simp only [exec_sqEnable_up hn up]
    refine ⟨fun on => ?_, fun off => ⟨fun zero => ?_, fun size quota => ⟨fun cqOff => ?_, fun cqOn => ⟨fun beyond => ?_, fun ring sum => ?_⟩⟩⟩⟩
    · rw [sqEnableWrite_enabled on]
    · rw [sqEnableWrite_disabled off, sqTryEnable_refused (sqEnableCheck_param zero) (by decide)]; rfl
    · rw [sqEnableWrite_disabled off, sqTryEnable_refused (sqEnableCheck_state size quota cqOff) (by decide)]; rfl
    · rw [sqEnableWrite_disabled off, sqTryEnable_refused (sqEnableCheck_bound size quota cqOn beyond) (by decide)]; rfl
    · rw [sqEnableWrite_disabled off, sqTryEnable_ok (sqEnableCheck_ok size quota cqOn ring sum)]; rfl
  · simp only [exec_cqEnable_up hn up, exec_cqDisable_up hn up]
    refine ⟨⟨fun on => ?_, fun off => ⟨fun zero => ?_, fun size => ?_⟩⟩, fun free => ?_, fun named => ?_⟩
    · rw [cqEnableWrite_enabled on]
    · rw [cqEnableWrite_param off zero]; rfl
    · rw [cqEnableWrite_ok off size]
    · rw [cqDisableWrite_free (fun ⟨q, hq, on, names⟩ => free q hq on names)]
    · rw [cqDisableWrite_named named]

/-- Settles O14: a ring drains once it is disabled, and at once where nothing of it is in flight. -/
theorem sqDrain : Obligations.SqDrain := by
  unfold Obligations.SqDrain
  intro s n hn up
  simp only [exec_sqDisable_up hn up, exec_sqDrainDone_up hn up]
  refine ⟨⟨fun off => ?_, fun on => ⟨fun busy => ?_, fun _ => ?_⟩⟩, fun done low => ?_, fun done high => ?_, fun other => ?_⟩
  · rw [sqDisableWrite_disabled off]
  · rw [sqDisableWrite_enabled on, sqDrainDone_other (fun done : HasDrained (noteDraining n _) n => busy done.2)]; rfl
  · rw [sqDisableWrite_enabled on]; rfl
  · rw [sqDrainDone_drained done, if_neg (by simpa [drained] using low)]; rfl
  · rw [sqDrainDone_drained done, if_pos (by simpa [drained] using high)]; rfl
  · rw [sqDrainDone_other other]

/-- Settles O15: a doorbell of either kind is held, valid or invalid. -/
theorem doorbells : Obligations.Doorbells := by
  unfold Obligations.Doorbells
  intro s n c hn hc up
  simp only [exec_dbellSq_up hn hc up, exec_dbellCq_up hn hc up]
  refine ⟨fun replay early => ⟨?_, ?_⟩, fun calm => ⟨fun on range ahead credit => ?_, fun on range ahead credit => ?_, fun bad => ?_, fun bad => ?_⟩⟩
  · rw [dbellSqWrite_held replay early]
  · rw [dbellCqWrite_held replay early]
  · rw [dbellSqWrite_judged calm, dbellSqCheck_valid on range ahead credit]
  · rw [dbellCqWrite_judged calm, dbellCqCheck_valid on range ahead credit]
  · rw [dbellSqWrite_judged calm, dbellSqCheck_invalid bad]
  · rw [dbellCqWrite_judged calm, dbellCqCheck_invalid bad]

/-- Settles O16: the next completion by whether a slot is free and its record has room; the signal by what it needs. -/
theorem completionDelivery : Obligations.CompletionDelivery := by
  unfold Obligations.CompletionDelivery
  refine ⟨fun s q hq up master on => ?_, fun s q hq up => ?_⟩
  · have ring : isSq q = true := decide_eq_true hq
    simp only [exec_completionWrite, act_after ring]
    refine ⟨fun idle => ?_, fun c turn => ⟨fun taken unsaid => ?_, fun taken said => ?_, fun slot covers full => ?_, fun slot room => ?_⟩⟩
    · rw [completionWrite_idle up master on idle]
    · rw [completionWrite_waits up master on turn taken, if_neg (by simp [unsaid])]
    · rw [completionWrite_waits up master on turn taken, if_pos said]
    · rw [completionWrite_noRoom up master on turn slot covers full]
    · rw [completionWrite_delivers up master on turn slot room]; rfl
  · have ring : isSq q = true := decide_eq_true hq
    simp only [exec_cqHoldoffExpiry, act_after ring]
    refine ⟨fun on irq since => ?_, fun none => ?_⟩
    · rw [cqHoldoffExpiry_signals up ⟨on, irq, since⟩]; rfl
    · rw [cqHoldoffExpiry_other (fun ⟨on, irq, since⟩ => by simp [on, irq, since.ne'] at none)]

/-- Settles O17: where a command of a ring ends, and the fields of a completion entry one behind the other. -/
theorem completes : Obligations.Completes := by
  unfold Obligations.Completes
  refine ⟨fun c st det r d ring => complete_ring ring st det r d, fun c phase credit sq status tag ctx op detail hc => ?_⟩
  have first : b2n phase + 2 * c.sq = (if phase then 1 else 0) + 2 * c.sq := rfl
  have short : (if phase then 1 else 0) + 2 * c.sq < 256 := by split <;> omega
  have whole := leAt_whole (resultBytes c.result)
  rw [resultBytes, fitBytes_length] at whole
  rw [cplBytes_fields]
  simp only [first, leAt_skip, leAt_leBytes_append, Nat.le_refl, Nat.reduceLeDiff, Nat.reduceSub, Nat.reducePow]
  exact ⟨Nat.mod_eq_of_lt short, Nat.mod_eq_of_lt status, Nat.mod_eq_of_lt tag, Nat.mod_eq_of_lt ctx, Nat.mod_eq_of_lt op,
    Nat.mod_eq_of_lt detail, Nat.mod_eq_of_lt hc, trivial, whole, (congrArg List.length (cplBytes_fields c phase credit)).symm.trans (cplBytes_length c phase credit)⟩

/-- Settles O18: both ways to fetch take an entry check by check. -/
theorem crownAndFetch : Obligations.CrownAndFetch := by
  unfold Obligations.CrownAndFetch
  refine ⟨fun s q block hq => ?_, fun s block => ?_⟩
  · have ring : isSq q = true := decide_eq_true hq
    refine ⟨fun not entry => ?_, fun may => ⟨fun cause => ?_, fun bytes => ?_⟩⟩
    · rw [exec_commandFetch, act_after ring, commandFetch_not not]
    · rw [exec_commandFetch, act_after ring, commandFetch_unread may]; rfl
    · refine admits_of_exec (sq := q) (num := rn s.dev .RING_SQ_FETCHED q) (d := countEntry q s.dev) ?_
      rw [exec_commandFetch, act_after ring, commandFetch_read may]
  · refine ⟨fun not => ⟨fun up => ?_, fun down => ?_⟩, fun on free => ?_⟩
    · rw [exec_crownGo, act_after rfl, crownGo_denied block not, if_pos up]
    · rw [exec_crownGo, act_after rfl, crownGo_denied block not, if_neg (by simp [down])]
    · refine admits_of_exec (sq := crownSq) (num := 0) ?_
      rw [exec_crownGo, act_after rfl, crownGo_admits block on free]

/-- Settles O19: IDENTIFY's answer, ABORT by what its target is, and RESET by its own checks. -/
theorem identifyAbortReset : Obligations.IdentifyAbortReset := by
  unfold Obligations.IdentifyAbortReset
  refine ⟨fun s q tag c h => ?_, fun s q tag c h => ?_, fun s q tag c h => ?_⟩
  · rw [exec_identify, act_awaits s q tag 0x01 c h]
    refine congrArg (fun answer => Host.Outcome.next (s.after (completeOk c.begun answer (s.dev.begun c)))) ?_
    generalize bestOption (s.dev.begun c) = named
    cases named with
    | none => rfl
    | some x => rfl
  · simp only [exec_abort, act_awaits s q tag 0x04 c h]
    refine ⟨fun gone => ?_, fun t named => ⟨fun self => ?_, fun other waits => ?_, fun other runs => ?_⟩⟩
    · rw [abortCmd_none (c := c.begun) gone]
    · rw [abortCmd_itself (c := c.begun) named self]
    · rw [abortCmd_waiting (c := c.begun) named other waits]; rfl
    · rw [abortCmd_started (c := c.begun) named other runs]
      refine ⟨fun op => ?_, fun op => ?_, fun op => ?_, fun op => ?_, fun op => ?_, fun op => ?_, fun op => ?_⟩
      · rw [abortStarted_atOnce op]; rfl
      · rw [abortStarted_activate op]; rfl
      · rw [abortStarted_post op]
      · rw [abortStarted_calRun op]
      · rw [abortStarted_convert op]
      · rw [abortStarted_motion op]
      · rw [abortStarted_never op]
  · simp only [exec_reset, act_awaits s q tag 0x07 c h]
    refine ⟨fun bad => ?_, fun good low flags => ?_, fun one lo hi flags => ?_, fun two hi flags => ?_, fun three zero flags => ?_,
      fun high zero => ?_⟩
    · rw [resetCmd_target (c := c.begun) bad]; rfl
    · rw [resetCmd_flags (c := c.begun) good low flags]; rfl
    · rw [resetCmd_asserts (c := c.begun) (by rw [Cmd.begun_entry, ResetTargetBad, if_pos one]; omega) (.inr flags), Cmd.begun_entry, if_pos one]; rfl
    · rw [resetCmd_asserts (c := c.begun) (by rw [Cmd.begun_entry, ResetTargetBad, if_neg (by omega), if_pos two]; omega) (.inr flags), Cmd.begun_entry, if_neg (by omega), if_pos two]; rfl
    · rw [resetCmd_asserts (c := c.begun) (by rw [Cmd.begun_entry, ResetTargetBad, if_neg (by omega), if_neg (by omega)]; omega) (.inr flags), Cmd.begun_entry, if_neg (by omega), if_neg (by omega)]; rfl
    · rw [resetCmd_asserts (c := c.begun) (by rw [Cmd.begun_entry, ResetTargetBad, if_neg (by omega), if_neg (by omega)]; omega) (.inl high), Cmd.begun_entry, if_neg (by omega), if_neg (by omega)]; rfl

/-- Settles O21: each command by the state of its context, and alone in flight by what is durable; the two queries by what they answer. -/
theorem ledgerAndReserve : Obligations.LedgerAndReserve := by
  unfold Obligations.LedgerAndReserve
  refine ⟨fun s q tag c => ⟨fun h => ?_, fun h up => ?_, fun h up => ?_⟩, fun s q tag c h => ?_, fun e => ?_, fun s q tag c h up => ?_⟩
  · simp only [exec_syncDurable, act_awaits s q tag 0x05 c h]
    refine ⟨fun one closed => ?_, fun covers => ⟨?_, fun alone covered => ?_, fun alone short => ?_⟩⟩
    · rw [syncDurable_closed (c := c.begun) one closed]; rfl
    · rw [syncDurable_waits (c := c.begun) covers]
    · rw [syncDurable_waits (c := c.begun) covers, settleWaiting_alone (begun_alone alone), waitOne_sync_ends (c := c.begun) rfl h.op_eq covered]; rfl
    · rw [syncDurable_waits (c := c.begun) covers, settleWaiting_alone (begun_alone alone), waitOne_sync_waits (c := c.begun) rfl h.op_eq short]
  · simp only [exec_contextClose, act_awaits s q tag 0x44 c h, needDom_up _ _ _ _ up]
    refine ⟨fun closed => ?_, fun bound => ?_, fun opened => ⟨?_, fun alone covered => ?_, fun alone short => ?_⟩⟩
    · rw [contextClose_closed (c := c.begun) closed]; rfl
    · rw [contextClose_bound (c := c.begun) bound]; rfl
    · rw [contextClose_open (c := c.begun) opened]
    · rw [contextClose_open (c := c.begun) opened, settleWaiting_alone (begun_alone alone), waitOne_close_ends (c := c.begun) rfl h.op_eq covered]; rfl
    · rw [contextClose_open (c := c.begun) opened, settleWaiting_alone (begun_alone alone), waitOne_close_waits (c := c.begun) rfl h.op_eq short]
  · simp only [exec_bufferPost, act_awaits s q tag 0x42 c h, needDom_up _ _ _ _ up]
    refine ⟨fun closed => ?_, fun i here odd => ?_, fun here fit => ⟨?_, fun alone found listed length => ?_⟩⟩
    · rw [bufferPost_closed (c := c.begun) closed]; rfl
    · rw [bufferPost_odd (c := c.begun) here odd]; rfl
    · rw [bufferPost_fits (c := c.begun) here (oddBuf_eq_none fit)]; rfl
    · have inFlight : (addBufs c.begun (s.dev.begun c)).post.cmds = [c.begun] := begun_alone alone
      rw [bufferPost_fits (c := c.begun) here (oddBuf_eq_none fit), settleWaiting_alone inFlight,
        waitOne_post_waits (c := c.begun) rfl h.op_eq (postDone_addBufs (c := c.begun) found listed length)]
      rfl
  · refine ⟨ledgerPick_from, ledgerPick_length _ _ _, ?_⟩
    rw [exec_ledgerRead, act_awaits s q tag 0x06 c h, ledgerRead_answer]; rfl
  · simp [inlineChecks_reserveQuery, firstBad_eq_none]
  · rw [exec_reserveQuery, act_awaits s q tag 0x08 c h, needDom_up _ _ _ _ up, reserveQuery_answer, Cmd.begun_entry]
    refine ⟨fun none => ?_, fun buffer => ?_⟩
    · rw [if_pos none]; rfl
    · rw [if_neg buffer]; rfl

/-- Settles O25: the checks of CAPTURE_START in their order, CONTEXT_OPEN by what it finds, and CAPTURE_STOP by whether the capture has ended
and where it is to end. -/
theorem capturesAndContexts : Obligations.CapturesAndContexts := by
  unfold Obligations.CapturesAndContexts
  refine ⟨fun s q tag c i rest h up => ?_, fun s q tag c up => ⟨fun h => ?_, fun h => ?_⟩⟩
  · simp only [exec_captureStart, act_awaits s q tag 0x40 c h, needDom_up _ _ _ _ up]
    refine ⟨fun none => ?_, fun image => ⟨fun beyond => ?_, fun set long => ?_, fun set lines many => ?_, fun set lines entries =>
      ⟨fun other => ?_, fun match_ => ?_⟩⟩⟩
    · rw [captureStart_noImage none]; rfl
    · rw [captureStart_noSet (c := c.begun) image beyond]; rfl
    · rw [captureStart_tooLong (c := c.begun) image set long]; rfl
    · rw [captureStart_tooMany (c := c.begun) image set lines many]; rfl
    · rw [captureStart_mismatch (c := c.begun) image set lines entries other]; rfl
    · have fits : ¬ SetMismatch i c.begun (s.dev.begun c) := by
        rintro ⟨e, he, state | kind⟩
        · exact state (match_ e he).1
        · exact kind (match_ e he).2
      refine ⟨fun full => ?_, fun free => ⟨fun k refused => ?_, fun admitted noRoom => ?_, fun admitted room => ?_⟩⟩
      · rw [captureStart_full (c := c.begun) image set lines entries fits full]; rfl
      · rw [captureStart_refused (c := c.begun) image set lines entries fits free refused]; rfl
      · rw [captureStart_noRoom (c := c.begun) image set lines entries fits free admitted noRoom]
      · rw [captureStart_begins (c := c.begun) image set lines entries fits free admitted room]; rfl
  · simp only [exec_contextOpen, act_awaits s q tag 0x43 c h, needDom_up _ _ _ _ up]
    refine ⟨fun here => ?_, fun closed => ⟨fun kept => ?_, fun gone => ?_⟩⟩
    · rw [contextOpen_notClosed (c := c.begun) here]; rfl
    · rw [contextOpen_drive (c := c.begun) closed kept]; rfl
    · rw [contextOpen_opens (c := c.begun) closed (fun ⟨p, hp, here, held, k, hk, unready⟩ => unready (gone p hp here held k hk))]; rfl
  · simp only [exec_captureStop, act_awaits s q tag 0x41 c h, needDom_up _ _ _ _ up]
    refine ⟨fun none => ?_, fun cap found => ⟨fun ended => ?_, fun runs page => ?_, fun runs other now => ?_, fun runs one two later =>
      ⟨fun waits => ?_, fun begun => ?_⟩⟩⟩
    · rw [captureStop_none (c := c.begun) none]; rfl
    · rw [captureStop_ended (c := c.begun) found ended]
    · rw [captureStop_sets (c := c.begun) found runs, setStop, Cmd.begun_entry, if_pos page]; rfl
    · rw [captureStop_sets (c := c.begun) found runs, setStop, Cmd.begun_entry, if_neg other, if_pos now]; rfl
    all_goals
      have named : ¬ (leAt c.entry 8 1 = 2 ∨ leAt c.entry 16 7 + 1 < rf (s.dev.begun c) .ESC_LINE 0 ESC_LINE.NUM) := by omega
    · rw [captureStop_sets (c := c.begun) found runs, setStop, Cmd.begun_entry, if_neg one, if_neg named, if_pos waits]; rfl
    · rw [captureStop_sets (c := c.begun) found runs, setStop, Cmd.begun_entry, if_neg one, if_neg named, if_neg begun]; rfl

/-- Settles O48: the three events of a parcel, each by whether its parcel may go on. -/
theorem parcelEvents : Obligations.ParcelEvents := by
  unfold Obligations.ParcelEvents
  intro s c hc
  have context : isCtx c = true := decide_eq_true hc
  simp only [exec_parcelFlush, exec_parcelDeliver, exec_parcelReachedHost, act_after context]
  refine ⟨fun x found up part => ?_, fun other => ?_, ⟨fun x p b may => ?_, fun other => ?_⟩, fun p may => ?_, fun other => ?_⟩
  · rw [parcelFlush_closes found up part]
  · rw [parcelFlush_other other]
  · rw [parcelDeliver_writes may]; rfl
  · rw [parcelDeliver_other other]
  · rw [parcelReachedHost_leaves may]; rfl
  · rw [parcelReachedHost_other other]

/-- Settles O49: the oldest record of the backlog by its kind, and a checkpoint by whether it can be kept. -/
theorem ledgerEvents : Obligations.LedgerEvents := by
  unfold Obligations.LedgerEvents
  intro s
  simp only [exec_ledgerNvsWrite, exec_checkpointSigned, act_after rfl]
  refine ⟨fun up => ⟨fun empty => ?_, fun r t oldest => ⟨fun full => ?_, fun room => ?_⟩⟩, fun down => ?_, fun may => ?_, fun other => ?_⟩
  · rw [ledgerNvsWrite_empty up empty]
  · rw [ledgerNvsWrite_noRoom up oldest full]
  · rw [ledgerNvsWrite_enters up oldest room]
    refine ⟨fun ckpt close deliver spill => ?_, fun ckpt => ?_, fun close => ?_, fun durable => ?_⟩
    · rw [recordTakesEffect_other ckpt close deliver spill]; rfl
    · rw [recordTakesEffect_checkpoint ckpt]; rfl
    · rw [recordTakesEffect_powerClose close]; rfl
    · rw [recordTakesEffect_durable durable]; rfl
  · rw [ledgerNvsWrite_down down]
  · rw [checkpointSigned_keeps may]; rfl
  · rw [checkpointSigned_other other]

/-- Settles O56: every command that asserts a source is one assertion of it; THERMAL, a restart and the end of a power fail by their
conditions. -/
theorem resetSources : Obligations.ResetSources := by
  unfold Obligations.ResetSources
  intro s
  refine ⟨sourceAsserts_of_exec (by decide) rfl, fun n hn => sourceAsserts_of_exec (by omega) ?_, sourceAsserts_of_exec (by decide) rfl,
    sourceAsserts_of_exec (by decide) rfl, sourceAsserts_of_exec (by decide) rfl, sourceAsserts_of_exec (by decide) rfl,
    fun n hn => sourceAsserts_of_exec (by omega) ?_, fun n hn => sourceAsserts_of_exec (by omega) ?_,
    fun hot => sourceAsserts_of_exec (by decide) ?_, fun cool => ?_, fun n hn own => sourceAsserts_of_exec own ?_,
    ⟨fun due => ?_, fun other => ?_⟩, fun fail => sourceAsserts_of_exec (by decide) ?_, fun safe => ?_⟩
  · rw [exec_supplyOutOfRange, act_after (decide_eq_true hn.le), if_neg hn.ne]
  · rw [exec_watchdogExpiry, act_after (decide_eq_true hn)]
  · rw [exec_clockLoss, act_after (decide_eq_true hn)]
  · rw [exec_thermal, act_after rfl, if_pos hot]
  · rw [exec_thermal, act_after rfl, if_neg (Bool.eq_false_iff.mp cool)]
  · rw [exec_resetAssert, act_after (decide_eq_true hn), if_neg own]
  · rw [exec_resetAssert, act_after (decide_eq_true (by decide)), if_pos rfl, restartSource_restarts s.fuses due]
  · rw [exec_resetAssert, act_after (decide_eq_true (by decide)), if_pos rfl, restartSource_other s.fuses other]
  · rw [exec_powerFailDeassert, act_after rfl, powerBack, if_pos fail]
  · rw [exec_powerFailDeassert, act_after rfl, powerBack, if_neg (Bool.eq_false_iff.mp safe)]

/-- Settles O59: the two parts of a replay and a power fail, each by whether it is due. -/
theorem replayAndPowerFail : Obligations.ReplayAndPowerFail := by
  unfold Obligations.ReplayAndPowerFail
  refine ⟨fun s torn => ?_, fun s => ⟨?_, ?_⟩⟩
  · simp only [exec_replay, act_after rfl]
    refine ⟨fun up replay early => ⟨fun cold => ?_, fun short room => ?_, fun short full => ?_⟩, fun other => ?_⟩
    · rw [replay_cold ⟨up, replay, early⟩ cold]; rfl
    · rw [replay_records ⟨up, replay, early⟩ short room]; rfl
    · rw [replay_noRoom ⟨up, replay, early⟩ short full]
    · rw [replay_other other]
  · refine ⟨fun due => ?_, fun other => ?_⟩
    · rw [exec_replayResume, act_after rfl, replayResume_resumes due]; rfl
    · rw [exec_replayResume, act_after rfl, replayResume_other other]
  · refine ⟨fun acts => ⟨fun up => ?_, fun down => ?_⟩, fun other => ?_⟩
    · have runs : domUp (faultAxes s.dev) dPOST = true := up
      rw [exec_powerFailAssert, act_after rfl, powerFail_acts acts, if_pos runs]
      simp only [closeDown, endTransfers, faultAxes]
    · have stopped : domUp (faultAxes s.dev) dPOST = false := down
      rw [exec_powerFailAssert, act_after rfl, powerFail_acts acts, if_neg (Bool.eq_false_iff.mp stopped)]; rfl
    · rw [exec_powerFailAssert, act_after rfl, powerFail_other other]

/-- Settles O60: scrubs and sensors by what runs, the three NVS writes by the command that waits and the read-back, RP_PERST_N and the
chopper by their conditions. -/
theorem integrityAndNvs : Obligations.IntegrityAndNvs := by
  unfold Obligations.IntegrityAndNvs
  refine ⟨fun s errors => ?_, fun s ok => ?_, fun s => ?_⟩
  · refine ⟨fun n hn => ⟨fun up => ?_, fun down => ?_⟩, ?_, fun c hc => ?_, fun temps length => ?_,
      fun n hn => ⟨fun up => ?_, fun down => ?_⟩, fun open_ => ?_, fun none => ?_⟩
    · rw [exec_scrubPass, act_after (decide_eq_true hn), scrubPass_runs up]
    · rw [exec_scrubPass, act_after (decide_eq_true hn), scrubPass_stopped down]
    · rw [exec_arrayScrub, act_after rfl, arrayScrub_eq]; rfl
    · rw [exec_bankRestoreDone, act_after (ok := isClass c) (decide_eq_true hc)]; rfl
    · rw [exec_tjUpdate, act_after (decide_eq_true length)]; rfl
    · rw [exec_encFaultClears, act_after (ok := isEncoder n) (decide_eq_true hn), encFaultClears, whenUp, if_pos up]
    · rw [exec_encFaultClears, act_after (ok := isEncoder n) (decide_eq_true hn), encFaultClears, whenUp, if_neg (Bool.eq_false_iff.mp down)]
    · rw [exec_checkpointInterval, act_after rfl, ckptInterval_starts open_]
    · rw [exec_checkpointInterval, act_after rfl, ckptInterval_idle none]
  · refine ⟨⟨fun c stages => ⟨?_, ?_⟩, fun none => ?_⟩,
      fun who r pend => ⟨fun register => ?_, fun command gone => ?_, fun c command sets differs => ?_, fun c command sets agrees => ?_⟩,
      fun none => ?_, fun c writes => ⟨?_, ?_⟩, fun none => ?_⟩
    · rw [exec_nvsWriteDone_slot, slotWritten_agrees stages]
    · rw [exec_nvsWriteDone_slot, slotWritten_differs stages]
    · rw [exec_nvsWriteDone_slot, slotWritten_none none]
    · rw [exec_nvsWriteDone_option, optionWritten_register pend register]; rfl
    · rw [exec_nvsWriteDone_option, optionWritten_gone pend command gone]; rfl
    · rw [exec_nvsWriteDone_option, optionWritten_differs pend command sets differs]; rfl
    · rw [exec_nvsWriteDone_option, optionWritten_agrees pend command sets agrees]; rfl
    · rw [exec_nvsWriteDone_option, optionWritten_none none]
    · rw [exec_nvsWriteDone_baseline, baselineWritten_agrees writes]
    · rw [exec_nvsWriteDone_baseline, baselineWritten_differs writes]
    · rw [exec_nvsWriteDone_baseline, baselineWritten_none none]
  · refine ⟨fun p hp => ⟨fun trains => ?_, fun other => ?_⟩,
      fun a k reach v ha hk => ⟨fun driven => ⟨fun zero => ?_, fun target low => ?_, fun target high => ?_⟩, fun other => ?_⟩⟩
    · rw [exec_rpPerstNHigh, act_after (ok := isDrive p) (decide_eq_true hp), rpPerstHigh_rises trains]
    · rw [exec_rpPerstNHigh, act_after (ok := isDrive p) (decide_eq_true hp), rpPerstHigh_other other]
    · rw [exec_chopperCycle, act_after (by simp [isAxis, ha, hk]), chopperCycle_driven driven]
      exact congrArg (fun d => Host.Outcome.next (s.after d)) (if_pos zero)
    · rw [exec_chopperCycle, act_after (by simp [isAxis, ha, hk]), chopperCycle_driven driven]
      exact congrArg (fun d => Host.Outcome.next (s.after d)) ((if_neg target).trans (if_pos low))
    · rw [exec_chopperCycle, act_after (by simp [isAxis, ha, hk]), chopperCycle_driven driven]
      exact congrArg (fun d => Host.Outcome.next (s.after d)) ((if_neg target).trans (if_neg high))
    · rw [exec_chopperCycle, act_after (by simp [isAxis, ha, hk]), chopperCycle_other other]

end Sys2Proof.CommandInterface

/-!
PROOFS. The Escapement by its guards: the encoders, the host-armed ratio and the commits of generations, the images of the timetable, the
comparator bank and the hand-over (R74 to R99).
-/
namespace Sys2Proof.Machine

/-! ### Registers of the Escapement's cores -/

theorem addrDom_ratioCtrl : addrDom (regAddr .ESC_RATIO_CTRL 0) = dESC := by decide
theorem addrDom_handoverNow : addrDom (regAddr .TTBL_HANDOVER_NOW 0) = dESC := by decide
theorem addrDom_genCommit : addrDom (regAddr .TTBL_GEN_COMMIT 0) = dESC := by decide

section
variable {s : State} (up : domUp s.dev dESC = true)
include up

theorem exec_ratioArm_up : exec .ratioArm s = .next (s.after (ratioCtrl true false s.dev)) := by
  rw [exec_ratioArm, act_after rfl, regCommand_up addrDom_ratioCtrl up]

theorem exec_ratioCancel_up : exec .ratioCancel s = .next (s.after (ratioCtrl false true s.dev)) := by
  rw [exec_ratioCancel, act_after rfl, regCommand_up addrDom_ratioCtrl up]

theorem exec_ttblHandoverNow_up : exec .ttblHandoverNow s = .next (s.after (handoverNow s.dev)) := by
  rw [exec_ttblHandoverNow, act_after rfl, regCommand_up addrDom_handoverNow up]

theorem exec_ttblGenCommit_up {mask : Nat} (classes : mask < 4096) :
    exec (.ttblGenCommit mask) s = .next (s.after (genCommit mask s.dev)) := by
  rw [exec_ttblGenCommit, act_after (decide_eq_true classes), regCommand_up addrDom_genCommit up]

end

/-! ### Encoders (R75, R76) -/

/-- A pair of levels steps exactly where one of its channels changes. -/
theorem quadStep_eq_zero : ∀ a0 b0 a b : Bool, quadStep a0 b0 a b = 0 ↔ (a0 = a ↔ b0 = b) := by decide

/-- The levels of an encoder's channels kept. -/
def keepLevels (n : Nat) (a b : Bool) (d : Dev) : Dev :=
  esc (fun x => { x with chanA := putBit x.chanA n a, chanB := putBit x.chanB n b }) d

/-- What a rise of Z does after its sample: where the encoder decodes and INDEX_EN is set, the position is latched. -/
def latchIndex (n : Nat) (d : Dev) : Dev :=
  if encDecodes d n && rb d .ENC_CFG n ENC_CFG.INDEX_EN then occur (Src.ENC_INDEX n) n 0 0 (ws64 .ENC_INDEX_POS n (trackPos d) d) else d

section
variable {d : Dev} {n : Nat} {a b : Bool}

theorem encoderEdge_islandOff (off : islandUp d = false) : encoderEdge n a b d = d := by
  simp [encoderEdge, off]

theorem encIndex_islandOff (off : islandUp d = false) : encIndex n a b d = d := by
  simp [encIndex, off]

theorem encLos_islandOff (off : islandUp d = false) : encLos n d = d := by
  simp [encLos, off]

theorem trackStill_islandOff (off : islandUp d = false) : trackStill d = d := by
  simp [trackStill, off]

theorem encLos_again (lost : rb d .ENC_STATUS n ENC_STATUS.LOS = true) : encLos n d = d := by
  simp [encLos, lost]

section
variable (up : islandUp d = true)
include up

theorem encIndex_eq : encIndex n a b d = latchIndex n (encoderEdge n a b d) := by
  simp [encIndex, up, latchIndex]

/-- A sample by the three tests it meets; the levels kept change none of them. -/
theorem encoderEdge_up : encoderEdge n a b d =
    if !encDecodes d n then keepLevels n a b d
    else if bitOf d.esc.chanA n ≠ a && bitOf d.esc.chanB n ≠ b then
      occur (Src.ENC_ILLEGAL n) n 0 0 (incSat .ENC_ILLEGAL n (keepLevels n a b d))
    else if quadStep (bitOf d.esc.chanA n) (bitOf d.esc.chanB n) a b = 0 then keepLevels n a b d
    else encCount n (quadStep (bitOf d.esc.chanA n) (bitOf d.esc.chanB n) a b) (keepLevels n a b d) :=
  if_neg (by simp [up])

theorem encoderEdge_both (decodes : encDecodes d n = true) (changedA : bitOf d.esc.chanA n ≠ a) (changedB : bitOf d.esc.chanB n ≠ b) :
    encoderEdge n a b d = occur (Src.ENC_ILLEGAL n) n 0 0 (incSat .ENC_ILLEGAL n (keepLevels n a b d)) := by
  simp [encoderEdge_up up, decodes, changedA, changedB]

theorem encoderEdge_one (decodes : encDecodes d n = true) (one : bitOf d.esc.chanA n = a ↔ bitOf d.esc.chanB n ≠ b) :
    encoderEdge n a b d = encCount n (quadStep (bitOf d.esc.chanA n) (bitOf d.esc.chanB n) a b) (keepLevels n a b d) := by
  have steps : quadStep (bitOf d.esc.chanA n) (bitOf d.esc.chanB n) a b ≠ 0 := by rw [Ne, quadStep_eq_zero]; tauto
  have notBoth : ¬ (bitOf d.esc.chanA n ≠ a ∧ bitOf d.esc.chanB n ≠ b) := by tauto
  simp [encoderEdge_up up, decodes, steps, notBoth]

theorem encoderEdge_keeps (idle : encDecodes d n = false ∨ bitOf d.esc.chanA n = a ∧ bitOf d.esc.chanB n = b) :
    encoderEdge n a b d = keepLevels n a b d := by
  obtain silent | ⟨sameA, sameB⟩ := idle
  · simp [encoderEdge_up up, silent]
  · simp [encoderEdge_up up, sameA, sameB, quadStep_eq_zero]

theorem encLos_sets (found : rb d .ENC_STATUS n ENC_STATUS.LOS = false) :
    encLos n d = occur (Src.ENC_LOS n) n 0 0 (sf .ENC_STATUS n ENC_STATUS.LOS 1 d) := by
  simp [encLos, up, found]

theorem trackStill_up : trackStill d = occur0 Src.TRACK_STILL (wn .ESC_VELOCITY 0 0 d) :=
  if_pos up

end
end

/-! ### Host-armed ratio changes (R82) -/

theorem ratioOk_iff (n m : Nat) : ratioOk n m = true ↔ 0 < n ∧ 0 < m ∧ n ≤ 16777216 * m := by
  simp [ratioOk, and_assoc]

/-- The ratio and the source count that host software has written for the next change. -/
def armedN (d : Dev) : Nat := rf d .ESC_RATIO_NEXT 0 ESC_RATIO_NEXT.N
def armedD (d : Dev) : Nat := rf d .ESC_RATIO_NEXT 0 ESC_RATIO_NEXT.D
def armedAt (d : Dev) : Int := rs64 d .ESC_RATIO_AT 0

/-- LATE cleared, the first act of every ARM. -/
def clearLate (d : Dev) : Dev := sf .ESC_RATIO_STATUS 0 ESC_RATIO_STATUS.LATE 0 d

/-- A ratio in effect, with nothing pending any more. -/
def ratioDone (n m : Nat) (d : Dev) : Dev :=
  sf .ESC_RATIO_STATUS 0 ESC_RATIO_STATUS.PENDING 0 (esc (fun e => { e with ratioPend := none }) (applyRatio n m d))

/-- The source has passed the armed count in the direction it moves. -/
def armedPassed (d : Dev) : Bool :=
  (decide (0 < velocity d) && decide (armedAt d < rs64 d .ESC_MASTER 0)) ||
    (decide (velocity d < 0) && decide (rs64 d .ESC_MASTER 0 < armedAt d))

theorem armedPassed_iff (d : Dev) : armedPassed d = true ↔
    (0 < velocity d ∧ armedAt d < rs64 d .ESC_MASTER 0) ∨ (velocity d < 0 ∧ rs64 d .ESC_MASTER 0 < armedAt d) := by
  simp [armedPassed]

section
variable {d : Dev}

theorem ratioCtrl_cancel : ratioCtrl false true d =
    sf .ESC_RATIO_STATUS 0 ESC_RATIO_STATUS.PENDING 0 (esc (fun e => { e with ratioPend := none }) d) := rfl

/-- A write of ARM by the three tests it meets. -/
theorem ratioCtrl_arm : ratioCtrl true false d =
    if !ratioOk (armedN d) (armedD d) then occur0 Src.RATIO_INVALID (clearLate d)
    else if rs64 d .ESC_MASTER 0 = armedAt d then ratioDone (armedN d) (armedD d) (clearLate d)
    else if armedPassed d then
      occur0 Src.RATIO_LATE (sf .ESC_RATIO_STATUS 0 ESC_RATIO_STATUS.LATE 1 (ratioDone (armedN d) (armedD d) (clearLate d)))
    else sf .ESC_RATIO_STATUS 0 ESC_RATIO_STATUS.PENDING 1
      (esc (fun e => { e with ratioPend := some (armedN d, armedD d, armedAt d) }) (clearLate d)) := rfl

theorem ratioCtrl_invalid (bad : ratioOk (armedN d) (armedD d) = false) :
    ratioCtrl true false d = occur0 Src.RATIO_INVALID (clearLate d) := by
  simp [ratioCtrl_arm, bad]

section
variable (ok : ratioOk (armedN d) (armedD d) = true)
include ok

theorem ratioCtrl_reached (reached : rs64 d .ESC_MASTER 0 = armedAt d) :
    ratioCtrl true false d = ratioDone (armedN d) (armedD d) (clearLate d) := by
  simp [ratioCtrl_arm, ok, reached]

variable (apart : rs64 d .ESC_MASTER 0 ≠ armedAt d)
include apart

theorem ratioCtrl_passed (passed : armedPassed d = true) : ratioCtrl true false d =
    occur0 Src.RATIO_LATE (sf .ESC_RATIO_STATUS 0 ESC_RATIO_STATUS.LATE 1 (ratioDone (armedN d) (armedD d) (clearLate d))) := by
  simp [ratioCtrl_arm, ok, apart, passed]

theorem ratioCtrl_pends (ahead : armedPassed d = false) : ratioCtrl true false d =
    sf .ESC_RATIO_STATUS 0 ESC_RATIO_STATUS.PENDING 1
      (esc (fun e => { e with ratioPend := some (armedN d, armedD d, armedAt d) }) (clearLate d)) := by
  simp [ratioCtrl_arm, ok, apart, ahead]

end
end

/-! ### Commits of generations, and hand-overs host software asks for (R97, R99) -/

/-- The commit of a class pending. -/
def notePending (c : Nat) (d : Dev) : Dev :=
  let m := putBit (rf d .TTBL_GEN_STATUS 0 TTBL_GEN_STATUS.PENDING) c true
  sf .TTBL_GEN_STATUS 0 TTBL_GEN_STATUS.PENDING m (sf .TTBL_GEN_COMMIT 0 TTBL_GEN_COMMIT.CLASS m d)

section
variable {c : Nat} {d : Dev}

theorem commitClass_zero : commitClass 0 d = d := rfl

theorem handoverNow_idle (idle : activeNone d = true) : handoverNow d = countHandover (bringIn false (handoverBegins d)) :=
  if_pos idle

theorem handoverNow_denied (active : activeNone d = false) : handoverNow d = occur0 Src.HANDOVER_NOW_DENIED d :=
  if_neg (Bool.eq_false_iff.mp active)

variable (table : c ≠ 0)
include table

theorem commitClass_notOwned (other : hostOwns d c = false ∨ c = 11) : commitClass c d = occur Src.GEN_OWNER c 0 0 d := by
  simp [commitClass, table, other]

variable (movable : c ≠ 11) (owns : hostOwns d c = true)
include movable owns

theorem commitClass_busy (busy : bankIsBusy d c = true) : commitClass c d = occur Src.SHADOW_BANK_BUSY c 0 0 d := by
  simp [commitClass, table, movable, owns, busy]

theorem commitClass_pends (free : bankIsBusy d c = false) : commitClass c d = notePending c d := by
  simp [commitClass, table, movable, owns, free, notePending]

end

/-! ### Checks of the timetable's entries (R45) -/

theorem inlineChecks_ttblActivate (e : Bytes) : inlineChecks 0x21 e = [chkEnc e 8 4, chkZero e 9 16, chkZero e 24 64] := rfl

theorem inlineChecks_ttblUnload (e : Bytes) : inlineChecks 0x22 e = [chkEnc e 8 4, chkZero e 9 64] := rfl

@[simp] theorem chkEnc_ok (e : Bytes) (o lim : Nat) : (chkEnc e o lim).1 = decide (leAt e o 1 < lim) := rfl

theorem noteBad_cases (r : Option (Nat × Nat)) (c : Chk) : noteBad r c = r ∨ noteBad r c = some c.2 := by
  unfold noteBad
  split
  case isTrue => exact .inl rfl
  case isFalse =>
    cases r with
    | none => exact .inr rfl
    | some x => dsimp only; split <;> simp

theorem foldl_noteBad_mem (l : List Chk) : ∀ r x, l.foldl noteBad r = some x → r = some x ∨ ∃ c ∈ l, c.2 = x := by
  induction l with
  | nil => exact fun _ _ h => .inl h
  | cons c t ih =>
    intro r x h
    obtain first | ⟨y, hy, e⟩ := ih _ _ h
    · obtain kept | found := noteBad_cases r c
      · exact .inl (kept ▸ first)
      · exact .inr ⟨c, List.mem_cons_self, Option.some.inj (found.symm.trans first)⟩
    · exact .inr ⟨y, List.mem_cons_of_mem _ hy, e⟩

/-- A failure found is one of the list's checks. -/
theorem firstBad_mem {l : List Chk} {x : Nat × Nat} (h : firstBad l = some x) : ∃ c ∈ l, c.2 = x :=
  (foldl_noteBad_mem l none x h).resolve_left nofun

/-! ### TTBL_LOAD (R89) -/

theorem mem_freeImages {d : Dev} {n : Nat} : n ∈ freeImages d ↔ n < 4 ∧ d.esc.images.getD n none = none := by
  simp [freeImages]

/-- What TTBL_LOAD_ERR holds of an image that fails a check, but for order 4. -/
def noteLoadErr (st off o : Nat) (d : Dev) : Dev :=
  if o = 4 then d else
    sf .TTBL_LOAD_ERR 0 TTBL_LOAD_ERR.ORDER o (sf .TTBL_LOAD_ERR 0 TTBL_LOAD_ERR.STATUS st (sf .TTBL_LOAD_ERR 0 TTBL_LOAD_ERR.OFFSET off d))

/-- An image of `len` bytes under number `n`, where the choice of the number has used a free value. -/
def placeImage (n len : Nat) (i : Bytes) (d : Dev) : Dev :=
  sf .TTBL_IMAGE n TTBL_IMAGE.LOADED 1 (wn .TTBL_IMAGE_LEN n len (esc (fun e => { e with images := setAt e.images n (some i) }) (useFresh d)))

section
variable {c : Cmd} {d : Dev} (up : domUp d dESC = true)
include up

theorem ttblLoad_failed (cause : Nat) : ttblLoad c (.failed cause) d = complete c stDMA_ERR cause [] d :=
  needDom_up _ _ _ _ up

theorem ttblLoad_bad {b : Bytes} {st off o det : Nat}
    (bad : imageBad d (fitBytes (leAt c.block 8 4) b) (leAt c.block 8 4) = some (st, off, o, det)) :
    ttblLoad c (.ok b) d = complete c st det [] (noteLoadErr st off o d) := by
  rw [ttblLoad, needDom_up _ _ _ _ up]; simp only [bad]; rfl

theorem ttblLoad_places {b : Bytes} {n : Nat} (good : imageBad d (fitBytes (leAt c.block 8 4) b) (leAt c.block 8 4) = none)
    (pick : pickFree d (freeImages d) = some n) :
    ttblLoad c (.ok b) d = completeOk c (leBytes 1 n) (placeImage n (leAt c.block 8 4) (fitBytes (leAt c.block 8 4) b) d) := by
  rw [ttblLoad, needDom_up _ _ _ _ up]; simp only [good, pick]; rfl

end

/-! ### TTBL_UNLOAD (R91) -/

/-- An image that TTBL_UNLOAD leaves: not loaded, active, or about to be. -/
def UnloadRefused (d : Dev) (n : Nat) : Prop :=
  d.esc.images.getD n none = none ∨ (activeNone d = false ∧ activeNum d = n) ∨ (∃ p, d.esc.actPend = some p ∧ p.image = n)

section
variable {c : Cmd} {d : Dev} (up : domUp d dESC = true)
include up

theorem ttblUnload_refused (refused : UnloadRefused d (leAt c.entry 8 1)) : ttblUnload c d = complete c stSTATE dESC [] d := by
  rw [ttblUnload, needDom_up _ _ _ _ up]
  refine if_pos ?_
  obtain empty | ⟨active, same⟩ | ⟨p, pend, same⟩ := refused
  · simp only [empty]; rfl
  · simp [active, same]
  · simp [pend, same]

theorem ttblUnload_unloads (free : ¬ UnloadRefused d (leAt c.entry 8 1)) :
    ttblUnload c d = completeOk c [] (unloadImage (leAt c.entry 8 1) d) := by
  rw [ttblUnload, needDom_up _ _ _ _ up]
  refine if_neg fun refuses => free ?_
  unfold UnloadRefused
  cases pend : d.esc.actPend with
  | none => simpa [pend] using refuses
  | some p => simpa [pend, or_assoc] using refuses

end

/-! ### TTBL_ACTIVATE (R90) -/

/-- The image that is active has the routing and the ladder of another. -/
def RoutingKept (d : Dev) (i : Bytes) : Prop := ∃ a, activeImage d = some a ∧ routing a = routing i

/-- An activation pending. -/
def pendActivation (p : ActPend) (d : Dev) : Dev :=
  sf .TTBL_IMAGE p.image TTBL_IMAGE.PENDING 1 (esc (fun e => { e with actPend := some p }) d)

/-- An activation pending whose position has passed. -/
def pendLate (p : ActPend) (d : Dev) : Dev :=
  occur Src.TTBL_LATE p.image 0 0 (sf .TTBL_STATUS 0 TTBL_STATUS.ACT_LATE 1 (pendActivation p d))

/-- The activation that a command asks for. -/
def asksFor (c : Cmd) (late : Bool) : ActPend := ⟨leAt c.entry 8 1, sx 64 (leAt c.entry 16 8), late, c.sq, c.tag⟩

section
variable {c : Cmd} {d : Dev} (up : domUp d dESC = true)
include up

theorem ttblActivate_notLoaded (empty : d.esc.images.getD (leAt c.entry 8 1) none = none) :
    ttblActivate c d = complete c stSTATE dESC [] d := by
  rw [ttblActivate, needDom_up _ _ _ _ up]; simp only [empty]

variable {i : Bytes} (loaded : d.esc.images.getD (leAt c.entry 8 1) none = some i)
include loaded

theorem ttblActivate_pending (pend : d.esc.actPend.isSome = true) : ttblActivate c d = complete c stSTATE dESC [] d := by
  rw [ttblActivate, needDom_up _ _ _ _ up]; simp only [loaded]
  exact if_pos (by simp [pend])

theorem ttblActivate_captures (captures : d.strm.captures ≠ []) (changes : ¬ RoutingKept d i) :
    ttblActivate c d = complete c stSTATE dESC [] d := by
  rw [ttblActivate, needDom_up _ _ _ _ up]; simp only [loaded]
  refine if_pos ?_
  cases active : activeImage d with
  | none => simp [captures]
  | some a =>
    have differs : routing a ≠ routing i := fun same => changes ⟨a, active, same⟩
    simp [captures, differs]

variable (noPend : d.esc.actPend = none) (may : d.strm.captures = [] ∨ RoutingKept d i)
include noPend may

/-- What TTBL_ACTIVATE does of an image it accepts, by whether its position has passed. -/
theorem ttblActivate_accepts : ttblActivate c d =
    if sx 64 (leAt c.entry 16 8) < trackPos d then
      if activeNone (pendLate (asksFor c true) d) then activateNow (asksFor c true) (pendLate (asksFor c true) d)
      else pendLate (asksFor c true) d
    else pendActivation (asksFor c false) d := by
  rw [ttblActivate, needDom_up _ _ _ _ up]; simp only [loaded]
  refine (if_neg ?_).trans ?_
  · obtain idle | ⟨a, active, same⟩ := may
    · simp [noPend, idle]
    · simp [noPend, active, same]
  · by_cases late : sx 64 (leAt c.entry 16 8) < trackPos d
    · simp only [late, decide_true, Bool.true_and, if_true]; rfl
    · simp only [late, decide_false, Bool.false_and, if_false, Bool.false_eq_true]; rfl

theorem ttblActivate_ahead (ahead : trackPos d ≤ sx 64 (leAt c.entry 16 8)) :
    ttblActivate c d = pendActivation (asksFor c false) d := by
  rw [ttblActivate_accepts up loaded noPend may, if_neg (not_lt.mpr ahead)]

variable (passed : sx 64 (leAt c.entry 16 8) < trackPos d)
include passed

theorem ttblActivate_late (active : activeNone (pendLate (asksFor c true) d) = false) :
    ttblActivate c d = pendLate (asksFor c true) d := by
  rw [ttblActivate_accepts up loaded noPend may, if_pos passed, if_neg (Bool.eq_false_iff.mp active)]

theorem ttblActivate_atOnce (idle : activeNone (pendLate (asksFor c true) d) = true) :
    ttblActivate c d = activateNow (asksFor c true) (pendLate (asksFor c true) d) := by
  rw [ttblActivate_accepts up loaded noPend may, if_pos passed, if_pos idle]

end

/-! ### The comparator bank (R86, R88, R92, R224) -/

section
variable {d : Dev}

theorem slotRelease_slot {x : TEvent × List TEvent} (due : dueSlot d = some x) : slotRelease d = releaseSlot x d := by
  simp [slotRelease, due]

theorem slotRelease_actuation {x : Actuation × List Actuation} (noSlot : dueSlot d = none)
    (due : takeFirst (fun a => reached d a.pos) d.esc.acts = some x) :
    slotRelease d = actFire x.1 (showBank (esc (fun e => { e with acts := x.2 }) d)) := by
  simp [slotRelease, noSlot, due]

theorem slotRelease_none (noSlot : dueSlot d = none) (noAct : takeFirst (fun a => reached d a.pos) d.esc.acts = none) :
    slotRelease d = d := by
  simp [slotRelease, noSlot, noAct]

theorem slotRefill_up (up : domUp d dESC = true) : slotRefill d = refill 384 d := if_pos up

theorem slotRefill_down (down : domUp d dESC = false) : slotRefill d = d := if_neg (Bool.eq_false_iff.mp down)

/-- The generation of a class whose copy is in progress. -/
def copying (d : Dev) (c : Nat) : Option GenPend := d.esc.genPend.find? (fun g => g.cls == c && g.started && !g.copied)

/-- The class bytes of a released generation; none where its image is no longer loaded. -/
def genBody (d : Dev) (c : Nat) (g : GenPend) : Bytes := (genContent ((d.esc.images.getD g.image none).getD []) c g.gen).getD []

/-- The content of a generation in the bank of its class that is not in force, the copy noted. -/
def keepCopy (c : Nat) (g : GenPend) (d : Dev) : Dev :=
  let base := bankAddr c (bankOut d c) 0
  esc (fun e => { e with genPend := e.genPend.map (fun x => if x.cls = c then { x with copied := true } else x) })
    { d with tables := Mem.writeBytes (Mem.clear d.tables base (2 ^ 28)) base (genBody d c g) }

theorem genCopyDone_copies {c : Nat} {g : GenPend} (started : copying d c = some g) : genCopyDone c d = keepCopy c g d := by
  unfold copying at started
  simp only [genCopyDone, started]; rfl

theorem genCopyDone_none {c : Nat} (idle : copying d c = none) : genCopyDone c d = d := by
  unfold copying at idle
  simp only [genCopyDone, idle]

end

/-! ### The hand-over (R90, R95, R365, R432) -/

section
variable {d : Dev} {start : Nat}

/-- A pending image has reached its position, and takes effect where none is active. -/
def ActivationDue (d : Dev) (p : ActPend) : Prop :=
  d.esc.actPend = some p ∧ domUp d dESC = true ∧ d.esc.reverse = false ∧ p.pos ≤ trackPos d

section
variable (idle : activeImage d = none)
include idle

theorem handover_activates {p : ActPend} (due : ActivationDue d p) : handover start d = activateNow p d := by
  obtain ⟨pend, up, forward, reached⟩ := due
  simp [handover, idle, pend, up, forward, reached]

theorem handover_idle (other : ∀ p, ¬ ActivationDue d p) : handover start d = d := by
  unfold handover
  simp only [idle]
  cases pend : d.esc.actPend with
  | none => rfl
  | some p => exact if_neg fun due => other p (by simpa [ActivationDue, pend, and_assoc] using due)

end

section
variable {i : Bytes} (active : activeImage d = some i)
include active

theorem handover_held (held : d.esc.reverse = true ∨ paceHolds d (linePlace d i d.esc.lineK) = true) : handover start d = d := by
  simp only [handover, active]
  exact if_pos (by simpa using held)

variable (forward : d.esc.reverse = false) (free : paceHolds d (linePlace d i d.esc.lineK) = false)
include forward free

/-- The hand-over of a line that nothing holds back, by the tests it meets. -/
theorem handover_free : handover start d =
    if !domUp d dESC then (if linePlace d i d.esc.lineK ≤ trackPos d then passLine d else d)
    else if !startOk d (linePlace d i d.esc.lineK) start then d
    else if d.esc.imageBad then badHandover d
    else lineHandover start i d := by
  simp only [handover, active]
  exact if_neg (by simp [forward, free])

theorem handover_passes (down : domUp d dESC = false) (reached : linePlace d i d.esc.lineK ≤ trackPos d) :
    handover start d = passLine d := by
  simp [handover_free active forward free, down, reached]

theorem handover_notReached (down : domUp d dESC = false) (ahead : trackPos d < linePlace d i d.esc.lineK) : handover start d = d := by
  simp [handover_free active forward free, down, not_le.mpr ahead]

variable (up : domUp d dESC = true)
include up

theorem handover_notCommitted (early : startOk d (linePlace d i d.esc.lineK) start = false) : handover start d = d := by
  simp [handover_free active forward free, up, early]

variable (committed : startOk d (linePlace d i d.esc.lineK) start = true)
include committed

theorem handover_badImage (bad : d.esc.imageBad = true) : handover start d = badHandover d := by
  simp [handover_free active forward free, up, committed, bad]

theorem handover_line (good : d.esc.imageBad = false) : handover start d = lineHandover start i d := by
  simp [handover_free active forward free, up, committed, good]

end
end

end Sys2Proof.Machine

/-!
PROOFS. The statements of 03_escapement_timebase.md.
-/
namespace Sys2Proof.EscapementTimebase
open Sys2Proof.Machine

/-- Settles O22: TTBL_LOAD by what the fetch and the checks answer; TTBL_ACTIVATE by what refuses it, and by whether its position has
passed. -/
theorem timetableCommands : Obligations.TimetableCommands := by
  unfold Obligations.TimetableCommands
  refine ⟨fun e => ?_, fun s q tag c => ?_⟩
  · simp [inlineChecks_ttblActivate, firstBad_eq_none]
  · intro d n pos up
    refine ⟨fun h => ?_, fun h => ?_⟩
    · simp only [exec_ttblLoad, act_awaits s q tag 0x20 c h]
      refine ⟨fun cause => ?_, fun b st off o det bad => ?_, fun b n good pick => ?_⟩
      · rw [ttblLoad_failed up]; rfl
      · rw [ttblLoad_bad (c := c.begun) up bad]; rfl
      · obtain ⟨small, empty⟩ := mem_freeImages.mp (pickFree_mem pick)
        exact ⟨small, empty, by rw [ttblLoad_places (c := c.begun) up good pick]; rfl⟩
    · simp only [exec_ttblActivate, act_awaits s q tag 0x21 c h]
      refine ⟨fun refused => ?_, fun i loaded captures changes => ?_, fun i loaded noPend may => ?_⟩
      · cases loaded : d.esc.images.getD n none with
        | none => rw [ttblActivate_notLoaded (c := c.begun) up loaded]; rfl
        | some i => rw [ttblActivate_pending (c := c.begun) up loaded (refused.resolve_left (by rw [loaded]; exact nofun))]; rfl
      · rw [ttblActivate_captures (c := c.begun) up loaded captures fun ⟨a, active, same⟩ => changes a active same]; rfl
      · refine ⟨fun ahead => ?_, fun passed active => ?_, fun passed idle => ?_⟩
        · rw [ttblActivate_ahead (c := c.begun) up loaded noPend may ahead]; rfl
        · rw [ttblActivate_late (c := c.begun) up loaded noPend may passed active]; rfl
        · rw [ttblActivate_atOnce (c := c.begun) up loaded noPend may passed idle]; rfl

/-- Settles O23: the two checks of the entry are both PARAM; an image leaves unless it is not loaded, active or about to be. -/
theorem imageUnload : Obligations.ImageUnload := by
  unfold Obligations.ImageUnload
  refine ⟨fun e => ⟨?_, fun st det bad => ?_⟩, fun s q tag c h => ?_⟩
  · simp [inlineChecks_ttblUnload, firstBad_eq_none]
  · obtain ⟨check, isOne, fails⟩ := firstBad_mem bad
    rw [inlineChecks_ttblUnload, List.mem_pair] at isOne
    obtain rfl | rfl := isOne <;> exact (congrArg Prod.fst fails).symm
  · intro d n up
    simp only [exec_ttblUnload, act_awaits s q tag 0x22 c h]
    refine ⟨fun refused => ?_, fun loaded noPend idle => ?_⟩
    · rw [ttblUnload_refused (c := c.begun) up refused]; rfl
    · have free : ¬ UnloadRefused d n := by
        rintro (empty | ⟨active, same⟩ | ⟨p, pend, same⟩)
        · exact Option.not_isSome_iff_eq_none.mpr empty loaded
        · exact idle.elim (by simp [active]) (absurd same)
        · exact noPend p pend same
      rw [ttblUnload_unloads (c := c.begun) up free]; rfl

/-- Settles O32: an ARM by the ratio and by where the armed count lies; a commit by who owns the class and whether its bank is free. -/
theorem ratioAndGenerations : Obligations.RatioAndGenerations := by
  unfold Obligations.RatioAndGenerations
  refine ⟨fun s up => ?_, fun s up => ⟨fun idle => ?_, fun active => ?_, fun mask classes => ?_, fun c d => ⟨?_, ?_, ?_, ?_⟩⟩⟩
  · intro n m now at_ passed d applied
    rw [exec_ratioArm_up up, exec_ratioCancel_up up, ratioCtrl_cancel]
    refine ⟨fun bad => ?_, fun hn hm bound => ?_, rfl⟩
    · have invalid : ratioOk (armedN s.dev) (armedD s.dev) = false := by
        rw [← Bool.not_eq_true, ratioOk_iff]
        change 0 < n ∧ 0 < m ∧ n ≤ 16777216 * m → False
        omega
      rw [ratioCtrl_invalid invalid]; rfl
    · have ok : ratioOk (armedN s.dev) (armedD s.dev) = true := (ratioOk_iff n m).mpr ⟨hn, hm, bound⟩
      refine ⟨fun reached => ?_, fun apart late => ?_, fun apart ahead => ?_⟩
      · rw [ratioCtrl_reached ok reached]; rfl
      · rw [ratioCtrl_passed ok apart ((armedPassed_iff s.dev).mpr late)]; rfl
      · rw [ratioCtrl_pends ok apart (Bool.eq_false_iff.mpr fun late => ahead ((armedPassed_iff s.dev).mp late))]; rfl
  · rw [exec_ttblHandoverNow_up up, handoverNow_idle idle]
  · rw [exec_ttblHandoverNow_up up, handoverNow_denied active]
  · rw [exec_ttblGenCommit_up up classes]; rfl
  · exact commitClass_zero
  · exact commitClass_notOwned
  · exact commitClass_busy
  · exact commitClass_pends

/-- Settles O40: a sample by how many channels change; a rise of Z latches after its sample. -/
theorem encoderEvents : Obligations.EncoderEvents := by
  unfold Obligations.EncoderEvents
  intro s n a b hn
  have unit : isEncoder n = true := decide_eq_true hn
  simp only [exec_encoderEdge, exec_encIndex, exec_encLos, exec_trackStill, act_after unit, act_after rfl]
  refine ⟨fun up => ⟨fun decodes changedA changedB => ?_, fun decodes one => ?_, fun idle => ?_, fun found => ?_, fun lost => ?_, ?_⟩,
    fun off => ?_⟩
  · rw [encIndex_eq up, encoderEdge_both up decodes changedA changedB]; exact ⟨rfl, rfl⟩
  · rw [encIndex_eq up, encoderEdge_one up decodes one]; exact ⟨rfl, rfl⟩
  · rw [encIndex_eq up, encoderEdge_keeps up idle]; exact ⟨rfl, rfl⟩
  · rw [encLos_sets up found]
  · rw [encLos_again lost]
  · rw [trackStill_up up]
  · simp [act_after unit, act_after rfl, encoderEdge_islandOff off, encIndex_islandOff off, encLos_islandOff off, trackStill_islandOff off]

/-- Settles O41: each event of the comparator bank by what is due. -/
theorem escapementEvents : Obligations.EscapementEvents := by
  unfold Obligations.EscapementEvents
  intro s
  simp only [exec_slotRelease, exec_slotRefill, act_after rfl]
  refine ⟨fun x due => ?_, fun a t noSlot due => ?_, fun noSlot noAct => ?_, fun up => ?_, fun down => ?_,
    fun c hc => ⟨fun g up started => ?_, fun other => ?_⟩, fun o ho => ?_⟩
  · rw [slotRelease_slot due]; rfl
  · rw [slotRelease_actuation noSlot due]; rfl
  · rw [slotRelease_none noSlot noAct]
  · rw [slotRefill_up up]
  · rw [slotRefill_down down]
  · rw [exec_genCopyDone, act_after (ok := isClass c) (decide_eq_true hc), whenUp, if_pos up, genCopyDone_copies started]; rfl
  · rw [exec_genCopyDone, act_after (ok := isClass c) (decide_eq_true hc), whenUp]
    obtain down | idle := other
    · rw [if_neg (Bool.eq_false_iff.mp down)]
    · rw [genCopyDone_none idle, ite_self]
  · rw [exec_evoutPulseEnd, act_after (ok := isOutput o) (decide_eq_true ho)]; rfl

/-- Settles O42: with no image active, by whether a pending one is due; with one active, by what holds the line back, whether the cores
run, whether the start is committed and whether the image can be read. -/
theorem lineHandovers : Obligations.LineHandovers := by
  unfold Obligations.LineHandovers
  intro s start
  simp only [exec_handover, act_after rfl]
  refine ⟨fun idle => ⟨fun p pend up forward reached => ?_, fun ahead => ?_⟩, fun i active => ⟨fun held => ?_, fun forward free =>
    ⟨fun down reached => ?_, fun down ahead => ?_, fun up early => ?_, fun up committed bad => ?_, fun up committed good => ?_⟩⟩⟩
  · rw [handover_activates idle ⟨pend, up, forward, reached⟩]; rfl
  · rw [handover_idle idle fun p ⟨pend, up, forward, reached⟩ => not_le.mpr (ahead p pend up forward) reached]
  · rw [handover_held active held]
  · rw [handover_passes active forward free down reached]; rfl
  · rw [handover_notReached active forward free down ahead]
  · rw [handover_notCommitted active forward free up early]
  · rw [handover_badImage active forward free up committed bad]; rfl
  · rw [handover_line active forward free up committed good]

end Sys2Proof.EscapementTimebase

/-!
PROOFS. When what follows a command is nothing, and what the port commands, the power sequence of a segment and the events of a lane do, by
the guards of each.
-/
namespace Sys2Proof.Machine

/-! ### What follows a command -/

section
variable {d : Dev}

/-- The calibration has nothing to follow up: no head whose serial could have changed, no run a segment could leave, and BUSY as it is. -/
abbrev CalQuiet (d : Dev) : Prop :=
  d.fe.heads = [] ∧ d.cal.run = none ∧ rb d .CAL_STATUS 0 CAL_STATUS.BUSY = calBusy d

theorem calSettle_quiet (quiet : CalQuiet d) : calSettle d = d := by
  obtain ⟨heads, run, busy⟩ := quiet
  simp [calSettle, heads, run, busy]

theorem ckptDue_early (early : d.post.sinceCkpt < 65536) : ckptDue d = d := if_neg (Nat.not_le.mpr early)

theorem settleOnce_quiet (noWork : d.rq = []) (quiet : CalQuiet d) (early : d.post.sinceCkpt < 65536) : settleOnce d = d := by
  rw [settleOnce, drainRq_none 64 d noWork, calSettle_quiet quiet, ckptDue_early early]

/-- Where a round of what follows changes nothing and asks for nothing, no other follows it. -/
theorem settle_of_settleOnce (still : settleOnce d = d) (noWork : d.rq = []) : settle d = d := by
  simp [settle, settleN, still, noWork]

end

/-! ### PORT_CTRL (R122, R123, R125) -/

theorem addrDom_portCtrl : ∀ p < 48, addrDom (regAddr .PORT_CTRL p) = dDIG (p / 12) := by decide

section
variable {p : Nat} {s : State} (hp : p < 48) (up : domUp s.dev (dDIG (p / 12)) = true)
include hp up

theorem exec_portResume_up : exec (.portResume p) s = .next (s.after (portCtrl p true false s.dev)) := by
  rw [exec_portResume, act_after (ok := isPort p) (decide_eq_true hp), regCommand_up (addrDom_portCtrl p hp) up]

theorem exec_portPowerOff_up : exec (.portPowerOff p) s = .next (s.after (portCtrl p false true s.dev)) := by
  rw [exec_portPowerOff, act_after (ok := isPort p) (decide_eq_true hp), regCommand_up (addrDom_portCtrl p hp) up]

end

section
variable {d : Dev} {p k : Nat} {r : Bytes}

theorem portCtrl_noSegment (noSegment : segOfPort d p = none) (resume powerOff : Bool) : portCtrl p resume powerOff d = d := by
  simp only [portCtrl, noSegment]

section
variable (found : segOfPort d p = some (k, r))
include found

theorem portCtrl_resumes_ready (ready : (seg d k).st = .ready) : portCtrl p true false d = enterLive k d := by
  simp [portCtrl, found, ready]

theorem portCtrl_resumes_unpowered (unpowered : (seg d k).st = .fault ∨ (seg d k).st = .off) :
    portCtrl p true false d = segPowerUp k d := by
  obtain fault | off := unpowered
  · simp [portCtrl, found, fault]
  · simp [portCtrl, found, off]

theorem portCtrl_resume_stays (ready : (seg d k).st ≠ .ready) (fault : (seg d k).st ≠ .fault) (off : (seg d k).st ≠ .off) :
    portCtrl p true false d = d := by
  simp [portCtrl, found, ready, fault, off]

theorem portCtrl_powersOff (present : (seg d k).st ≠ .absent) : portCtrl p false true d = segPowerDown k .off 10 d := by
  simp [portCtrl, found, present]

theorem portCtrl_powerOff_absent (absent : (seg d k).st = .absent) : portCtrl p false true d = d := by
  simp [portCtrl, found, absent]

end

/-! ### The power sequence of a segment (R122, R124) -/

/-- Segment `k` is in its power-up, at step `n`. -/
abbrev PoweringAt (d : Dev) (k n : Nat) : Prop := (seg d k).st = .powering ∧ (seg d k).step = n

theorem segPowerEnable_powers (at1 : PoweringAt d k 1) :
    segPowerEnable k d = setSeg k (fun x => { x with step := 2, powered := true }) d := if_pos (by simpa using at1)

theorem segPowerEnable_stays (other : ¬ PoweringAt d k 1) : segPowerEnable k d = d := if_neg (by simpa using other)

section
variable (found : segRec d k = some r)
include found

theorem segLanesAcquire_lanes (at2 : PoweringAt d k 2) (lanes : rSrc r 2 = true) :
    segLanesAcquire k d = (rPorts r).foldl (fun d p => setLane p 1 d) (setSeg k (fun x => { x with step := 3 }) d) := by
  simp [segLanesAcquire, found, at2, lanes]

theorem segLanesAcquire_noLanes (at2 : PoweringAt d k 2) (noLanes : rSrc r 2 = false) :
    segLanesAcquire k d = segSequenceDone k r (setSeg k (fun x => { x with step := 3 }) d) := by
  simp [segLanesAcquire, found, at2, noLanes]

theorem segLanesAcquire_stays (other : ¬ PoweringAt d k 2) : segLanesAcquire k d = d := by
  simp only [segLanesAcquire, found]
  exact if_neg (by simpa using other)

theorem segLockTimeout_faults (at3 : PoweringAt d k 3) (unlocked : lanesLocked d r = false) : segLockTimeout k d = segFault k r d := by
  simp [segLockTimeout, found, at3, unlocked]

theorem segLockTimeout_stays (other : ¬ (PoweringAt d k 3 ∧ lanesLocked d r = false)) : segLockTimeout k d = d := by
  simp only [segLockTimeout, found]
  exact if_neg (by simpa using other)

theorem segRelockTimeout_faults (relock : (seg d k).st = .relock) (unlocked : lanesLocked d r = false) :
    segRelockTimeout k d = segFault k r d := by
  simp [segRelockTimeout, found, relock, unlocked]

theorem segRelockTimeout_stays (other : ¬ ((seg d k).st = .relock ∧ lanesLocked d r = false)) : segRelockTimeout k d = d := by
  simp only [segRelockTimeout, found]
  exact if_neg (by simpa using other)

end

/-! ### Frames of a lane (R114, R116) -/

/-- A window of lane `p` is open, has begun and still waits for its frame. -/
abbrev AwaitsFrame (d : Dev) (p : Nat) : Prop :=
  mget d.fe.winLine p ≠ 0 ∧ bitOf d.fe.winGot p = false ∧ mget d.fe.winAt p ≤ 16 * d.now

/-- The line that the open window of lane `p` reads. -/
def windowLine (d : Dev) (p : Nat) (r : Bytes) : Option Nat := lagLine (mget d.fe.winLine p - 1) (rLag r)

/-- The open window of lane `p` has its frame. -/
def takeFrame (p : Nat) (d : Dev) : Dev := fe (fun x => { x with winGot := putBit x.winGot p true }) d

/-- K29.7 stands where the length asks, and the payload is as long as the segment's samples. -/
abbrev FrameWhole (r : Bytes) (lengthOk : Bool) (payload : Bytes) : Prop :=
  lengthOk = true ∧ payload.length = (rSamples r 2 * rLaneBits r + 7) / 8

/-- The check of a frame is that of its content. -/
abbrev FrameChecks (seq : Nat) (ignored payload : Bytes) (crc : Nat) : Prop :=
  crc = crc32c (leBytes 2 seq ++ fitBytes 2 ignored ++ payload)

/-- A SEQ is neither the next nor the first after ACQUIRE. -/
abbrev SeqSkips (d : Dev) (p seq : Nat) : Prop :=
  bitOf d.fe.seqFresh p = false ∧ seq ≠ (rf d .LANE_SEQ p LANE_SEQ.SEQ + 1) % 65536

/-- The SEQ of a good frame kept. -/
def keepSeq (p seq : Nat) (d : Dev) : Dev :=
  fe (fun x => { x with seqFresh := putBit x.seqFresh p false }) (sf .LANE_SEQ p LANE_SEQ.SEQ seq d)

/-- A skip of SEQ counted, with its event. -/
def countSkip (p : Nat) (d : Dev) : Dev := occur (Src.LANE_SEQ (portDie p)) (portDie p) p 0 (incSat .LANE_SEQ_SKIP p d)

/-- The SEQ of a frame that meets every test is kept, and a skip counted. -/
def goodFrame (p seq : Nat) (d : Dev) : Dev :=
  if !bitOf d.fe.seqFresh p && seq ≠ (rf d .LANE_SEQ p LANE_SEQ.SEQ + 1) % 65536 then countSkip p (keepSeq p seq d) else keepSeq p seq d

theorem goodFrame_skips {seq : Nat} (skips : SeqSkips d p seq) : goodFrame p seq d = countSkip p (keepSeq p seq d) :=
  if_pos (by simpa using skips)

theorem goodFrame_next {seq : Nat} (next : ¬ SeqSkips d p seq) : goodFrame p seq d = keepSeq p seq d :=
  if_neg (by simpa using next)

/-- The samples of a payload go to the line a window reads, where it reads one. -/
def keepPayload (p : Nat) (r : Bytes) (line : Option Nat) (payload : Bytes) (d : Dev) : Dev :=
  match line with
  | some n => keepSamples n p 2 ((List.range (rSamples r 2)).map (laneSample payload (rLaneBits r))) d
  | none => d

section
variable {codeErr lengthOk : Bool} {seq : Nat} {ignored payload : Bytes} {crc : Nat}

theorem laneFrameRx_noSegment (noSegment : segOfPort d p = none) : laneFrameRx p codeErr lengthOk seq ignored payload crc d = d := by
  simp [laneFrameRx, noSegment]

theorem laneFrameRx_unlocked (unlocked : laneState d p ≠ 2) : laneFrameRx p codeErr lengthOk seq ignored payload crc d = d := by
  simp [laneFrameRx, unlocked]

variable (up : domUp d (dDIG (portDie p)) = true) (locked : laneState d p = 2) (found : segOfPort d p = some (k, r))
include up locked found

/-- What a LOCKED lane of a segment does with a frame, by whether a window waits for it and by the tests the frame meets. -/
theorem laneFrameRx_seen : laneFrameRx p codeErr lengthOk seq ignored payload crc d =
    if mget d.fe.winLine p = 0 || bitOf d.fe.winGot p || decide (16 * d.now < mget d.fe.winAt p) then laneError .LANE_EXTRA p d
    else if codeErr then maskRead r (windowLine d p r) (laneError .LANE_CODE_ERR p (takeFrame p d))
    else if !lengthOk || payload.length ≠ (rSamples r 2 * rLaneBits r + 7) / 8 then
      maskRead r (windowLine d p r) (laneError .LANE_FRAME_ERR p (takeFrame p d))
    else if crc ≠ crc32c (leBytes 2 seq ++ fitBytes 2 ignored ++ payload) then
      maskRead r (windowLine d p r) (laneError .LANE_CRC_ERR p (takeFrame p d))
    else keepPayload p r (windowLine d p r) payload (goodFrame p seq (takeFrame p d)) := by
  simp only [laneFrameRx, found]
  exact if_neg (by simp [up, locked])

theorem laneFrameRx_extra (extra : ¬ AwaitsFrame d p) :
    laneFrameRx p codeErr lengthOk seq ignored payload crc d = laneError .LANE_EXTRA p d := by
  rw [laneFrameRx_seen up locked found]
  refine if_pos (by_contra fun awaits => extra ?_)
  simpa [and_assoc] using awaits

variable (awaits : AwaitsFrame d p)
include awaits

/-- The frame of a window, by the tests it meets. -/
theorem laneFrameRx_taken : laneFrameRx p codeErr lengthOk seq ignored payload crc d =
    if codeErr then maskRead r (windowLine d p r) (laneError .LANE_CODE_ERR p (takeFrame p d))
    else if !lengthOk || payload.length ≠ (rSamples r 2 * rLaneBits r + 7) / 8 then
      maskRead r (windowLine d p r) (laneError .LANE_FRAME_ERR p (takeFrame p d))
    else if crc ≠ crc32c (leBytes 2 seq ++ fitBytes 2 ignored ++ payload) then
      maskRead r (windowLine d p r) (laneError .LANE_CRC_ERR p (takeFrame p d))
    else keepPayload p r (windowLine d p r) payload (goodFrame p seq (takeFrame p d)) := by
  rw [laneFrameRx_seen up locked found]
  exact if_neg (by simpa [and_assoc] using awaits)

theorem laneFrameRx_codeError : laneFrameRx p true lengthOk seq ignored payload crc d =
    maskRead r (windowLine d p r) (laneError .LANE_CODE_ERR p (takeFrame p d)) :=
  laneFrameRx_taken up locked found awaits

theorem laneFrameRx_lengthError (broken : ¬ FrameWhole r lengthOk payload) : laneFrameRx p false lengthOk seq ignored payload crc d =
    maskRead r (windowLine d p r) (laneError .LANE_FRAME_ERR p (takeFrame p d)) := by
  rw [laneFrameRx_taken up locked found awaits, if_neg Bool.false_ne_true]
  exact if_pos (by simpa [imp_iff_not_or] using broken)

variable (whole : FrameWhole r lengthOk payload)
include whole

theorem laneFrameRx_checkError (bad : ¬ FrameChecks seq ignored payload crc) : laneFrameRx p false lengthOk seq ignored payload crc d =
    maskRead r (windowLine d p r) (laneError .LANE_CRC_ERR p (takeFrame p d)) := by
  rw [laneFrameRx_taken up locked found awaits, if_neg Bool.false_ne_true, if_neg (by simp [whole]), if_pos bad]

theorem laneFrameRx_good (good : FrameChecks seq ignored payload crc) : laneFrameRx p false lengthOk seq ignored payload crc d =
    keepPayload p r (windowLine d p r) payload (goodFrame p seq (takeFrame p d)) := by
  rw [laneFrameRx_taken up locked found awaits, if_neg Bool.false_ne_true, if_neg (by simp [whole]), if_neg (not_not.mpr good)]

end

/-! ### Windows of a lane (R116) -/

/-- A window that closes without its frame masks the segment, and counts LANE_NOFRAME on a LOCKED lane. -/
def missFrame (p : Nat) (r : Bytes) (d : Dev) : Dev :=
  if bitOf d.fe.winGot p then d
  else if laneState d p = 2 then maskRead r (windowLine d p r) (laneError .LANE_NOFRAME p d) else maskRead r (windowLine d p r) d

/-- The next window of a lane opens, masked where the lane is not LOCKED. -/
def openNext (p : Nat) (r : Bytes) (d : Dev) : Dev :=
  let next := mget d.fe.winNext p
  fe (fun x => { x with
      winAt := mset p 0 x.winAt, winLine := mset p next x.winLine, winNext := mset p 0 x.winNext, winGot := putBit x.winGot p false })
    (if next ≠ 0 && laneState d p ≠ 2 then maskRead r (lagLine (next - 1) (rLag r)) d else d)

theorem laneWindowClose_noSegment (noSegment : segOfPort d p = none) : laneWindowClose p d = d := by
  simp [laneWindowClose, noSegment]

theorem laneWindowClose_noWindow (closed : mget d.fe.winLine p = 0) : laneWindowClose p d = d := by
  simp [laneWindowClose, closed]

theorem laneWindowClose_closes (up : domUp d (dDIG (portDie p)) = true) (found : segOfPort d p = some (k, r))
    (opened : mget d.fe.winLine p ≠ 0) : laneWindowClose p d = openNext p r (missFrame p r d) := by
  simp only [laneWindowClose, found]
  exact if_neg (by simp [up, opened])

/-! ### Lock and loss of a lane (R115, R122) -/

/-- What follows in segment `k` once one of its lanes is LOCKED. -/
def segLaneLocked (k : Nat) (r : Bytes) (d : Dev) : Dev :=
  if !lanesLocked d r then d
  else if (seg d k).st == .powering && (seg d k).step == 3 then segSequenceDone k r d
  else if (seg d k).st == .relock then enterLive k d
  else d

theorem segLaneLocked_completes (all : lanesLocked d r = true) (at3 : PoweringAt d k 3) :
    segLaneLocked k r d = segSequenceDone k r d := by
  simp [segLaneLocked, all, at3]

theorem segLaneLocked_returns (all : lanesLocked d r = true) (relock : (seg d k).st = .relock) :
    segLaneLocked k r d = enterLive k d := by
  simp [segLaneLocked, all, relock]

theorem segLaneLocked_unlocked (unlocked : lanesLocked d r = false) : segLaneLocked k r d = d := by
  simp [segLaneLocked, unlocked]

theorem segLaneLocked_other (relock : (seg d k).st ≠ .relock) (powering : ¬ PoweringAt d k 3) : segLaneLocked k r d = d := by
  have notAt3 : ((seg d k).st == .powering && (seg d k).step == 3) = false := by simpa using powering
  simp [segLaneLocked, relock, notAt3]

/-- A lane that is LOCKED no longer is in ACQUIRE, with its event. -/
def loseLane (p : Nat) (d : Dev) : Dev := occur (Src.LANE_LOS (portDie p)) (portDie p) p 0 (setLane p 1 d)

/-- A window that still waits for its frame masks the segment of a lane that is lost. -/
def maskLost (p : Nat) (r : Bytes) (d : Dev) : Dev :=
  if mget d.fe.winLine p = 0 || bitOf d.fe.winGot p then d else maskRead r (windowLine d p r) d

/-- A LIVE segment that loses a lane is in RELOCK. -/
def segLaneLost (k : Nat) (d : Dev) : Dev :=
  if (seg d k).st == .live then setSeg k (fun x => { x with st := .relock, cause := 3 }) d else d

theorem segLaneLost_live (live : (seg d k).st = .live) :
    segLaneLost k d = setSeg k (fun x => { x with st := .relock, cause := 3 }) d := by
  simp [segLaneLost, live]

theorem segLaneLost_other (other : (seg d k).st ≠ .live) : segLaneLost k d = d := by
  simp [segLaneLost, other]

theorem laneLock_other (other : laneState d p ≠ 1) : laneLock p d = d := by
  simp [laneLock, other]

theorem laneLos_other (other : laneState d p ≠ 2) : laneLos p d = d := by
  simp [laneLos, other]

section
variable (up : domUp d (dDIG (portDie p)) = true)
include up

theorem laneLock_noSegment (acquires : laneState d p = 1) (noSegment : segOfPort (setLane p 2 d) p = none) :
    laneLock p d = setLane p 2 d := by
  simp [laneLock, up, acquires, noSegment]

theorem laneLock_segment (acquires : laneState d p = 1) (found : segOfPort (setLane p 2 d) p = some (k, r)) :
    laneLock p d = segLaneLocked k r (setLane p 2 d) := by
  simp only [laneLock, found]
  exact if_neg (by simp [up, acquires])

theorem laneLos_noSegment (locked : laneState d p = 2) (noSegment : segOfPort (loseLane p d) p = none) : laneLos p d = loseLane p d := by
  unfold loseLane at noSegment
  simp only [laneLos, noSegment]
  exact if_neg (by simp [up, locked])

theorem laneLos_segment (locked : laneState d p = 2) (found : segOfPort (loseLane p d) p = some (k, r)) :
    laneLos p d = segLaneLost k (maskLost p r (loseLane p d)) := by
  unfold loseLane at found
  simp only [laneLos, found]
  exact if_neg (by simp [up, locked])

end
end

end Sys2Proof.Machine

/-!
PROOFS. The statements of 04_sensor_ports.md.
-/
namespace Sys2Proof.SensorPorts
open Sys2Proof.Machine

/-- Settles O7: no work is done, the calibration and the checkpoint stay, and a round that asks for nothing is the last. -/
theorem settleQuiet : Obligations.SettleQuiet := by
  unfold Obligations.SettleQuiet
  intro d noWork heads run busy early
  exact settle_of_settleOnce (settleOnce_quiet noWork ⟨heads, run, busy⟩ early) noWork

/-- Settles O33: the two port commands by the segment's state, its power sequence by the state and the step. -/
theorem segments : Obligations.Segments := by
  unfold Obligations.Segments
  refine ⟨fun s p hp up => ?_, fun s k hk => ?_⟩
  · rw [exec_portResume_up hp up, exec_portPowerOff_up hp up]
    refine ⟨fun noSegment => ?_, fun n r found => ⟨fun ready => ?_, fun unpowered => ?_, fun other => ?_, fun present => ?_, fun absent => ?_⟩⟩
    · rw [portCtrl_noSegment noSegment, portCtrl_noSegment noSegment]; exact ⟨rfl, rfl⟩
    · rw [portCtrl_resumes_ready found ready]
    · rw [portCtrl_resumes_unpowered found unpowered]
    · rw [portCtrl_resume_stays found] <;> obtain st | st | st := other <;> simp [st]
    · rw [portCtrl_powersOff found present]
    · rw [portCtrl_powerOff_absent found absent]
  · have segment : isSegment k = true := decide_eq_true hk
    simp only [exec_segPowerEnable, exec_segLanesAcquire, exec_segLockTimeout, exec_segRelockTimeout, exec_segClocksOff,
      act_after segment]
    refine ⟨fun st step => ?_, fun other => ?_, fun r found => ⟨fun st step => ⟨fun lanes => ?_, fun noLanes => ?_⟩, fun other => ?_,
      fun st step unlocked => ?_, fun other => ?_, fun relock unlocked => ?_, fun other => ?_⟩, rfl⟩
    · rw [segPowerEnable_powers ⟨st, step⟩]
    · rw [segPowerEnable_stays other]
    · rw [segLanesAcquire_lanes found ⟨st, step⟩ lanes]
    · rw [segLanesAcquire_noLanes found ⟨st, step⟩ noLanes]
    · rw [segLanesAcquire_stays found other]
    · rw [segLockTimeout_faults found ⟨st, step⟩ unlocked]; rfl
    · rw [segLockTimeout_stays found (and_assoc.not.mpr other)]
    · rw [segRelockTimeout_faults found relock unlocked]; rfl
    · rw [segRelockTimeout_stays found other]

/-- Settles O44: a frame by the window and the tests it meets, a window by what it waits for, lock and loss by the lane's and the segment's
state. -/
theorem laneEvents : Obligations.LaneEvents := by
  unfold Obligations.LaneEvents
  refine ⟨fun s p hp up => ?_, fun s p hp up => ?_⟩
  · have port : isPort p = true := decide_eq_true hp
    simp only [exec_laneWindowClose, exec_laneFrameRx, act_after port]
    refine ⟨fun noSegment => ⟨?_, fun _ _ _ _ _ _ => ?_⟩, fun k r found => ⟨fun ce lok seq ign pay crc => ⟨fun unlocked => ?_, fun locked =>
      ⟨fun extra => ?_, fun taken code => ?_, fun taken code part => ?_, fun taken code whole bad => ?_,
        fun taken code whole good next => ?_, fun taken code whole good skips => ?_⟩⟩, fun opened => ?_, fun closed => ?_⟩⟩
    · rw [laneWindowClose_noSegment noSegment]
    · rw [laneFrameRx_noSegment noSegment]
    · rw [laneFrameRx_unlocked unlocked]
    · rw [laneFrameRx_extra up locked found extra]
    · rw [code, laneFrameRx_codeError up locked found taken]; rfl
    · rw [code, laneFrameRx_lengthError up locked found taken part]; rfl
    · rw [code, laneFrameRx_checkError up locked found taken whole bad]; rfl
    · rw [code, laneFrameRx_good up locked found taken whole good, goodFrame_next (d := takeFrame p s.dev) next]; rfl
    · rw [code, laneFrameRx_good up locked found taken whole good, goodFrame_skips (d := takeFrame p s.dev) skips]; rfl
    · rw [laneWindowClose_closes up found opened]; rfl
    · rw [laneWindowClose_noWindow closed]
  · have port : isPort p = true := decide_eq_true hp
    simp only [exec_laneLock, exec_laneLos, act_after port]
    refine ⟨fun acquires => ⟨fun noSegment => ?_, fun k r found => ⟨fun all st step => ?_, fun all relock => ?_, fun other => ?_⟩⟩,
      fun other => ?_, fun locked => ⟨fun noSegment => ?_, fun k r found => ⟨fun live => ?_, fun other => ?_⟩⟩, fun other => ?_⟩
    · rw [laneLock_noSegment up acquires noSegment]
    · rw [laneLock_segment up acquires found, segLaneLocked_completes all ⟨st, step⟩]
    · rw [laneLock_segment up acquires found, segLaneLocked_returns all relock]
    · rw [laneLock_segment up acquires found]
      obtain unlocked | ⟨relock, powering⟩ := other
      · rw [segLaneLocked_unlocked unlocked]
      · rw [segLaneLocked_other relock powering]
    · rw [laneLock_other other]
    · rw [laneLos_noSegment up locked noSegment]; rfl
    · rw [laneLos_segment up locked found, segLaneLost_live (d := maskLost p r (loseLane p s.dev)) live]; rfl
    · rw [laneLos_segment up locked found, segLaneLost_other (d := maskLost p r (loseLane p s.dev)) other]; rfl
    · rw [laneLos_other other]

end Sys2Proof.SensorPorts

/-!
PROOFS. When a change of a running domain is made, and what the end of a line, the end of its verdict path and the result of a registration
band do, by the guards of each.
-/
namespace Sys2Proof.Machine

/-! ### A change that only a running domain makes -/

section
variable {d : Dev} {n : Nat} {f : Dev → Dev}

theorem whenUp_up (up : domUp d n = true) : whenUp n f d = f d := if_pos up

/-- Nothing is changed in a domain that does not run, or by a change that finds nothing to do. -/
theorem whenUp_stays (idle : domUp d n = false ∨ f d = d) : whenUp n f d = d := by
  unfold whenUp
  obtain down | still := idle
  · exact if_neg (Bool.eq_false_iff.mp down)
  · rw [still, ite_self]

end

/-! ### The end of a line (R133, R154, R158) -/

/-- What a line waits for before it is corrected: both halves of the pipeline, its samples, and the verdict of every earlier line. -/
abbrev Completable (d : Dev) (l : LineRec) : Prop :=
  domUp d (dPIPE 0) = true ∧ domUp d (dPIPE 1) = true ∧ lineReady d l l.img = true ∧ ∀ x ∈ d.esc.lines, l.num ≤ x.num ∨ x.verdict = true

/-- The samples of a corrected line are used up. -/
def useSamples (n : Nat) (d : Dev) : Dev := fe (fun x => { x with samples := x.samples.filter (fun s => s.line ≠ n) }) d

/-- Both halves keep the longest latency. -/
def keepLatency (latency : Nat) (d : Dev) : Dev :=
  [0, 1].foldl (fun d h => wn .PIPE_LATENCY_MAX h (max (rn d .PIPE_LATENCY_MAX h) (sat32 latency)) d) d

/-- A corrected line goes to the stages that take it, and the ports that its correction masked are counted. -/
def handOnCorrected (late : Bool) (l : LineRec) (c : Corrected) (d : Dev) : Dev :=
  countMasked (c.masked ^^^ (c.masked &&& l.masked)) (deliverCorrected { l with masked := c.masked } c (late || cmprRestoring d) d)

/-- A line has left stage 9: its banks are free, and the marks and captures that waited for it follow. -/
def leaveStages (l : LineRec) (masked : Nat) (d : Dev) : Dev :=
  let d := freeBanks [2, 3, 4, 5, 6, 11] l.num (onLine l.num (fun x => { x with complete := true, masked := masked }) d)
  endCaptures (flushMarks d.strm.marks.length d)

/-- A line corrected and handed on. -/
def completeLine (late : Bool) (latency : Nat) (l : LineRec) (d : Dev) : Dev :=
  let c := correctLine l l.img d
  leaveStages l c.2.masked (handOnCorrected late l c.2 (keepLatency latency (useSamples l.num c.1)))

section
variable {d : Dev} {l : LineRec} {late : Bool} {latency : Nat}

/-- The tests of LINE_COMPLETE together are what its line waits for. -/
theorem not_completable_iff :
    (!domUp d (dPIPE 0) || !domUp d (dPIPE 1) || !lineReady d l l.img ||
      !d.esc.lines.all (fun x => decide (l.num ≤ x.num) || x.verdict)) = true ↔ ¬ Completable d l := by
  rw [← Bool.not_and, ← Bool.not_and, ← Bool.not_and, Bool.not_eq_true', ← Bool.not_eq_true]
  simp only [Bool.and_eq_true, List.all_eq_true, Bool.or_eq_true, decide_eq_true_eq, and_assoc]

theorem lineComplete_completes (next : nextLine d = some l) (may : Completable d l) :
    lineComplete late latency d = completeLine late latency l d := by
  simp only [lineComplete, next]
  exact if_neg fun held => not_completable_iff.mp held may

theorem lineComplete_stays (held : ∀ l, nextLine d = some l → ¬ Completable d l) : lineComplete late latency d = d := by
  unfold lineComplete
  cases next : nextLine d with
  | none => rfl
  | some l => exact if_pos (not_completable_iff.mpr (held l next))

end

/-! ### The end of a verdict path (R169, R183) -/

/-- The oldest line that has left stage 9 and has no verdict. -/
def nextVerdict (d : Dev) : Option LineRec := d.esc.lines.find? (fun l => l.complete && !l.verdict)

/-- The judged line of a number, where it was judged. -/
def judgedLine (d : Dev) (n : Nat) : Option JLine := d.cmpr.jlines.find? (fun x => x.line == n)

/-- The judged line of a number is taken. -/
def takeJudged (n : Nat) (d : Dev) : Dev := cmpr (fun x => { x with jlines := x.jlines.filter (fun y => y.line ≠ n) }) d

/-- With the verdict of line `n`, every line of the page, which has closed, has its own. -/
def endsPage (n page : Nat) (d : Dev) : Bool :=
  d.pages.past.any (fun p => p.num == page && p.last != 0 &&
    d.esc.lines.all (fun x => decide (p.last ≤ x.num) || decide (x.num = n) || (x.complete && x.verdict)))

/-- A line has its verdict: its banks are free, and the pages and captures that waited for it end. -/
def giveVerdict (l : LineRec) (d : Dev) : Dev :=
  endCaptures (dropLines (finishPages l.shadow (l.banks.getD 8 0) (l.banks.getD 9 0)
    (freeBanks [7, 8, 9, 10] l.num (onLine l.num (fun x => { x with verdict := true }) d))))

section
variable {d : Dev} {l : LineRec}

theorem verdictPath_none (noLine : nextVerdict d = none) : verdictPath d = d := by
  unfold nextVerdict at noLine
  simp only [verdictPath, noLine]

section
variable (next : nextVerdict d = some l)
include next

theorem verdictPath_notJudged (notJudged : judgedLine d l.num = none) : verdictPath d = giveVerdict l (takeJudged l.num d) := by
  unfold nextVerdict at next
  unfold judgedLine at notJudged
  simp only [verdictPath, next, notJudged]
  rfl

theorem verdictPath_judged {j : JLine} (judged : judgedLine d l.num = some j) :
    verdictPath d = giveVerdict l (trackLine l j (endsPage l.num j.page (takeJudged l.num d)) (takeJudged l.num d)) := by
  unfold nextVerdict at next
  unfold judgedLine at judged
  simp only [verdictPath, next, judged]
  rfl

end
end

/-! ### The result of a registration band (R172, R173) -/

/-- The 32 patch results of a band; the free values of an invalid one are numbered from `fresh`. -/
def bandPatches (fresh : Nat) (b : Band) : List (Int × Int × Bool) :=
  (List.range 32).map (fun i => patchResult (fresh + 2 * i) (b.sums.getD i []) (b.seen.getD i 0) ((b.want.getD i 0 * 256 * 3 + 3) / 4))

/-- A patch result shown in its register; an invalid one is counted and flagged. -/
def showPatch (d : Dev) (x : (Int × Int × Bool) × Nat) : Dev :=
  let d := sf .CMPR_REG_CORR x.2 CMPR_REG_CORR.CX (ux 10 x.1.1) (sf .CMPR_REG_CORR x.2 CMPR_REG_CORR.CY (ux 10 x.1.2.1)
    (sf .CMPR_REG_CORR x.2 CMPR_REG_CORR.VALID (b2n x.1.2.2) d))
  if x.1.2.2 then d else occur Src.REG_INVALID x.2 0 0 (incSat .CMPR_REG_INVALID 0 d)

/-- The patch results of the complete band wait to come into force. -/
def keepResult (b : Band) (d : Dev) : Dev :=
  cmpr (fun x => { x with full := none, result := some ⟨b.page, b.first, bandPatches d.fresh b⟩ }) { d with fresh := d.fresh + 64 }

section
variable {d : Dev}

theorem regBandResult_band {b : Band} (full : d.cmpr.full = some b) :
    regBandResult d = (bandPatches d.fresh b).zipIdx.foldl showPatch (keepResult b d) := by
  simp only [regBandResult, full]
  rfl

theorem regBandResult_none (noBand : d.cmpr.full = none) : regBandResult d = d := by
  simp only [regBandResult, noBand]

end

end Sys2Proof.Machine

/-!
PROOFS. The statement of 05_line_pipeline.md.
-/
namespace Sys2Proof.LinePipeline
open Sys2Proof.Machine

/-- Settles O45: the oldest line by what it waits for, the verdict path by whether a line was judged, a band by whether it is complete. -/
theorem linesAndBands : Obligations.LinesAndBands := by
  unfold Obligations.LinesAndBands
  simp only [exec_lineComplete, exec_verdictPath, exec_regBandResult, act_after rfl]
  refine ⟨fun s late t => ⟨fun l next may => ?_, fun held => ?_, fun l up next => ⟨fun notJudged => ?_, fun j judged => ?_⟩, fun idle => ?_⟩,
    fun s => ⟨fun b up full => ?_, fun idle => ?_⟩⟩
  · rw [lineComplete_completes next may]; rfl
  · rw [lineComplete_stays held]
  · rw [whenUp_up up, verdictPath_notJudged next notJudged]; rfl
  · rw [whenUp_up up, verdictPath_judged next judged]; rfl
  · rw [whenUp_stays (idle.imp_right verdictPath_none)]
  · rw [whenUp_up up, regBandResult_band full]; rfl
  · rw [whenUp_stays (idle.imp_right regBandResult_none)]

end Sys2Proof.LinePipeline

/-!
PROOFS. The commands of reference regions and pages, by the check that each fails: the region that REF_ALLOC takes, what REF_FREE gives up,
and the page that REF_LOAD places, judges and registers (R161 to R163).
-/
namespace Sys2Proof.Machine

/-! ### The row of a command that needs a domain (R45, R47) -/

/-- A command that awaits its row and whose domain runs has its effect. -/
theorem act_awaits_up {s : State} {q tag op n : Nat} {c : Cmd} (h : s.dev.awaits q tag op c) (up : domUp (s.dev.begun c) n = true)
    (f : Cmd → Dev → Dev) :
    act (isRing q && isTag tag) (fun d => withCmd q tag op (fun c d => needDom n c (fun d => f c d) d) d) s =
      .next (s.after (f c.begun (s.dev.begun c))) := by
  rw [act_awaits s q tag op c h, needDom_up _ _ _ _ up]

/-! ### REF_ALLOC (R161) -/

theorem mem_freeRegions {d : Dev} {r : Nat} : r ∈ freeRegions d ↔ r < 16 ∧ regionSize d r = 0 := by
  simp [freeRegions]

/-- The bytes that a REF_ALLOC asks for, rounded up to 2 MiB. -/
def allocBytes (c : Cmd) : Nat := (leAt c.entry 8 8 + 2097151) / 2097152 * 2097152

/-- Region `r` takes `n` bytes at `a`, where the choice of both has used free values. -/
def takeRegion (r n a : Nat) (d : Dev) : Dev :=
  showSpace (wn .CMPR_REGION_BASE r a (wn .CMPR_REGION_SIZE r n (useFresh (useFresh d))))

section
variable {c : Cmd} {d : Dev}

theorem refAlloc_refused (noRoom : pickFree d (freeRegions d) = none ∨ hFree d < allocBytes c ∨ findPlace d (allocBytes c) = none) :
    refAlloc c d = complete c stBOUND 8 [] d := by
  unfold allocBytes at noRoom
  unfold refAlloc
  cases pick : pickFree d (freeRegions d) with
  | none => rfl
  | some r =>
    obtain full | noPlace := noRoom.resolve_left (by simp [pick])
    · exact if_pos full
    · simp only [noPlace, ite_self]

theorem refAlloc_takes {r a : Nat} (pick : pickFree d (freeRegions d) = some r) (room : allocBytes c ≤ hFree d)
    (place : findPlace d (allocBytes c) = some a) :
    refAlloc c d = completeOk c (leBytes 1 r ++ zeros 7 ++ leBytes 8 a) (takeRegion r (allocBytes c) a d) := by
  unfold allocBytes at place room
  simp only [refAlloc, pick, if_neg (Nat.not_lt.mpr room), place]
  rfl

/-! ### REF_FREE (R163) -/

/-- Region `r` is given up, and every reference in it. -/
def giveUpRegion (r : Nat) (d : Dev) : Dev :=
  showSpace (wn .CMPR_REGION_BASE r 0 (wn .CMPR_REGION_SIZE r 0
    (cmpr (fun x => { x with refs := x.refs.filter (fun p => p.region ≠ r) }) d)))

theorem refFree_bound (bound : boundIn d (leAt c.entry 8 1 % 16) ≠ []) : refFree c d = complete c stSTATE dCOMPARE [] d :=
  if_pos (mt List.length_eq_zero_iff.mp bound)

theorem refFree_givesUp (unbound : boundIn d (leAt c.entry 8 1 % 16) = []) :
    refFree c d = completeOk c [] (giveUpRegion (leAt c.entry 8 1 % 16) d) :=
  if_neg (not_not_intro (List.length_eq_zero_iff.mpr unbound))

end

/-! ### REF_LOAD (R162) -/

section
variable (c : Cmd)

/-- The region that a REF_LOAD names. -/
def loadRegion : Nat := leAt c.block 0 1 % 16

/-- The offset of the page in its region. -/
def loadOffset : Nat := leAt c.block 8 8

/-- Whether the page lies in its place already. -/
def loadInPlace : Bool := bitOf (leAt c.block 1 1) 0

/-- Where the page lies in the memory. -/
def loadBase (d : Dev) : Nat := regionBase d (loadRegion c) + loadOffset c

/-- The bytes of the sources together. -/
def sourceBytes : Nat :=
  ((List.range ((c.block.length - 16) / 16)).map (fun i => leAt c.block (16 + 16 * i + 8) 4)).foldl (· + ·) 0

/-- The length of the page: what the page itself says where it is loaded in place, else that of the sources. -/
def loadLength (d : Dev) : Nat := if loadInPlace c then leNat (Mem.readBytes d.hbm (loadBase c d + 32) 8) else sourceBytes c

/-- The block of a REF_LOAD in place holds no source, that of another at least one, each of them whole. -/
def LoadForm : Prop :=
  if loadInPlace c then c.block.length = 16 else 32 ≤ c.block.length ∧ c.block.length % 16 = 0

variable (n : Nat)

/-- Whether a page shares bytes with the `n` at the offset that a REF_LOAD names. -/
def loadMeets (p : RefPage) : Bool := rangesMeet (loadOffset c) n p.offset p.length

/-- The references that share bytes with the page to load are unloaded. -/
def unloadMet (d : Dev) : Dev :=
  let met := d.cmpr.refs.filter (fun p => p.region == loadRegion c && loadMeets c n p)
  cmpr (fun x => { x with refs := x.refs.filter (fun p => !(met.contains p)) }) d

variable (a : Nat)

/-- The bytes of the sources come to lie at `a`; a page loaded in place lies there already. -/
def placePage (bytes : Bytes) (d : Dev) : Dev :=
  if loadInPlace c then d
  else { d with hbm := (Mem.clear d.hbm a n).writeBytes a (fitBytes n bytes) }

/-- The bytes of the page, where it lies. -/
abbrev pageAt (d : Dev) : Bytes := Mem.readBytes d.hbm a n

/-- What the header of the page answers; sources give a length that it must name. -/
def pageBad (d : Dev) : Option Nat := refHeaderCheck (pageAt n a d) (if loadInPlace c then none else some n)

/-- The reference that the page is. -/
def loadedRef (d : Dev) : RefPage := refOf (loadRegion c) (loadOffset c) (pageAt n a d)

/-- A page that passes its checks is registered, in the place of one of its PAGE_ID in the region. -/
def registerPage (d : Dev) : Dev :=
  cmpr (fun x => { x with
    refs := x.refs.filter (fun q => !(q.region == loadRegion c && q.id == (loadedRef c n a d).id)) ++ [loadedRef c n a d] }) d

/-- The page where it lies is judged: by its header, then by its CHECK. -/
def judgePage (d : Dev) : Dev :=
  match pageBad c n a d with
  | some st => complete c st (if loadInPlace c then 0x48 else 0x50) [] d
  | none =>
    if leAt (pageAt n a d) 28 4 ≠ refCheck (pageAt n a d) then complete c stINTEGRITY 0 [] d
    else completeOk c (leBytes 8 n ++ leBytes 4 (refCheck (pageAt n a d)) ++ leBytes 4 (loadedRef c n a d).id) (registerPage c n a d)

/-- The page is read from its sources or found in its place, and judged. -/
def readPage (content : Fetch) (d : Dev) : Dev :=
  match content, loadInPlace c with
  | .failed cause, false => complete c stDMA_ERR cause [] d
  | .failed _, true => judgePage c n a d
  | .ok bytes, _ => judgePage c n a (placePage c n a bytes d)

end

section
variable {c : Cmd} {n a : Nat} {d : Dev}

theorem judgePage_badHeader {st : Nat} (bad : pageBad c n a d = some st) :
    judgePage c n a d = complete c st (if loadInPlace c then 0x48 else 0x50) [] d := by
  simp only [judgePage, bad]

theorem judgePage_badCheck (good : pageBad c n a d = none) (differs : leAt (pageAt n a d) 28 4 ≠ refCheck (pageAt n a d)) :
    judgePage c n a d = complete c stINTEGRITY 0 [] d := by
  simp only [judgePage, good, if_pos differs]

theorem judgePage_registers (good : pageBad c n a d = none) (same : leAt (pageAt n a d) 28 4 = refCheck (pageAt n a d)) :
    judgePage c n a d = completeOk c (leBytes 8 n ++ leBytes 4 (refCheck (pageAt n a d)) ++ leBytes 4 (loadedRef c n a d).id)
      (registerPage c n a d) := by
  simp only [judgePage, good, if_neg (not_not_intro same)]

/-- A block of one source, or of none in place, has the form that the command checks. -/
theorem loadForm_of_length (one : c.block.length = if loadInPlace c then 16 else 32) : LoadForm c := by
  unfold LoadForm
  by_cases place : loadInPlace c = true
  · rw [if_pos place] at one ⊢; exact one
  · rw [if_neg place] at one ⊢; omega

/-- One source is the length of the page. -/
theorem loadLength_one (one : c.block.length = if loadInPlace c then 16 else 32) : loadLength c d =
    if loadInPlace c then leNat (Mem.readBytes d.hbm (loadBase c d + 32) 8) else leAt c.block 24 4 := by
  unfold loadLength
  cases place : loadInPlace c with
  | true => rfl
  | false => simp [sourceBytes, one, place]

section
variable (form : LoadForm c)
include form

/-- The lengths that REF_LOAD refuses are those without the form. -/
theorem loadForm_allowed :
    ¬ ((loadInPlace c && decide (c.block.length ≠ 16)) ||
      (!loadInPlace c && (decide (c.block.length < 32) || decide (c.block.length % 16 ≠ 0)))) = true := by
  unfold LoadForm at form
  cases place : loadInPlace c <;> simpa [place] using form

theorem refLoad_unallocated (content : Fetch) (unallocated : regionSize d (loadRegion c) = 0) :
    refLoad content c d = complete c stSTATE dCOMPARE [] d :=
  (if_neg (loadForm_allowed form)).trans (if_pos unallocated)

variable (allocated : regionSize d (loadRegion c) ≠ 0) (length : loadLength c d = n)
include allocated length

theorem refLoad_outside (content : Fetch) (outside : regionSize d (loadRegion c) < loadOffset c + n) :
    refLoad content c d = complete c stBOUND 0x48 [] d := by
  subst length
  exact (if_neg (loadForm_allowed form)).trans ((if_neg allocated).trans (if_pos outside))

variable (within : loadOffset c + n ≤ regionSize d (loadRegion c))
include within

theorem refLoad_bound (content : Fetch) (bound : ∃ p ∈ boundIn d (loadRegion c), loadMeets c n p = true) :
    refLoad content c d = complete c stSTATE dCOMPARE [] d := by
  subst length
  exact (if_neg (loadForm_allowed form)).trans ((if_neg allocated).trans ((if_neg (Nat.not_lt.mpr within)).trans
    (if_pos (List.any_eq_true.mpr bound))))

variable (unbound : ∀ p ∈ boundIn d (loadRegion c), loadMeets c n p = false)
include unbound

/-- Past the checks of the block and the region, the references met are unloaded and the page is read. The model writes the length of
the sources beside that of the page; where the page is fetched, both are `n`. -/
theorem refLoad_reads (content : Fetch) : refLoad content c d = readPage c n (loadBase c d) content (unloadMet c n d) := by
  have noneBound : ¬ (boundIn d (loadRegion c)).any (loadMeets c n) = true := by simpa using unbound
  rw [← length] at within noneBound
  refine (if_neg (loadForm_allowed form)).trans ((if_neg allocated).trans ((if_neg (Nat.not_lt.mpr within)).trans
    ((if_neg noneBound).trans ?_)))
  unfold loadLength loadBase loadRegion loadOffset sourceBytes at length
  unfold readPage judgePage pageBad placePage
  unfold loadInPlace at length ⊢
  rw [length]
  cases place : bitOf (leAt c.block 1 1) 0 with
  | true => cases content <;> rfl
  | false =>
    rw [place, if_neg Bool.false_ne_true] at length
    rw [length]
    cases content <;> rfl

theorem refLoad_failed (cause : Nat) (fetched : loadInPlace c = false) :
    refLoad (.failed cause) c d = complete c stDMA_ERR cause [] (unloadMet c n d) := by
  rw [refLoad_reads form allocated length within unbound]
  simp only [readPage, fetched]

theorem refLoad_judges (bytes : Bytes) :
    refLoad (.ok bytes) c d = judgePage c n (loadBase c d) (placePage c n (loadBase c d) bytes (unloadMet c n d)) :=
  refLoad_reads form allocated length within unbound (.ok bytes)

end
end

end Sys2Proof.Machine

/-!
PROOFS. The statement of 06_reference_comparison.md.
-/
namespace Sys2Proof.ReferenceComparison
open Sys2Proof.Machine

/-- Settles O24: REF_ALLOC by whether a region and a place are free, REF_FREE by whether a bound page lies in the region, REF_LOAD by its
checks in their order. -/
theorem referenceCommands : Obligations.ReferenceCommands := by
  unfold Obligations.ReferenceCommands
  intro s q tag c d up
  refine ⟨fun h => ?_, fun h => ?_, fun h => ?_⟩
  · intro n
    simp only [exec_refAlloc, act_awaits_up h up]
    refine ⟨fun noRoom => ?_, fun r a pick room place => ?_⟩
    · rw [refAlloc_refused (c := c.begun) noRoom]; rfl
    · obtain ⟨small, unused⟩ := mem_freeRegions.mp (pickFree_mem pick)
      exact ⟨small, unused, findPlace_free place, by rw [refAlloc_takes (c := c.begun) pick room place]; rfl⟩
  · intro r
    simp only [exec_refFree, act_awaits_up h up]
    refine ⟨fun unbound => ?_, fun bound => ?_⟩
    · rw [refFree_givesUp (c := c.begun) unbound]; rfl
    · rw [refFree_bound (c := c.begun) bound]; rfl
  · intro r off inPlace base n met d1 one
    have form : LoadForm c.begun := loadForm_of_length one
    have length : loadLength c.begun d = n := loadLength_one one
    have run (f : Fetch) : exec (.refLoad q tag f) s = .next (s.after (refLoad f c.begun d)) :=
      (exec_refLoad q tag f s).trans (act_awaits_up h up (refLoad f))
    refine ⟨fun unallocated f => ?_, fun allocated => ⟨fun outside f => ?_, fun within => ⟨fun bound f => ?_, fun unbound =>
      ⟨fun cause fetched => ?_, fun bytes => ?_⟩⟩⟩⟩
    · rw [run, refLoad_unallocated form f unallocated]; rfl
    · rw [run, refLoad_outside form allocated length f outside]; rfl
    · rw [run, refLoad_bound form allocated length within f bound]; rfl
    · rw [run, refLoad_failed form allocated length within unbound cause fetched]; rfl
    · intro d2 page bad
      have judges : refLoad (.ok bytes) c.begun d = judgePage c.begun n base d2 :=
        refLoad_judges form allocated length within unbound bytes
      rw [run, judges]
      refine ⟨fun st fails => ?_, fun good differs => ?_, fun good same => ?_⟩
      · rw [judgePage_badHeader (c := c.begun) fails]; rfl
      · rw [judgePage_badCheck (c := c.begun) good differs]; rfl
      · rw [judgePage_registers (c := c.begun) good same]; rfl

end Sys2Proof.ReferenceComparison

/-!
PROOFS. The controls of pages and of the sync ring, the restore of a drift image, the edge fit, crops, the timers of the trigger side, and
the frames of the sync ring, by the guards of each (R194 to R232, R244).
-/
namespace Sys2Proof.Machine

/-! ### PAGE_CTRL (R203) -/

theorem addrDom_pageCtrl : addrDom (regAddr .PROD_PAGE_CTRL 0) = dFABRIC := by decide
theorem addrDom_syncCtrl : addrDom (regAddr .SYNC_CTRL 0) = dFABRIC := by decide
theorem addrDom_calCtrl : addrDom (regAddr .CAL_CTRL 0) = dREGUL := by decide

/-- The host asks for an open or a close at the track position; the page that is open then goes with the request. -/
def hostRequest (isOpen : Bool) (d : Dev) : Dev :=
  pages (fun p => { p with reqs := p.reqs ++ [⟨isOpen, trackPos d, true, false, (d.pages.cur.map (·.num)).getD 0⟩] }) d

section
variable {d : Dev}

theorem pageCtrl_open : pageCtrl true d = hostRequest true d := rfl

theorem pageCtrl_close_idle (noPage : d.pages.cur = none) : pageCtrl false d = incSat .PROD_CLOSE_IDLE 0 d := by
  simp only [pageCtrl, pageDecide, noPage]

theorem pageCtrl_close {g : PageRec} (openPage : d.pages.cur = some g) : pageCtrl false d = hostRequest false d := by
  simp only [pageCtrl, pageDecide, hostRequest, openPage]

/-! ### SYNC_CTRL (R229) -/

theorem syncCtrlArm_master (master : ringMaster d = true) {rule : Nat} (valid : rule < 4) :
    syncCtrlArm rule d = armWith rule (sendFrame 2 rule 0 d) := by
  rw [syncCtrlArm, if_pos master, ringArm, if_neg (by omega)]

theorem syncCtrlArm_other (other : ringMaster d = false) (rule : Nat) : syncCtrlArm rule d = d := by
  rw [syncCtrlArm, if_neg (by simp [other])]

theorem syncCtrlDisarm_master (master : ringMaster d = true) : syncCtrlDisarm d = disarm (sendFrame 3 0 0 d) := if_pos master

theorem syncCtrlDisarm_other (other : ringMaster d = false) : syncCtrlDisarm d = d := by
  rw [syncCtrlDisarm, if_neg (by simp [other])]

end

/-! ### CAL_RESTORE (R244) -/

/-- The drift image that a restore takes: the bank not in force. -/
def heldDrift (d : Dev) : Mem := driftContent d (bankOut d 11)

/-- A drift image carries its mark and its version, and its reserved fields are 0. -/
abbrev DriftSound (m : Mem) : Prop :=
  leNat (Mem.readBytes m 0 4) = 0x54465244 ∧ leNat (Mem.readBytes m 4 2) = 1 ∧ driftReservedOk m = true

/-- STAGE_HOLD falls as a restore takes the image. -/
def endHold (d : Dev) : Dev := sf .CAL_CTRL 0 CAL_CTRL.STAGE_HOLD 0 d

/-- A restore ends with a failure result. -/
def restoreFails (k : Nat) (d : Dev) : Dev := occur Src.CAL_RESTORE_FAIL k 0 0 (sf .CAL_STATUS 0 CAL_STATUS.RESTORE_RESULT k d)

/-- The entries of segment `k` are neutral where the head bound to it is another than the image was made with. -/
def neutralOther (d : Dev) (m : Mem) (k : Nat) : Mem :=
  let held := leNat (Mem.readBytes m (offSerial k) 8)
  let now_ := boundSerial d k
  if held = 0 || now_ = 0 || held = now_ then m
  else match segRecOf ((activeImage d).getD []) k with
    | some r => putLe (segNeutral ((activeImage d).getD []) k r m) (offSerial k) 8 now_
    | none => m

/-- The drift image as the next hand-over takes it. -/
def restoredDrift (d : Dev) (m : Mem) : Mem := (List.range 48).foldl (neutralOther d) m

/-- A restored drift image waits for the next hand-over. -/
def restoreWaits (m : Mem) (d : Dev) : Dev :=
  showCal (sf .CAL_STATUS 0 CAL_STATUS.RESTORE_PENDING 1 (cal (fun c => { c with restore := true }) (calAccept m d)))

theorem neutralOther_unbound {d : Dev} {m : Mem} {k : Nat} (unbound : leNat (Mem.readBytes m (offSerial k) 8) = 0) :
    neutralOther d m k = m := by
  simp [neutralOther, unbound]

/-- An image made with no head bound is taken as it is. -/
theorem restoredDrift_unbound {d : Dev} {m : Mem} (unbound : ∀ k, k < 48 → leNat (Mem.readBytes m (offSerial k) 8) = 0) :
    restoredDrift d m = m :=
  List.foldlRecOn (motive := (· = m)) _ _ rfl fun _ same k within => by
    rw [same, neutralOther_unbound (unbound k (List.mem_range.mp within))]

/-- The first test of CAL_RESTORE fails an image that is not sound. -/
theorem not_driftSound_iff {m : Mem} :
    (leNat (Mem.readBytes m 0 4) ≠ 0x54465244 || leNat (Mem.readBytes m 4 2) ≠ 1 || !driftReservedOk m) = true ↔ ¬ DriftSound m := by
  rw [DriftSound, not_and_or, not_and_or, Bool.not_eq_true]
  simp only [Bool.or_eq_true, decide_eq_true_eq, Bool.not_eq_true', or_assoc]

section
variable {d : Dev} (up : domUp d dREGUL = true)
include up

theorem calRestore_noHold (noHold : rb d .CAL_CTRL 0 CAL_CTRL.STAGE_HOLD = false) : calRestore d = occur0 Src.CAL_WIN_BUSY d := by
  simp [calRestore, up, noHold]

section
variable (hold : rb d .CAL_CTRL 0 CAL_CTRL.STAGE_HOLD = true)
include hold

theorem calRestore_unsound (unsound : ¬ DriftSound (heldDrift d)) : calRestore d = restoreFails 2 (endHold d) := by
  simp only [calRestore, up, hold, Bool.not_true, Bool.false_eq_true, if_false]
  exact if_pos (not_driftSound_iff.mpr unsound)

section
variable (sound : DriftSound (heldDrift d))
include sound

theorem calRestore_sound : calRestore d =
    if leNat (Mem.readBytes (heldDrift d) 12 4) ≠ driftCheck (heldDrift d) then restoreFails 3 (endHold d)
    else restoreWaits (restoredDrift (endHold d) (heldDrift d)) (endHold d) := by
  simp only [calRestore, up, hold, Bool.not_true, Bool.false_eq_true, if_false]
  exact if_neg fun unsound => not_driftSound_iff.mp unsound sound

theorem calRestore_badCheck (differs : leNat (Mem.readBytes (heldDrift d) 12 4) ≠ driftCheck (heldDrift d)) :
    calRestore d = restoreFails 3 (endHold d) := by
  rw [calRestore_sound up hold sound, if_pos differs]

theorem calRestore_waits (same : leNat (Mem.readBytes (heldDrift d) 12 4) = driftCheck (heldDrift d)) :
    calRestore d = restoreWaits (restoredDrift (endHold d) (heldDrift d)) (endHold d) := by
  rw [calRestore_sound up hold sound, if_neg (not_not.mpr same)]

end
end
end

/-! ### EDGE_FIT (R207) -/

/-- The side edges of the lines of a page that have both. -/
def sideEdges (e : EdgeAcc) : List (Int × Int) := e.lines.filterMap (·.2.1)

/-- The rounded mean of an edge over the lines that have edges. -/
def meanEdge (e : EdgeAcc) (side : Int × Int → Int) : Int := rdiv (sumI ((sideEdges e).map side)) (sideEdges e).length

/-- The fit of the page whose lines are taken away: its side edges, if 16 lines or more have them, are means, and its leading edge rests on
4 patches or more. -/
structure FitOf (e : EdgeAcc) (f : EdgeFit) : Prop where
  page : f.page = e.page
  first : f.first = e.first
  sides : f.sides = decide (16 ≤ (sideEdges e).length)
  lead : f.lead = true → 4 ≤ f.patches
  left : f.sides = true → f.vals.getD 0 0 = meanEdge e (·.1)
  right : f.sides = true → f.vals.getD 1 0 = meanEdge e (·.2)
  offset : f.sides = true → f.vals.getD 2 0 = meanEdge e (·.1) - prExpect (pageRuleOf e.img)

/-- The lines of a page that were kept for its fit are gone. -/
def dropEdges (page : Nat) (d : Dev) : Dev := pages (fun p => { p with edges := p.edges.filter (fun x => x.page ≠ page) }) d

/-- A fit without its side edges, or without a leading edge that is wanted, is counted and flagged. -/
def countFit (e : EdgeAcc) (f : EdgeFit) (d : Dev) : Dev :=
  if f.sides && (f.lead || !prLead (pageRuleOf e.img)) then d
  else occur Src.EDGE_FAIL e.page 0 0 (incSat .PROD_EDGE_FAIL 0 d)

section
variable {d : Dev}

theorem edgeFit_none (noPage : d.pages.edges.find? (fitDue d) = none) : edgeFit d = d := by
  simp only [edgeFit, noPage]

theorem edgeFit_fits {e : EdgeAcc} (page : d.pages.edges.find? (fitDue d) = some e) :
    ∃ f, FitOf e f ∧ edgeFit d = pages (fun p => { p with fit := some f }) (countFit e f (dropEdges e.page d)) := by
  simp only [edgeFit, page]
  refine ⟨_, ?_, rfl⟩
  constructor
  case page => rfl
  case first => rfl
  case sides => rfl
  case lead => exact fun lead => of_decide_eq_true (Bool.and_eq_true_iff.mp lead).1
  case left => exact fun sides => if_pos sides
  case right => exact fun sides => if_pos sides
  case offset => exact fun sides => (if_pos sides).trans (congrArg (· - prExpect (pageRuleOf e.img)) (if_pos sides))

end

/-! ### CROP_FORM (R214) -/

/-- The last margin line of the first crop that waits at entry `e` of a capture has left stage 9, which is at `done`. -/
abbrev CropDue (done : Nat) (c : Capture) (e : Nat) : Prop :=
  ∃ q t, c.crops.getD e [] = q :: t ∧ q.lastLine + eMargin c.set e ≤ done

/-- What entry `e` of a capture gives CROP_FORM to form. -/
def cropAt (done : Nat) (c : Capture) (e : Nat) : Option (Nat × Nat) :=
  match c.crops.getD e [] with
  | q :: _ => if q.lastLine + eMargin c.set e ≤ done then some (c.lead, e) else none
  | [] => none

/-- What a capture gives CROP_FORM to form: its first entry that is due. -/
def cropOf (done : Nat) (c : Capture) : Option (Nat × Nat) := (List.range (setEntries c.set)).findSome? (cropAt done c)

/-- The last line that has left stage 9. -/
abbrev doneLine (d : Dev) : Nat := rf d .PIPE_LINE_DONE 0 PIPE_LINE_DONE.LINE

section
variable {done : Nat} {c : Capture} {e : Nat}

theorem cropAt_due (due : CropDue done c e) : cropAt done c e = some (c.lead, e) := by
  obtain ⟨q, t, waits, left⟩ := due
  simp only [cropAt, waits, if_pos left]

theorem cropAt_other (other : ¬ CropDue done c e) : cropAt done c e = none := by
  unfold cropAt
  split
  · next q t waits => exact if_neg fun left => other ⟨q, t, waits, left⟩
  · rfl

theorem range_split_at {n : Nat} (within : e < n) : ∃ rest, List.range n = List.range e ++ e :: rest := by
  refine ⟨(List.range n).drop (e + 1), ?_⟩
  conv_lhs => rw [← List.take_append_drop e (List.range n)]
  rw [List.take_range, Nat.min_eq_left (Nat.le_of_lt within), List.drop_eq_getElem_cons (by simpa using within), List.getElem_range]

theorem cropOf_due (within : e < setEntries c.set) (due : CropDue done c e) (first : ∀ f, f < e → ¬ CropDue done c f) :
    cropOf done c = some (c.lead, e) := by
  obtain ⟨rest, split⟩ := range_split_at within
  exact List.findSome?_eq_some_iff.mpr
    ⟨_, e, rest, split, cropAt_due due, fun f before => cropAt_other (first f (List.mem_range.mp before))⟩

theorem cropOf_none (nothing : ∀ f, f < setEntries c.set → ¬ CropDue done c f) : cropOf done c = none :=
  List.findSome?_eq_none_iff.mpr fun f within => cropAt_other (nothing f (List.mem_range.mp within))

end

section
variable {d : Dev}

theorem cropForm_eq : cropForm d = match d.strm.captures.findSome? (cropOf (doneLine d)) with
    | some (lead, e) => popCrop lead e d
    | none => d := rfl

theorem cropForm_forms {pre t : List Capture} {c : Capture} {e : Nat} (captures : d.strm.captures = pre ++ c :: t)
    (before : ∀ c' ∈ pre, ∀ f, f < setEntries c'.set → ¬ CropDue (doneLine d) c' f)
    (within : e < setEntries c.set)
    (due : CropDue (doneLine d) c e) (first : ∀ f, f < e → ¬ CropDue (doneLine d) c f) : cropForm d = popCrop c.lead e d := by
  have found : d.strm.captures.findSome? (cropOf (doneLine d)) = some (c.lead, e) :=
    List.findSome?_eq_some_iff.mpr ⟨pre, c, t, captures, cropOf_due within due first, fun c' mem => cropOf_none (before c' mem)⟩
  rw [cropForm_eq, found]

theorem cropForm_none (nothing : ∀ c ∈ d.strm.captures, ∀ f, f < setEntries c.set → ¬ CropDue (doneLine d) c f) :
    cropForm d = d := by
  rw [cropForm_eq, List.findSome?_eq_none_iff.mpr fun c mem => cropOf_none (nothing c mem)]

end

/-! ### Pins and buttons (R194, R222) -/

/-- The level of trigger pin `n` after INVERT. -/
abbrev pinShows (n : Nat) (d : Dev) : Bool := bitOf d.sync.pins n != rb d .TRIG_PIN_CFG n TRIG_PIN_CFG.INVERT

/-- The level of button `n` after INVERT. -/
abbrev btnShows (n : Nat) (d : Dev) : Bool := bitOf d.sync.pins (16 + n) != rb d .BTN_CFG n BTN_CFG.INVERT

section
variable {d : Dev} {n : Nat} (up : domUp d dFABRIC = true)
include up

theorem triggerPinEdge_same {v : Bool} (same : pinShows n (setPin n v d) = bitOf (rn d .TRIG_PIN_STATE 0) n) :
    triggerPinEdge n v d = setPin n v d := by
  simp only [triggerPinEdge, up, Bool.not_true, Bool.false_eq_true, if_false]
  exact if_pos same

theorem triggerPinEdge_changes {v : Bool} (changes : pinShows n (setPin n v d) ≠ bitOf (rn d .TRIG_PIN_STATE 0) n) :
    triggerPinEdge n v d = sourceSample 0 n (b2n (pinShows n (setPin n v d)) : Nat) (pinStamp d n)
      (wn .TRIG_PIN_STATE 0 (putBit (rn d .TRIG_PIN_STATE 0) n (pinShows n (setPin n v d))) (setPin n v d)) := by
  simp only [triggerPinEdge, up, Bool.not_true, Bool.false_eq_true, if_false]
  exact if_neg changes

theorem button_same {v : Bool} (same : btnShows n (setPin (16 + n) v d) = bitOf (rn d .BTN_STATE 0) n) :
    button n v d = setPin (16 + n) v d := by
  simp only [button, up, Bool.not_true, Bool.false_eq_true, if_false]
  exact if_pos same

theorem button_changes {v : Bool} (changes : btnShows n (setPin (16 + n) v d) ≠ bitOf (rn d .BTN_STATE 0) n) :
    button n v d = sourceSample 3 n (b2n (btnShows n (setPin (16 + n) v d)) : Nat) (stampNow d)
      (occur Src.BUTTON n (b2n (btnShows n (setPin (16 + n) v d)) : Nat) 0
        (wn .BTN_STATE 0 (putBit (rn d .BTN_STATE 0) n (btnShows n (setPin (16 + n) v d))) (setPin (16 + n) v d))) := by
  simp only [button, up, Bool.not_true, Bool.false_eq_true, if_false]
  exact if_neg changes

end

/-! ### Timers of trigger units and sequencers (R196, R199) -/

/-- Unit `n`, of KIND 3, has watched its level for its length, which ends at stamp `e`. -/
abbrev TimeoutDue (d : Dev) (n : Nat) (r : Bytes) (x : TrigUnit) (e : Stamp) : Prop :=
  ∃ a, unitRec d n = some r ∧ findUnit d n = some x ∧ x.start = some a ∧ tuKind r = 3 ∧
    elapse d a (if x.again then tuMax r else tuMin r) (tuUnitKind r) = some e

/-- The timer of the state that sequencer `n` is in is over at stamp `e`. -/
abbrev SeqTimerDue (d : Dev) (n : Nat) (r : Bytes) (x : SeqSt) (e : Stamp) : Prop :=
  seqRec d n (seqState d n) = some r ∧ d.pages.seqs.find? (fun x => x.seq == n) = some x ∧ bitOf (leAt r 10 1) 1 = true ∧
    elapse d x.entry (leAt r 16 8) (leAt r 11 1) = some e

section
variable {d : Dev} {n : Nat}

section
variable {r : Bytes} {e : Stamp} (up : domUp d dFABRIC = true)
include up

theorem triggerTimeout_fires {x : TrigUnit} (due : TimeoutDue d n r x e) :
    triggerTimeout n d = unitFire n r e (onUnit n (fun x => { x with start := some e, again := true }) d) := by
  obtain ⟨a, record, unit, start, kind, ended⟩ := due
  simp [triggerTimeout, record, unit, start, kind, up, ended]

theorem seqTimerExpiry_moves {x : SeqSt} (due : SeqTimerDue d n r x e) :
    seqTimerExpiry n d =
      seqLeft n (seqState d n) (rn d .PROD_SEQ_COUNT n) x.entry (seqEnter n (leAt r 9 1 % 16) e d) := by
  obtain ⟨record, sequencer, timer, ended⟩ := due
  simp [seqTimerExpiry, record, sequencer, timer, up, ended]

end

theorem triggerTimeout_rests (idle : ∀ r x e, ¬ TimeoutDue d n r x e) : triggerTimeout n d = d := by
  unfold triggerTimeout
  split
  · next r x record unit =>
    split
    · next a start =>
      split
      · rfl
      · next runs =>
        split
        · next e ended =>
          simp only [Bool.or_eq_true, not_or, decide_eq_true_eq, not_not] at runs
          obtain ⟨kind, -⟩ := runs
          exact absurd ⟨a, record, unit, start, kind, ended⟩ (idle r x e)
        · rfl
    · rfl
  · rfl

theorem seqTimerExpiry_rests (idle : ∀ r x e, ¬ SeqTimerDue d n r x e) : seqTimerExpiry n d = d := by
  unfold seqTimerExpiry
  split
  · next r x record sequencer =>
    split
    · rfl
    · next runs =>
      split
      · next e ended =>
        simp only [Bool.or_eq_true, not_or, Bool.not_eq_true', Bool.not_eq_false] at runs
        obtain ⟨timer, -⟩ := runs
        exact absurd ⟨record, sequencer, timer, ended⟩ (idle r x e)
      · rfl
  · rfl

end

/-! ### Frames of the sync ring (R225, R226, R229 to R231) -/

theorem crcBitM_lt {w poly : Nat} (small : poly < 2 ^ w) (c : Nat) : crcBitM w poly c < 2 ^ w := by
  have cut : c * 2 % 2 ^ w < 2 ^ w := Nat.mod_lt _ (by positivity)
  unfold crcBitM
  split
  · exact Nat.xor_lt_two_pow cut small
  · exact cut

theorem crc16_lt (b : Bytes) : crc16 b < 2 ^ 16 :=
  List.foldlRecOn (motive := (· < 2 ^ 16)) _ _ (by decide) fun _ _ _ _ => crcBitM_lt (by decide) _

/-- The fields of a frame of the ring. -/
structure FrameFields where
  type : Nat
  src : Nat
  hops : Nat
  seq : Nat
  arg : Nat
  pos : Bytes

/-- The fields are within their widths. -/
structure FrameFields.Fit (f : FrameFields) : Prop where
  type : f.type < 256
  src : f.src < 8
  hops : f.hops < 8
  seq : f.seq < 256
  arg : f.arg < 256
  pos : f.pos.length = 8

/-- The part of a frame that its CRC covers. -/
def FrameFields.body (f : FrameFields) : Bytes :=
  leBytes 1 f.type ++ leBytes 1 (16 * f.hops + f.src) ++ leBytes 1 f.seq ++ leBytes 1 f.arg ++ f.pos ++ [0#8]

/-- The position a frame carries. -/
def FrameFields.position (f : FrameFields) : Int := sx 64 (leNat f.pos)

/-- The symbols of a frame with a CRC. -/
def ringFrame (body : Bytes) (crc : Nat) : Bytes := [0x3C#8] ++ body ++ leBytes 1 (crc / 256) ++ leBytes 1 crc

/-- The part of a received frame that its CRC covers. -/
abbrev bodyOf (frame : Bytes) : Bytes := (frame.drop 1).take 13

/-- The CRC of a received frame. -/
abbrev crcOf (frame : Bytes) : Nat := 256 * leAt frame 14 1 + leAt frame 15 1

/-- A field behind the first part of a string. -/
theorem leAt_append_behind (a b : Bytes) {off : Nat} (behind : a.length ≤ off) (n : Nat) :
    leAt (a ++ b) off n = leAt b (off - a.length) n := by
  rw [leAt, leAt, List.drop_append, List.drop_eq_nil_of_le behind, List.nil_append]

section
variable {body : Bytes} {crc : Nat} (whole : body.length = 13)
include whole

theorem ringFrame_length : (ringFrame body crc).length = 16 := by simp [ringFrame, whole]

theorem bodyOf_ringFrame : bodyOf (ringFrame body crc) = body := by
  rw [ringFrame, List.append_assoc, List.append_assoc, List.singleton_append]
  exact List.take_left' whole

theorem leAt_ringFrame_crc (off : Nat) : leAt (ringFrame body crc) (14 + off) 1 = leAt (leBytes 1 (crc / 256) ++ leBytes 1 crc) off 1 := by
  have head : ([0x3C#8] ++ body).length = 14 := by simp [whole]
  rw [ringFrame, List.append_assoc, leAt_append_behind _ _ (by omega), head, Nat.add_sub_cancel_left]

theorem crcOf_ringFrame (small : crc < 2 ^ 16) : crcOf (ringFrame body crc) = crc := by
  have high : leAt (ringFrame body crc) 14 1 = crc / 256 % 256 ^ 1 := by
    rw [leAt_ringFrame_crc whole 0, leAt_leBytes_append]
  have low : leAt (ringFrame body crc) 15 1 = crc % 256 ^ 1 := by
    rw [leAt_ringFrame_crc whole 1, leAt_skip 1 _ _ le_rfl, ← List.append_nil (leBytes 1 crc), leAt_leBytes_append]
  rw [crcOf, high, low]
  omega

end

section
variable {f : FrameFields} (fit : f.Fit)
include fit

theorem FrameFields.body_length : f.body.length = 13 := by simp [FrameFields.body, fit.pos]

theorem FrameFields.body_type : leAt f.body 0 1 = f.type := by
  have small := fit.type
  simp only [FrameFields.body, List.append_assoc, leAt_leBytes_append]
  omega

theorem FrameFields.body_place : leAt f.body 1 1 = 16 * f.hops + f.src := by
  have hops := fit.hops
  have src := fit.src
  simp only [FrameFields.body, List.append_assoc]
  rw [leAt_skip 1 _ _ le_rfl, leAt_leBytes_append]
  omega

theorem FrameFields.body_seq : leAt f.body 2 1 = f.seq := by
  have small := fit.seq
  simp only [FrameFields.body, List.append_assoc]
  rw [leAt_skip 1 _ _ (by decide), leAt_skip 1 _ _ le_rfl, leAt_leBytes_append]
  omega

theorem FrameFields.body_arg : leAt f.body 3 1 = f.arg := by
  have small := fit.arg
  simp only [FrameFields.body, List.append_assoc]
  rw [leAt_skip 1 _ _ (by decide), leAt_skip 1 _ _ (by decide), leAt_skip 1 _ _ le_rfl, leAt_leBytes_append]
  omega

/-- The first bytes of the position. -/
theorem FrameFields.body_pos {n : Nat} (within : n ≤ 8) : leAt f.body 4 n = leNat (f.pos.take n) := by
  have head : (leBytes 1 f.type ++ leBytes 1 (16 * f.hops + f.src) ++ leBytes 1 f.seq ++ leBytes 1 f.arg).length = 4 := by simp
  rw [FrameFields.body, List.append_assoc, leAt_append_behind _ _ head.le, head, leAt, List.drop_zero,
    List.take_append_of_le_length (fit.pos ▸ within)]

end

/-! ### What a frame does -/

/-- The frame goes on with one more hop. -/
def passOn (f : FrameFields) (arg : Nat) (d : Dev) : Dev :=
  emit (.ringFrame (frameBytes f.type f.src ((f.hops + 1) % 8) f.seq arg f.position)) d

/-- The FIRE last seen from its sender is this one. -/
def keepFire (f : FrameFields) (d : Dev) : Dev := sync (fun s => { s with lastFire := mset f.src (f.seq + 1) s.lastFire }) d

/-- A FIRE that was passed on: collected once, while the ring is armed or has collected already (R230; log entry 48). -/
def fireFrame (f : FrameFields) (d : Dev) : Dev :=
  if mget d.sync.lastFire f.src = f.seq + 1 then d
  else if !ringArmed d && d.sync.collected.isEmpty then incSat .SYNC_FIRE_IGNORED 0 (keepFire f d)
  else collectFire ⟨f.src, f.seq, f.position⟩ (keepFire f d)

/-- An ENUM. -/
def enumFrame (f : FrameFields) (d : Dev) : Dev :=
  if ringMaster d then (if f.src ≠ 0 || 8 < f.arg then occur Src.SYNC_RING_FAULT f.src f.arg 0 d else ringComesUp f.arg d)
  else passOn f ((f.arg + 1) % 256) (sf .SYNC_STATUS 0 SYNC_STATUS.NODE f.arg d)

/-- A POS that was passed on. -/
def placeFrame (f : FrameFields) (d : Dev) : Dev :=
  if ringMaster d then d else posFrame f.hops f.position (ringComesUp f.arg d)

/-- A frame of another node, other than ENUM, that was passed on. -/
def passedFrame (f : FrameFields) (d : Dev) : Dev :=
  if f.type = 2 then armWith f.arg d
  else if f.type = 3 then disarm d
  else if f.type = 4 then fireFrame f d
  else if f.type = 5 then placeFrame f d
  else occur Src.RING_EVENT f.src (leNat (f.pos.take 2)) 0 d

/-- A frame whose CRC holds. -/
def soundFrame (f : FrameFields) (d : Dev) : Dev :=
  if f.type = 0 || 6 < f.type then incSat .SYNC_BAD_FRAME 0 d
  else if f.type = 1 then enumFrame f d
  else if f.src = ownNode d then d
  else passedFrame f (passOn f f.arg d)

section
variable {d : Dev}

theorem syncFrameRx_disabled (disabled : rb d .SYNC_CFG 0 SYNC_CFG.ENABLE = false) (frame : Bytes) : syncFrameRx frame d = d := by
  simp [syncFrameRx, disabled]

section
variable (up : domUp d dFABRIC = true) (enabled : rb d .SYNC_CFG 0 SYNC_CFG.ENABLE = true)
include up enabled

theorem syncFrameRx_fails {frame : Bytes} (bad : frame.length ≠ 16 ∨ crc16 (bodyOf frame) ≠ crcOf frame) :
    syncFrameRx frame d = crcFail d := by
  simp only [syncFrameRx, up, enabled, Bool.not_true, Bool.or_self, Bool.false_eq_true, if_false]
  exact if_pos (by simpa only [Bool.or_eq_true, decide_eq_true_eq] using bad)

theorem syncFrameRx_sound {f : FrameFields} (fit : f.Fit) : syncFrameRx (ringFrame f.body (crc16 f.body)) d = soundFrame f d := by
  have whole := f.body_length fit
  have place := f.body_place fit
  have body : ((ringFrame f.body (crc16 f.body)).drop 1).take 13 = f.body := bodyOf_ringFrame whole
  have crc : crc16 f.body = 256 * leAt (ringFrame f.body (crc16 f.body)) 14 1 + leAt (ringFrame f.body (crc16 f.body)) 15 1 :=
    (crcOf_ringFrame whole (crc16_lt _)).symm
  have pos : leAt f.body 4 8 = leNat f.pos := by rw [f.body_pos fit le_rfl, List.take_of_length_le fit.pos.le]
  have src : (16 * f.hops + f.src) % 8 = f.src := by have := fit.src; omega
  have hops : (16 * f.hops + f.src) / 16 % 8 = f.hops := by have := fit.src; have := fit.hops; omega
  simp only [syncFrameRx, up, enabled, body, ringFrame_length whole, ← crc, f.body_type fit, place, f.body_seq fit, f.body_arg fit,
    pos, f.body_pos fit (show 2 ≤ 8 by decide), src, hops, Bool.not_true, Bool.or_self, Bool.false_eq_true, if_false, ne_eq,
    not_true_eq_false, decide_false]
  rfl

end

section
variable {f : FrameFields}

theorem soundFrame_reserved (reserved : f.type = 0 ∨ 6 < f.type) : soundFrame f d = incSat .SYNC_BAD_FRAME 0 d :=
  if_pos (by simpa only [Bool.or_eq_true, decide_eq_true_eq] using reserved)

theorem soundFrame_enum (enum : f.type = 1) : soundFrame f d = enumFrame f d := by
  simp [soundFrame, enum]

theorem enumFrame_node (other : ringMaster d = false) :
    enumFrame f d = passOn f ((f.arg + 1) % 256) (sf .SYNC_STATUS 0 SYNC_STATUS.NODE f.arg d) := by
  simp [enumFrame, other]

theorem enumFrame_closes (master : ringMaster d = true) (src : f.src = 0) (arg : f.arg ≤ 8) : enumFrame f d = ringComesUp f.arg d := by
  rw [enumFrame, if_pos master, if_neg (by simp [src, arg])]

theorem enumFrame_faults (master : ringMaster d = true) (bad : f.src ≠ 0 ∨ 8 < f.arg) :
    enumFrame f d = occur Src.SYNC_RING_FAULT f.src f.arg 0 d := by
  rw [enumFrame, if_pos master, if_pos (by simpa only [Bool.or_eq_true, decide_eq_true_eq] using bad)]

theorem soundFrame_own (low : 2 ≤ f.type) (high : f.type ≤ 6) (own : f.src = ownNode d) : soundFrame f d = d := by
  rw [soundFrame, if_neg (by simp; omega), if_neg (by omega), if_pos own]

section
variable (other : f.src ≠ ownNode d)
include other

theorem soundFrame_arm (arm : f.type = 2) : soundFrame f d = armWith f.arg (passOn f f.arg d) := by
  simp [soundFrame, passedFrame, other, arm]

theorem soundFrame_disarm (disarms : f.type = 3) : soundFrame f d = disarm (passOn f f.arg d) := by
  simp [soundFrame, passedFrame, other, disarms]

theorem soundFrame_fire (fire : f.type = 4) : soundFrame f d = fireFrame f (passOn f f.arg d) := by
  simp [soundFrame, passedFrame, other, fire]

theorem soundFrame_pos (position : f.type = 5) : soundFrame f d = placeFrame f (passOn f f.arg d) := by
  simp [soundFrame, passedFrame, other, position]

theorem soundFrame_event (event : f.type = 6) :
    soundFrame f d = occur Src.RING_EVENT f.src (leNat (f.pos.take 2)) 0 (passOn f f.arg d) := by
  simp [soundFrame, passedFrame, other, event]

end

theorem placeFrame_master (master : ringMaster d = true) : placeFrame f d = d := if_pos master

theorem placeFrame_node (node : ringMaster d = false) : placeFrame f d = posFrame f.hops f.position (ringComesUp f.arg d) :=
  if_neg (Bool.eq_false_iff.mp node)

theorem fireFrame_seen (seen : mget d.sync.lastFire f.src = f.seq + 1) : fireFrame f d = d := if_pos seen

section
variable (unseen : mget d.sync.lastFire f.src ≠ f.seq + 1)
include unseen

theorem fireFrame_ignored (unarmed : ringArmed d = false) (idle : d.sync.collected = []) :
    fireFrame f d = incSat .SYNC_FIRE_IGNORED 0 (keepFire f d) := by
  rw [fireFrame, if_neg unseen, if_pos (by simp [unarmed, idle])]

theorem fireFrame_collected (takes : ringArmed d = true ∨ d.sync.collected ≠ []) :
    fireFrame f d = collectFire ⟨f.src, f.seq, f.position⟩ (keepFire f d) := by
  have taken : ¬ (!ringArmed d && d.sync.collected.isEmpty) = true := by
    simpa [imp_iff_not_or] using takes
  rw [fireFrame, if_neg unseen, if_neg taken]

end
end

/-! ### Timers of the sync ring (R226, R227, R230, R232) -/

section
variable (up : domUp d dFABRIC = true)
include up

theorem syncEnumTimer_sends (sends : (rb d .SYNC_CFG 0 SYNC_CFG.ENABLE && ringMaster d) = true) (down : ringUp d = false) :
    syncEnumTimer d = sendFrame 1 1 0 d := by
  rw [syncEnumTimer, up, Bool.true_and, sends, down]; rfl

theorem syncEnumTimer_rests (rests : (rb d .SYNC_CFG 0 SYNC_CFG.ENABLE && ringMaster d) = false ∨ ringUp d = true) :
    syncEnumTimer d = d := by
  rw [syncEnumTimer, up, Bool.true_and]
  obtain silent | ring := rests
  · rw [silent]; rfl
  · rw [ring, Bool.not_true, Bool.and_false]; rfl

theorem syncPosTimer_sends (sends : (rb d .SYNC_CFG 0 SYNC_CFG.ENABLE && ringMaster d) = true) (ring : ringUp d = true) :
    syncPosTimer d = sendFrame 5 (rf d .SYNC_STATUS 0 SYNC_STATUS.SIZE) (trackPos d) d := by
  rw [syncPosTimer, up, Bool.true_and, sends, ring]; rfl

theorem syncPosTimer_rests (rests : (rb d .SYNC_CFG 0 SYNC_CFG.ENABLE && ringMaster d) = false ∨ ringUp d = false) :
    syncPosTimer d = d := by
  rw [syncPosTimer, up, Bool.true_and]
  obtain silent | down := rests
  · rw [silent]; rfl
  · rw [down, Bool.and_false]; rfl

/-- Fires before another: of a lower position, or of the same and a node that is not above. -/
def fireBefore (a b : Fire) : Bool := decide (a.pos < b.pos) || (a.pos == b.pos && decide (a.src ≤ b.src))

/-- Fires by position, then by node. -/
def orderFires (l : List Fire) : List Fire :=
  l.foldl (fun l f => l.takeWhile (fun x => fireBefore x f) ++ [f] ++ l.dropWhile (fun x => fireBefore x f)) []

theorem syncFireApply_applies :
    syncFireApply d = (if bitOf (ringRule d) 0 then (orderFires d.sync.collected).take 1 else orderFires d.sync.collected).foldl
      (fun d f => applyFire f d) (sync (fun s => { s with collected := [] }) d) := by
  rw [syncFireApply, up]; rfl

theorem syncPosTimeout_node (other : ringMaster d = false) : syncPosTimeout d = ringDown d := by
  rw [syncPosTimeout, up, other]; rfl

end

theorem syncPosTimeout_master (master : ringMaster d = true) : syncPosTimeout d = d := by
  rw [syncPosTimeout, master, Bool.not_true, Bool.and_false]; rfl

end

end Sys2Proof.Machine

/-!
PROOFS. The statements of 07_pages_triggers_products.md.
-/
namespace Sys2Proof.PagesTriggersProducts
open Sys2Proof.Machine

/-- Settles O34: a page request by the page that is open, the ring's control by whether the device is its master, a restore by the checks of
its image in their order. -/
theorem pagesSyncAndRestore : Obligations.PagesSyncAndRestore := by
  unfold Obligations.PagesSyncAndRestore
  refine ⟨fun s up => ?_, fun s up => ?_⟩
  · have arm (r : Nat) (hr : r < 4) : exec (.syncCtrlArm r) s = .next (s.after (syncCtrlArm r s.dev)) := by
      rw [exec_syncCtrlArm, act_after (decide_eq_true hr), regCommand_up addrDom_syncCtrl up]
    simp only [exec_pageCtrlOpen, exec_pageCtrlClose, exec_syncCtrlDisarm, act_after rfl, regCommand_up addrDom_pageCtrl up,
      regCommand_up addrDom_syncCtrl up]
    refine ⟨?_, fun noPage => ?_, fun g openPage => ?_, fun r hr => ⟨fun master => ?_, fun other => ?_⟩, fun master => ?_,
      fun other => ?_⟩
    · rw [pageCtrl_open]; rfl
    · rw [pageCtrl_close_idle noPage]
    · rw [pageCtrl_close openPage, hostRequest, openPage]; rfl
    · rw [arm r hr, syncCtrlArm_master master hr]; rfl
    · rw [arm r hr, syncCtrlArm_other other]
    · rw [syncCtrlDisarm_master master]; rfl
    · rw [syncCtrlDisarm_other other]
  · simp only [exec_calRestore, act_after rfl, regCommand_up addrDom_calCtrl up]
    refine ⟨fun noHold => ?_, fun hold => ⟨fun unsound => ?_, fun sound differs => ?_, fun sound same => ⟨?_, fun unbound => ?_⟩⟩⟩
    · rw [calRestore_noHold up noHold]
    · rw [calRestore_unsound up hold unsound]; rfl
    · rw [calRestore_badCheck up hold sound differs]; rfl
    · rw [calRestore_waits up hold sound same]; rfl
    · exact restoredDrift_unbound (d := endHold s.dev) (m := heldDrift s.dev) unbound

/-- Settles O46: a fit by the first page that is due, a crop by the first capture and in it the first entry that is due. -/
theorem fitAndCrop : Obligations.FitAndCrop := by
  unfold Obligations.FitAndCrop
  intro s up
  simp only [exec_edgeFit, exec_cropForm, act_after rfl, whenUp_up up]
  refine ⟨fun e page => ?_, fun noPage => ?_, fun pre c t e captures before within due first => ?_, fun nothing => ?_⟩
  · obtain ⟨f, fit, fits⟩ := edgeFit_fits page
    refine ⟨f, fit.page, fit.first, fit.sides, fit.lead, fun sides => ⟨fit.left sides, fit.right sides, fit.offset sides⟩, ?_⟩
    rw [fits]; rfl
  · rw [edgeFit_none noPage]
  · rw [cropForm_forms captures before within due first]
  · rw [cropForm_none nothing]

/-- Settles O47: a pin and a button by whether the level changes what is shown, a unit and a sequencer by whether a length is over. -/
theorem triggerEvents : Obligations.TriggerEvents := by
  unfold Obligations.TriggerEvents
  intro s n v up
  refine ⟨fun hn => ?_, fun hn => ?_, fun hn => ?_, fun hn => ?_⟩
  · have pin : isPin n = true := decide_eq_true hn
    simp only [exec_triggerPinEdge, act_after pin]
    refine ⟨fun same => ?_, fun changes => ?_⟩
    · rw [triggerPinEdge_same up same]; rfl
    · rw [triggerPinEdge_changes up changes]; rfl
  · have btn : isButton n = true := decide_eq_true hn
    simp only [exec_button, act_after btn]
    refine ⟨fun same => ?_, fun changes => ?_⟩
    · rw [button_same up same]; rfl
    · rw [button_changes up changes]; rfl
  · have unit : isTrigger n = true := decide_eq_true hn
    simp only [exec_triggerTimeout, act_after unit]
    refine ⟨fun r x e due => ?_, fun idle => ?_⟩
    · rw [triggerTimeout_fires up due]
    · rw [triggerTimeout_rests idle]
  · have sequencer : isSequencer n = true := decide_eq_true hn
    simp only [exec_seqTimerExpiry, act_after sequencer]
    refine ⟨fun r x e due => ?_, fun idle => ?_⟩
    · rw [seqTimerExpiry_moves up due]
    · rw [seqTimerExpiry_rests idle]

/-- Settles O50: a frame by its length and CRC, then by its type, the device's place in the ring and what it has seen; a timer by whether the
device is the master and the ring is up. -/
theorem syncRing : Obligations.SyncRing := by
  unfold Obligations.SyncRing
  refine ⟨fun s up => ?_, fun s up => ?_⟩
  · have run (frame : Bytes) : exec (.syncFrameRx frame) s = .next (s.after (syncFrameRx frame s.dev)) := act_after rfl _ s
    refine ⟨fun disabled frame => ?_, fun enabled => ⟨fun frame short => ?_,
      fun k src hops seq arg pos hk hsrc hhops hseq harg hpos => ?_⟩⟩
    · rw [run, syncFrameRx_disabled disabled]
    · rw [run, syncFrameRx_fails up enabled (.inl short)]
    · intro body frame sent d
      have fit : FrameFields.Fit ⟨k, src, hops, seq, arg, pos⟩ := ⟨hk, hsrc, hhops, hseq, harg, hpos⟩
      have whole : body.length = 13 := FrameFields.body_length fit
      have covered : body = FrameFields.body ⟨k, src, hops, seq, arg, pos⟩ := rfl
      have symbols (crc : Nat) : frame crc = ringFrame body crc := rfl
      have sound : syncFrameRx (frame (crc16 body)) s.dev = soundFrame ⟨k, src, hops, seq, arg, pos⟩ s.dev := by
        rw [symbols, covered, syncFrameRx_sound up enabled fit]
      have passed : passOn ⟨k, src, hops, seq, arg, pos⟩ arg s.dev = d := rfl
      rw [run, sound]
      refine ⟨fun crc small differs => ?_, fun reserved => ?_, fun enum node => ?_, fun enum master zero small => ?_,
        fun enum master bad => ?_, fun low high own => ?_, fun other => ⟨fun arm => ?_, fun disarms => ?_,
          fun fire => ⟨fun seen => ?_, fun unseen unarmed idle => ?_, fun unseen takes => ?_⟩,
          fun position master => ?_, fun position node => ?_, fun event => ?_⟩⟩
      · have bad : crc16 (bodyOf (frame crc)) ≠ crcOf (frame crc) := by
          rw [symbols, bodyOf_ringFrame whole, crcOf_ringFrame whole small]
          exact differs.symm
        rw [run, syncFrameRx_fails up enabled (.inr bad)]
      · rw [soundFrame_reserved reserved]
      · rw [soundFrame_enum enum, enumFrame_node node]; rfl
      · rw [soundFrame_enum enum, enumFrame_closes master zero small]
      · rw [soundFrame_enum enum, enumFrame_faults master bad]
      · rw [soundFrame_own low high own]
      · rw [soundFrame_arm other arm]; rfl
      · rw [soundFrame_disarm other disarms]; rfl
      · rw [soundFrame_fire other fire, passed, fireFrame_seen seen]
      · rw [soundFrame_fire other fire, passed, fireFrame_ignored unseen unarmed idle]; rfl
      · rw [soundFrame_fire other fire, passed, fireFrame_collected unseen takes]; rfl
      · rw [soundFrame_pos other position, passed, placeFrame_master master]
      · rw [soundFrame_pos other position, passed, placeFrame_node node]; rfl
      · rw [soundFrame_event other event]; rfl
  · simp only [exec_syncEnumTimer, exec_syncPosTimer, exec_syncFireApply, exec_syncRxLos, exec_syncPosTimeout, act_after rfl]
    refine ⟨⟨fun sends down => ?_, fun rests => ?_, fun sends ring => ?_, fun rests => ?_⟩, ?_, ?_, fun node => ?_, fun master => ?_⟩
    · rw [syncEnumTimer_sends up sends down]
    · rw [syncEnumTimer_rests up rests]
    · rw [syncPosTimer_sends up sends ring]
    · rw [syncPosTimer_rests up rests]
    · rw [syncFireApply_applies up]; rfl
    · rw [syncRxLos, whenUp_up up]
    · rw [syncPosTimeout_node up node]
    · rw [syncPosTimeout_master master]

end Sys2Proof.PagesTriggersProducts

/-!
PROOFS. The calibration by its guards: the commands that wait for a run or write a baseline record, the start of a run for a CAL_RUN at a
hand-over, and the events that end a run or let it collect (R237, R239, R250 to R252, R255, R258, R259).
-/
namespace Sys2Proof.Machine

/-! ### CAL_RUN and CAL_TILE_RUN (R255, R259) -/

/-- Whether the active image holds a table of motion segments of a number. -/
def hasTable (d : Dev) (t : Nat) : Bool := ((activeImage d).bind (fun i => segTable i t)).isSome

/-- What refuses a CAL_TILE_RUN: its segments, SHADING that host software does not own or whose commit is pending, a table missing. -/
abbrev TileRefused (c : Cmd) (d : Dev) : Prop :=
  calSegsOk d (leAt c.entry 8 6) = false ∨ hostOwns d 4 = false ∨ bitOf (rf d .TTBL_GEN_STATUS 0 TTBL_GEN_STATUS.PENDING) 4 = true ∨
    hasTable d (rf d .CAL_TILE_CFG 0 CAL_TILE_CFG.TABLE_IN) = false ∨ hasTable d (rf d .CAL_TILE_OUT 0 CAL_TILE_OUT.TABLE_OUT) = false

section
variable {c : Cmd} {d : Dev} (unqueued : c.data = [])

/-- The tests of CAL_TILE_RUN together are what refuses it. -/
theorem tileRefused_iff :
    (!calSegsOk d (leAt c.entry 8 6) || !hostOwns d 4 || bitOf (rf d .TTBL_GEN_STATUS 0 TTBL_GEN_STATUS.PENDING) 4 ||
      !hasTable d (rf d .CAL_TILE_CFG 0 CAL_TILE_CFG.TABLE_IN) || !hasTable d (rf d .CAL_TILE_OUT 0 CAL_TILE_OUT.TABLE_OUT)) = true ↔
      TileRefused c d := by
  simp only [Bool.or_eq_true, Bool.not_eq_true', or_assoc]

include unqueued

/-- A command that does not wait yet is not taken for one whose turn is still to come. -/
theorem not_queued : ¬ (!c.data.isEmpty) = true := by rw [unqueued]; decide

theorem calRun_queued (live : calSegsOk d (leAt c.entry 8 6) = true) : calRun c d = calQueue c d :=
  (if_neg (not_queued unqueued)).trans (if_neg (by simp [live]))

theorem calRun_refused (other : calSegsOk d (leAt c.entry 8 6) = false) : calRun c d = complete c stSTATE dREGUL [] d :=
  (if_neg (not_queued unqueued)).trans (if_pos (by simp [other]))

theorem calTileRun_queued (good : ¬ TileRefused c d) : calTileRun c d = calQueue c d :=
  (if_neg (not_queued unqueued)).trans (if_neg (mt tileRefused_iff.mp good))

theorem calTileRun_refused (bad : TileRefused c d) : calTileRun c d = complete c stSTATE dREGUL [] d :=
  (if_neg (not_queued unqueued)).trans (if_pos (tileRefused_iff.mpr bad))

end

/-! ### The start of a run for a CAL_RUN (R255, R258) -/

section
variable {d : Dev} {run : CalRun}

@[simp] theorem showCal_cal (d : Dev) : (showCal d).cal = d.cal := by
  unfold showCal
  dsimp only
  split <;> rfl

/-- The run that a CAL_RUN asks for. -/
def hostRun (c : Cmd) : CalRun :=
  { noRun with
    kind := leAt c.entry 16 1, cmd := c.order + 1, marksOnly := bitOf (leAt c.entry 17 1) 0, lines := leAt c.entry 20 4
    timeout := leAt c.entry 24 4, mask := leAt c.entry 8 6 }

/-- A run with the number and the segments it begins with. -/
def numbered (run : CalRun) (d : Dev) : CalRun :=
  { run with num := (rn d .CAL_RUN_NUM 0 + 1) % 2 ^ 32, segs := (bitsOf run.mask 48).map (fun s => ⟨s, 0, true⟩) }

theorem numbered_segs : (numbered run d).segs.map (·.seg) = bitsOf run.mask 48 := by
  simp [numbered, Function.comp_def]

/-- The turn of a calibration command has come. -/
def takeTurn (c : Cmd) (d : Dev) : Dev := updCmd { c with started := true, data := [2] } d

/-- A run that waits for its first line takes line `n`; the last act of `calStart`. -/
def takeFirstLine (n : Nat) (d : Dev) : Dev :=
  match d.cal.run with
  | some run =>
    if run.first = 0 && run.tile = 0 then
      let g (c : Nat) : Nat := rf d .TTBL_GEN_INFORCE c TTBL_GEN_INFORCE.GEN
      showCal (cal (fun c => { c with run := some { run with first := n + 1, gens := [g 2, g 4, g 11] } }) d)
    else showCal d
  | none => showCal d

/-- A run that is no tile run begins without a move of the tile. -/
theorem calBegin_run (noTile : run.kind ≠ 0x10) : (calBegin run d).cal.run = some (numbered run d) :=
  congrArg (fun e : Dev => e.cal.run) (if_neg noTile)

/-- With its first line a run takes that line's generations, and keeps all else. -/
theorem takeFirstLine_run (runs : d.cal.run = some run) (n : Nat) :
    ∃ first gens, (takeFirstLine n d).cal.run = some { run with first := first, gens := gens } := by
  unfold takeFirstLine
  rw [runs]
  dsimp only
  split
  · exact ⟨_, _, by rw [showCal_cal]; rfl⟩
  · exact ⟨run.first, run.gens, by rw [showCal_cal, runs]⟩

/-- Where no run is in progress and no hold is on, the CAL_RUN that waits first begins its run with the line. -/
theorem calStart_calRun {w : Cmd} (up : domUp d dREGUL = true) (free : calBusy d = false)
    (noHold : rb d .CAL_CTRL 0 CAL_CTRL.STAGE_HOLD = false) (waits : calWaiting d = some w) (op : w.op = 0x60) (n : Nat) :
    calStart n d = takeFirstLine n (calBegin (hostRun w) (takeTurn w d)) := by
  have noTile : (w.op == 0x61) = false := by rw [op]; rfl
  simp only [calStart, up, free, noHold, waits, noTile]
  rfl

end

/-! ### BASELINE_WRITE (R239) -/

section
variable {c : Cmd} {d : Dev}

theorem baselineWrite_badHeader {st off : Nat} (bad : baseHeaderBad c.block c.block.length = some (st, off)) :
    baselineWrite c d = complete c st (min 0xFF (0x40 + off)) [] d := by
  simp only [baselineWrite, bad]

section
variable (header : baseHeaderBad c.block c.block.length = none)
include header

theorem baselineWrite_badCheck (differs : baseCheckOk c.block = false) : baselineWrite c d = complete c stINTEGRITY 0 [] d := by
  simp only [baselineWrite, header]
  exact if_pos (by simp [differs])

section
variable (check : baseCheckOk c.block = true)
include check

theorem baselineWrite_badSignature (refused : certOk d c.block = false) :
    baselineWrite c d = complete c stSIGNATURE 0 [] (incSat .SEC_SIG_FAILS 0 d) := by
  simp only [baselineWrite, header]
  exact (if_neg (by simp [check])).trans (if_pos (by simp [refused]))

/-- Past its CHECK and its certificate, a record is given to NVS where there is room for it. -/
theorem baselineWrite_signed (signed : certOk d c.block = true) :
    baselineWrite c d = if (baseFree d).isNone || 201326592 < baseUsed d + c.block.length then complete c stBOUND 0 [] d
      else updCmd { c with data := [1] } d := by
  simp only [baselineWrite, header]
  exact (if_neg (by simp [check])).trans (if_neg (by simp [signed]))

variable (signed : certOk d c.block = true)
include signed

theorem baselineWrite_noRoom (noRoom : baseFree d = none ∨ 201326592 < baseUsed d + c.block.length) :
    baselineWrite c d = complete c stBOUND 0 [] d := by
  rw [baselineWrite_signed header check signed]
  exact if_pos (by simpa using noRoom)

theorem baselineWrite_writes {n : Nat} (free : baseFree d = some n) (room : baseUsed d + c.block.length ≤ 201326592) :
    baselineWrite c d = updCmd { c with data := [1] } d := by
  rw [baselineWrite_signed header check signed]
  exact if_neg (by simpa [free] using room)

end
end

/-- The only command in flight, whose record NVS is given, is the one that the end of the write finds. -/
theorem nvsWriter_only (op : c.op = 0x62) (only : d.post.cmds = [c]) :
    nvsWriter 0x62 (updCmd { c.begun with data := [1] } (d.begun c)) = some { c.begun with data := [1] } := by
  simp [nvsWriter, Dev.begun, updCmd, only, op]

/-- The replacement of a command leaves the free directory entries. -/
theorem baseFree_updCmd : baseFree (updCmd c d) = baseFree d := rfl

end

/-! ### CAL_DECISION (R250 to R252) -/

section
variable (d : Dev) (run : CalRun) (i : Bytes)

/-- What a run found at each of its entries and sources. -/
def runFinds : List CalFind := (calKeys d i run).map (calFind d run (fun q => !hasDark d i run q))

/-- The device once the values of a run have been formed: they have used free values (log entry 56). -/
def useQuotients : Dev := { d with fresh := d.fresh + 2 ^ 23 }

/-- The flags of a rejected run go into the record in force and into one that waits. -/
def flagRecords (l : List CalFind) : Dev :=
  let b := bankAddr 11 (bankIn d 11) 0
  let m := l.foldl (fun m x => putLe m (b + (if 2 ^ 20 ≤ x.key then offSrcFlags (x.key - 2 ^ 20) else offFlags x.key)) 1
    (calFlags false (run.kind == 0x10) x)) d.tables
  cal (fun c => { c with next := c.next.map (calWrite i run false l) }) { d with tables := m }

/-- The record of an accepted run: its values and flags, its number, the instant, and the serials its segments are bound to. -/
def acceptedRecord (l : List CalFind) : Mem :=
  run.segs.foldl (fun m s => if boundSerial d s.seg = 0 then m else putLe m (offSerial s.seg) 8 (boundSerial d s.seg))
    (putLe (putLe (calWrite i run true l (calBase d)) 8 4 run.num) 16 8 d.now)

/-- An accepted run waits for the next hand-over; one of a tile brings gains, and the anchors of its segments are invalidated. -/
def acceptFinds (l : List CalFind) : Dev :=
  let tile := run.kind == 0x10
  let shade := if tile then l.filterMap (fun x => x.value.map (fun v => (x.key, v.toNat))) else []
  let e := cal (fun c => { c with pend := some ⟨run, (calCount true tile l).applied, shade⟩ }) (calAccept (acceptedRecord d run i l) d)
  if tile then run.segs.foldl (fun d s => occur Src.ANCHOR_INVALIDATED s.seg 0 0 d) e else e

end

section
variable {d : Dev} {run : CalRun} {i : Bytes}

/-- Without a run, an active image or the last line of its sets nothing is decided. -/
theorem calDecision_stays (early : ∀ run i, d.cal.run = some run → activeImage d = some i → runFull run = false) : calDecision d = d := by
  unfold calDecision
  split
  next run i runs active => exact if_pos (by simp [early run i runs active])
  next => rfl

section
variable (up : domUp d dREGUL = true) (runs : d.cal.run = some run) (active : activeImage d = some i) (full : runFull run = true)
include up runs active full

/-- Complete sets are decided: by whether a value was tested, then by whether a tested one disagrees. -/
theorem calDecision_decides : calDecision d =
    let l := runFinds d run i
    let e := useQuotients d
    let n (accepted : Bool) := calCount accepted (run.kind == 0x10) l
    if !l.any (·.tested) then calEnd run 2 (n false) stOK true e
    else if l.any (fun x => x.tested && !x.agrees) then calEnd run 1 (n false) stOK true (flagRecords e run i l)
    else calEnd run 0 (n true) stOK true (acceptFinds e run i l) := by
  simp only [calDecision, runs, active]
  exact if_neg (by simp [full, up])

theorem calDecision_untested (untested : (runFinds d run i).any (·.tested) = false) :
    calDecision d = calEnd run 2 (calCount false (run.kind == 0x10) (runFinds d run i)) stOK true (useQuotients d) := by
  rw [calDecision_decides up runs active full]
  exact if_pos (by rw [untested]; rfl)

/-- A value that disagrees is a tested one. -/
theorem calDecision_rejects (disagrees : (runFinds d run i).any (fun x => x.tested && !x.agrees) = true) :
    calDecision d = calEnd run 1 (calCount false (run.kind == 0x10) (runFinds d run i)) stOK true
      (flagRecords (useQuotients d) run i (runFinds d run i)) := by
  have tested : (runFinds d run i).any (·.tested) = true := by
    obtain ⟨x, found, wrong⟩ := List.any_eq_true.mp disagrees
    exact List.any_eq_true.mpr ⟨x, found, (Bool.and_eq_true_iff.mp wrong).1⟩
  rw [calDecision_decides up runs active full]
  exact (if_neg (by rw [tested]; decide)).trans (if_pos disagrees)

theorem calDecision_accepts (tested : (runFinds d run i).any (·.tested) = true)
    (agree : (runFinds d run i).any (fun x => x.tested && !x.agrees) = false) :
    calDecision d = calEnd run 0 (calCount true (run.kind == 0x10) (runFinds d run i)) stOK true
      (acceptFinds (useQuotients d) run i (runFinds d run i)) := by
  rw [calDecision_decides up runs active full]
  exact (if_neg (by rw [tested]; decide)).trans (if_neg (Bool.eq_false_iff.mp agree))

end

/-! ### CAL_TIMEOUT and TILE_SETTLE_DONE (R250, R259) -/

theorem calTimeout_ends (up : domUp d dREGUL = true) (runs : d.cal.run = some run) (collects : runFull run = false) :
    calTimeout d = calEnd run 3 noCount stTIMEOUT true d := by
  simp [calTimeout, calStopRun, runs, collects, up]

theorem calTimeout_stays (full : ∀ run, d.cal.run = some run → runFull run = true) : calTimeout d = d := by
  unfold calTimeout
  split
  next => rfl
  next run runs => exact if_pos (by simp [full run runs])

/-- The tile of a run has moved in and stands: its axis is HOLDING and has no move. -/
abbrev TileStands (d : Dev) (run : CalRun) : Prop :=
  run.tile = 1 ∧ axState d (rf d .CAL_TILE_CFG 0 CAL_TILE_CFG.AXIS) = axHOLDING ∧
    (axis d (rf d .CAL_TILE_CFG 0 CAL_TILE_CFG.AXIS)).queue = []

theorem tileSettleDone_collects (up : domUp d dREGUL = true) (runs : d.cal.run = some run) (stands : TileStands d run) :
    tileSettleDone d = cal (fun c => { c with run := some { run with tile := 0, first := 0 } }) d := by
  simp only [tileSettleDone, runs]
  exact if_pos (by simp [stands, up])

theorem tileSettleDone_stays (moves : ∀ run, d.cal.run = some run → ¬ TileStands d run) : tileSettleDone d = d := by
  unfold tileSettleDone
  split
  next run runs =>
    refine if_neg fun done => moves run runs ?_
    simp only [Bool.and_eq_true, decide_eq_true_eq, List.isEmpty_iff] at done
    obtain ⟨⟨⟨tile, holding⟩, noMove⟩, -⟩ := done
    exact ⟨tile, holding, noMove⟩
  next => rfl

end

end Sys2Proof.Machine

/-!
PROOFS. The statements of 08_calibration.md.
-/
namespace Sys2Proof.Calibration
open Sys2Proof.Machine

/-- Settles O26: the two run commands by what refuses them, the start of a run by the command that waits first, BASELINE_WRITE by its checks
in their order. -/
theorem calibrationCommands : Obligations.CalibrationCommands := by
  unfold Obligations.CalibrationCommands
  intro s q tag c d queued table tileBad up
  refine ⟨fun h unqueued => ?_, fun h unqueued => ?_, fun n e w upE free noHold waits op kind => ?_, fun h => ?_⟩
  · simp only [exec_calRun, act_awaits_up h up]
    refine ⟨fun live => ?_, fun other => ?_⟩
    · rw [calRun_queued (c := c.begun) unqueued live]; rfl
    · rw [calRun_refused (c := c.begun) unqueued other]; rfl
  · simp only [exec_calTileRun, act_awaits_up h up]
    refine ⟨fun good => ?_, fun bad => ?_⟩
    · rw [calTileRun_queued (c := c.begun) unqueued good]; rfl
    · rw [calTileRun_refused (c := c.begun) unqueued bad]; rfl
  · have noTile : leAt w.entry 16 1 ≠ 0x10 := by omega
    obtain ⟨first, gens, runs⟩ := takeFirstLine_run (calBegin_run (run := hostRun w) (d := takeTurn w e) noTile) n
    rw [calStart_calRun upE free noHold waits op, runs]
    exact ⟨_, rfl, rfl, rfl, rfl, rfl, rfl, rfl, rfl, numbered_segs (run := hostRun w) (d := takeTurn w e), rfl⟩
  · simp only [exec_baselineWrite, act_awaits_up h up]
    refine ⟨fun st off bad => ?_, fun header => ⟨fun differs => ?_, fun check => ⟨fun refused => ?_, fun signed =>
      ⟨fun noRoom => ?_, fun n free room => ⟨?_, fun only => ?_⟩⟩⟩⟩⟩
    · rw [baselineWrite_badHeader (c := c.begun) bad]
    · rw [baselineWrite_badCheck (c := c.begun) header differs]; rfl
    · rw [baselineWrite_badSignature (c := c.begun) header check refused]; rfl
    · rw [baselineWrite_noRoom (c := c.begun) header check signed noRoom]; rfl
    · rw [baselineWrite_writes (c := c.begun) header check signed free room]; rfl
    · obtain ⟨-, -, -, -, -, op, -, -⟩ := h
      have free1 : baseFree (updCmd { c.begun with data := [1] } d) = some n := baseFree_updCmd.trans free
      refine (baselineWritten_agrees (nvsWriter_only op only)).trans ?_
      rw [free1]; rfl

/-- Settles O51: the decision by the values tested and those that disagree, every other event by its guard. -/
theorem calibrationRun : Obligations.CalibrationRun := by
  unfold Obligations.CalibrationRun
  intro s up
  simp only [exec_calDecision, exec_calTimeout, exec_tileSettleDone, act_after rfl]
  refine ⟨fun run i runs active full => ⟨fun untested => ?_, fun disagrees => ?_, fun tested agree => ?_⟩, fun early => ?_,
    fun run runs collects => ?_, fun full => ?_, fun k hk => ?_, fun run runs stands => ?_, fun moves => ?_⟩
  · rw [calDecision_untested up runs active full untested]; rfl
  · rw [calDecision_rejects up runs active full disagrees]; rfl
  · rw [calDecision_accepts up runs active full tested agree]; rfl
  · rw [calDecision_stays early]
  · rw [calTimeout_ends up runs collects]
  · rw [calTimeout_stays full]
  · rw [exec_calHoldoffExpiry, act_after (ok := isSegment k) (decide_eq_true hk), calHoldoffExpiry, whenUp_up up]
  · rw [tileSettleDone_collects up runs stands]
  · rw [tileSettleDone_stays moves]

end Sys2Proof.Calibration

/-!
PROOFS. The urgent queues, MSI-X, OPTION_COMMIT and SPDM by their guards (R263, R403, R409, R418).
-/
namespace Sys2Proof.Machine

/-! ### UQ_POP (R263) -/

theorem addrDom_uqPop : ∀ q < 16, addrDom (regAddr .QUE_UQ_POP q) = dFABRIC := by decide

/-- What is left of an urgent queue is shown, once its head has left it. -/
def queueLeft (q : Nat) (t : List Nat) (d : Dev) : Dev :=
  sf .QUE_UQ_LEVEL q QUE_UQ_LEVEL.ENTRIES t.length { d with evt := { d.evt with uq := setAt d.evt.uq q t } }

section
variable {q : Nat} {d : Dev}

section
variable {p : Nat} {t : List Nat} (queue : d.evt.uq.getD q [] = p :: t)
include queue

theorem uqHead_entry : uqHead d q = p % 2 ^ 56 + 2 ^ 63 := by
  simp only [uqHead, queue, List.head?_cons]

theorem uqDrop_entry : uqDrop q d = queueLeft q t d := by
  simp only [uqDrop, queue, queueLeft]

theorem uqPop_entry :
    uqPop q d = queueLeft q t (emit (.readData (p % 2 ^ 56 + 2 ^ 63)) (dropLatch .QUE_UQ_POP q d)) := by
  have head : uqHead d q = p % 2 ^ 56 + 2 ^ 63 := uqHead_entry queue
  rw [uqPop, head]
  exact uqDrop_entry queue

end

section
variable (empty : d.evt.uq.getD q [] = [])
include empty

theorem uqHead_empty : uqHead d q = 0 := by
  simp only [uqHead, empty, List.head?_nil]

theorem uqDrop_empty : uqDrop q d = d := by
  simp only [uqDrop, empty]

theorem uqPop_empty : uqPop q d = emit (.readData 0) (dropLatch .QUE_UQ_POP q d) := by
  rw [uqPop, uqHead_empty empty]
  exact uqDrop_empty empty

end
end

/-! ### MSI-X (R418) -/

section
variable {d : Dev} {v : Nat}

/-- Bit 0 of a vector's control word is written 0. -/
def clearMask (v : Nat) (d : Dev) : Dev :=
  winPut .msixTable (16 * v + 12) (BitVec.ofNat 8 (putBit (winGet d .msixTable (16 * v + 12)).toNat 0 false)) d

/-- A vector has its pending bit set in a function that is enabled. -/
abbrev MsixPends (d : Dev) (v : Nat) : Prop :=
  bitOf (winGet d .msixPba (v / 8)).toNat (v % 8) = true ∧ d.post.msixEnable = true

theorem msixUnmask_sends (pends : MsixPends d v) : msixUnmask v d = emit (.msix v) (setPending v false (clearMask v d)) :=
  if_pos (Bool.and_eq_true_iff.mpr pends)

theorem msixUnmask_rests (rests : ¬ MsixPends d v) : msixUnmask v d = clearMask v d :=
  if_neg (mt Bool.and_eq_true_iff.mp rests)

/-- The function is enabled. -/
def enableMsix (d : Dev) : Dev := { d with post := { d.post with msixEnable := true } }

theorem msixEnable_rises (off : d.post.msixEnable = false) :
    msixEnable d = (flaggedVectors (enableMsix d)).foldl (fun d v => signal v d) (enableMsix d) :=
  if_neg (Bool.eq_false_iff.mp off)

theorem msixEnable_set (on : d.post.msixEnable = true) : msixEnable d = d := if_pos on

end

/-! ### OPTION_COMMIT (R403) -/

theorem addrDom_optionCtrl : addrDom (regAddr .SEC_OPTION_CTRL 0) = dFRANK := by decide

section
variable {d : Dev} (up : domUp d dFRANK = true)
include up

theorem optionCommit_up : optionCommit d =
    if committing d || fwInFlight d d.post.fetches then occur Src.SEC_BUSY 0x01700100 1 0 d
    else if !optionOk (optionCommitRec d) then sf .SEC_OPTION_STATUS 0 SEC_OPTION_STATUS.RESULT 2 d
    else showSec (sf .SEC_OPTION_STATUS 0 SEC_OPTION_STATUS.BUSY 1 (sf .SEC_OPTION_STATUS 0 SEC_OPTION_STATUS.RESULT 0
      (sec (fun x => { x with optPend := some (0, optionCommitRec d) }) d))) :=
  if_neg (by simp [up])

theorem optionCommit_busy (busy : committing d = true ∨ fwInFlight d d.post.fetches = true) :
    optionCommit d = occur Src.SEC_BUSY 0x01700100 1 0 d := by
  rw [optionCommit_up up, if_pos (Bool.or_eq_true_iff.mpr busy)]

section
variable (idle : committing d = false) (alone : fwInFlight d d.post.fetches = false)
include idle alone

theorem optionCommit_writes (passes : optionOk (optionCommitRec d) = true) : optionCommit d =
    showSec (sf .SEC_OPTION_STATUS 0 SEC_OPTION_STATUS.BUSY 1 (sf .SEC_OPTION_STATUS 0 SEC_OPTION_STATUS.RESULT 0
      (sec (fun x => { x with optPend := some (0, optionCommitRec d) }) d))) := by
  rw [optionCommit_up up, if_neg (by simp [idle, alone]), if_neg (by simp [passes])]

theorem optionCommit_refused (fails : optionOk (optionCommitRec d) = false) :
    optionCommit d = sf .SEC_OPTION_STATUS 0 SEC_OPTION_STATUS.RESULT 2 d := by
  rw [optionCommit_up up, if_neg (by simp [idle, alone]), if_pos (by simp [fails])]

end
end

/-! ### SPDM_REQUEST (R409) -/

/-- The content of a DOE data object. -/
def doeBody (q : Bytes) : Bytes := (q.drop 8).take (4 * (leAt q 4 4 % 2 ^ 18) - 8)

/-- The protocol at an index of DOE discovery, and the next index. -/
def doeProtocol (i : Nat) : Bytes := leBytes 2 1 ++ leBytes 1 (min i 1) ++ leBytes 1 (if i = 0 then 1 else 0)

/-- An SPDM answer is sent, and counted where it is an error. -/
def sendAnswer (r : Bytes × Dev) : Dev :=
  emit (.sent "DOE" 1 (doeObject 1 r.1)) (if leAt r.1 1 1 = 0x7F then incSat .SEC_SPDM_ERRORS 0 r.2 else r.2)

section
variable {f : Fuses} {eff : Nat → Nat} {q : Bytes} {d : Dev} (up : domUp d dFRANK = true) (heard : domUp d dEP = true ∨ crown d = true)
include up heard

theorem spdmRequest_heard : spdmRequest f eff q d =
    let e := incSat .SEC_SPDM_REQUESTS 0 d
    if leAt q 0 2 = 1 && leAt q 2 1 = 0 then emit (.sent "DOE" 0 (doeObject 0 (doeProtocol (leAt (doeBody q) 0 1)))) e
    else sendAnswer (if leAt q 0 2 = 1 && leAt q 2 1 = 1 then spdmFit (spdmAnswer f eff (doeBody q) e)
      else (spdmErr 0x12 0x07 (leAt (doeBody q) 1 1), e)) :=
  if_neg (by obtain runs | crowned := heard <;> simp [*])

theorem spdmRequest_discovery (vendor : leAt q 0 2 = 1) (kind : leAt q 2 1 = 0) : spdmRequest f eff q d =
    emit (.sent "DOE" 0 (doeObject 0 (doeProtocol (leAt (doeBody q) 0 1)))) (incSat .SEC_SPDM_REQUESTS 0 d) := by
  rw [spdmRequest_heard up heard]
  exact if_pos (by simp [vendor, kind])

theorem spdmRequest_spdm (vendor : leAt q 0 2 = 1) (kind : leAt q 2 1 = 1) : spdmRequest f eff q d =
    sendAnswer (spdmFit (spdmAnswer f eff (doeBody q) (incSat .SEC_SPDM_REQUESTS 0 d))) := by
  rw [spdmRequest_heard up heard]
  exact (if_neg (by simp [kind])).trans (congrArg sendAnswer (if_pos (by simp [vendor, kind])))

theorem spdmRequest_other (other : leAt q 0 2 ≠ 1 ∨ 1 < leAt q 2 1) : spdmRequest f eff q d =
    sendAnswer (spdmErr 0x12 0x07 (leAt (doeBody q) 1 1), incSat .SEC_SPDM_REQUESTS 0 d) := by
  have notSpdm : ∀ k ≤ 1, ¬ (decide (leAt q 0 2 = 1) && decide (leAt q 2 1 = k)) = true := fun k small => by
    simp only [Bool.and_eq_true, decide_eq_true_eq]
    omega
  rw [spdmRequest_heard up heard]
  exact (if_neg (notSpdm 0 (by omega))).trans (congrArg sendAnswer (if_neg (notSpdm 1 (by omega))))

end

end Sys2Proof.Machine

/-!
PROOFS. The queue level, spilling and what comes back from the restante, by their guards (R266, R268 to R270, R277, R288).
-/
namespace Sys2Proof.Machine

/-! ### QUEUE_LEVEL_UPDATE (R266, R268, R288) -/

/-- The level is shown. -/
def showLevel (d : Dev) : Dev := sf .QUE_LEVEL 0 QUE_LEVEL.LEVEL (levelOf d) (showSpace d)

/-- Spilling starts at a level. -/
def startSpill (v : Nat) (d : Dev) : Dev :=
  occur Src.SPILL_ON v 0 0 (sf .QUE_SPILL_STATUS 0 QUE_SPILL_STATUS.ACTIVE 1 (que (fun q => { q with full := false }) d))

/-- Spilling stops at a level. -/
def stopSpill (v : Nat) (d : Dev) : Dev := occur Src.SPILL_OFF v 0 0 (sf .QUE_SPILL_STATUS 0 QUE_SPILL_STATUS.ACTIVE 0 d)

/-- At LOW and below pacing is released. -/
def paceAt (v : Nat) (d : Dev) : Dev := if v ≤ rf d .QUE_PACE_CFG 0 QUE_PACE_CFG.LOW then paceRelease d else d

/-- What a level brings once spilling has started or stopped: pacing, the copy of a pair and spill writes. -/
def levelDone (v : Nat) (d : Dev) : Dev := spillStart (if domUp (paceAt v d) dRP then rebuildStep (paceAt v d) else paceAt v d)

/-- Whether spilling is active. -/
abbrev spillActive (d : Dev) : Bool := rb d .QUE_SPILL_STATUS 0 QUE_SPILL_STATUS.ACTIVE

/-- What a level does to spilling. -/
def switchSpill (v : Nat) (d : Dev) : Dev :=
  if !spillActive d && decide (rf d .QUE_SPILL_CFG 0 QUE_SPILL_CFG.ON ≤ v) then startSpill v d
  else if spillActive d && decide (v ≤ rf d .QUE_SPILL_CFG 0 QUE_SPILL_CFG.OFF) then stopSpill v d
  else d

section
variable {d : Dev} {v : Nat}

theorem queueLevelUpdate_up (up : domUp d dFABRIC = true) :
    queueLevelUpdate d = levelDone (levelOf d) (switchSpill (levelOf d) (showLevel d)) :=
  if_neg (by simp [up])

theorem queueLevelUpdate_down (down : domUp d dFABRIC = false) : queueLevelUpdate d = d :=
  if_pos (by simp [down])

section
variable (idle : spillActive d = false)
include idle

theorem switchSpill_starts (high : rf d .QUE_SPILL_CFG 0 QUE_SPILL_CFG.ON ≤ v) : switchSpill v d = startSpill v d :=
  if_pos (by simp [idle, high])

theorem switchSpill_idle (below : v < rf d .QUE_SPILL_CFG 0 QUE_SPILL_CFG.ON) : switchSpill v d = d :=
  (if_neg (by simp [below])).trans (if_neg (by simp [idle]))

end

section
variable (active : spillActive d = true)
include active

theorem switchSpill_stops (low : v ≤ rf d .QUE_SPILL_CFG 0 QUE_SPILL_CFG.OFF) : switchSpill v d = stopSpill v d :=
  (if_neg (by simp [active])).trans (if_pos (by simp [active, low]))

theorem switchSpill_active (above : rf d .QUE_SPILL_CFG 0 QUE_SPILL_CFG.OFF < v) : switchSpill v d = d :=
  (if_neg (by simp [active])).trans (if_neg (by simp [above]))

end
end

/-! ### SPILL_WRITE_DONE (R269) -/

section
variable {d : Dev} {u : Nat} {p : Parcel}

theorem exec_spillWriteDone_unit (hu : u < 4) (ok : Bool) (s : State) :
    exec (.spillWriteDone u ok) s = .next (s.after (spillWriteDone u ok s.dev)) := by
  rw [exec_spillWriteDone, act_after (ok := isDrive u) (decide_eq_true hu)]

/-- Write unit `u` writes a parcel. -/
abbrev UnitWrites (d : Dev) (u : Nat) (p : Parcel) : Prop :=
  d.strm.parcels.find? (fun p => p.spilling == u + 1) = some p ∧ (writeUnits d).contains u = true

/-- The MEMBER drives of a write unit, as a mask. -/
def memberMask (d : Dev) (u : Nat) : Nat :=
  (unitPorts d u).foldl (fun m k => if rpState d k = rpMember then putBit m k true else m) 0

/-- The blocks of a parcel enter the index of the unit's members, and the parcel is held by them and leaves HBM. -/
def holdParcel (u : Nat) (p : Parcel) (d : Dev) : Dev :=
  onParcel p.ctx p.num (fun x => { x with spilling := 0, unit := u + 1, held := memberMask d u, resident := false })
    ((unitPorts d u).foldl
      (fun e k => onDrive k (fun x => if bitOf (memberMask d u) k then putEntries (placeBlocks d u p) x else { x with stale := true }) e) d)

/-- A SPILL record for a parcel that is held. -/
def recordSpill (p : Parcel) (d : Dev) : Dev := stageOrWait kSPILL (pairBytes p.ctx (heldThrough d p.ctx)) d

/-- A failed write is counted at the unit's members, and its parcel waits again. -/
def dropSpill (u : Nat) (p : Parcel) (d : Dev) : Dev :=
  onParcel p.ctx p.num (fun x => { x with spilling := 0 })
    ((unitPorts d u).foldl (fun e k => if rpState e k = rpMember then incSat .RP_PORT_WRITE_ERR k e else e) d)

theorem spillWriteDone_writes (up : domUp d dRP = true) (writes : UnitWrites d u p) (ok : Bool) : spillWriteDone u ok d =
    if !ok then spillStart (dropSpill u p d)
    else spillStart (showCtx p.ctx (showDrives (recordSpill p (holdParcel u p d)))) := by
  obtain ⟨parcel, unit⟩ := writes
  simp only [spillWriteDone, parcel]
  exact if_neg (by simp only [up, unit]; decide)

theorem spillWriteDone_idle (none : ∀ p, ¬ UnitWrites d u p) (ok : Bool) : spillWriteDone u ok d = d := by
  unfold spillWriteDone
  split
  next => rfl
  next p parcel =>
    have noUnit : (writeUnits d).contains u = false := Bool.eq_false_iff.mpr fun unit => none p ⟨parcel, unit⟩
    exact if_pos (by simp only [noUnit, Bool.not_false, Bool.or_true])

end

/-! ### RESTANTE_RETURN_DONE (R270) -/

section
variable {d : Dev} {c : Nat} {p : Parcel}

theorem exec_restanteReturnDone_ctx (hc : c < 2048) (readable : Bool) (failed : Option Bytes) (s : State) :
    exec (.restanteReturnDone c readable failed) s =
      .next (s.after (restanteReturnDone c readable failed.isNone (failed.getD []) s.dev)) := by
  rw [exec_restanteReturnDone, act_after (ok := isCtx c) (decide_eq_true hc)]

/-- The next parcel of a context to read back, within the 64 numbers from the first undelivered one and the return area. -/
abbrev Returns (d : Dev) (c : Nat) (p : Parcel) : Prop :=
  ∃ f, lowest d c (fun p => !p.host) = some f ∧ lowest d c (fun p => heldBy d p && !p.resident && !p.back && !p.host) = some p ∧
    p.num < f.num + 64 ∧ returnUsed d + p.size ≤ 4294967296

/-- A parcel that no copy gives is counted at its drives and lost. -/
def loseReturn (c : Nat) (p : Parcel) (d : Dev) : Dev :=
  loseParcels (fun q => q.ctx == c && q.num == p.num) 3 ((bitsOf p.held 4).foldl (fun d k => incSat .RP_PORT_READ_ERR k d) d)

/-- A parcel is back, with the bytes of it that are not as it was stored. -/
def takeBack (c : Nat) (p : Parcel) (got : Bytes) (d : Dev) : Dev :=
  showCtx c (onParcel c p.num (fun q => { q with back := true, ret := got }) d)

theorem restanteReturnDone_returns (up : domUp d dRP = true) (returns : Returns d c p) (readable good : Bool) (b : Bytes) :
    restanteReturnDone c readable good b d =
      if !readable then loseReturn c p d
      else takeBack c p (if good then [] else dataErr (if b.isEmpty then p.data else b)) d := by
  obtain ⟨first, undelivered, next, near, room⟩ := returns
  simp only [restanteReturnDone, undelivered, next]
  exact if_neg (by simp [up, near, room])

theorem restanteReturnDone_stays (none : ∀ p, ¬ Returns d c p) (readable good : Bool) (b : Bytes) :
    restanteReturnDone c readable good b d = d := by
  unfold restanteReturnDone
  split
  next => rfl
  next first undelivered =>
    split
    next => rfl
    next p next =>
      refine if_pos (by_contra fun go => none p ⟨first, undelivered, next, ?_⟩)
      simp only [Bool.or_eq_true, decide_eq_true_eq, not_or, not_le, not_lt] at go
      obtain ⟨⟨-, near⟩, room⟩ := go
      exact ⟨near, room⟩

end

end Sys2Proof.Machine

/-!
PROOFS. What befalls a drive port of the root port, by the state of the port (R271 to R275, R277, R280).
-/
namespace Sys2Proof.Machine

/-! ### DRIVE_PRESENT, DRIVE_LINK_UP and DRIVE_TRAIN_TIMEOUT (R274) -/

section
variable {d : Dev} {p : Nat}

/-- Power of a port whose drive is present. -/
def powerPort (p : Nat) (d : Dev) : Dev :=
  que (fun q => { q with pwr := putBit q.pwr p true })
    (setPort p RP_PORT_STATUS.CAUSE 0 (setPort p RP_PORT_STATUS.PRESENT 1 (setPort p RP_PORT_STATUS.STATE 1 d)))

theorem drivePresent_absent (runs : rpRuns d p = true) (absent : rpState d p = 0) : drivePresent p d = powerPort p d :=
  if_neg (by simp [runs, absent])

theorem drivePresent_stays (other : rpRuns d p = false ∨ rpState d p ≠ 0) : drivePresent p d = d :=
  if_pos (by simpa using other)

/-- A trained link within the lanes of its port: it is shown, and the BARs are assigned. -/
def bringUp (p rate width : Nat) (d : Dev) : Dev :=
  onDrive p (fun x => { x with code := rate, width := min width (rpLanes d p), bar := 0x1000000000 + p * 0x400000000 })
    (setPort p RP_PORT_STATUS.STATE 2 (setPort p RP_PORT_STATUS.RATE rate (setPort p RP_PORT_STATUS.WIDTH (min width (rpLanes d p)) d)))

theorem driveLinkUp_trained (runs : rpRuns d p = true) (training : rpState d p = 1) (high : bitOf d.que.perst p = true)
    (rate width : Nat) : driveLinkUp p rate width d = bringUp p rate width d :=
  if_neg (by simp [runs, training, high])

theorem driveLinkUp_stays (other : rpRuns d p = false ∨ rpState d p ≠ 1 ∨ bitOf d.que.perst p = false) (rate width : Nat) :
    driveLinkUp p rate width d = d :=
  if_pos (by simpa [or_assoc] using other)

theorem driveTrainTimeout_fails (runs : rpRuns d p = true) (training : rpState d p = 1) : driveTrainTimeout p d = driveFail p 3 d :=
  if_pos (by simp [runs, training])

theorem driveTrainTimeout_stays (other : rpRuns d p = false ∨ rpState d p ≠ 1) : driveTrainTimeout p d = d :=
  if_neg (by obtain stopped | state := other <;> simp [*])

/-! ### DRIVE_INIT_DONE (R272 to R274) -/

/-- A BAR lies above 16 GiB. -/
abbrev largeBar (bars : List Nat) : Bool := bars.any (fun b => decide (2 ^ 34 < b))

/-- A port is left UNSUITABLE with a cause. -/
def rejectDrive (p cause : Nat) (d : Dev) : Dev :=
  setPort p RP_PORT_STATUS.STATE 3 (setPort p RP_PORT_STATUS.CAUSE cause (driveSwapped p d))

/-- A namespace is taken, with its number and its capacity. -/
def takeNamespace (p : Nat) (x : List Nat) (d : Dev) : Dev :=
  onDrive p (fun y => { y with nsid := x.getD 0 0, cap := nsCap (x.getD 3 0) }) d

/-- A drive with no index of this device is shown as FOREIGN. -/
def showForeign (p : Nat) (d : Dev) : Dev :=
  occur Src.DRIVE_FOREIGN p 0 0
    (wn .RP_PORT_CAP p (drive (driveSwapped p d) p).cap (setPort p RP_PORT_STATUS.STATE 4 (driveSwapped p d)))

/-- What the index that was found makes of the drive. -/
def enterIndex (p index : Nat) (d : Dev) : Dev :=
  if index = 0 then showForeign p d
  else if index = 1 then enterMember p d
  else leaveMember p 2 (driveFail p 7 (enterMember p d))

section
variable {nss : List (List Nat)} {bars : List Nat} {index : Nat}

theorem driveInitDone_stays (other : rpRuns d p = false ∨ rpState d p ≠ 2) : driveInitDone p nss bars index d = d :=
  if_pos (by simpa using other)

section
variable (runs : rpRuns d p = true) (init : rpState d p = 2)
include runs init

theorem driveInitDone_largeBar (large : largeBar bars = true) : driveInitDone p nss bars index d = rejectDrive p 2 d :=
  (if_neg (by simp [runs, init])).trans (if_pos large)

variable (fits : largeBar bars = false)
include fits

theorem driveInitDone_noNamespace (none : nsChoice nss = none) : driveInitDone p nss bars index d = rejectDrive p 1 d := by
  simp only [driveInitDone, none]
  exact (if_neg (by simp [runs, init])).trans (if_neg (Bool.eq_false_iff.mp fits))

theorem driveInitDone_namespace {x : List Nat} (chosen : nsChoice nss = some x) :
    driveInitDone p nss bars index d = enterIndex p index (takeNamespace p x d) := by
  simp only [driveInitDone, chosen]
  exact (if_neg (by simp [runs, init])).trans (if_neg (Bool.eq_false_iff.mp fits))

end
end

/-! ### DRIVE_CMD_TIMEOUT and DRIVE_REMOVED (R271, R274) -/

/-- A running port whose drive is MEMBER. -/
abbrev PortMember (d : Dev) (p : Nat) : Prop := rpRuns d p = true ∧ rpState d p = rpMember

theorem driveCmdTimeout_member (member : PortMember d p) (what : Nat) (restored : Bool) : driveCmdTimeout p what restored d =
    if what = 2 then setPort p RP_PORT_STATUS.CAUSE 8 d
    else
      let e := if what = 1 then d else incSat .RP_PORT_TIMEOUTS p d
      if restored then e else leaveMember p 2 (driveFail p (if what = 1 then 5 else 4) e) := by
  obtain ⟨runs, state⟩ := member
  exact if_neg (by simp [runs, state])

theorem driveCmdTimeout_stays (other : ¬ PortMember d p) (what : Nat) (restored : Bool) : driveCmdTimeout p what restored d = d := by
  refine if_pos (by_contra fun go => other ?_)
  simpa using go

/-- A drive is gone: its port is ABSENT and unpowered. -/
def clearPort (p : Nat) (present : Bool) (d : Dev) : Dev :=
  occur Src.DRIVE_REMOVED p 0 0 (onDrive p (fun x => { x with bar := 0 })
    (que (fun q => { q with pwr := putBit q.pwr p false, perst := putBit q.perst p false, pulse := putBit q.pulse p false })
      (setPort p RP_PORT_STATUS.STATE 0 (setPort p RP_PORT_STATUS.CAUSE 6 (setPort p RP_PORT_STATUS.PRESENT (b2n present)
        (setPort p RP_PORT_STATUS.RATE 0 (setPort p RP_PORT_STATUS.WIDTH 0 d)))))))

theorem driveRemoved_stays (other : rpRuns d p = false ∨ rpState d p = 0) (present : Bool) : driveRemoved p present d = d :=
  if_pos (by simpa using other)

section
variable (runs : rpRuns d p = true)
include runs

theorem driveRemoved_present (here : rpState d p ≠ 0) (present : Bool) : driveRemoved p present d =
    if rpState d p == rpMember then leaveMember p 1 (clearPort p present d) else clearPort p present d :=
  if_neg (by simp [runs, here])

theorem driveRemoved_member (member : rpState d p = rpMember) (present : Bool) :
    driveRemoved p present d = leaveMember p 1 (clearPort p present d) := by
  rw [driveRemoved_present runs (by rw [member]; decide), if_pos (beq_iff_eq.mpr member)]

theorem driveRemoved_other (here : rpState d p ≠ 0) (other : rpState d p ≠ rpMember) (present : Bool) :
    driveRemoved p present d = clearPort p present d := by
  rw [driveRemoved_present runs here, if_neg (mt beq_iff_eq.mp other)]

end
end

/-! ### MIRROR_REBUILD_DONE (R277) -/

section
variable {d : Dev} {u : Nat}

/-- Whether the drive of a port is REBUILDING. -/
abbrev rebuilds (d : Dev) (k : Nat) : Bool := rb d .RP_PORT_STATUS k RP_PORT_STATUS.REBUILDING

/-- The ports from `lo` on are a whole pair of which one is REBUILDING. -/
abbrev PairRebuilds (d : Dev) (lo : Nat) : Prop :=
  paired d lo = true ∧ pairWhole d lo = true ∧ (rebuilds d lo = true ∨ rebuilds d (lo + 1) = true)

/-- Both drives of a pair hold the same blocks, and neither is DEGRADED or REBUILDING. -/
def matchPair (lo : Nat) (d : Dev) : Dev :=
  [lo, lo + 1].foldl (fun e k => onDrive k (fun x => { x with index := unitIndex d lo, stale := false })
    (setPort k RP_PORT_STATUS.REBUILDING 0 (setPort k RP_PORT_STATUS.DEGRADED 0 e))) d

/-- The parcels of a pair are held by both its drives. -/
def holdByBoth (lo : Nat) (d : Dev) : Dev :=
  strm (fun s => { s with parcels := s.parcels.map (fun q =>
    if q.unit = lo + 1 then { q with held := putBit (putBit q.held lo true) (lo + 1) true } else q) }) d

theorem not_pairRebuilds_iff {lo : Nat} :
    (!paired d lo || !pairWhole d lo || !([lo, lo + 1].any (rebuilds d))) = true ↔ ¬ PairRebuilds d lo := by
  rw [← Bool.not_and, ← Bool.not_and, Bool.not_eq_true', ← Bool.not_eq_true, not_iff_not]
  simp only [Bool.and_eq_true, List.any_cons, List.any_nil, Bool.or_false, Bool.or_eq_true, and_assoc]

theorem mirrorRebuildDone_whole (whole : PairRebuilds d (u / 2 * 2)) : mirrorRebuildDone u d =
    occur Src.MIRROR_REBUILT ((u / 2 * 2 / 2 : Nat) : Int) 0 0
      (setRebuild (u / 2 * 2 / 2) 0 (holdByBoth (u / 2 * 2) (matchPair (u / 2 * 2) d))) :=
  if_neg fun other => not_pairRebuilds_iff.mp other whole

theorem mirrorRebuildDone_stays (other : ¬ PairRebuilds d (u / 2 * 2)) : mirrorRebuildDone u d = d :=
  if_pos (not_pairRebuilds_iff.mpr other)

end

/-! ### DRIVE_SCAN_SETTLED (R280) -/

section
variable {d : Dev} {timeout : Bool}

/-- 5 s have passed, or every port has settled. -/
abbrev ScanSettled (d : Dev) (timeout : Bool) : Prop := timeout = true ∨ ∀ k, k < 4 → rpSettled d k = true

/-- The DRIVE_SCAN that waits. -/
abbrev waitingScan (d : Dev) : Option Cmd := d.post.cmds.find? (fun c => c.op == 0x90 && c.started)

/-- The four masks that a DRIVE_SCAN answers: ports with a drive, MEMBER, FOREIGN, and UNSUITABLE or failed. -/
def scanMasks (d : Dev) : Bytes :=
  leBytes 1 (portMask d (fun p => rb d .RP_PORT_STATUS p RP_PORT_STATUS.PRESENT)) ++
    leBytes 1 (portMask d (fun p => rpState d p == 5)) ++ leBytes 1 (portMask d (fun p => rpState d p == 4)) ++
    leBytes 1 (portMask d (fun p => rpState d p == 3 || rpState d p == 6))

theorem scanSettled_iff : (timeout || (List.range 4).all (rpSettled d)) = true ↔ ScanSettled d timeout := by
  simp only [Bool.or_eq_true, List.all_eq_true, List.mem_range]

theorem driveScanSettled_ends {c : Cmd} (up : domUp d dRP = true) (settled : ScanSettled d timeout) (scan : waitingScan d = some c) :
    driveScanSettled timeout d = completeOk c (scanMasks d) d := by
  simp only [driveScanSettled, scan]
  exact if_neg (by rw [scanSettled_iff.mpr settled, up]; decide)

theorem driveScanSettled_stays (other : ¬ ScanSettled d timeout ∨ waitingScan d = none) : driveScanSettled timeout d = d := by
  obtain unsettled | noScan := other
  · exact if_pos (by rw [Bool.eq_false_iff.mpr (mt scanSettled_iff.mp unsettled)]; rfl)
  · simp only [driveScanSettled, noScan, ite_self]

end

end Sys2Proof.Machine

/-!
PROOFS. The drive and restante commands and those of Franking, by what refuses them (R276, R280 to R282, R399, R401, R405, R408).
-/
namespace Sys2Proof.Machine

/-! ### DRIVE_SCAN and MIRROR_SET (R276, R280) -/

/-- What a DRIVE_SCAN does to a port. -/
def scanPort (c : Cmd) (d : Dev) (p : Nat) : Dev :=
  if rpState d p = 3 || rpState d p = 6 then
    que (fun q => { q with perst := putBit q.perst p false, pulse := putBit q.pulse p true }) (setPort p RP_PORT_STATUS.STATE 1 d)
  else if bitOf (leAt c.entry 8 1 % 16) p && rpState d p = 4 then adopt p d
  else d

theorem driveScan_eq (c : Cmd) (d : Dev) : driveScan c d = updCmd { c with data := [1] } ((List.range 4).foldl (scanPort c) d) := rfl

section
variable {c : Cmd} {d : Dev}

/-- What refuses a MIRROR_SET: a parcel held, bytes reserved on the restante, or a pair it names that is not whole. -/
abbrev MirrorRefused (c : Cmd) (d : Dev) : Prop :=
  (∃ p ∈ d.strm.parcels, heldBy d p = true) ∨ sRes d ≠ 0 ∨ (∃ j ∈ bitsOf (leAt c.entry 8 1 % 4) 2, pairWhole d (2 * j) = false)

theorem mirrorRefused_iff : (d.strm.parcels.any (heldBy d) || decide (sRes d ≠ 0) ||
    (bitsOf (leAt c.entry 8 1 % 4) 2).any (fun j => !pairWhole d (2 * j))) = true ↔ MirrorRefused c d := by
  simp only [Bool.or_eq_true, List.any_eq_true, decide_eq_true_eq, Bool.not_eq_true', or_assoc]

/-- The pairing is written into the index of a MEMBER drive. -/
def writePairing (m : Nat) (d : Dev) (p : Nat) : Dev :=
  if rpState d p = rpMember then onDrive p (fun x => { x with head := some (indexHead m), stale := false }) d else d

theorem mirrorSet_refused (bad : MirrorRefused c d) : mirrorSet c d = complete c stSTATE dRP [] d :=
  if_pos (mirrorRefused_iff.mpr bad)

theorem mirrorSet_writes (good : ¬ MirrorRefused c d) : mirrorSet c d =
    completeOk c [] (showDrives (wn .RP_PAIRING 0 (leAt c.entry 8 1 % 4) ((List.range 4).foldl (writePairing (leAt c.entry 8 1 % 4)) d))) :=
  if_neg (mt mirrorRefused_iff.mp good)

end

/-! ### RESTANTE_READ of one parcel into one buffer (R281) -/

theorem take_fitBytes {n m : Nat} (h : n ≤ m) (b : Bytes) : (fitBytes n b).take m = fitBytes n b :=
  List.take_of_length_le (by rw [fitBytes_length]; exact h)

section
variable {c : Cmd} {d : Dev} {k : Nat} {l : List (Nat × Bytes)}

/-- The parcel held on the restante that a RESTANTE_READ of one names. -/
abbrev namedParcel (c : Cmd) (d : Dev) : Option Parcel :=
  d.strm.parcels.find? (fun p => p.ctx == c.ctx && p.num == leAt c.block 0 7 && heldBy d p)

/-- The bytes and the result of a read that gave some of the parcels asked for, from bytes read of copies that fail CHECK. -/
def endRead (k : Nat) (l : List (Nat × Bytes)) (c : Cmd) (p : Parcel) (d : Dev) : Dev :=
  let out := [p].take k
  let bytes := out.flatMap (fun p => fitBytes p.size (((l.find? (fun x => x.1 == p.num)).map (·.2)).getD p.data))
  complete c (if k < 1 then stINTEGRITY else stOK) 0 (leBytes 4 out.length ++ zeros 4 ++ leBytes 8 bytes.length)
    (scatter [(leAt c.block 16 8, leAt c.block 24 4)] bytes d)

section
variable (one : leAt c.block 8 4 = 1)
include one

theorem restanteRead_notHeld (gone : namedParcel c d = none) : restanteRead k l c d = complete c stSTATE dRP [] d := by
  simp only [restanteRead, one]
  exact if_pos (by simp [gone])

variable {p : Parcel} (buffer : c.block.length = 32) (held : namedParcel c d = some p)
include buffer held

theorem restanteRead_held : restanteRead k l c d =
    if leAt c.block 24 4 < p.size then complete c stBOUND 0 [] d else endRead k l c p d := by
  have alone : [some p].filterMap id = [p] := rfl
  have found : d.strm.parcels.find? (fun p => p.ctx == c.ctx && p.num == leAt c.block 0 7 && heldBy d p) = some p := held
  simp only [restanteRead, one, buffer, Nat.reduceSub, Nat.reduceDiv, List.range_one, List.map_cons, List.map_nil, Nat.mul_zero,
    Nat.add_zero, found, alone, List.foldl_cons, List.foldl_nil, Nat.zero_add]
  exact if_neg Bool.false_ne_true

theorem restanteRead_tooLong (long : leAt c.block 24 4 < p.size) : restanteRead k l c d = complete c stBOUND 0 [] d := by
  rw [restanteRead_held one buffer held, if_pos long]

section
variable (fits : p.size ≤ leAt c.block 24 4)
include fits

theorem restanteRead_fits : restanteRead k l c d = endRead k l c p d := by
  rw [restanteRead_held one buffer held, if_neg (Nat.not_lt.mpr fits)]

/-- A parcel that can be read goes into the buffer as it is stored, or as it was read. -/
theorem restanteRead_copies : restanteRead (k + 1) l c d =
    completeOk c (leBytes 4 1 ++ zeros 4 ++ leBytes 8 p.size)
      (hostWrite (leAt c.block 16 8) (fitBytes p.size (((l.find? (fun x => x.1 == p.num)).map (·.2)).getD p.data)) d) := by
  rw [restanteRead_fits one buffer held fits]
  simp [endRead, scatter, completeOk, take_fitBytes fits]

/-- One that cannot be read leaves its buffer as no bytes do. -/
theorem restanteRead_unread : restanteRead 0 l c d =
    complete c stINTEGRITY 0 (leBytes 4 0 ++ zeros 4 ++ leBytes 8 0) (scatter [(leAt c.block 16 8, leAt c.block 24 4)] [] d) :=
  restanteRead_fits one buffer held fits

end
end
end

/-! ### RESTANTE_RELEASE (R282) -/

section
variable {c : Cmd} {d : Dev}

/-- The held parcels of the range of a RESTANTE_RELEASE. -/
def toRelease (c : Cmd) (d : Dev) (p : Parcel) : Bool :=
  p.ctx == c.ctx && heldBy d p && decide (leAt c.entry 8 7 ≤ p.num) && decide (p.num < leAt c.entry 8 7 + leAt c.entry 16 4)

/-- A parcel of the range is still to be returned to an open context. -/
abbrev ToReturn (c : Cmd) (d : Dev) : Prop :=
  ctxState d c.ctx ≠ 0 ∧ ∃ p ∈ d.strm.parcels, toRelease c d p = true ∧ p.host = false ∧ p.back = false

theorem toReturn_iff : (decide (ctxState d c.ctx ≠ 0) && d.strm.parcels.any (fun p => toRelease c d p && !p.host && !p.back)) = true ↔
    ToReturn c d := by
  simp only [Bool.and_eq_true, decide_eq_true_eq, List.any_eq_true, Bool.not_eq_true', and_assoc]

/-- The parcels of the range are released; one in the return area goes on to its buffer. -/
def releaseParcels (c : Cmd) (d : Dev) : Dev :=
  freeBlocks (strm (fun s => { s with parcels :=
    (s.parcels.filter (fun p => !(toRelease c d p && !(decide (ctxState d c.ctx ≠ 0) && p.back && !p.host)))).map (fun p =>
      if toRelease c d p then { p with unit := 0, held := 0 } else p) }) d)

theorem restanteRelease_refused (waits : ToReturn c d) : restanteRelease c d = complete c stSTATE dRP [] d :=
  if_pos (toReturn_iff.mpr waits)

theorem restanteRelease_frees (free : ¬ ToReturn c d) : restanteRelease c d =
    completeOk c (leBytes 8 (heldBytes d - heldBytes (releaseParcels c d))) (showCtx c.ctx (showDrives (releaseParcels c d))) :=
  if_neg (mt toReturn_iff.mp free)

theorem not_toReturn (free : ctxState d c.ctx = 0 ∨ ∀ p ∈ d.strm.parcels, toRelease c d p = true → p.host = true ∨ p.back = true) :
    ¬ ToReturn c d := by
  rintro ⟨opened, p, listed, inRange, notHost, notBack⟩
  obtain closed | returned := free
  · exact opened closed
  · obtain host | back := returned p listed inRange
    · exact Bool.eq_false_iff.mp notHost host
    · exact Bool.eq_false_iff.mp notBack back

end

/-! ### The fuses of a FW_STAGE (R405) -/

theorem actFuses_awaits {s : State} {sq tag op : Nat} {c : Cmd} (h : s.dev.awaits sq tag op c) (g : Fuses → Dev → Fuses)
    (f : Cmd → Dev → Dev) : actFuses (isRing sq && isTag tag) g (fun d => withCmd sq tag op f d) s =
      .next { s.after (f c.begun (s.dev.begun c)) with fuses := g s.fuses s.dev } := by
  rw [actFuses, if_pos (awaits_ring _ sq tag op c h)]
  exact congrArg (fun d => Host.Outcome.next { s.after d with fuses := g s.fuses s.dev }) (withCmd_awaits _ sq tag op c h f)

section
variable {sq tag : Nat} {d : Dev} {c : Cmd} (f : Fuses) (h : d.awaits sq tag 0xA0 c)
include h

theorem stageFuses_awaits : stageFuses sq tag f d =
    if domUp d dFRANK && fuseRequest d c then { f with reach := raiseReach c.block f.reach } else f := by
  obtain ⟨-, -, post, open_, found, op, fresh, may⟩ := h
  simp [stageFuses, post, open_, found, op, fresh, may]

theorem stageFuses_image (image : leAt c.block 6 1 ≠ 2) : stageFuses sq tag f d = f := by
  rw [stageFuses_awaits f h, if_neg (by simp [fuseRequest, image])]

theorem stageFuses_raises (up : domUp d dFRANK = true) (request : fuseRequest d c = true) :
    stageFuses sq tag f d = { f with reach := raiseReach c.block f.reach } := by
  rw [stageFuses_awaits f h, if_pos (Bool.and_eq_true_iff.mpr ⟨up, request⟩)]

end

/-! ### FW_STAGE (R399, R405) -/

/-- What holds off a command of Franking: it does not run, another FW_STAGE or FW_ACTIVATE is in flight, an option record is written. -/
abbrev FrankBusy (c : Cmd) (d : Dev) : Prop := domUp d dFRANK = false ∨ fwInFlight d c.order = true ∨ committing d = true

section
variable {f : Fuses} {c : Cmd} {d : Dev}

theorem fwStage_refused (bad : FrankBusy c d ∨ (leAt c.block 6 1 = 2 ∧ crown d = false)) :
    fwStage f c d = complete c stSTATE dFRANK [] d :=
  if_pos (by simpa [or_assoc] using bad)

theorem fuseRequest_passes (kind : leAt c.block 6 1 = 2) (crowned : crown d = true) (good : fuseReqBad c.block = none)
    (alone : fwInFlight d c.order = false) (still : committing d = false) : fuseRequest d c = true := by
  simp [fuseRequest, kind, crowned, alone, still, good]

section
variable (idle : ¬ FrankBusy c d)
include idle

theorem frank_up : domUp d dFRANK = true := by
  by_contra down
  exact idle (.inl (Bool.eq_false_iff.mpr down))

theorem fwStage_free (right : ¬ (leAt c.block 6 1 = 2 ∧ crown d = false)) :
    ¬ (!domUp d dFRANK || fwInFlight d c.order || committing d || (leAt c.block 6 1 == 2 && !crown d)) = true := fun refused => by
  have bad : FrankBusy c d ∨ (leAt c.block 6 1 = 2 ∧ crown d = false) := by simpa [or_assoc] using refused
  exact bad.elim idle right

section
variable (kind : leAt c.block 6 1 = 2) (crowned : crown d = true)
include kind crowned

theorem fwStage_badRequest {off : Nat} (bad : fuseReqBad c.block = some off) : fwStage f c d = complete c stPARAM (pOff off) [] d := by
  simp only [fwStage, bad]
  exact (if_neg (fwStage_free idle (by simp [crowned]))).trans (if_pos kind)

theorem fwStage_raises (good : fuseReqBad c.block = none) : fwStage f c d =
    completeOk c (leBytes 1 0xFF ++ zeros 7 ++ leBytes 8 (raisedBy c.block f.reach)) d := by
  simp only [fwStage, good]
  exact (if_neg (fwStage_free idle (by simp [crowned]))).trans (if_pos kind)

end

section
variable (image : leAt c.block 6 1 ≠ 2)
include image

theorem fwStage_badHeader {off : Nat} (bad : fwHeaderBad c.block = some off) : fwStage f c d = complete c stPARAM (pOff off) [] d := by
  simp only [fwStage, bad]
  exact (if_neg (fwStage_free idle (fun fuse => image fuse.1))).trans (if_neg image)

section
variable (header : fwHeaderBad c.block = none)
include header

/-- A slot is marked STAGING, and its write begins. -/
def beginStage (c : Cmd) (d : Dev) : Dev :=
  showSec (setSlot (stageSlot d) 6 [] (updCmd { c with data := [1, stageSlot d] } d))

theorem fwStage_header : fwStage f c d =
    if !fwSigOk c.block then complete c stSIGNATURE 0 [] (incSat .SEC_SIG_FAILS 0 d)
    else if !fwDigestOk c.block then complete c stINTEGRITY 0 [] d
    else if fwSvn c.block < f.svn then complete c stPARAM 0x4A [] d
    else beginStage c d := by
  simp only [fwStage, header]
  exact (if_neg (fwStage_free idle (fun fuse => image fuse.1))).trans (if_neg image)

theorem fwStage_badSignature (refused : fwSigOk c.block = false) :
    fwStage f c d = complete c stSIGNATURE 0 [] (incSat .SEC_SIG_FAILS 0 d) := by
  rw [fwStage_header idle image header, if_pos (by simp [refused])]

section
variable (signed : fwSigOk c.block = true)
include signed

theorem fwStage_badDigest (differs : fwDigestOk c.block = false) : fwStage f c d = complete c stINTEGRITY 0 [] d := by
  rw [fwStage_header idle image header, if_neg (by simp [signed]), if_pos (by simp [differs])]

variable (same : fwDigestOk c.block = true)
include same

theorem fwStage_old (old : fwSvn c.block < f.svn) : fwStage f c d = complete c stPARAM 0x4A [] d := by
  rw [fwStage_header idle image header, if_neg (by simp [signed]), if_neg (by simp [same]), if_pos old]

theorem fwStage_begins (current : f.svn ≤ fwSvn c.block) : fwStage f c d = beginStage c d := by
  rw [fwStage_header idle image header, if_neg (by simp [signed]), if_neg (by simp [same]), if_neg (Nat.not_lt.mpr current)]

end
end
end
end

/-! ### FW_ACTIVATE and CERT_READ (R401, R408) -/

/-- What refuses a FW_ACTIVATE: Franking is busy, or the slot it names is not VALID. -/
abbrev ActivateRefused (c : Cmd) (d : Dev) : Prop := FrankBusy c d ∨ slotState d (leAt c.entry 8 1 % 2) ≠ 1

theorem activateRefused_iff : (!domUp d dFRANK || decide (slotState d (leAt c.entry 8 1 % 2) ≠ 1) || fwInFlight d c.order ||
    committing d) = true ↔ ActivateRefused c d := by
  simp only [Bool.or_eq_true, Bool.not_eq_true', decide_eq_true_eq]
  tauto

theorem fwActivate_refused (bad : ActivateRefused c d) : fwActivate c d = complete c stSTATE dFRANK [] d :=
  if_pos (activateRefused_iff.mpr bad)

theorem fwActivate_writes (good : ¬ ActivateRefused c d) : fwActivate c d =
    showSec (sec (fun x => { x with optPend := some (c.order + 1, optionActivate d (leAt c.entry 8 1 % 2)) })
      (updCmd { c with data := [1] } d)) :=
  if_neg (mt activateRefused_iff.mp good)

/-- The item that a CERT_READ names. -/
abbrev namedItem (c : Cmd) (d : Dev) : Option Bytes := certItem d (leAt c.entry 8 1) (leAt c.entry 16 8)

theorem certRead_refused (bad : domUp d dFRANK = false ∨ namedItem c d = none) : certRead c d = complete c stSTATE dFRANK [] d := by
  obtain down | gone := bad
  · exact if_pos (by simp [down])
  · simp only [certRead, gone, ite_self]

theorem certRead_item {b : Bytes} (up : domUp d dFRANK = true) (item : namedItem c d = some b) : certRead c d =
    if leAt c.entry 32 4 < b.length then complete c stBOUND 32 [] d
    else completeOk c (leBytes 4 b.length) (hostWrite (leAt c.entry 24 8) b d) := by
  simp only [certRead, item]
  exact if_neg (by simp [up])

end

end Sys2Proof.Machine

/-!
PROOFS. The statements of 09_queues_and_restante.md.
-/
namespace Sys2Proof.QueuesAndRestante
open Sys2Proof.Machine

/-- Settles O30: each command by what refuses it; the fuses change by a fuse request that is carried out, and by no image. -/
theorem drivesAndFirmware : Obligations.DrivesAndFirmware := by
  unfold Obligations.DrivesAndFirmware
  refine ⟨?_, ?_⟩
  · intro s q tag c d up
    refine ⟨fun h => ?_, fun h one buffer => ?_, fun h => ?_, fun h => ?_⟩
    · rw [exec_driveScan, act_awaits_up h up, driveScan_eq]; rfl
    · simp only [exec_restanteRead, act_awaits_up h up]
      refine ⟨fun gone k l => ?_, fun p held => ⟨fun long k l => ?_, fun fits => ⟨fun k => ?_, fun k b => ?_, fun l => ?_⟩⟩⟩
      · rw [restanteRead_notHeld (c := c.begun) one gone]; rfl
      · rw [restanteRead_tooLong (c := c.begun) one buffer held long]; rfl
      · rw [restanteRead_copies (c := c.begun) one buffer held fits]; rfl
      · rw [restanteRead_copies (c := c.begun) one buffer held fits, List.find?_cons_of_pos (by simp)]; rfl
      · rw [restanteRead_unread (c := c.begun) one buffer held fits]; rfl
    · simp only [exec_restanteRelease, act_awaits_up h up]
      refine ⟨fun opened waits => ?_, fun free => ?_⟩
      · rw [restanteRelease_refused (c := c.begun) ⟨opened, waits⟩]; rfl
      · rw [restanteRelease_frees (c := c.begun) (not_toReturn free)]; rfl
    · simp only [exec_mirrorSet, act_awaits_up h up]
      refine ⟨fun good => ?_, fun bad => ?_⟩
      · rw [mirrorSet_writes (c := c.begun) good]; rfl
      · rw [mirrorSet_refused (c := c.begun) bad]; rfl
  · intro s q tag c d busy
    refine ⟨fun h => ?_, fun h => ?_, fun h => ?_⟩
    · simp only [exec_fwStage, actFuses_awaits h]
      refine ⟨fun bad => ?_, fun idle kind crowned off bad => ?_, fun idle kind crowned good alone still => ?_, fun idle image => ?_⟩
      · rw [fwStage_refused (c := c.begun) bad]; rfl
      · rw [fwStage_badRequest (c := c.begun) idle kind crowned bad]; rfl
      · rw [fwStage_raises (c := c.begun) idle kind crowned good,
          stageFuses_raises s.fuses h (frank_up (c := c.begun) (d := d) idle) (fuseRequest_passes kind crowned good alone still)]; rfl
      · rw [stageFuses_image s.fuses h image]
        refine ⟨fun off bad => ?_, fun header => ⟨fun refused => ?_, fun signed differs => ?_, fun signed same old => ?_,
          fun signed same current => ?_⟩⟩
        · rw [fwStage_badHeader (c := c.begun) idle image bad]; rfl
        · rw [fwStage_badSignature (c := c.begun) idle image header refused]; rfl
        · rw [fwStage_badDigest (c := c.begun) idle image header signed differs]; rfl
        · rw [fwStage_old (c := c.begun) idle image header signed same old]; rfl
        · rw [fwStage_begins (c := c.begun) idle image header signed same current]; rfl
    · simp only [exec_fwActivate, act_awaits s q tag _ c h]
      refine ⟨fun bad => ?_, fun idle valid => ?_⟩
      · rw [fwActivate_refused (c := c.begun) bad]; rfl
      · have good : ¬ ActivateRefused c.begun d := fun bad => bad.elim idle (· valid)
        rw [fwActivate_writes good]; rfl
    · simp only [exec_certRead, act_awaits s q tag _ c h]
      refine ⟨fun bad => ?_, fun b up item => ⟨fun fits => ?_, fun long => ?_⟩⟩
      · rw [certRead_refused (c := c.begun) bad]; rfl
      · rw [certRead_item (c := c.begun) up item]
        exact congrArg (fun d => Host.Outcome.next (s.after d)) (if_neg (Nat.not_lt.mpr fits))
      · rw [certRead_item (c := c.begun) up item]
        exact congrArg (fun d => Host.Outcome.next (s.after d)) (if_pos long)

/-- Settles O39: the pop by whether its queue holds an entry, MSI-X by what pends and what is enabled, OPTION_COMMIT by what is in flight and
its checks, and SPDM_REQUEST by the type of its object. -/
theorem queuesInterruptsAndOptions : Obligations.QueuesInterruptsAndOptions := by
  unfold Obligations.QueuesInterruptsAndOptions
  refine ⟨fun s => ⟨fun q hq up => ⟨fun p t queue => ?_, fun empty => ?_⟩, fun v hv up => ⟨fun pends => ?_, fun rests => ?_⟩,
    fun up => ⟨fun off => ?_, fun on => ?_⟩⟩, fun s up => ⟨fun idle alone => ⟨fun passes => ?_, fun fails => ?_⟩, fun busy => ?_,
    fun q heard => ⟨fun vendor kind => ?_, fun vendor kind => ?_, fun other => ?_⟩⟩⟩
  · rw [exec_uqPop, act_after (ok := isQueue q) (decide_eq_true hq), regCommand_up (addrDom_uqPop q hq) up, uqPop_entry queue]; rfl
  · rw [exec_uqPop, act_after (ok := isQueue q) (decide_eq_true hq), regCommand_up (addrDom_uqPop q hq) up, uqPop_empty empty]
  · rw [exec_msixUnmask, act_after (decide_eq_true hv), whenUp_up up, msixUnmask_sends pends]; rfl
  · rw [exec_msixUnmask, act_after (decide_eq_true hv), whenUp_up up, msixUnmask_rests rests]; rfl
  · rw [exec_msixEnable, act_after rfl, whenUp_up up, msixEnable_rises off]; rfl
  · rw [exec_msixEnable, act_after rfl, whenUp_up up, msixEnable_set on]
  · rw [exec_optionCommit, act_after rfl, regCommand_up addrDom_optionCtrl up, optionCommit_writes up idle alone passes]
  · rw [exec_optionCommit, act_after rfl, regCommand_up addrDom_optionCtrl up, optionCommit_refused up idle alone fails]
  · rw [exec_optionCommit, act_after rfl, regCommand_up addrDom_optionCtrl up, optionCommit_busy up busy]
  · rw [exec_spdmRequest, act_after rfl, spdmRequest_discovery up heard vendor kind]; rfl
  · rw [exec_spdmRequest, act_after rfl, spdmRequest_spdm up heard vendor kind]; rfl
  · rw [exec_spdmRequest, act_after rfl, spdmRequest_other up heard other]; rfl

/-- Settles O52: the level by what it does to spilling, a write and a return by whether there is one that may be. -/
theorem queueAndSpill : Obligations.QueueAndSpill := by
  unfold Obligations.QueueAndSpill
  refine ⟨fun s => ?_, fun s up => ⟨fun u hu => ⟨fun p writes => ⟨?_, ?_⟩, fun none ok => ?_⟩,
    fun c hc => ⟨fun p returns => ⟨?_, fun read => ?_, fun failed => ?_⟩, fun none r failed => ?_⟩⟩⟩
  · simp only [exec_queueLevelUpdate, act_after rfl]
    refine ⟨fun up => ?_, fun down => by rw [queueLevelUpdate_down down]⟩
    rw [queueLevelUpdate_up up]
    refine ⟨fun idle high => ?_, fun idle below => ?_, fun active low => ?_, fun active above => ?_⟩
    · rw [switchSpill_starts (d := showLevel s.dev) idle high]; rfl
    · rw [switchSpill_idle (d := showLevel s.dev) idle below]; rfl
    · rw [switchSpill_stops (d := showLevel s.dev) active low]; rfl
    · rw [switchSpill_active (d := showLevel s.dev) active above]; rfl
  · rw [exec_spillWriteDone_unit hu, spillWriteDone_writes up writes]; rfl
  · rw [exec_spillWriteDone_unit hu, spillWriteDone_writes up writes]; rfl
  · rw [exec_spillWriteDone_unit hu, spillWriteDone_idle none]
  · rw [exec_restanteReturnDone_ctx hc, restanteReturnDone_returns up returns]; rfl
  · rw [exec_restanteReturnDone_ctx hc, restanteReturnDone_returns up returns]; rfl
  · rw [exec_restanteReturnDone_ctx hc, restanteReturnDone_returns up returns]; rfl
  · rw [exec_restanteReturnDone_ctx hc, restanteReturnDone_stays none]

/-- Settles O53: each event by the state of its port, of its pair or of the scan that waits. -/
theorem driveEvents : Obligations.DriveEvents := by
  unfold Obligations.DriveEvents
  refine ⟨fun s p hp => ⟨fun runs => ?_, fun stopped r w nss bars index hi => ?_⟩,
    fun s p hp up => ⟨?_, fun b => ?_, ?_, fun timeout => ?_⟩⟩
  · have port : isDrive p = true := decide_eq_true hp
    refine ⟨fun absent => ?_, fun other => ?_, fun training => ⟨fun r w high => ?_, ?_⟩, fun other r w => ?_, fun other => ?_,
      fun nss bars index hi => ?_⟩
    · rw [exec_drivePresent, act_after port, drivePresent_absent runs absent]; rfl
    · rw [exec_drivePresent, act_after port, drivePresent_stays (.inr other)]
    · rw [exec_driveLinkUp, act_after port, driveLinkUp_trained runs training high]; rfl
    · rw [exec_driveTrainTimeout, act_after port, driveTrainTimeout_fails runs training]
    · rw [exec_driveLinkUp, act_after port, driveLinkUp_stays (.inr other)]
    · rw [exec_driveTrainTimeout, act_after port, driveTrainTimeout_stays (.inr other)]
    · rw [exec_driveInitDone, act_after (by simp [port, hi])]
      refine ⟨fun init large => ?_, fun init fits none => ?_, fun x init fits chosen => ?_, fun other => ?_⟩
      · rw [driveInitDone_largeBar runs init large]; rfl
      · rw [driveInitDone_noNamespace runs init fits none]; rfl
      · rw [driveInitDone_namespace runs init fits chosen]
        exact ⟨by rintro rfl; rfl, by rintro rfl; rfl, by rintro rfl; rfl⟩
      · rw [driveInitDone_stays (.inr other)]
  · have port : isDrive p = true := decide_eq_true hp
    simp only [List.forall_mem_cons, List.not_mem_nil, false_imp_iff, implies_true, and_true]
    refine ⟨?_, ?_, ?_, ?_⟩
    · rw [exec_drivePresent, act_after port, drivePresent_stays (.inl stopped)]
    · rw [exec_driveLinkUp, act_after port, driveLinkUp_stays (.inl stopped)]
    · rw [exec_driveTrainTimeout, act_after port, driveTrainTimeout_stays (.inl stopped)]
    · rw [exec_driveInitDone, act_after (by simp [port, hi]), driveInitDone_stays (.inl stopped)]
  · have row : ∀ w b, w < 3 → exec (.driveCmdTimeout p w b) s = .next (s.after (driveCmdTimeout p w b s.dev)) := fun w b hw => by
      rw [exec_driveCmdTimeout, act_after (by simp [isDrive, hp, hw])]
    refine ⟨fun member b => ?_, fun member => ?_, fun member => ?_, fun member => ?_, fun member => ?_, fun other w b hw => ?_⟩
    · rw [row 2 b (by decide), driveCmdTimeout_member member]; rfl
    · rw [row 0 true (by decide), driveCmdTimeout_member member]; rfl
    · rw [row 1 true (by decide), driveCmdTimeout_member member]; rfl
    · rw [row 0 false (by decide), driveCmdTimeout_member member]; rfl
    · rw [row 1 false (by decide), driveCmdTimeout_member member]; rfl
    · rw [row w b hw, driveCmdTimeout_stays other]
  · rw [exec_driveRemoved, act_after (ok := isDrive p) (decide_eq_true hp)]
    refine ⟨fun runs member => ?_, fun runs present other => ?_, fun other => ?_⟩
    · rw [driveRemoved_member runs member]; rfl
    · rw [driveRemoved_other runs present other]; rfl
    · rw [driveRemoved_stays other]
  · rw [exec_mirrorRebuildDone, act_after (ok := isDrive p) (decide_eq_true hp), whenUp_up up]
    refine ⟨fun whole => ?_, fun other => ?_⟩
    · rw [mirrorRebuildDone_whole whole]; rfl
    · rw [mirrorRebuildDone_stays other]
  · rw [exec_driveScanSettled, act_after rfl]
    refine ⟨fun c settled scan => ?_, fun other => ?_⟩
    · rw [driveScanSettled_ends up settled scan]; rfl
    · rw [driveScanSettled_stays other]

end Sys2Proof.QueuesAndRestante

/-!
PROOFS. The registers that control a host channel of the DMA engine, by the state of the channel (R291, R293, R303, R304).
-/
namespace Sys2Proof.Machine

theorem addrDom_chTail : ∀ c < 64, addrDom (regAddr .DMA_CH_TAIL c) = dDMA := by decide
theorem addrDom_chCtrl : ∀ c < 64, addrDom (regAddr .DMA_CH_CTRL c) = dDMA := by decide

section
variable {c n : Nat} {s : State} (hc : c < 64) (up : domUp s.dev dDMA = true)
include hc up

theorem exec_dmaChTail_up (hn : n < 2 ^ 32) : exec (.dmaChTail c n) s = .next (s.after (dmaTail c n s.dev)) := by
  rw [exec_dmaChTail, act_after (by simpa [isChan, isWord, hc] using hn), regCommand_up (addrDom_chTail c hc) up]

theorem exec_dmaChEnable_up (enable : Bool) : exec (.dmaChEnable c enable) s = .next (s.after (dmaEnable c enable s.dev)) := by
  rw [exec_dmaChEnable, act_after (ok := isChan c) (decide_eq_true hc), regCommand_up (addrDom_chCtrl c hc) up]

theorem exec_dmaChPause_up (pause : Bool) : exec (.dmaChPause c pause) s = .next (s.after (dmaPauseWrite c pause s.dev)) := by
  rw [exec_dmaChPause, act_after (ok := isChan c) (decide_eq_true hc), regCommand_up (addrDom_chCtrl c hc) up]

theorem exec_dmaChRestart_up : exec (.dmaChRestart c) s = .next (s.after (dmaRestart c s.dev)) := by
  rw [exec_dmaChRestart, act_after (ok := isChan c) (decide_eq_true hc), regCommand_up (addrDom_chCtrl c hc) up]

end

section
variable {d : Dev} {c n : Nat}

/-- A write to a channel that may not be written sets its flag. -/
def refuseChannel (c : Nat) (d : Dev) : Dev := occur Src.DMA_CFG_LOCKED c 0 0 d

/-! ### The device's own channels (R291) -/

section
variable (own : 48 ≤ c)
include own

theorem dmaTail_own : dmaTail c n d = refuseChannel c d := if_pos own
theorem dmaEnable_own (enable : Bool) : dmaEnable c enable d = refuseChannel c d := if_pos own
theorem dmaPauseWrite_own (pause : Bool) : dmaPauseWrite c pause d = refuseChannel c d := if_pos own
theorem dmaRestart_own : dmaRestart c d = refuseChannel c d := if_pos own

end

/-! ### TAIL of a host channel (R293) -/

/-- A channel in use (log entry 53) and a TAIL that counts forward from the one in force, no further ahead of HEAD than the ring is long. -/
abbrev TailValid (d : Dev) (c n : Nat) : Prop :=
  chState d c ≠ chDISABLED ∧ n < ringL (chSize d c) ∧ notBehind (chSize d c) n (chan d c).tail = true ∧
    ringDiff (chSize d c) n (chHead d c) ≤ chSize d c

theorem dmaTail_host (host : c < 48) : dmaTail c n d =
    if TailValid d c n then wake c (onChan c (fun x => { x with tail := n }) d) else occur Src.DMA_TAIL_INVALID c 0 0 d := by
  refine (if_neg (by omega)).trans (if_congr ?_ rfl rfl)
  simp [and_assoc]

/-! ### ENABLE of a host channel (R303) -/

/-- A channel's own state is that of one not yet used, but for the releases held for it. -/
def renewChannel (c : Nat) (d : Dev) : Dev := onChan c (fun x => { noChan with held := x.held }) d

/-- A channel becomes IDLE with its counts at 0. -/
def enableChannel (c : Nat) (d : Dev) : Dev :=
  renewChannel c (sf .DMA_CH_CTRL c DMA_CH_CTRL.ENABLE 1 (setCh c chIDLE
    (wn .DMA_CH_HEAD c 0 (wn .DMA_CH_CREDITS c 0 (wn .DMA_CH_CRC c 0 d)))))

/-- A channel becomes DISABLED. -/
def disableChannel (c : Nat) (d : Dev) : Dev :=
  sf .DMA_CH_CTRL c DMA_CH_CTRL.ENABLE 0 (sf .DMA_CH_CTRL c DMA_CH_CTRL.PAUSE 0 (setCh c chDISABLED
    (wn .DMA_CH_CREDITS c 0 (renewChannel c d))))

section
variable (host : c < 48)
include host

theorem dmaEnable_on : dmaEnable c true d =
    if chState d c ≠ chDISABLED then d
    else if chSize d c = 0 || !ringPlaceOk d c then refuseChannel c d else enableChannel c d := if_neg (by omega)

theorem dmaEnable_enabled (enabled : chState d c ≠ chDISABLED) : dmaEnable c true d = d :=
  (dmaEnable_on host).trans (if_pos enabled)

section
variable (disabled : chState d c = chDISABLED)
include disabled

theorem dmaEnable_noRing (noRing : chSize d c = 0 ∨ ringPlaceOk d c = false) : dmaEnable c true d = refuseChannel c d := by
  rw [dmaEnable_on host, if_neg (not_not.mpr disabled), if_pos (by simpa using noRing)]

theorem dmaEnable_ring (ring : chSize d c ≠ 0) (place : ringPlaceOk d c = true) : dmaEnable c true d = enableChannel c d := by
  rw [dmaEnable_on host, if_neg (not_not.mpr disabled), if_neg (by simp [ring, place])]

end

theorem dmaEnable_off : dmaEnable c false d =
    if chState d c = chIDLE || chState d c = chPAUSED || chState d c = chHALTED then disableChannel c d else refuseChannel c d :=
  if_neg (by omega)

theorem dmaEnable_off_rests (rests : chState d c = chIDLE ∨ chState d c = chPAUSED ∨ chState d c = chHALTED) :
    dmaEnable c false d = disableChannel c d :=
  (dmaEnable_off host).trans (if_pos (by simpa [or_assoc] using rests))

/-- A channel that works, or is DISABLED already, keeps its ENABLE (log entry 124). -/
theorem dmaEnable_off_works (idle : chState d c ≠ chIDLE) (paused : chState d c ≠ chPAUSED) (halted : chState d c ≠ chHALTED) :
    dmaEnable c false d = refuseChannel c d :=
  (dmaEnable_off host).trans (if_neg (by simp [idle, paused, halted]))

end

/-! ### PAUSE and RESTART of a host channel (R303, R304) -/

/-- PAUSE as written is shown. -/
def showPause (c x : Nat) (d : Dev) : Dev := sf .DMA_CH_CTRL c DMA_CH_CTRL.PAUSE x d

/-- A channel leaves a state for another, and goes back to it when PAUSE is 0 again. -/
def leaveFor (c st from_ : Nat) (d : Dev) : Dev := setCh c st (onChan c (fun x => { x with from_ := from_ }) d)

section
variable (host : c < 48)
include host

theorem dmaPauseWrite_on : dmaPauseWrite c true d =
    if chState d c = chACTIVE || chState d c = chWAIT then leaveFor c chPAUSING (chState d c) (showPause c 1 d)
    else if chState d c = chIDLE then
      occur Src.DMA_PAUSED c (rn (showPause c 1 d) .DMA_CH_CUR_DESC c) 0 (leaveFor c chPAUSED chIDLE (showPause c 1 d))
    else showPause c 1 d := if_neg (by omega)

theorem dmaPauseWrite_on_idle (idle : chState d c = chIDLE) : dmaPauseWrite c true d =
    occur Src.DMA_PAUSED c (rn (showPause c 1 d) .DMA_CH_CUR_DESC c) 0 (leaveFor c chPAUSED chIDLE (showPause c 1 d)) := by
  rw [dmaPauseWrite_on host, if_neg (by rw [idle]; decide), if_pos idle]

theorem dmaPauseWrite_on_works (works : chState d c = chACTIVE ∨ chState d c = chWAIT) :
    dmaPauseWrite c true d = leaveFor c chPAUSING (chState d c) (showPause c 1 d) :=
  (dmaPauseWrite_on host).trans (if_pos (by simpa using works))

theorem dmaPauseWrite_on_stays (idle : chState d c ≠ chIDLE) (active : chState d c ≠ chACTIVE) (waits : chState d c ≠ chWAIT) :
    dmaPauseWrite c true d = showPause c 1 d := by
  rw [dmaPauseWrite_on host, if_neg (by simp [active, waits]), if_neg idle]

theorem dmaPauseWrite_off : dmaPauseWrite c false d =
    if chState d c = chPAUSING || chState d c = chPAUSED then wake c (consume c (setCh c (chan d c).from_ (showPause c 0 d)))
    else showPause c 0 d := if_neg (by omega)

theorem dmaPauseWrite_off_resumes (paused : chState d c = chPAUSING ∨ chState d c = chPAUSED) :
    dmaPauseWrite c false d = wake c (consume c (setCh c (chan d c).from_ (showPause c 0 d))) :=
  (dmaPauseWrite_off host).trans (if_pos (by simpa using paused))

theorem dmaPauseWrite_off_stays (pausing : chState d c ≠ chPAUSING) (paused : chState d c ≠ chPAUSED) :
    dmaPauseWrite c false d = showPause c 0 d :=
  (dmaPauseWrite_off host).trans (if_neg (by simp [pausing, paused]))

theorem dmaRestart_halted (halted : chState d c = chHALTED) :
    dmaRestart c d = wake c (setCh c chIDLE (sf .DMA_CH_STATUS c DMA_CH_STATUS.HALT_CAUSE 0 d)) :=
  (if_neg (by omega)).trans (if_pos halted)

theorem dmaRestart_stays (runs : chState d c ≠ chHALTED) : dmaRestart c d = d := (if_neg (by omega)).trans (if_neg runs)

end
end

end Sys2Proof.Machine

/-!
PROOFS. A descriptor of a DMA channel from its fetch to its write-back, and what else befalls a channel while DMA runs (R295, R297, R300,
R303, R306).
-/
namespace Sys2Proof.Machine

section
variable {d : Dev} {c : Nat} (up : domUp d dDMA = true)

/-! ### DMA_DESCRIPTOR_START (R297, R303, R307) -/

section
variable {desc : Fetch} {idx src b : Bytes}

/-- A channel has no descriptor in progress and one to re-issue or to fetch. -/
abbrev CanFetch (d : Dev) (c : Nat) : Prop :=
  (chState d c = chIDLE ∨ chState d c = chACTIVE) ∧ (chan d c).desc = [] ∧ ((chan d c).again ≠ [] ∨ chWork d c = true)

/-- The slot to fetch is one to re-issue. -/
abbrev reissueNext (d : Dev) (c : Nat) : Bool := (chan d c).again.head?.isSome

/-- The address of the slot to fetch: one to re-issue before that at HEAD. -/
abbrev nextSlot (d : Dev) (c : Nat) : Nat := (chan d c).again.head?.getD (headAddr d c)

/-- A channel is ACTIVE and shows the slot it fetches. -/
def beginFetch (c : Nat) (d : Dev) : Dev :=
  onChan c (fun x => { x with again := x.again.drop 1, addr := nextSlot d c, reissue := reissueNext d c, wrote := 0, paid := 0 })
    (wn .DMA_CH_CUR_DESC c (nextSlot d c) (wn .DMA_CH_DONE_BYTES c 0 (setCh c chACTIVE d)))

/-- What the fetch of a slot answers: the bytes of HBM, or what host memory answered. -/
def fetched (c : Nat) (desc : Fetch) (d : Dev) : Fetch :=
  if rb (beginFetch c d) .DMA_CH_RING_BASE c DMA_CH_RING_BASE.SPACE then
    Fetch.ok (Mem.readBytes (beginFetch c d).hbm (nextSlot d c) 64) else desc

/-- A failed fetch is recorded as DMA_BAD with cause 8 and halts the channel. -/
def haltChannel (c addr : Nat) (d : Dev) : Dev :=
  occur Src.DMA_HALT c addr 8 (sf .DMA_CH_STATUS c DMA_CH_STATUS.HALT_CAUSE 8 (setCh c chHALTED
    (onChan c (fun x => { x with reissue := false })
      (stageOrWait kDMA_BAD (leBytes 1 c ++ leBytes 1 8 ++ zeros 6 ++ leBytes 8 addr) d))))

/-- A slot to re-issue that is neither READY nor BAD without REISSUED (R307). -/
abbrev settledSlot (re : Bool) (b : Bytes) : Bool := re && !(leAt b 60 1 == 0 || (leAt b 60 1 == 2 && !bitOf (leAt b 62 1) 0))

/-- A channel passes a slot over and goes on with the next one, where there is one. -/
def passOver (c : Nat) (d : Dev) : Dev :=
  let f := onChan c (fun x => { x with reissue := false }) d
  setCh c (if chWork f c || !(chan f c).again.isEmpty then chACTIVE else chIDLE) f

/-- The check sum a descriptor starts from: that of the one before it where it carries it on (R302). -/
def firstCrc (c : Nat) (b : Bytes) (d : Dev) : Nat :=
  if dCont b && (chan d c).lastCrc = dCrc b + 1 then rn d .DMA_CH_CRC c else crcInit (dCrc b)

/-- A descriptor is in progress. -/
def holdDescriptor (c : Nat) (b idx src : Bytes) (d : Dev) : Dev :=
  wn .DMA_CH_CRC c (firstCrc c b d)
    (onChan c (fun x => { x with desc := b, idx := idx, src := src, crc0 := firstCrc c b d }) d)

/-- The first check that a fetched descriptor fails: 0, or its cause. A slot to re-issue is taken as READY (R307). -/
def fetchCause (c : Nat) (re : Bool) (b idx src : Bytes) (d : Dev) : Nat :=
  descCheck (holdDescriptor c b idx src d) b (if re then 0 else leAt b 60 1) (chan d c).lastCrc

/-- A checked descriptor moves its data, or ends BAD with its cause. -/
def runOrEnd (c addr cause : Nat) (d : Dev) : Dev :=
  match cause with
  | 0 => consume c d
  | k => descBad c addr k d

/-- What a channel does with the answer to a fetch. -/
def afterFetch (c addr : Nat) (re : Bool) (idx src : Bytes) (d : Dev) : Fetch → Dev
  | .failed _ => haltChannel c addr d
  | .ok b =>
    if settledSlot re b then passOver c d
    else runOrEnd c addr (fetchCause c re b idx src d) (holdDescriptor c b idx src d)

theorem runOrEnd_bad {addr cause : Nat} (bad : cause ≠ 0) : runOrEnd c addr cause d = descBad c addr cause d := by
  obtain ⟨k, rfl⟩ := Nat.exists_eq_succ_of_ne_zero bad
  rfl

theorem canFetch_iff : (!domUp d dDMA || !(chState d c == chIDLE || chState d c == chACTIVE) || !(chan d c).desc.isEmpty ||
    ((chan d c).again.head?.isNone && !chWork d c)) = false ↔ domUp d dDMA = true ∧ CanFetch d c := by
  simp [CanFetch, and_assoc, imp_iff_not_or]

theorem dmaDescriptorStart_stays (busy : ¬ CanFetch d c) : dmaDescriptorStart c desc idx src d = d :=
  if_pos (by_contra fun go => busy (canFetch_iff.mp (Bool.eq_false_iff.mpr go)).2)

include up in
theorem dmaDescriptorStart_fetches (free : CanFetch d c) : dmaDescriptorStart c desc idx src d =
    afterFetch c (nextSlot d c) (reissueNext d c) idx src (beginFetch c d) (fetched c desc d) :=
  if_neg (Bool.eq_false_iff.mp (canFetch_iff.mpr ⟨up, free⟩))

section
variable (free : CanFetch d c)
include up free

theorem dmaDescriptorStart_failed {k : Nat} (answer : fetched c desc d = .failed k) :
    dmaDescriptorStart c desc idx src d = haltChannel c (nextSlot d c) (beginFetch c d) := by
  rw [dmaDescriptorStart_fetches up free, answer, afterFetch]

variable (answer : fetched c desc d = .ok b)
include answer

theorem dmaDescriptorStart_settled (settled : settledSlot (reissueNext d c) b = true) :
    dmaDescriptorStart c desc idx src d = passOver c (beginFetch c d) := by
  rw [dmaDescriptorStart_fetches up free, answer, afterFetch, if_pos settled]

section
variable (fresh : settledSlot (reissueNext d c) b = false)
include fresh

theorem dmaDescriptorStart_checks : dmaDescriptorStart c desc idx src d =
    runOrEnd c (nextSlot d c) (fetchCause c (reissueNext d c) b idx src (beginFetch c d)) (holdDescriptor c b idx src (beginFetch c d)) := by
  rw [dmaDescriptorStart_fetches up free, answer, afterFetch, if_neg (Bool.eq_false_iff.mp fresh)]

theorem dmaDescriptorStart_good (good : fetchCause c (reissueNext d c) b idx src (beginFetch c d) = 0) :
    dmaDescriptorStart c desc idx src d = consume c (holdDescriptor c b idx src (beginFetch c d)) := by
  rw [dmaDescriptorStart_checks up free answer fresh, good, runOrEnd]

theorem dmaDescriptorStart_bad (bad : fetchCause c (reissueNext d c) b idx src (beginFetch c d) ≠ 0) :
    dmaDescriptorStart c desc idx src d =
      descBad c (nextSlot d c) (fetchCause c (reissueNext d c) b idx src (beginFetch c d)) (holdDescriptor c b idx src (beginFetch c d)) := by
  rw [dmaDescriptorStart_checks up free answer fresh, runOrEnd_bad bad]

end
end
end

/-! ### DMA_DESCRIPTOR_DONE (R295, R299, R302) -/

/-- A descriptor in progress has been paid for in full, or an index entry ends it. -/
abbrev DescriptorEnds (d : Dev) (c : Nat) : Prop :=
  (chan d c).desc ≠ [] ∧ (chState d c = chACTIVE ∨ chState d c = chPAUSING) ∧
    (groupsOf (chan d c).desc ≤ (chan d c).paid ∨ faultDue d (chan d c) = true)

/-- The rest of a descriptor's stream is written, DONE is written back, and the event is sent where it asks for one. -/
def finishDescriptor (c : Nat) (x : Chan) (d : Dev) : Dev :=
  let e := streamWrite c (dLen x.desc) d
  let f := writeBack c x.addr (crcFinal (dCrc x.desc) (rn e .DMA_CH_CRC c)) (dLen x.desc) 1 0 x.reissue e
  descOver c false (if dIrq x.desc then occur Src.DMA_DONE c x.addr 0 f else f)

theorem descriptorEnds_iff : (!domUp d dDMA || (chan d c).desc.isEmpty || !(chState d c == chACTIVE || chState d c == chPAUSING) ||
    ((chan d c).paid < groupsOf (chan d c).desc && !faultDue d (chan d c))) = false ↔ domUp d dDMA = true ∧ DescriptorEnds d c := by
  simp [DescriptorEnds, and_assoc, imp_iff_not_or]

theorem dmaDescriptorDone_stays (runs : ¬ DescriptorEnds d c) : dmaDescriptorDone c d = d :=
  if_pos (by_contra fun go => runs (descriptorEnds_iff.mp (Bool.eq_false_iff.mpr go)).2)

section
variable (ends : DescriptorEnds d c)
include up ends

theorem dmaDescriptorDone_done (sound : idxFault d (chan d c) = none) : dmaDescriptorDone c d = finishDescriptor c (chan d c) d := by
  simp only [dmaDescriptorDone, sound]
  exact if_neg (Bool.eq_false_iff.mp (descriptorEnds_iff.mpr ⟨up, ends⟩))

theorem dmaDescriptorDone_badIndex {f : Nat} (bad : idxFault d (chan d c) = some f) :
    dmaDescriptorDone c d = descBad c (chan d c).addr 7 (streamWrite c f d) := by
  simp only [dmaDescriptorDone, bad]
  exact if_neg (Bool.eq_false_iff.mp (descriptorEnds_iff.mpr ⟨up, ends⟩))

end

/-! ### DMA_READ_ERROR (R306) -/

/-- A descriptor in progress whose source or index table is being read. -/
abbrev Reads (d : Dev) (c : Nat) : Prop :=
  (chan d c).desc ≠ [] ∧ (chState d c = chACTIVE ∨ chState d c = chWAIT ∨ chState d c = chPAUSING)

theorem reads_iff : (!domUp d dDMA || (chan d c).desc.isEmpty ||
    !(chState d c == chACTIVE || chState d c == chWAIT || chState d c == chPAUSING)) = false ↔ domUp d dDMA = true ∧ Reads d c := by
  simp [Reads, and_assoc, or_assoc, imp_iff_not_or]

include up in
theorem dmaReadError_bad (reads : Reads d c) (cause got : Nat) : dmaReadError c cause got d =
    descBad c (chan d c).addr cause (streamWrite c (min got (writable d (chan d c))) d) :=
  if_neg (Bool.eq_false_iff.mp (reads_iff.mpr ⟨up, reads⟩))

theorem dmaReadError_stays (rests : ¬ Reads d c) (cause got : Nat) : dmaReadError c cause got d = d :=
  if_pos (by_contra fun go => rests (reads_iff.mp (Bool.eq_false_iff.mpr go)).2)

/-! ### DMA_TIMER_CREDIT and DMA_PAUSED (R300, R303, R304) -/

include up in
theorem dmaTimerCredit_timer (timer : rf d .DMA_CH_CFG c DMA_CH_CFG.CREDIT_SRC = 2) : dmaTimerCredit c d = addCredit c d :=
  if_pos (by simp [up, timer])

theorem dmaTimerCredit_other (other : rf d .DMA_CH_CFG c DMA_CH_CFG.CREDIT_SRC ≠ 2) : dmaTimerCredit c d = d :=
  if_neg (by simp [other])

/-- The whole elements read of a descriptor in progress are written, up to a stream offset. -/
def writeElements (c upTo : Nat) (d : Dev) : Dev :=
  let x := chan d c
  if x.desc.isEmpty then d
  else streamWrite c (min upTo (writable d x) / max (dSrcW x.desc) (dDstW x.desc) * max (dSrcW x.desc) (dDstW x.desc)) d

include up in
theorem dmaPaused_pausing (pausing : chState d c = chPAUSING) (upTo : Nat) : dmaPaused c upTo d =
    occur Src.DMA_PAUSED c (rn (writeElements c upTo d) .DMA_CH_CUR_DESC c) 0 (setCh c chPAUSED (writeElements c upTo d)) :=
  if_neg (by simp [up, pausing])

theorem dmaPaused_stays (other : chState d c ≠ chPAUSING) (upTo : Nat) : dmaPaused c upTo d = d := if_pos (by simp [other])

end

section
variable {c : Nat} (hc : c < 64) (s : State)
include hc

theorem exec_dmaDescriptorStart_chan (desc : Fetch) (idx src : Bytes) :
    exec (.dmaDescriptorStart c desc idx src) s = .next (s.after (dmaDescriptorStart c desc idx src s.dev)) := by
  rw [exec_dmaDescriptorStart, act_after (ok := isChan c) (decide_eq_true hc)]

theorem exec_dmaDescriptorDone_chan : exec (.dmaDescriptorDone c) s = .next (s.after (dmaDescriptorDone c s.dev)) := by
  rw [exec_dmaDescriptorDone, act_after (ok := isChan c) (decide_eq_true hc)]

theorem exec_dmaReadError_chan (cause got : Nat) :
    exec (.dmaReadError c cause got) s = .next (s.after (dmaReadError c cause got s.dev)) := by
  rw [exec_dmaReadError, act_after (ok := isChan c) (decide_eq_true hc)]

theorem exec_dmaTimerCredit_chan : exec (.dmaTimerCredit c) s = .next (s.after (dmaTimerCredit c s.dev)) := by
  rw [exec_dmaTimerCredit, act_after (ok := isChan c) (decide_eq_true hc)]

theorem exec_dmaPaused_chan (upTo : Nat) : exec (.dmaPaused c upTo) s = .next (s.after (dmaPaused c upTo s.dev)) := by
  rw [exec_dmaPaused, act_after (ok := isChan c) (decide_eq_true hc)]

end

end Sys2Proof.Machine

/-!
PROOFS. The obligations about the DMA engine.
-/
namespace Sys2Proof.DmaEngine
open Sys2Proof.Machine

/-- Settles O35: a channel of the device's own refuses every write; a host channel by its state. -/
theorem dmaChannelControl : Obligations.DmaChannelControl := by
  unfold Obligations.DmaChannelControl
  intro s c n hc hn up
  rw [exec_dmaChTail_up hc up hn, exec_dmaChRestart_up hc up]
  simp only [exec_dmaChEnable_up hc up, exec_dmaChPause_up hc up]
  refine ⟨fun own => ?_, fun host => ⟨fun valid => ?_, fun invalid => ?_, fun disabled ring place => ?_, fun disabled noRing => ?_,
    fun enabled => ?_, fun rests => ?_, fun idle paused halted => ?_, ⟨fun idle => ?_, fun works => ?_, fun idle active waits => ?_⟩,
    ⟨fun paused => ?_, fun pausing paused => ?_⟩, fun halted => ?_, fun runs => ?_⟩⟩
  · rw [dmaTail_own own, dmaRestart_own own]
    exact ⟨rfl, fun b => by rw [dmaEnable_own own b]; rfl, fun b => by rw [dmaPauseWrite_own own b]; rfl, rfl⟩
  · rw [dmaTail_host host, if_pos valid]
  · rw [dmaTail_host host, if_neg invalid]
  · rw [dmaEnable_ring host disabled ring place]; rfl
  · rw [dmaEnable_noRing host disabled noRing]; rfl
  · rw [dmaEnable_enabled host enabled]
  · rw [dmaEnable_off_rests host rests]; rfl
  · rw [dmaEnable_off_works host idle paused halted]; rfl
  · rw [dmaPauseWrite_on_idle host idle]; rfl
  · rw [dmaPauseWrite_on_works host works]; rfl
  · rw [dmaPauseWrite_on_stays host idle active waits]; rfl
  · rw [dmaPauseWrite_off_resumes host paused]; rfl
  · rw [dmaPauseWrite_off_stays host pausing paused]; rfl
  · rw [dmaRestart_halted host halted]
  · rw [dmaRestart_stays host runs]

/-- Settles O54: the start of a descriptor by what its fetch answers and by what its checks find, every other event by the state of its
channel. -/
theorem dmaDescriptor : Obligations.DmaDescriptor := by
  unfold Obligations.DmaDescriptor
  intro s c hc up
  refine ⟨fun desc idx src => ?_, ?_, fun cause got => ?_, fun timer => ?_, fun other => ?_, fun n => ?_⟩
  · rw [exec_dmaDescriptorStart_chan hc]
    refine ⟨fun k free answer => ?_, fun b free answer => ⟨fun settled => ?_, fun fresh good => ?_, fun fresh bad => ?_⟩, fun busy => ?_⟩
    · rw [dmaDescriptorStart_failed up free answer]; rfl
    · rw [dmaDescriptorStart_settled up free answer settled]; rfl
    · rw [dmaDescriptorStart_good up free answer fresh good]; rfl
    · rw [dmaDescriptorStart_bad up free answer fresh bad]; rfl
    · rw [dmaDescriptorStart_stays busy]
  · rw [exec_dmaDescriptorDone_chan hc]
    refine ⟨fun ends sound => ?_, fun f ends bad => ?_, fun runs => ?_⟩
    · rw [dmaDescriptorDone_done up ends sound]; rfl
    · rw [dmaDescriptorDone_badIndex up ends bad]
    · rw [dmaDescriptorDone_stays runs]
  · rw [exec_dmaReadError_chan hc]
    refine ⟨fun reads => ?_, fun rests => ?_⟩
    · rw [dmaReadError_bad up reads]
    · rw [dmaReadError_stays rests]
  · rw [exec_dmaTimerCredit_chan hc, dmaTimerCredit_timer up timer]
  · rw [exec_dmaTimerCredit_chan hc, dmaTimerCredit_other other]
  · rw [exec_dmaPaused_chan hc]
    refine ⟨fun pausing => ?_, fun other => ?_⟩
    · rw [dmaPaused_pausing up pausing]; rfl
    · rw [dmaPaused_stays other]

end Sys2Proof.DmaEngine

/-!
PROOFS. What every command leaves: its answer, the queue, the work asked, and the fuses, whose counts only rise (R369, R391, R398, R405).
-/
namespace Sys2Proof.Machine

/-! ### Fuse counts rise -/

/-- A write of a value that is listed reads back, in a map of any form. -/
theorem spGet_spSet_listed {V : Type} [DecidableEq V] {d v : V} (listed : v ≠ d) (k j : Nat) (m : List (Nat × V)) :
    spGet d j (spSet d k v m) = if j = k then v else spGet d j m := by
  induction m with
  | nil => by_cases j = k <;> simp [spSet, spGet, *]
  | cons x t ih =>
    obtain ⟨a, w⟩ := x
    obtain below | rfl | above := Nat.lt_trichotomy k a
    · simp only [spSet, below, listed, ite_true, ite_false, spGet]
      obtain lt | rfl | gt := Nat.lt_trichotomy j k
      · simp [lt, Nat.ne_of_lt lt, Nat.lt_trans lt below]
      · simp
      · simp [Nat.ne_of_gt gt, Nat.lt_asymm gt]
    · simp only [spSet, Nat.lt_irrefl, listed, ite_true, ite_false, spGet]
      obtain lt | rfl | gt := Nat.lt_trichotomy j k
      · simp [lt, Nat.ne_of_lt lt]
      · simp
      · simp [Nat.ne_of_gt gt, Nat.lt_asymm gt]
    · simp only [spSet, Nat.lt_asymm above, Nat.ne_of_gt above, ite_false, spGet, ih]
      obtain lt | rfl | gt := Nat.lt_trichotomy j a
      · simp [lt, show j ≠ k by omega]
      · simp [show j ≠ k by omega]
      · simp [Nat.ne_of_gt gt, Nat.lt_asymm gt]

/-- One REACH count raised to what a fuse request names: the step of `raiseReach`. -/
def raiseOne (img : Bytes) (m : List (Nat × Nat)) (s : Nat) : List (Nat × Nat) :=
  if mget m s < leAt img (256 + s) 1 then mset s (leAt img (256 + s) 1) m else m

theorem raiseReach_eq_foldl (img : Bytes) (m : List (Nat × Nat)) : raiseReach img m = (List.range 51).foldl (raiseOne img) m := rfl

theorem mget_raiseOne (img : Bytes) (m : List (Nat × Nat)) (s k : Nat) :
    mget (raiseOne img m s) k = if k = s then max (mget m k) (leAt img (256 + k) 1) else mget m k := by
  unfold raiseOne
  by_cases raises : mget m s < leAt img (256 + s) 1
  · rw [if_pos raises, mget, mset, spGet_spSet_listed (by omega)]
    exact if_ctx_congr .rfl (fun same => by subst same; omega) fun _ => rfl
  · rw [if_neg raises]
    exact (ite_eq_right_iff.mpr fun same => by subst same; omega).symm

theorem le_mget_raiseReach (img : Bytes) (m : List (Nat × Nat)) (k : Nat) : mget m k ≤ mget (raiseReach img m) k := by
  rw [raiseReach_eq_foldl]
  refine List.foldlRecOn (motive := fun n => mget m k ≤ mget n k) _ _ (Nat.le_refl _) fun n rises s _ => ?_
  rw [mget_raiseOne]
  split <;> omega

/-- A fuse request that passes its checks names no count above 5. -/
theorem fuseReqBad_none {img : Bytes} (good : fuseReqBad img = none) {s : Nat} (source : s < 51) : leAt img (256 + s) 1 ≤ 5 := by
  rw [fuseReqBad, Option.map_eq_none_iff, List.find?_eq_none] at good
  have checked := good (256 + s, decide (leAt img (256 + s) 1 ≤ 5))
    (List.mem_append_left _ (List.mem_append_right _ (List.mem_map_of_mem (List.mem_range.mpr source))))
  simpa using checked

theorem mget_raiseReach_le {img : Bytes} (good : fuseReqBad img = none) {m : List (Nat × Nat)} (k : Nat) (legal : mget m k ≤ 5) :
    mget (raiseReach img m) k ≤ 5 := by
  rw [raiseReach_eq_foldl]
  refine List.foldlRecOn (motive := fun n => mget n k ≤ 5) _ _ legal fun n bound s source => ?_
  rw [mget_raiseOne]
  split
  · next same => subst same; exact Nat.max_le.mpr ⟨bound, fuseReqBad_none good (List.mem_range.mp source)⟩
  · exact bound

theorem Fuses.le_refl (f : Fuses) : f.le f := ⟨Nat.le_refl _, fun _ => Nat.le_refl _⟩

theorem le_burnSvn (f : Fuses) (d : Dev) : f.svn ≤ burnSvn f d := by
  unfold burnSvn
  split
  · split <;> omega
  · exact Nat.le_refl _

theorem burnSvn_le {f : Fuses} (legal : f.svn ≤ 64) (d : Dev) : burnSvn f d ≤ 64 := by
  unfold burnSvn
  split
  · split <;> omega
  · exact legal

/-- FW_STAGE leaves the fuses, or carries out a fuse request that passed its checks. -/
theorem stageFuses_cases (sq tag : Nat) (f : Fuses) (d : Dev) : stageFuses sq tag f d = f ∨
    ∃ img, fuseReqBad img = none ∧ stageFuses sq tag f d = { f with reach := raiseReach img f.reach } := by
  unfold stageFuses
  split
  · exact .inl rfl
  · split
    · next c _ =>
      split
      · next request =>
        simp only [fuseRequest, Bool.and_eq_true, Option.isNone_iff_eq_none] at request
        obtain ⟨-, -, good⟩ := request
        exact .inr ⟨c.block, good, rfl⟩
      · exact .inl rfl
    · exact .inl rfl

/-! ### The form of every command -/

/-- The fuses after a command. -/
def fusesAfter (c : Instr) (f : Fuses) (d : Dev) : Fuses :=
  match c with
  | .svnBurn => { f with svn := burnSvn f d }
  | .fwStage sq tag => stageFuses sq tag f d
  | _ => f

theorem fusesAfter_other {c : Instr} (noBurn : c ≠ .svnBurn) (noStage : ∀ sq tag, c ≠ .fwStage sq tag) (f : Fuses) (d : Dev) :
    fusesAfter c f d = f := by
  unfold fusesAfter
  split
  · exact absurd rfl noBurn
  · exact absurd rfl (noStage _ _)
  · rfl

theorem fusesAfter_le (c : Instr) (f : Fuses) (d : Dev) : f.le (fusesAfter c f d) := by
  unfold fusesAfter
  split
  · exact ⟨le_burnSvn f d, fun _ => Nat.le_refl _⟩
  · next sq tag =>
    obtain same | ⟨img, -, raised⟩ := stageFuses_cases sq tag f d
    · rw [same]; exact f.le_refl
    · rw [raised]; exact ⟨Nat.le_refl _, le_mget_raiseReach img f.reach⟩
  · exact f.le_refl

theorem fusesAfter_legal (c : Instr) {f : Fuses} (legal : f.legal) (d : Dev) : (fusesAfter c f d).legal := by
  obtain ⟨svn, reach⟩ := legal
  unfold fusesAfter
  split
  · exact ⟨burnSvn_le svn d, reach⟩
  · next sq tag =>
    obtain same | ⟨img, good, raised⟩ := stageFuses_cases sq tag f d
    · rw [same]; exact ⟨svn, reach⟩
    · rw [raised]; exact ⟨svn, fun k => mget_raiseReach_le good k (reach k)⟩
  · exact ⟨svn, reach⟩

/-- Every command checks its operands and then changes the device, and the fuses as `fusesAfter` says. -/
theorem exec_eq_actFuses (c : Instr) (s : State) : ∃ f, exec c s = actFuses c.wf (fusesAfter c) f s := by
  by_cases burn : c = .svnBurn
  · subst burn; exact ⟨_, exec_svnBurn s⟩
  by_cases stage : ∃ sq tag, c = .fwStage sq tag
  · obtain ⟨sq, tag, rfl⟩ := stage; exact ⟨_, exec_fwStage sq tag s⟩
  obtain ⟨f, run⟩ := (exec_form c s).resolve_right fun fused => fused.1.elim burn stage
  have keeps : fusesAfter c = fun f _ => f := by
    funext f d
    exact fusesAfter_other burn (fun sq tag same => stage ⟨sq, tag, same⟩) f d
  exact ⟨f, run.trans (by rw [keeps]; rfl)⟩

/-- What a command leaves that answers a next state. -/
theorem exec_next {c : Instr} {s t : State} (h : exec c s = .next t) :
    t.pending = s.pending ∧ t.fuses = fusesAfter c s.fuses s.dev ∧ t.dev.rq = [] := by
  obtain ⟨f, run⟩ := exec_eq_actFuses c s
  obtain ⟨-, rfl⟩ := actFuses_next _ _ _ _ _ (run.symm.trans h)
  exact ⟨rfl, rfl, settleN_rq 4 _⟩

theorem exec_wf {c : Instr} (wf : c.wf = true) (s : State) : ∃ t, exec c s = .next t := by
  obtain ⟨f, run⟩ := exec_eq_actFuses c s
  exact ⟨_, run.trans (if_pos wf)⟩

theorem exec_not_wf {c : Instr} (bad : c.wf = false) (s : State) : exec c s = .fault .noSuchUnit := by
  obtain ⟨f, run⟩ := exec_eq_actFuses c s
  exact run.trans (if_neg (Bool.eq_false_iff.mp bad))

/-! ### A step -/

theorem step_cons (c : Instr) (rest : List Instr) (s : State) :
    step { s with pending := c :: rest } = exec c { s with pending := rest } := rfl

theorem step_empty {s : State} (empty : s.pending = []) : step s = .next { s with dev := tick s.dev } := by
  unfold step
  rw [empty]

theorem tick_down {d : Dev} (down : domUp d dAON = false) : tick d = d := if_neg (Bool.eq_false_iff.mp down)

theorem tick_up {d : Dev} (up : domUp d dAON = true) :
    tick d = if d.esc.srcKind = 2 then sourceCount true { d with now := d.now + 1 } else { d with now := d.now + 1 } := if_pos up

/-- A forward source count asks no work of another unit: it is no change of direction. -/
theorem sourceCount_forward_rq (d : Dev) : (sourceCount true d).rq = d.rq := by
  unfold sourceCount sourceCountAt
  extract_lets acc t r tracked counted moved turned
  have noTurn : turned = moved := if_neg (by simp)
  have kept : turned.rq = d.rq := by
    rw [noTurn]
    unfold moved
    split <;> rfl
  rw [← kept]
  clear_value turned
  split
  · split <;> rfl
  · rfl

theorem tick_rq (d : Dev) : (tick d).rq = d.rq := by
  cases up : domUp d dAON with
  | false => rw [tick_down up]
  | true =>
    rw [tick_up up]
    split
    · rw [sourceCount_forward_rq]
    · rfl

end Sys2Proof.Machine

/-!
PROOFS. The obligations about the whole block.
-/
namespace Sys2Proof.WholeBlock
open Sys2Proof.Machine

/-- Settles O5: a command raises fuses as `fusesAfter` says and ends with no work asked; time that passes changes no fuses and asks none. -/
theorem stepKeepsInvariant : Obligations.StepKeepsInvariant := by
  unfold Obligations.StepKeepsInvariant
  intro s t legal noWork run
  obtain ⟨pending, fuses, dev⟩ := s
  cases pending with
  | nil =>
    rw [step_empty rfl] at run
    cases run
    exact ⟨legal, fuses.le_refl, (tick_rq dev).trans noWork⟩
  | cons c rest =>
    obtain ⟨-, burnt, noWork⟩ := exec_next (s := ⟨rest, fuses, dev⟩) run
    rw [burnt]
    exact ⟨fusesAfter_legal c legal dev, fusesAfter_le c fuses dev, noWork⟩

/-- Settles O4, by what each command leaves of the fuses. -/
theorem fuses : Obligations.Fuses := by
  unfold Obligations.Fuses
  refine ⟨fun c s t noBurn noStage run => ?_, fun c s t run => ?_⟩
  · obtain ⟨-, burnt, -⟩ := exec_next run
    rw [burnt, fusesAfter_other noBurn noStage]
  · obtain ⟨-, burnt, -⟩ := exec_next run
    rw [burnt]
    exact fusesAfter_le c s.fuses s.dev

/-- Settles O3, by the form of every command. -/
theorem commandsComplete : Obligations.CommandsComplete := by
  unfold Obligations.CommandsComplete
  refine ⟨fun c s => ⟨fun wf => exec_wf wf s, fun bad => exec_not_wf bad s⟩, fun c s t run => ?_⟩
  obtain ⟨queue, -, noWork⟩ := exec_next run
  exact ⟨queue, noWork⟩

/-- Settles O1. -/
theorem stepRunsFront : Obligations.StepRunsFront := step_cons

/-- Settles O2, by whether AON runs and whether device time is the track source. -/
theorem stepOnEmptyQueue : Obligations.StepOnEmptyQueue := by
  unfold Obligations.StepOnEmptyQueue
  intro s empty
  rw [step_empty empty]
  refine ⟨fun down => ?_, fun up other => ?_, fun up own => ?_⟩
  · rw [tick_down down]
  · rw [tick_up up, if_neg other]
  · rw [tick_up up, if_pos own]

/-- Settles O6: an empty map of fuses and an empty register file read as their defaults. -/
theorem afterReset : Obligations.AfterReset := by
  unfold Obligations.AfterReset
  refine ⟨⟨⟨Nat.zero_le 64, fun k => ?_⟩, rfl, rfl, rfl, rfl, rfl, rfl⟩, fun r i => rfl⟩
  have unfused : mget State.reset.fuses.reach k = 0 := rfl
  omega

end Sys2Proof.WholeBlock

/-!
PROOFS. The motion commands MOVE, HOME, STOP and RESUME, by the state of their axis and the checks of each (R320, R332, R333, R338).
-/
namespace Sys2Proof.Machine

section
variable {c : Cmd} {d : Dev}

/-! ### MOVE (R320) -/

theorem axRefuses_iff {a : Nat} : axRefuses d a = true ↔
    axState d a = axDISABLED ∨ axState d a = axENABLING ∨ axState d a = axDISABLING ∨ axState d a = axFAULT := by
  simp [axRefuses]

/-- The axis that a MOVE names. -/
def moveAxis (c : Cmd) : Nat := mvParam c 8 1 % 8

/-- The kind of a MOVE: 0 a table of the active image, 1 a table of the command, 2 a gear. -/
def moveKind (c : Cmd) : Nat := mvParam c 9 1 % 4

/-- The table that a MOVE names. -/
def moveTable (c : Cmd) (d : Dev) : Option Bytes :=
  if moveKind c = 1 then some (c.block.drop 64) else (activeImage d).bind (fun i => segTable i (mvParam c 10 2))

/-- The gear move of a MOVE. -/
def gearMove (c : Cmd) : Move :=
  ⟨c.order + 1, true, [], 0, 0, 0, false, 0, mvParam c 16 1 % 8, mvParam c 20 4, mvParam c 24 4, mvParam c 28 4, mvParam c 32 8,
    bitOf (mvParam c 9 1) 3⟩

/-- The move of a MOVE along a table, with the blend it asks for. -/
def alongTable (c : Cmd) (b : Bytes) : Move := tableMove (c.order + 1) b (if bitOf (mvParam c 9 1) 2 then mvParam c 12 4 else 0)

/-- The moves queued at the axis that a MOVE names. -/
abbrev movesQueued (c : Cmd) (d : Dev) : Nat := (axis d (moveAxis c)).queue.length

theorem axMove_refused (refuses : axRefuses d (moveAxis c) = true) : axMove c d = complete c stSTATE dREMON [] d := if_pos refuses

section
variable (takes : axRefuses d (moveAxis c) = false)
include takes

section
variable (gear : moveKind c = 2)
include gear

theorem axMove_gear : axMove c d =
    if decide (8 ≤ movesQueued c d) then complete c stBOUND 0 [] d else enqueue (moveAxis c) (gearMove c) d :=
  (if_neg (Bool.eq_false_iff.mp takes)).trans (if_pos gear)

theorem axMove_gear_full (full : 8 ≤ movesQueued c d) : axMove c d = complete c stBOUND 0 [] d :=
  (axMove_gear takes gear).trans (if_pos (decide_eq_true full))

theorem axMove_gear_joins (room : movesQueued c d < 8) : axMove c d = enqueue (moveAxis c) (gearMove c) d :=
  (axMove_gear takes gear).trans (if_neg (by simpa using room))

end

section
variable (along : moveKind c ≠ 2)
include along

theorem axMove_noTable (none : moveTable c d = none) : axMove c d = complete c stSTATE dREMON [] d := by
  unfold moveTable moveKind at none
  unfold axMove
  simp only [none]
  exact (if_neg (Bool.eq_false_iff.mp takes)).trans (if_neg along)

section
variable {b : Bytes} (table : moveTable c d = some b)
include table

theorem axMove_table : axMove c d =
    if decide (8 ≤ movesQueued c d) then complete c stBOUND 0 [] d
    else if tableOver d (moveAxis c) (alongTable c b) then complete c stBOUND (if moveKind c = 1 then 0x80 else 10) [] d
    else if (alongTable c b).total < (alongTable c b).blend then complete c stBOUND (if moveKind c = 1 then 0x44 else 12) [] d
    else enqueue (moveAxis c) (alongTable c b) d := by
  unfold moveTable moveKind at table
  unfold axMove
  simp only [table]
  exact (if_neg (Bool.eq_false_iff.mp takes)).trans (if_neg along)

theorem axMove_table_full (full : 8 ≤ movesQueued c d) : axMove c d = complete c stBOUND 0 [] d :=
  (axMove_table takes along table).trans (if_pos (decide_eq_true full))

section
variable (room : movesQueued c d < 8)
include room

theorem axMove_table_over (beyond : tableOver d (moveAxis c) (alongTable c b) = true) :
    axMove c d = complete c stBOUND (if moveKind c = 1 then 0x80 else 10) [] d := by
  rw [axMove_table takes along table, if_neg (by simpa using room), if_pos beyond]

theorem axMove_table_blend (within : tableOver d (moveAxis c) (alongTable c b) = false)
    (long : (alongTable c b).total < (alongTable c b).blend) :
    axMove c d = complete c stBOUND (if moveKind c = 1 then 0x44 else 12) [] d := by
  rw [axMove_table takes along table, if_neg (by simpa using room), if_neg (Bool.eq_false_iff.mp within), if_pos long]

theorem axMove_table_joins (within : tableOver d (moveAxis c) (alongTable c b) = false)
    (fits : (alongTable c b).blend ≤ (alongTable c b).total) : axMove c d = enqueue (moveAxis c) (alongTable c b) d := by
  rw [axMove_table takes along table, if_neg (by simpa using room), if_neg (Bool.eq_false_iff.mp within), if_neg (Nat.not_lt.mpr fits)]

end
end
end
end

/-- A move at the end of its axis' queue. -/
def addMove (a : Nat) (m : Move) (d : Dev) : Dev := onAxis a (fun x => { x with queue := x.queue ++ [m] }) d

/-- A blend that is skipped is counted and sets its flag. -/
def skipBlend (a : Nat) (d : Dev) : Dev := occur (Src.BLEND_SKIPPED a) a 0 0 (incSat .AX_BLEND_SKIPPED a d)

theorem enqueue_plain {a : Nat} {m : Move} (plain : m.blend = 0) : enqueue a m d = showAxis a (addMove a m d) := by
  simp only [enqueue, plain, ite_true]
  rfl

theorem enqueue_first {a : Nat} {m : Move} (blends : m.blend ≠ 0) (first : (axis d a).queue = []) :
    enqueue a m d = showAxis a (skipBlend a (addMove a m d)) := by
  simp only [enqueue, first, if_neg blends]
  rfl

/-! ### HOME (R338) -/

/-- The axis that HOME, STOP or RESUME names. -/
def namedAxis (c : Cmd) : Nat := leAt c.entry 8 1 % 8

/-- The method of a HOME. -/
def homeMethod (c : Cmd) : Nat := leAt c.entry 9 1

/-- A HOME by position: the position in force is set, with REF 3, and the command answers both. -/
def homeByPosition (c : Cmd) (d : Dev) : Dev :=
  let a := namedAxis c
  let delta := ax64 d .AX_HOME_POS a - ust (axis d a).pos
  completeOk c (leBytes 8 3 ++ leBytes 8 (ux 64 delta)) (showAxis a (setAxRef a 3 (axShift a delta d)))

/-- The search of a HOME starts, from the trip of its limit where that is latched. -/
def startSearch (c : Cmd) (d : Dev) : Dev :=
  let a := namedAxis c
  let neg := decide (homeMethod c % 2 = 0)
  let latched := if neg then rb d .AX_STATUS a AX_STATUS.LATCH_NEG else rb d .AX_STATUS a AX_STATUS.LATCH_POS
  showAxis a (setAxState a axHOMING (onAxis a (fun x => { x with
    home := some ⟨c.order + 1, homeMethod c, 0, stOK, 0, 0⟩, prog := .home neg 0, amps := ampsIn d a, steps := 0, low := 0, held := false
    stallAt := none
    limAt := if latched then some (rs64 d (if neg then .AX_LIM_TRIP_NEG else .AX_LIM_TRIP_POS) a * 65536) else none }) d))

/-- A stall search slower than the stall detector allows. -/
abbrev StallTooSlow (c : Cmd) (d : Dev) : Prop :=
  homeMethod c < 2 ∧ axN d .AX_HOME_VEL (namedAxis c) < axN d .AX_STALL_VMIN (namedAxis c)

theorem stallTooSlow_iff : (decide (homeMethod c < 2) && decide (axN d .AX_HOME_VEL (namedAxis c) < axN d .AX_STALL_VMIN (namedAxis c))) = true ↔
    StallTooSlow c d := by
  rw [Bool.and_eq_true, decide_eq_true_eq, decide_eq_true_eq]

theorem axHome_refused (other : axState d (namedAxis c) ≠ axHOLDING) : axHome c d = complete c stSTATE dREMON [] d := if_pos other

section
variable (holds : axState d (namedAxis c) = axHOLDING)
include holds

theorem axHome_tooSlow (slow : StallTooSlow c d) : axHome c d = complete c stPARAM 9 [] d :=
  (if_neg (not_not.mpr holds)).trans (if_pos (stallTooSlow_iff.mpr slow))

theorem axHome_fast (fast : ¬ StallTooSlow c d) :
    axHome c d = if homeMethod c = 4 then homeByPosition c d else startSearch c d :=
  (if_neg (not_not.mpr holds)).trans (if_neg (mt stallTooSlow_iff.mp fast))

theorem axHome_position (position : homeMethod c = 4) : axHome c d = homeByPosition c d := by
  rw [axHome_fast holds (by omega), if_pos position]

theorem axHome_search (search : homeMethod c < 4) (fast : ¬ StallTooSlow c d) : axHome c d = startSearch c d := by
  rw [axHome_fast holds fast, if_neg (by omega)]

end

/-! ### STOP (R332) -/

/-- Whether a STOP asks for FLUSH. -/
def asksFlush (c : Cmd) : Bool := bitOf (leAt c.entry 10 1) 0

/-- A STOP is noted at its axis. -/
def noteStop (c : Cmd) (d : Dev) : Dev :=
  onAxis (namedAxis c) (fun x => { x with stops := x.stops ++ [c.order + 1], flush := x.flush || asksFlush c }) d

/-- The search of a homing axis ends. -/
def endSearch (a : Nat) (d : Dev) : Dev :=
  match (axis d a).home with
  | some h => onAxis a (fun x => { x with home := some (homeStop h) }) d
  | none => d

/-- The STOPs of an axis at rest complete. -/
def endStops (a : Nat) (d : Dev) : Dev := showAxis a (axStopsDone a 0 (onAxis a (fun x => { x with flush := false }) d))

/-- The moves of an axis at rest end; a SUSPENDED axis is HOLDING. -/
def flushMoves (a : Nat) (d : Dev) : Dev := if axState d a = axSUSPENDED then setAxState a axHOLDING (axEndAll a d) else axEndAll a d

section
variable (rests : axMoves (noteStop c d) (namedAxis c) = false)
include rests

theorem axStopCmd_rests : axStopCmd c d =
    endStops (namedAxis c) (if asksFlush c then flushMoves (namedAxis c) (noteStop c d) else noteStop c d) :=
  if_pos (congrArg (! ·) rests)

theorem axStopCmd_rests_keeps (keeps : asksFlush c = false) : axStopCmd c d = endStops (namedAxis c) (noteStop c d) := by
  rw [axStopCmd_rests rests, if_neg (Bool.eq_false_iff.mp keeps)]

theorem axStopCmd_rests_flushes (flush : asksFlush c = true) :
    axStopCmd c d = endStops (namedAxis c) (flushMoves (namedAxis c) (noteStop c d)) := by
  rw [axStopCmd_rests rests, if_pos flush]

end

section
variable (moves : axMoves (noteStop c d) (namedAxis c) = true)
include moves

/-- An axis that moves ramps down, but for one whose last set-point is computed. -/
theorem axStopCmd_ramps (runs : (axis (noteStop c d) (namedAxis c)).prog ≠ .hold) :
    axStopCmd c d = showAxis (namedAxis c) (axStop (namedAxis c) (leAt c.entry 9 1) (endSearch (namedAxis c) (noteStop c d))) := by
  refine (if_neg (by rw [Bool.not_eq_true', Bool.not_eq_false]; exact moves)).trans ?_
  split
  · next holds => exact absurd holds runs
  · rfl

theorem axStopCmd_holds (holds : (axis (noteStop c d) (namedAxis c)).prog = .hold) : axStopCmd c d =
    showAxis (namedAxis c) (if (axis (noteStop c d) (namedAxis c)).queue.length ≤ (axis (noteStop c d) (namedAxis c)).ahead
      then endSearch (namedAxis c) (noteStop c d)
      else axStop (namedAxis c) (leAt c.entry 9 1) (endSearch (namedAxis c) (noteStop c d))) := by
  refine (if_neg (by rw [Bool.not_eq_true', Bool.not_eq_false]; exact moves)).trans ?_
  split
  · exact (apply_ite _ _ _ _).symm
  · next runs => exact absurd holds runs

end

/-! ### RESUME (R333) -/

/-- A RESUME is noted at its axis, with the limits it runs under. -/
def noteResume (c : Cmd) (d : Dev) : Dev :=
  onAxis (namedAxis c) (fun x => { x with
    resume := c.order + 1, ahead := 0, vmax := axVmax d (namedAxis c), soft := axSoft d (namedAxis c), bad := false }) d

/-- An axis runs what is left of its move. -/
def runRest (a : Nat) (remain : Int) (d : Dev) : Dev :=
  showAxis a (axPaceStart a (setAxState a axMOVING (runProfile a 1 remain (axN d .AX_ACCEL a) (axN d .AX_VRESUME a) d)))

/-- What a RESUME asks of its axis does not hold: it is SUSPENDED, and has a reference or the flag that does without. -/
abbrev ResumeRefused (c : Cmd) (d : Dev) : Prop :=
  axState d (namedAxis c) ≠ axSUSPENDED ∨ (axRef d (namedAxis c) = 0 ∧ bitOf (leAt c.entry 9 1) 0 = false)

theorem resumeRefused_iff : (decide (axState d (namedAxis c) ≠ axSUSPENDED) ||
    (decide (axRef d (namedAxis c) = 0) && !bitOf (leAt c.entry 9 1) 0)) = true ↔ ResumeRefused c d := by
  simp [ResumeRefused]

theorem axResume_refused (bad : ResumeRefused c d) : axResume c d = complete c stSTATE dREMON [] d :=
  if_pos (resumeRefused_iff.mpr bad)

section
variable (good : ¬ ResumeRefused c d)
include good

theorem axResume_goesOn (noPace : (axis d (namedAxis c)).pace = none) :
    axResume c d = runRest (namedAxis c) (axis d (namedAxis c)).remain (noteResume c d) := by
  refine (if_neg (mt resumeRefused_iff.mp good)).trans ?_
  split
  · next p paced => exact absurd (noPace.symm.trans paced) nofun
  · rfl

theorem axResume_goesBack {p : Pace} (paced : (axis d (namedAxis c)).pace = some p) :
    axResume c d = showAxis (namedAxis c) (paceBack (namedAxis c) p (noteResume c d)) := by
  refine (if_neg (mt resumeRefused_iff.mp good)).trans ?_
  split
  · next q own => cases paced.symm.trans own; rfl
  · next noPace => exact absurd (noPace.symm.trans paced) nofun

end
end

end Sys2Proof.Machine

/-!
PROOFS. The control registers of an axis and what befalls it between its commands, by the guards of each (R326, R329, R331, R335, R337).
-/
namespace Sys2Proof.Machine

theorem addrDom_axCtrl : ∀ a < 8, addrDom (regAddr .AX_CTRL a) = dREMON := by decide
theorem addrDom_axGearCtrl : ∀ a < 8, addrDom (regAddr .AX_GEAR_CTRL a) = dREMON := by decide

section
variable {a : Nat} {s : State} (ha : a < 8) (up : domUp s.dev dREMON = true)
include ha up

theorem exec_axEnable_up (en high : Bool) : exec (.axEnable a en high) s = .next (s.after (axEnable a en high s.dev)) := by
  rw [exec_axEnable, act_after (ok := isAxis a) (decide_eq_true ha), regCommand_up (addrDom_axCtrl a ha) up]

theorem exec_axClearFault_up (high : Bool) : exec (.axClearFault a high) s = .next (s.after (axClearFault a high s.dev)) := by
  rw [exec_axClearFault, act_after (ok := isAxis a) (decide_eq_true ha), regCommand_up (addrDom_axCtrl a ha) up]

theorem exec_gearArm_up : exec (.gearArm a) s = .next (s.after (gearArm a s.dev)) := by
  rw [exec_gearArm, act_after (ok := isAxis a) (decide_eq_true ha), regCommand_up (addrDom_axGearCtrl a ha) up]

theorem exec_gearCancel_up : exec (.gearCancel a) s = .next (s.after (gearCancel a s.dev)) := by
  rw [exec_gearCancel, act_after (ok := isAxis a) (decide_eq_true ha), regCommand_up (addrDom_axGearCtrl a ha) up]

end

section
variable {a : Nat} {d : Dev}

/-! ### AX_ENABLE and AX_CLEAR_FAULT (R335) -/

/-- The bridge of an axis is driven, and the axis is ENABLING. -/
def beginEnabling (a : Nat) (d : Dev) : Dev :=
  sf .AXH_STATUS a AXH_STATUS.DRIVE 1 (sf .AXH_STATUS a AXH_STATUS.FAULT_IN 0
    (setAxState a axENABLING (onAxis a (fun x => { x with held := false }) (sf .AX_CTRL a AX_CTRL.ENABLE 1 d))))

/-- ENABLE of an axis cleared. -/
def clearEnable (a : Nat) (d : Dev) : Dev := sf .AX_CTRL a AX_CTRL.ENABLE 0 d

/-- An axis that moves begins to stop, to be disabled then. -/
def stopToDisable (a : Nat) (d : Dev) : Dev :=
  showAxis a (axStop a 1 (onAxis a (fun x => { x with disable := true, home := x.home.map homeStop }) d))

/-- An axis that a clear of ENABLE disables at once. -/
abbrev DisablesAtOnce (d : Dev) (a : Nat) : Prop :=
  axState d a = axENABLING ∨ axState d a = axHOLDING ∨ axState d a = axSUSPENDED

theorem axEnable_on (high : Bool) : axEnable a true high d =
    if axState d a = axDISABLED && high then beginEnabling a d else d := by
  unfold axEnable
  cases drives : decide (axState d a = axDISABLED) && high with
  | true => simp only [drives]; rfl
  | false => simp only [drives]; rfl

theorem axEnable_on_disabled (disabled : axState d a = axDISABLED) : axEnable a true true d = beginEnabling a d := by
  rw [axEnable_on, if_pos (by simp [disabled])]

theorem axEnable_on_discarded {high : Bool} (bad : high = false ∨ axState d a ≠ axDISABLED) : axEnable a true high d = d := by
  rw [axEnable_on, if_neg (by simpa [or_iff_not_imp_right] using bad)]

theorem axEnable_off (high : Bool) : axEnable a false high d =
    if axState d a = axENABLING || axState d a = axHOLDING || axState d a = axSUSPENDED
      then showAxis a (axGoDisabling a (clearEnable a d))
    else if axMoves (clearEnable a d) a then stopToDisable a (clearEnable a d) else clearEnable a d := rfl

theorem axEnable_off_rests (high : Bool) (rests : DisablesAtOnce d a) :
    axEnable a false high d = showAxis a (axGoDisabling a (clearEnable a d)) := by
  rw [axEnable_off, if_pos (by simpa [or_assoc] using rests)]

section
variable (high : Bool) (other : ¬ DisablesAtOnce d a)
include other

theorem axEnable_off_moves (moves : axMoves (clearEnable a d) a = true) :
    axEnable a false high d = stopToDisable a (clearEnable a d) := by
  rw [axEnable_off, if_neg (by simpa [or_assoc] using other), if_pos moves]

theorem axEnable_off_stays (still : axMoves (clearEnable a d) a = false) : axEnable a false high d = clearEnable a d := by
  rw [axEnable_off, if_neg (by simpa [or_assoc] using other), if_neg (Bool.eq_false_iff.mp still)]

end

/-- An axis in one of the states that move does not disable at once. -/
theorem not_disablesAtOnce_of_moves (moves : axState d a = axMOVING ∨ axState d a = axSTOPPING ∨ axState d a = axHOMING) :
    ¬ DisablesAtOnce d a := by
  unfold axMOVING axSTOPPING axHOMING at moves
  unfold DisablesAtOnce axENABLING axHOLDING axSUSPENDED
  omega

/-- The level of AX_FAULT_N shown. -/
def showFaultPin (a fault : Nat) (d : Dev) : Dev := sf .AXH_STATUS a AXH_STATUS.FAULT_IN fault d

theorem axClearFault_low : axClearFault a false d = showFaultPin a 1 d := rfl

theorem axClearFault_fault (fault : axState (showFaultPin a 0 d) a = axFAULT) : axClearFault a true d =
    setAxState a axDISABLED (sf .AX_STATUS a AX_STATUS.FAULT_CAUSE 0 (showFaultPin a 0 d)) :=
  if_pos (decide_eq_true fault)

theorem axClearFault_other (other : axState (showFaultPin a 0 d) a ≠ axFAULT) : axClearFault a true d = showFaultPin a 0 d :=
  if_neg (by rw [Bool.true_and, decide_eq_true_eq]; exact other)

/-! ### GEAR_ARM (R326) -/

/-- The ratio and the count that the registers of a gear arm. -/
def gearNextN (a : Nat) (d : Dev) : Nat := rf d .AX_GEAR_NEXT a AX_GEAR_NEXT.N
def gearNextD (a : Nat) (d : Dev) : Nat := rf d .AX_GEAR_NEXT a AX_GEAR_NEXT.D
def gearAt (a : Nat) (d : Dev) : Int := rs64 d .AX_GEAR_AT a

/-- GEAR_ARM clears LATE. -/
def clearGearLate (a : Nat) (d : Dev) : Dev := sf .AX_GEAR_STATUS a AX_GEAR_STATUS.LATE 0 d

/-- A gear that is not in engagement, or a ratio out of bounds, sets GEAR_INVALID. -/
def refuseGear (a : Nat) (d : Dev) : Dev := occur (Src.GEAR_INVALID a) a 0 0 d

/-- The armed ratio pends for its count. -/
def pendGear (a n k : Nat) (at_ : Int) (d : Dev) : Dev :=
  sf .AX_GEAR_STATUS a AX_GEAR_STATUS.PENDING 1 (onAxis a (fun y => { y with gearPend := some (n, k, at_) }) d)

/-- A new ratio takes effect at count `c` of the head, from the position that the ratio before it reaches there. -/
def takeGear (a : Nat) (m : Move) (m0 : Int) (pa ga : Int) (n0 k0 n k : Nat) (c : Int) (d : Dev) : Dev :=
  let p := pa + rdiv (65536 * (gearG m (c * 65536 - m0) - ga) * n0) (k0 * (2 * (m.engage : Int) * 2 ^ 32))
  sf .AX_GEAR_STATUS a AX_GEAR_STATUS.PENDING 0 (ws64 .AX_GEAR_APPLIED a c
    (sf .AX_GEAR a AX_GEAR.N n (sf .AX_GEAR a AX_GEAR.D k (onAxis a (fun y => { y with
      gearPend := none, prog := .gear m0 (c * 65536) p (gearG m (c * 65536 - m0)) n k }) d))))

/-- How far the newest edges of an encoder have moved it. -/
def edgeTravel (e : Nat) (d : Dev) : Int :=
  match velocityEdges d.now (spGet [] e d.mot.encEdges), (velocityEdges d.now (spGet [] e d.mot.encEdges)).getLast? with
  | (_, pn) :: _, some (_, po) => pn - po
  | _, _ => 0

theorem edgeTravel_still {e : Nat} (still : velocityEdges d.now (spGet [] e d.mot.encEdges) = []) : edgeTravel e d = 0 := by
  rw [edgeTravel, still]

theorem gearArm_notEngaged (none : (axis d a).prog = .hold ∨ headMove d a = none) : gearArm a d = refuseGear a (clearGearLate a d) := by
  unfold gearArm
  extract_lets +onlyGivenNames n k at_ e
  split
  · next engaged head =>
    obtain holds | noHead := none
    · exact absurd (holds.symm.trans engaged) nofun
    · exact absurd (noHead.symm.trans head) nofun
  · rfl

section
variable {m0 ph pa ga : Int} {n0 k0 : Nat} {m : Move} (gear : (axis d a).prog = .gear m0 ph pa ga n0 k0) (head : headMove d a = some m)
include gear head

/-- GEAR_ARM of a gear in engagement. -/
theorem gearArm_engaged : gearArm a d =
    let e := clearGearLate a d
    let c := rs64 e .ENC_COUNT m.enc
    if !gearOk (gearNextN a d) (gearNextD a d) then refuseGear a e
    else if c = gearAt a d then takeGear a m m0 pa ga n0 k0 (gearNextN a d) (gearNextD a d) c e
    else if (decide (0 < edgeTravel m.enc d) && decide (gearAt a d < c)) || (decide (edgeTravel m.enc d < 0) && decide (c < gearAt a d)) then
      occur (Src.GEAR_LATE a) a 0 0 (sf .AX_GEAR_STATUS a AX_GEAR_STATUS.LATE 1
        (takeGear a m m0 pa ga n0 k0 (gearNextN a d) (gearNextD a d) c e))
    else pendGear a (gearNextN a d) (gearNextD a d) (gearAt a d) e := by
  have gear' : (axis (clearGearLate a d) a).prog = .gear m0 ph pa ga n0 k0 := gear
  have head' : headMove (clearGearLate a d) a = some m := head
  unfold gearArm
  unfold clearGearLate at gear' head'
  simp only [gear', head']
  rfl

theorem gearArm_outOfBounds (bad : gearOk (gearNextN a d) (gearNextD a d) = false) : gearArm a d = refuseGear a (clearGearLate a d) := by
  rw [gearArm_engaged gear head]
  exact if_pos (congrArg (! ·) bad)

section
variable (good : gearOk (gearNextN a d) (gearNextD a d) = true)
include good

theorem gearArm_pends (still : velocityEdges d.now (spGet [] m.enc d.mot.encEdges) = [])
    (away : rs64 (clearGearLate a d) .ENC_COUNT m.enc ≠ gearAt a d) :
    gearArm a d = pendGear a (gearNextN a d) (gearNextD a d) (gearAt a d) (clearGearLate a d) := by
  rw [gearArm_engaged gear head]
  simp only [good, edgeTravel_still still]
  exact if_neg away

theorem gearArm_reached (reached : rs64 (clearGearLate a d) .ENC_COUNT m.enc = gearAt a d) : gearArm a d =
    takeGear a m m0 pa ga n0 k0 (gearNextN a d) (gearNextD a d) (rs64 (clearGearLate a d) .ENC_COUNT m.enc) (clearGearLate a d) := by
  rw [gearArm_engaged gear head]
  simp only [good]
  exact if_pos reached

end
end

/-! ### What befalls an axis (R315, R329, R331, R335, R337) -/

/-- An axis that a fault takes out of its state. -/
abbrev CanFault (d : Dev) (a : Nat) : Prop := axState d a ≠ axDISABLED ∧ axState d a ≠ axFAULT

section
variable (up : domUp d (dDIG (a / 2)) = true)
include up

theorem axOvercurrent_faults (can : CanFault d a) : axOvercurrent a d = axFaultWith a 1 (incSat .AX_OVERCURRENT a d) :=
  if_neg (by simpa [up] using can)

theorem axOvercurrent_stays (other : ¬ CanFault d a) : axOvercurrent a d = d :=
  if_pos (by simpa [up, imp_iff_not_or] using other)

theorem axBridgeFault_faults (can : CanFault (showFaultPin a 1 d) a) : axBridgeFault a d = axFaultWith a 2 (showFaultPin a 1 d) :=
  (if_neg (by simp [up])).trans (if_neg (by simpa [showFaultPin] using can))

theorem axBridgeFault_shows (other : ¬ CanFault (showFaultPin a 1 d) a) : axBridgeFault a d = showFaultPin a 1 d :=
  (if_neg (by simp [up])).trans (if_pos (by simpa [showFaultPin, imp_iff_not_or] using other))

theorem limitSample_up (n p : Bool) : limitSample a n p d = showAxis a (limOne a false p (limOne a true n d)) := if_neg (by simp [up])

end

/-- The position of an axis at a step update: on the line between two set-points. -/
def nextPosition (x : Axis) : Int := if 250 ≤ x.upd then x.next.p else fdiv (x.cur.p * 250 + (x.next.p - x.cur.p) * x.upd) 250

/-- A step update moves the position of an axis. -/
def stepPosition (a : Nat) (p : Int) (d : Dev) : Dev := onAxis a (fun x => { x with pos := p, upd := min 250 (x.upd + 1) }) d

/-- The steps of a head that is the track's source are counted. -/
def countSteps (a : Nat) (m0 m1 : Int) (d : Dev) : Dev :=
  if d.esc.srcKind = 1 && d.esc.srcNum = a && islandUp d then Nat.repeat (sourceCount (decide (m0 < m1))) (m1 - m0).natAbs d else d

/-- The microstep level is switched where its target differs and the point of the switch is passed. -/
def switchLevel (a : Nat) (v m0 m1 : Int) (d : Dev) : Dev :=
  if targetLevel d a v ≠ rf d .AX_STATUS a AX_STATUS.LEVEL &&
      switchPassed (max (targetLevel d a v) (rf d .AX_STATUS a AX_STATUS.LEVEL)) m0 m1 then
    sf .AX_STATUS a AX_STATUS.LEVEL (targetLevel d a v) d
  else d

/-- The electrical angle of an axis shown. -/
def showAngle (a : Nat) (m1 : Int) (d : Dev) : Dev :=
  sf .AXH_ANGLE a AXH_ANGLE.THETA (angleAt (rf d .AX_STATUS a AX_STATUS.LEVEL) m1) d

/-- A step update of axis `a` from position `m0` to `m1`, in microsteps. -/
def takeSteps (a : Nat) (v p m0 m1 : Int) (d : Dev) : Dev :=
  let e := showAngle a m1 (switchLevel a v m0 m1 (countSteps a m0 m1 (stepPosition a p d)))
  showAxis a (if m0 / 256 ≠ m1 / 256 then fullStep a e else e)

theorem stepUpdate_up (up : domUp d (dDIG (a / 2)) = true) : stepUpdate a d =
    takeSteps a (axis d a).cur.v (nextPosition (axis d a)) (ust (axis d a).pos) (ust (nextPosition (axis d a))) d :=
  if_neg (by simp [up])

section
variable (down : domUp d (dDIG (a / 2)) = false)
include down

theorem axOvercurrent_down : axOvercurrent a d = d := if_pos (by simp [down])
theorem axBridgeFault_down : axBridgeFault a d = d := if_pos (by simp [down])
theorem limitSample_down (n p : Bool) : limitSample a n p d = d := if_pos (by simp [down])
theorem stepUpdate_down : stepUpdate a d = d := if_pos (by simp [down])

end

theorem axBrakeDelay_enabling (up : domUp d dREMON = true) (enabling : axState d a = axENABLING) :
    axBrakeDelay a d = sf .AXH_STATUS a AXH_STATUS.BRAKE 1 (setAxState a axHOLDING d) :=
  (if_neg (by simp [up])).trans (if_pos enabling)

theorem axBrakeDelay_disabling (up : domUp d dREMON = true) (disabling : axState d a = axDISABLING) :
    axBrakeDelay a d = sf .AXH_STATUS a AXH_STATUS.DRIVE 0 (setAxState a axDISABLED d) := by
  have other : axState d a ≠ axENABLING := by rw [disabling]; decide
  exact (if_neg (by simp [up])).trans ((if_neg other).trans (if_pos disabling))

theorem axBrakeDelay_stays (idle : domUp d dREMON = false ∨ (axState d a ≠ axENABLING ∧ axState d a ≠ axDISABLING)) :
    axBrakeDelay a d = d := by
  unfold axBrakeDelay
  obtain down | ⟨enabling, disabling⟩ := idle
  · rw [if_pos (by simp [down])]
  · rw [if_neg enabling, if_neg disabling, ite_self]

theorem axHoldDelay_holds (holds : axState d a = axHOLDING) (still : (axis d a).comp.v = 0) :
    axHoldDelay a d = onAxis a (fun x => { x with held := true }) d := if_pos (by simp [holds, still])

theorem axHoldDelay_stays (other : axState d a ≠ axHOLDING ∨ (axis d a).comp.v ≠ 0) : axHoldDelay a d = d :=
  if_neg (by simpa [imp_iff_not_or] using other)

end

end Sys2Proof.Machine

/-!
PROOFS. The statements of 11_motion.md.
-/
namespace Sys2Proof.Motion
open Sys2Proof.Machine

/-- Settles O27: a MOVE by what its axis and its table allow, the queue of its axis by whether the move is to be blended. -/
theorem moves : Obligations.Moves := by
  unfold Obligations.Moves
  refine ⟨fun s q tag c h => ?_, fun a m d => ⟨fun plain => ?_, fun blends first => ?_⟩⟩
  · intro d p a kind queued table bound up
    simp only [bound, exec_move, act_awaits_up h up]
    refine ⟨fun rests => ?_, fun takes => ⟨fun gear full => ?_, fun gear room => ?_, fun along none => ?_,
      fun b along named => ⟨fun full => ?_, fun room beyond => ?_, fun room within long => ?_, fun room within fits => ?_⟩⟩⟩
    · rw [axMove_refused (c := c.begun) (axRefuses_iff.mpr rests)]; rfl
    · rw [axMove_gear_full (c := c.begun) takes gear full]; rfl
    · rw [axMove_gear_joins (c := c.begun) takes gear room]; rfl
    · rw [axMove_noTable (c := c.begun) takes along none]; rfl
    · rw [axMove_table_full (c := c.begun) takes along named full]; rfl
    · rw [axMove_table_over (c := c.begun) takes along named room beyond]; rfl
    · rw [axMove_table_blend (c := c.begun) takes along named room within long]; rfl
    · rw [axMove_table_joins (c := c.begun) takes along named room within fits]; rfl
  · rw [enqueue_plain plain]; rfl
  · rw [enqueue_first blends first]; rfl

/-- Settles O28: each command by the state of its axis; HOME by its method, STOP by what the axis still computes, RESUME by whether the
axis was paced. -/
theorem homeStopResume : Obligations.HomeStopResume := by
  unfold Obligations.HomeStopResume
  intro s q tag c d a m up
  refine ⟨fun h => ?_, fun h => ?_, fun h => ?_⟩
  · simp only [exec_home, act_awaits_up h up]
    refine ⟨fun other => ?_, fun holds => ⟨fun stall slow => ?_, fun position => ?_, fun search fast => ?_⟩⟩
    · rw [axHome_refused (c := c.begun) other]; rfl
    · rw [axHome_tooSlow (c := c.begun) holds ⟨stall, slow⟩]; rfl
    · rw [axHome_position (c := c.begun) holds position]; rfl
    · rw [axHome_search (c := c.begun) holds search fun ⟨stall, slow⟩ => Nat.not_lt.mpr (fast stall) slow]; rfl
  · simp only [exec_stop, act_awaits_up h up]
    refine ⟨fun rests keeps => ?_, fun rests flush => ?_, fun moves runs => ?_, fun moves holds => ?_⟩
    · rw [axStopCmd_rests_keeps (c := c.begun) rests keeps]; rfl
    · rw [axStopCmd_rests_flushes (c := c.begun) rests flush]; rfl
    · rw [axStopCmd_ramps (c := c.begun) moves runs]; rfl
    · rw [axStopCmd_holds (c := c.begun) moves holds]; rfl
  · simp only [exec_resume, act_awaits_up h up]
    refine ⟨fun bad => ?_, fun suspended may => ?_⟩
    · rw [axResume_refused (c := c.begun) bad]; rfl
    · have good : ¬ ResumeRefused c.begun d := by
        rintro (other | ⟨noRef, unasked⟩)
        · exact other suspended
        · exact may.elim (· noRef) (Bool.eq_false_iff.mp unasked)
      refine ⟨fun noPace => ?_, fun p paced => ?_⟩
      · rw [axResume_goesOn good noPace]; rfl
      · rw [axResume_goesBack good paced]; rfl

/-- Settles O36: ENABLE by the state of the axis and AX_FAULT_N, a clear of a fault by whether there is one, a gear by whether it is in
engagement and where its head stands. -/
theorem axisControl : Obligations.AxisControl := by
  unfold Obligations.AxisControl
  intro s a ha up st off
  simp only [exec_axEnable_up ha up, exec_axClearFault_up ha up, exec_gearArm_up ha up, exec_gearCancel_up ha up]
  refine ⟨fun disabled => ?_, ?_, fun enabled => ?_, fun high => ⟨fun rests => ?_, fun moving moves => ?_,
    fun enabling holding suspended still => ?_⟩, ⟨fun fault => ?_, fun other => ?_⟩, ?_, ⟨trivial, fun none => ?_,
    fun m0 ph pa ga n0 k0 m gear head => ⟨fun bad => ?_, fun good still away => ?_, fun good reached => ?_⟩⟩, rfl⟩
  · rw [axEnable_on_disabled disabled]; rfl
  · rw [axEnable_on_discarded (.inl rfl)]
  · rw [axEnable_on_discarded (.inr enabled)]
  · rw [axEnable_off_rests high rests]; rfl
  · rw [axEnable_off_moves high (not_disablesAtOnce_of_moves moving) moves]; rfl
  · rw [axEnable_off_stays high (fun rests => rests.elim enabling (·.elim holding suspended)) still]; rfl
  · rw [axClearFault_fault fault]; rfl
  · rw [axClearFault_other other]; rfl
  · rw [axClearFault_low]; rfl
  · rw [gearArm_notEngaged none]; rfl
  · rw [gearArm_outOfBounds gear head bad]; rfl
  · rw [gearArm_pends gear head good still away]; rfl
  · rw [gearArm_reached gear head good reached]; rfl

/-- Settles O55: each event by whether its domain runs and by the state of its axis. -/
theorem axisEvents : Obligations.AxisEvents := by
  unfold Obligations.AxisEvents
  intro s a ha
  have here : isAxis a = true := decide_eq_true ha
  simp only [exec_servoTick, act_after rfl, exec_axOvercurrent, exec_axBridgeFault, exec_limitSample, exec_stepUpdate, exec_axBrakeDelay,
    exec_axHoldDelay, act_after here]
  refine ⟨rfl, fun up => ⟨fun disabled fault => ?_, fun other => ?_, ⟨fun disabled fault => ?_, fun other => ?_⟩, fun n p => ?_, ?_⟩,
    fun down n p => ?_, fun up enabling => ?_, fun up disabling => ?_, fun idle => ?_, fun holds still => ?_, fun other => ?_⟩
  · rw [axOvercurrent_faults up ⟨disabled, fault⟩]
  · rw [axOvercurrent_stays up fun can => other.elim can.1 can.2]
  · rw [axBridgeFault_faults up ⟨disabled, fault⟩]; rfl
  · rw [axBridgeFault_shows up fun can => other.elim can.1 can.2]; rfl
  · rw [limitSample_up up]
  · rw [stepUpdate_up up]; rfl
  · simp only [List.forall_mem_cons, List.not_mem_nil, false_imp_iff, implies_true, and_true]
    rw [exec_axOvercurrent, exec_axBridgeFault, exec_limitSample, exec_stepUpdate]
    simp only [act_after here]
    rw [axOvercurrent_down down, axBridgeFault_down down, limitSample_down down, stepUpdate_down down]
    exact ⟨rfl, rfl, rfl, rfl⟩
  · rw [axBrakeDelay_enabling up enabling]
  · rw [axBrakeDelay_disabling up disabling]
  · rw [axBrakeDelay_stays idle]
  · rw [axHoldDelay_holds holds still]
  · rw [axHoldDelay_stays other]

end Sys2Proof.Motion

/-!
PROOFS. The commands of the auxiliary front end, its control registers and the events of its chains, by the guards of each (R348, R351, R355
to R360).
-/
namespace Sys2Proof.Machine

section
variable {c : Cmd} {d : Dev}

/-! ### AUX_CONFIG (R355) -/

/-- The records of an AUX_CONFIG, numbered. -/
def auxRecords (c : Cmd) : List (Nat × Bytes) :=
  (List.range (c.block.length / 32)).map (fun k => (k, (c.block.drop (32 * k)).take 32))

/-- The configuration that the records of an AUX_CONFIG give. -/
def auxNew (c : Cmd) (d : Dev) : Dev := (auxRecords c).foldl (fun d x => auxApply x.2 d) d

/-- The first record with a reserved field. -/
def reservedRecord (c : Cmd) : Option (Nat × Bytes) := (auxRecords c).find? (fun x => (auxRecField x.2).isSome)

/-- The first record of a die whose analogue domain is down. -/
def stoppedRecord (c : Cmd) (d : Dev) : Option (Nat × Bytes) := (auxRecords c).find? (fun x => !domUp d (dANA (auxRecDie x.2)))

/-- The first record that does not hold in the new configuration, or names what another record names. -/
def misfitRecord (c : Cmd) (d : Dev) : Option (Nat × Bytes) :=
  (auxRecords c).find? (fun x => !auxRecOk (auxNew c d) x.2 || (auxRecords c).any (fun y => y.1 != x.1 && leAt y.2 0 2 == leAt x.2 0 2))

/-- The new configuration in force, with what changes by it at inputs, their owners and the chains of running dies. -/
def auxInForce (c : Cmd) (d : Dev) : Dev :=
  (List.range 4).foldl (fun e k => if domUp d (dANA (k / 2)) then auxChanged d k e else e)
    (showOwners ((List.range 32).foldl (fun e i => inputChanged d i e) (auxNew c d)))

theorem auxConfig_reserved {x : Nat × Bytes} (reserved : reservedRecord c = some x) :
    auxConfig c d = complete c stPARAM (min 255 (0x40 + (32 * x.1 + (auxRecField x.2).getD 0))) [] d := by
  unfold reservedRecord auxRecords at reserved
  simp only [auxConfig, reserved]

section
variable (sound : reservedRecord c = none)
include sound

theorem auxConfig_stopped {x : Nat × Bytes} (stopped : stoppedRecord c d = some x) :
    auxConfig c d = complete c stSTATE (dANA (auxRecDie x.2)) [] d := by
  unfold reservedRecord auxRecords at sound
  unfold stoppedRecord auxRecords at stopped
  simp only [auxConfig, sound, stopped]

section
variable (runs : stoppedRecord c d = none)
include runs

theorem auxConfig_misfit {x : Nat × Bytes} (misfit : misfitRecord c d = some x) :
    auxConfig c d = complete c stPARAM (min 255 (0x40 + 32 * x.1)) [] d := by
  unfold reservedRecord auxRecords at sound
  unfold stoppedRecord auxRecords at runs
  unfold misfitRecord auxNew auxRecords at misfit
  simp only [auxConfig, sound, runs, misfit]

theorem auxConfig_applies (fits : misfitRecord c d = none) : auxConfig c d = completeOk c [] (auxInForce c d) := by
  unfold reservedRecord auxRecords at sound
  unfold stoppedRecord auxRecords at runs
  unfold misfitRecord auxNew auxRecords at fits
  simp only [auxConfig, sound, runs, fits]
  rfl

end
end

/-! ### AUX_CONVERT (R358) -/

/-- The inputs that an AUX_CONVERT names. -/
def namedInputs (c : Cmd) : List Nat := bitsOf (leAt c.entry 8 4) 32

/-- An input that cannot be converted: its die is down, or it is not enabled. -/
def cannotConvert (d : Dev) (i : Nat) : Bool := !domUp d (dANA (i / 16)) || !iEnable (inRec d i)

theorem auxConvert_refused {i : Nat} (refused : (namedInputs c).find? (cannotConvert d) = some i) :
    auxConvert c d = complete c stSTATE (dANA (i / 16)) [] d := by
  unfold namedInputs cannotConvert at refused
  simp only [auxConvert, refused]

theorem auxConvert_starts (may : ∀ i ∈ namedInputs c, domUp d (dANA (i / 16)) = true ∧ iEnable (inRec d i) = true) :
    auxConvert c d = kickChains (updCmd { c with data := [0] } d) := by
  have none : (namedInputs c).find? (cannotConvert d) = none := List.find?_eq_none.mpr fun i named => by
    obtain ⟨up, enabled⟩ := may i named
    simp [cannotConvert, up, enabled]
  unfold namedInputs cannotConvert at none
  simp only [auxConvert, none]

/-! ### RATIO_SET (R359) -/

/-- The output that a RATIO_SET names. -/
def ratioOutput (c : Cmd) : Nat := leAt c.entry 8 1 % 8

/-- The flags that a RATIO_SET gives its output. -/
def ratioFlags (c : Cmd) : Nat := leAt c.entry 11 1 % 8

/-- The registers of an output as a RATIO_SET writes them, its fault cleared. -/
def writeRatio (c : Cmd) (d : Dev) : Dev :=
  let o := ratioOutput c
  let d1 := sf .AUX_RATIO_CFG o AUX_RATIO_CFG.FLAGS (ratioFlags c) (sf .AUX_RATIO_CFG o AUX_RATIO_CFG.NUM (leAt c.entry 10 1)
    (sf .AUX_RATIO_CFG o AUX_RATIO_CFG.KIND (leAt c.entry 9 1) d))
  let d2 := wn .AUX_RATIO_TIMEOUT o (leAt c.entry 24 4) (wn .AUX_RATIO_OFFSET o (leAt c.entry 16 4)
    (wn .AUX_RATIO_SCALE o (leAt c.entry 12 4) d1))
  sf .AUX_RATIO_STATE o AUX_RATIO_STATE.FAULT 0 (sf .AUX_RATIO_STATE o AUX_RATIO_STATE.CLAMPED
    (if ratioFlags c % 2 = 0 then 1 else 0) (wn .AUX_RATIO_FAULT o (leAt c.entry 20 2) d2))

/-- An output of a constant drives it at once. -/
def driveConstant (c : Cmd) (d : Dev) : Dev :=
  if leAt c.entry 9 1 = 0 then sf .AUX_RATIO_STATE (ratioOutput c) AUX_RATIO_STATE.CODE (ratioCode d (ratioOutput c) 0) d else d

theorem ratioSet_up (up : domUp d (dANA (ratioOutput c / 4)) = true) :
    ratioSet c d = completeOk c [] (driveConstant c (writeRatio c d)) := by
  have clamped : b2n (ratioFlags c % 2 == 0) = if ratioFlags c % 2 = 0 then 1 else 0 := if_congr beq_iff_eq rfl rfl
  rw [writeRatio, ← clamped]
  exact if_neg (by rw [Bool.not_eq_true', Bool.not_eq_false]; exact up)

theorem ratioSet_down (down : domUp d (dANA (ratioOutput c / 4)) = false) :
    ratioSet c d = complete c stSTATE (dANA (ratioOutput c / 4)) [] d := if_pos (congrArg (! ·) down)

end

/-! ### AUX_FORCE and AUX_URGENT (R351, R357) -/

theorem addrDom_auxChainCtrl : ∀ c < 4, addrDom (regAddr .AUX_CHAIN_CTRL c) = dANA (c / 2) := by decide
theorem addrDom_auxUrgent : ∀ c < 4, addrDom (regAddr .AUX_URGENT c) = dANA (c / 2) := by decide

section
variable {s : State} {d : Dev} {c : Nat}

section
variable (hc : c < 4)
include hc

section
variable (up : domUp s.dev (dANA (c / 2)) = true)
include up

theorem exec_auxForce_up : exec (.auxForce c) s = .next (s.after (auxForce c s.dev)) := by
  rw [exec_auxForce, act_after (ok := isChain c) (decide_eq_true hc), regCommand_up (addrDom_auxChainCtrl c hc) up]

theorem exec_auxUrgent_up {i q : Nat} (hi : i < 32) (hq : q < 16) (push : Bool) :
    exec (.auxUrgent c i q push) s = .next (s.after (auxUrgent c i q push s.dev)) := by
  rw [exec_auxUrgent, act_after (by simp [isChain, isQueue, hc, hi, hq]), regCommand_up (addrDom_auxUrgent c hc) up]

end

theorem exec_auxSettleDone_chain : exec (.auxSettleDone c) s = .next (s.after (auxSettleDone c s.dev)) := by
  rw [exec_auxSettleDone, act_after (ok := isChain c) (decide_eq_true hc)]

theorem exec_auxCode_chain (raw : Int) (ovf : Bool) : exec (.auxCode c raw ovf) s = .next (s.after (auxCode c raw ovf s.dev)) := by
  rw [exec_auxCode, act_after (ok := isChain c) (decide_eq_true hc)]

theorem exec_auxConvPin_chain (v : Bool) : exec (.auxConvPin c v) s = .next (s.after (auxConvPin c v s.dev)) := by
  rw [exec_auxConvPin, act_after (ok := isChain c) (decide_eq_true hc)]

end

theorem auxForce_early (early : cvState d c < 2) : auxForce c d = d := if_pos (by simp [early])

/-- The forced result of a RUNNING conversion of a two-wire input: that of its last code, and whether it is out of bounds. -/
def forcedValue (c : Nat) (d : Dev) : Int × Bool :=
  formValue (inRec d (cvInput d c)) (atGain (chain d c).mainGain (chain d c).main) (useFresh (useFresh d)).fresh

/-- The tags of that result. -/
def forcedTags (c : Nat) (d : Dev) : Nat :=
  b2n (iBurnout (inRec d (cvInput d c)) && decide (0x7FF000 ≤ (chain d c).main)) + 4 * b2n (bitOf d.aux.stepped (cvInput d c)) +
    8 * b2n (rawFull (chain d c).main || (chain d c).mainOver) + 16 * b2n (forcedValue c d).2 + 32

theorem auxForce_running (up : domUp d (dANA (c / 2)) = true) (runs : cvState d c = 3) (main : cvLeadPhase d c = false)
    (twoWire : iWire (inRec d (cvInput d c)) = false) :
    auxForce c d = deliverAux (cvInput d c) (forcedValue c d).1 (forcedTags c d) (chain d c).mainGain (chain d c).at_
      (takeStep (cvInput d c) (useFresh (useFresh (useFresh d)))) := by
  simp only [auxForce, up, runs, main, twoWire]
  rfl

/-! An urgent conversion takes a chain that is idle, or that a start of the same cycle took (log entry 119). -/

/-- The start of this cycle that a chain follows. -/
abbrev MetByStart (c : Nat) (d : Dev) : Prop := (chain d c).job = 1 ∧ (chain d c).begunAt = d.now + 1

/-- What drops an urgent conversion: a busy chain, one that has delivered in this cycle, an input not its own or not enabled. -/
abbrev UrgentDropped (c i : Nat) (d : Dev) : Prop :=
  ((chain d c).job ≠ 0 ∧ ¬ MetByStart c d) ∨ (chain d c).endAt = d.now + 1 ∨ i / 8 ≠ c ∨ iEnable (inRec d i) = false

/-- The urgent visit of an input, its result to a queue. -/
def visitUrgent (c i q : Nat) (push : Bool) (d : Dev) : Dev := startVisit c i 2 (onChain c (fun x => { x with queue := q, push := push }) d)

section
variable (up : domUp d (dANA (c / 2)) = true) {i : Nat} (q : Nat) (push : Bool)
include up

theorem auxUrgent_drops (drops : UrgentDropped c i d) :
    auxUrgent c i q push d = occur (Src.AUX_URGENT_DROP c) c 0 0 (incSat .AUX_URGENT_DROP c d) :=
  (if_neg (by simp [up])).trans (if_pos (by simpa [UrgentDropped, or_assoc, imp_iff_not_or] using drops))

theorem auxUrgent_visits (takes : ¬ UrgentDropped c i d) : auxUrgent c i q push d =
    visitUrgent c i q push (if (chain d c).job == 1 && (chain d c).begunAt == d.now + 1
      then cvSet c AUX_CHAIN_STATUS.PENDING 1 (chainIdle c d) else d) :=
  (if_neg (by simp [up])).trans (if_neg (by simpa [UrgentDropped, or_assoc] using takes))

theorem auxUrgent_idle (takes : ¬ UrgentDropped c i d) (idle : (chain d c).job = 0) :
    auxUrgent c i q push d = visitUrgent c i q push d := by
  rw [auxUrgent_visits up q push takes, if_neg (by simp [idle])]

theorem auxUrgent_met (takes : ¬ UrgentDropped c i d) (met : MetByStart c d) :
    auxUrgent c i q push d = visitUrgent c i q push (cvSet c AUX_CHAIN_STATUS.PENDING 1 (chainIdle c d)) := by
  rw [auxUrgent_visits up q push takes, if_pos (by simpa using met)]

end

/-! ### A conversion (R348) -/

theorem auxSettleDone_runs (up : domUp d (dANA (c / 2)) = true) (settles : cvState d c = 1) : auxSettleDone c d = setCvState c 2 d :=
  if_pos (by simp [up, settles])

theorem auxSettleDone_stays (other : cvState d c ≠ 1) : auxSettleDone c d = d := if_neg (by simp [other])

theorem auxCode_early (early : cvState d c < 2) (raw : Int) (ovf : Bool) : auxCode c raw ovf d = d := if_pos (by simp [early])

/-- A code of the lead phase, kept. -/
def keepLead (c : Nat) (raw : Int) (ovf : Bool) (d : Dev) : Dev :=
  onChain c (fun x => { x with mainOver := x.mainOver || ovf }) (wn .AUX_LEAD (cvInput d c) (ux 24 raw) d)

/-- The lead measurement of an input is as old as its configuration lets it be. -/
def renewLead (i : Nat) (n : Int) (d : Dev) : Dev :=
  aux (fun a => { a with leadN := mset i (n + 2147483648).toNat a.leadN, lead := mset i (iLeadEvery (inRec d i) - 1) a.lead }) d

/-- A main code, kept with its gain and instant. -/
def keepMain (c : Nat) (raw : Int) (ovf : Bool) (d : Dev) : Dev :=
  onChain c (fun y => { y with main := raw, mainGain := (chain d c).gain, mainOver := ovf, at_ := samplingInstant d c })
    (wn .AUX_RAW (cvInput d c) (ux 24 raw) d)

/-- A lead phase follows the main one: the leads of an input are due. -/
def leadDue (i : Nat) (d : Dev) : Bool := iWire (inRec d i) && mget d.aux.lead i == 0

/-- The visit of an input ends with its main code; its leads are due one visit earlier. -/
def endMain (c i : Nat) (d : Dev) : Dev := endVisit c (aux (fun a => { a with lead := mset i (mget a.lead i - 1) a.lead }) d)

section
variable (up : domUp d (dANA (c / 2)) = true) (filters : 2 ≤ cvState d c) (raw : Int) (ovf : Bool)
include up filters

theorem auxCode_lead (lead : cvLeadPhase d c = true) : auxCode c raw ovf d =
    endVisit c (renewLead (cvInput d c) (atGain (chain d c).gain (rawOk raw)) (keepLead c (rawOk raw) (ovf || rawFull (rawOk raw)) d)) :=
  (if_neg (by simpa [up, Nat.lt_iff_add_one_le] using filters)).trans (if_pos lead)

theorem auxCode_main (main : cvLeadPhase d c = false) : auxCode c raw ovf d =
    let i := cvInput d c
    let kept := keepMain c (rawOk raw) (ovf || rawFull (rawOk raw)) d
    let e := autorange c i (rawOk raw) (ovf || rawFull (rawOk raw)) kept
    if leadDue i kept then setCvState c 1 (cvSet c AUX_CHAIN_STATUS.PHASE 1 e) else endMain c i e :=
  (if_neg (by simpa [up, Nat.lt_iff_add_one_le] using filters)).trans (if_neg (Bool.eq_false_iff.mp main))

end

/-! ### AUX_CONV and ratiometric outputs (R356, R360) -/

/-- The level of AUX_CONV of a chain, kept. -/
def keepConvPin (c : Nat) (v : Bool) (d : Dev) : Dev := onChain c (fun x => { x with pin := v }) d

theorem auxConvPin_same {v : Bool} (same : (chain d c).pin = v) : auxConvPin c v d = d := if_pos (by simp [same])

section
variable (up : domUp d (dANA (c / 2)) = true) {v : Bool} (new : (chain d c).pin ≠ v)
include up new

theorem auxConvPin_new : auxConvPin c v d =
    if cvStartBit (keepConvPin c v d) c 0 && (cvStartBit (keepConvPin c v d) c 1 != v) then auxStart c (keepConvPin c v d)
    else keepConvPin c v d := if_neg (by simp [up, new])

theorem auxConvPin_starts (on : cvStartBit (keepConvPin c v d) c 0 = true) (edge : cvStartBit (keepConvPin c v d) c 1 ≠ v) :
    auxConvPin c v d = auxStart c (keepConvPin c v d) := by
  rw [auxConvPin_new up new, if_pos (by simp [on, edge])]

theorem auxConvPin_keeps (rests : cvStartBit (keepConvPin c v d) c 0 = false ∨ cvStartBit (keepConvPin c v d) c 1 = v) :
    auxConvPin c v d = keepConvPin c v d := by
  rw [auxConvPin_new up new, if_neg (by simpa [imp_iff_not_or] using rests)]

end

section
variable {o : Nat}

theorem ratioTimeout_faults (up : domUp d (dANA (o / 4)) = true) (timed : ratioFlag d o 0 = true) (late : ratioFlag d o 1 = true) :
    ratioTimeout o d = ratioFault o d := if_pos (by simp [up, timed, late])

theorem ratioTimeout_stays (other : ratioFlag d o 0 = false ∨ ratioFlag d o 1 = false) : ratioTimeout o d = d :=
  if_neg (by simpa [and_assoc, imp_iff_not_or] using .inr other)

end
end

end Sys2Proof.Machine

/-!
PROOFS. The statements of 12_aux_front_end.md.
-/
namespace Sys2Proof.AuxFrontEnd
open Sys2Proof.Machine

/-- Settles O29: AUX_CONFIG by the first record that fails a check, AUX_CONVERT by whether every input it names converts, RATIO_SET by
whether its output's analogue domain runs. -/
theorem auxCommands : Obligations.AuxCommands := by
  unfold Obligations.AuxCommands
  intro s q tag c d recs new twice o kind flags
  refine ⟨fun h => ?_, fun h => ?_, fun h => ?_⟩
  · simp only [exec_auxConfig, act_awaits s q tag _ c h]
    refine ⟨fun x reserved => ?_, fun sound => ⟨fun x stopped => ?_, fun runs => ⟨fun x misfit => ?_, fun fits => ?_⟩⟩⟩
    · rw [auxConfig_reserved (c := c.begun) reserved]; rfl
    · rw [auxConfig_stopped (c := c.begun) sound stopped]; rfl
    · rw [auxConfig_misfit (c := c.begun) sound runs misfit]; rfl
    · rw [auxConfig_applies (c := c.begun) sound runs fits]; rfl
  · simp only [exec_auxConvert, act_awaits s q tag _ c h]
    refine ⟨fun may => ?_, fun i refused => ?_⟩
    · rw [auxConvert_starts (c := c.begun) may]; rfl
    · rw [auxConvert_refused (c := c.begun) refused]; rfl
  · simp only [exec_ratioSet, act_awaits s q tag _ c h]
    refine ⟨fun up => ?_, fun down => ?_⟩
    · rw [ratioSet_up (c := c.begun) up]; rfl
    · rw [ratioSet_down (c := c.begun) down]; rfl

/-- Settles O37: a forced and an urgent conversion by the state of their chain, each event by the phase of the conversion. -/
theorem auxInputs : Obligations.AuxInputs := by
  unfold Obligations.AuxInputs
  refine ⟨fun s c hc up => ⟨⟨?_, fun early => ?_, fun runs main twoWire => ?_⟩, fun i q push hi hq => ?_⟩, fun s c hc up => ?_⟩
  · rw [exec_auxForce_up hc up]
  · rw [auxForce_early early]
  · rw [auxForce_running up runs main twoWire]; rfl
  · rw [exec_auxUrgent_up hc up hi hq]
    refine ⟨fun own enabled idle open_ => ?_, fun drops => ?_, fun own enabled job begun open_ => ?_⟩
    · rw [auxUrgent_idle up q push (by simp [UrgentDropped, own, enabled, idle, open_]) idle]; rfl
    · rw [auxUrgent_drops up q push (by tauto)]
    · rw [auxUrgent_met up q push (by simp [UrgentDropped, own, enabled, job, begun, open_]) ⟨job, begun⟩]; rfl
  · simp only [exec_auxSettleDone_chain hc, exec_auxCode_chain hc, exec_auxConvPin_chain hc]
    refine ⟨fun settles => ?_, fun other => ?_, fun early r ovf => ?_,
      fun filters r ovf => ⟨fun lead => ?_, fun main => ⟨fun due => ?_, fun notDue => ?_⟩⟩,
      fun v => ⟨fun same => ?_, fun new on edge => ?_, fun new rests => ?_⟩, fun o die => ?_⟩
    · rw [auxSettleDone_runs up settles]
    · rw [auxSettleDone_stays other]
    · rw [auxCode_early early]
    · rw [auxCode_lead up filters r ovf lead]; rfl
    · rw [auxCode_main up filters r ovf main]
      exact congrArg (fun d => Host.Outcome.next (s.after d)) (if_pos due)
    · rw [auxCode_main up filters r ovf main]
      exact congrArg (fun d => Host.Outcome.next (s.after d)) (if_neg (Bool.eq_false_iff.mp notDue))
    · rw [auxConvPin_same same]
    · rw [auxConvPin_starts up new on edge]; rfl
    · rw [auxConvPin_keeps up new rests]; rfl
    · rw [exec_ratioTimeout, act_after (decide_eq_true (show o < 8 by omega))]
      refine ⟨fun timed late => ?_, fun other => ?_⟩
      · rw [ratioTimeout_faults (die ▸ up) timed late]
      · rw [ratioTimeout_stays other]

end Sys2Proof.AuxFrontEnd

/-!
PROOFS. The course of a reset, of a release and of a start, by the guards of each step (R370, R375, R379 to R381, R396, R398), and what
outputs drive while their domain does not run (R387).
-/
namespace Sys2Proof.Machine

section
variable {f : Fuses} {d : Dev}

/-! ### Isolation (R370, R375) -/

/-- Domains that were not idle in time, each counted and reported. -/
def countIsolated (q : List Nat) (d : Dev) : Dev :=
  q.foldl (fun d (n : Nat) => occur Src.BLOCK_ISOLATED n 0 0 (incSat .RST_ISOLATIONS 0 d)) d

/-- A source is asserted no more. -/
def endSource (k : Nat) (d : Dev) : Dev :=
  rst (fun r => { r with
    now_ := r.now_.filter (fun a => a.src ≠ k)
    later := r.later.map (fun a => if a.src = k then { a with gone := true } else a) }) d

theorem domainIdle_isolates {n : Nat} (quiet : bitOf d.rst.quiet n = true) :
    domainIdle f n d = endPulses f (isolate (domMask [n]) d) := if_pos quiet

theorem domainIdle_stays {n : Nat} (other : bitOf d.rst.quiet n = false) : domainIdle f n d = d := if_neg (Bool.eq_false_iff.mp other)

theorem idleTimeout_isolates (asked : bitsOf d.rst.quiet 24 ≠ []) : idleTimeout f d =
    endPulses f (countIsolated (bitsOf d.rst.quiet 24) (isolate (domMask (bitsOf d.rst.quiet 24)) d)) :=
  if_neg (by simpa using asked)

theorem idleTimeout_stays (none : bitsOf d.rst.quiet 24 = []) : idleTimeout f d = d := if_pos (by simp [none])

theorem resetDeassert_ends {k : Nat} (lasts : srcPulse k = false) : resetDeassert f k d = tryRelease f (endSource k d) :=
  if_neg (Bool.eq_false_iff.mp lasts)

theorem resetDeassert_pulse {k : Nat} (pulse : srcPulse k = true) : resetDeassert f k d = d := if_pos pulse

/-! ### The Winder's step (R379, R380) -/

/-- No domain may be released: none is left, or the next one waits. -/
abbrev WinderWaits (d : Dev) : Prop := ∀ m, d.rst.left.head? = some m → mayRelease d m = false

/-- The domains left to release. -/
def leaveDomains (t : List Nat) (d : Dev) : Dev := rst (fun r => { r with left := t }) d

/-- A processor whose firmware copy is bad, while FRANK runs. -/
def badCopy (n : Nat) (d : Dev) : Bool := loadsFw n && !bitOf d.rst.doms dFRANK && !fwGood d

/-- A domain is powered and released, and shown with its step. -/
def releaseDomain (n rate width : Nat) (e : Dev) : Dev :=
  domRelease n rate width (wn .RST_DOMAIN_RESET 0 (putBit (rn e .RST_DOMAIN_RESET 0) n false)
    (wn .RST_DOMAIN_POWER 0 (putBit (rn e .RST_DOMAIN_POWER 0) n true) (sf .RST_STATUS 0 RST_STATUS.STEP (stepOf n) e)))

/-- What the Winder does with the next domain. -/
def releaseNext (f : Fuses) (rate width : Nat) (d : Dev) : Dev :=
  match d.rst.left with
  | [] => nextDomain f d
  | n :: t =>
    if badCopy n d then assertSource f 43 0 none d
    else if leftOff (leaveDomains t d) n then nextDomain f (leaveDomains t d)
    else nextDomain f (releaseDomain n rate width (leaveDomains t d))

/-- The other domain of an FE die. -/
def sameDie (n m : Nat) : Bool := decide (16 ≤ n) && decide (16 ≤ m) && (m - 16) / 2 == (n - 16) / 2

/-- A domain whose power-good does not come is left off with its event, and its die's other domain with it. -/
def failDomain (n : Nat) (t : List Nat) (d : Dev) : Dev :=
  let off := (List.range 24).filter (fun m => sameDie n m && m != n && domUp d m)
  let e := isolate (domMask off) (leaveDomains (t.filter (fun m => !sameDie n m)) d)
  occur Src.DOMAIN_POWER_FAIL n 0 0 (wn .RST_DOMAIN_FAILED 0 (putBit (rn e .RST_DOMAIN_FAILED 0) n true) e)

/-- What the Winder does with the next domain when its power-good does not come. -/
def failNext (f : Fuses) (d : Dev) : Dev :=
  match d.rst.left with
  | [] => nextDomain f d
  | n :: t => if leftOff d n then nextDomain f (leaveDomains t d) else nextDomain f (failDomain n t d)

section
variable (rate width : Nat)

theorem winderStep_waits (waits : WinderWaits d) : winderStep f rate width d = d := by
  unfold winderStep
  split
  · rfl
  · next m t left => exact if_pos (by rw [waits m (by rw [left]; rfl)]; rfl)

theorem powerTimeout_waits (waits : WinderWaits d) : powerTimeout f d = d := by
  unfold powerTimeout
  split
  · rfl
  · next m t left => exact if_pos (by rw [waits m (by rw [left]; rfl)]; rfl)

section
variable {m : Nat} (next : d.rst.left.head? = some m) (may : mayRelease d m = true)
include next may

theorem winderStep_next : winderStep f rate width d = releaseNext f rate width (beforeFrank d) := by
  unfold winderStep
  split
  · next left => rw [left] at next; cases next
  · next k t left =>
    obtain rfl : k = m := by rw [left] at next; exact Option.some.inj next
    exact if_neg (by rw [may]; decide)

theorem powerTimeout_next : powerTimeout f d = failNext f (beforeFrank d) := by
  unfold powerTimeout
  split
  · next left => rw [left] at next; cases next
  · next k t left =>
    obtain rfl : k = m := by rw [left] at next; exact Option.some.inj next
    exact if_neg (by rw [may]; decide)

end

theorem releaseNext_done (done : d.rst.left = []) : releaseNext f rate width d = nextDomain f d := by rw [releaseNext, done]

theorem failNext_done (done : d.rst.left = []) : failNext f d = nextDomain f d := by rw [failNext, done]

section
variable {n : Nat} {t : List Nat} (left : d.rst.left = n :: t)
include left

theorem releaseNext_badCopy (bad : badCopy n d = true) : releaseNext f rate width d = assertSource f 43 0 none d := by
  simp only [releaseNext, left, if_pos bad]

section
variable (good : badCopy n d = false)
include good

theorem releaseNext_leftOff (off : leftOff (leaveDomains t d) n = true) :
    releaseNext f rate width d = nextDomain f (leaveDomains t d) := by
  simp only [releaseNext, left, if_neg (Bool.eq_false_iff.mp good), if_pos off]

theorem releaseNext_releases (on : leftOff (leaveDomains t d) n = false) :
    releaseNext f rate width d = nextDomain f (releaseDomain n rate width (leaveDomains t d)) := by
  simp only [releaseNext, left, if_neg (Bool.eq_false_iff.mp good), if_neg (Bool.eq_false_iff.mp on)]

end

theorem failNext_leftOff (off : leftOff d n = true) : failNext f d = nextDomain f (leaveDomains t d) := by
  simp only [failNext, left, if_pos off]

theorem failNext_fails (on : leftOff d n = false) : failNext f d = nextDomain f (failDomain n t d) := by
  simp only [failNext, left, if_neg (Bool.eq_false_iff.mp on)]

end
end

/-! ### The first verification (R396) -/

/-- Both slots verified, and the time it took shown. -/
def showVerified (f : Fuses) (d : Dev) : Dev :=
  let v := (verifySlots f.svn d).1
  wn .SEC_VERIFY_TIME 0 ((v.now - v.sec.frankAt) / 1000) (rst (fun x => { x with verified := true }) v)

/-- Slot `k` runs: its image and digest are kept for the releases that follow. -/
def runFirmware (k : Nat) (fallback : Option (Nat × Nat)) (d : Dev) : Dev :=
  let e := sf .SEC_STATUS 0 SEC_STATUS.RUNNING_SLOT k (sf .SEC_STATUS 0 SEC_STATUS.RUNNING 1 d)
  let i := slotImage e k
  flushFallback (showSec (sec (fun x => { x with
    fallback := fallback, fwCopy := i.drop 5568, fwDigest := (i.drop 24).take 64, fwBad := false }) e))

/-- Crown mode with reason 3: everything but the first three domains is isolated. -/
def enterCrown (d : Dev) : Dev :=
  isolate (domMask ((List.range 21).map (· + 3))) (rst (fun x => { x with left := [], armed := false })
    (sf .RST_STATUS 0 RST_STATUS.CROWN_REASON 3 (sf .RST_STATUS 0 RST_STATUS.CROWN 1 (crownLink d))))

theorem fwVerified_other (other : domUp d dFRANK = false ∨ d.rst.verified = true) : fwVerified f d = d :=
  if_pos (by simpa using other)

section
variable (up : domUp d dFRANK = true) (first : d.rst.verified = false)
include up first

theorem fwVerified_crown (crowned : crown (showVerified f d) = true) : fwVerified f d = showSec (showVerified f d) :=
  (if_neg (by simp [up, first])).trans (if_pos crowned)

section
variable (own : crown (showVerified f d) = false)
include own

theorem fwVerified_runs {k : Nat} (slot : (verifySlots f.svn d).2.1 = some k) :
    fwVerified f d = runFirmware k (verifySlots f.svn d).2.2 (showVerified f d) := by
  refine (if_neg (by simp [up, first])).trans ((if_neg (Bool.eq_false_iff.mp own)).trans ?_)
  simp only [slot]
  rfl

theorem fwVerified_none (none : (verifySlots f.svn d).2.1 = none) : fwVerified f d =
    showSec (if releasing (enterCrown (showVerified f d)) then releaseDone f (enterCrown (showVerified f d))
      else enterCrown (showVerified f d)) := by
  refine (if_neg (by simp [up, first])).trans ((if_neg (Bool.eq_false_iff.mp own)).trans ?_)
  simp only [none]
  rfl

end
end

/-! ### Boot-complete and its time limit (R381) -/

/-- A start outside Crown mode that is not complete. -/
abbrev Starting (d : Dev) : Prop := d.rst.armed = true ∧ crown d = false

/-- The Ledger is rebuilt: after COLD its replay is over, after a shorter reset its first part. -/
def ledgerRebuilt (d : Dev) : Bool :=
  if d.post.replayReach = 5 then !replaying d else decide (2 ≤ d.post.replayStep) || !replaying d

/-- Boot-complete reported. -/
def reportBoot (d : Dev) : Dev :=
  occur0 Src.BOOT_COMPLETE (sf .RST_STATUS 0 RST_STATUS.BOOT_COMPLETE 1 (rst (fun r => { r with armed := false, starts := 0 }) d))

/-- A start that is not complete in time is given up. -/
def giveUpStart (d : Dev) : Dev := rst (fun r => { r with armed := false }) d

theorem bootComplete_iff : (!d.rst.armed || crown d || !hubUp d || !ledgerRebuilt d) = false ↔
    Starting d ∧ hubUp d = true ∧ ledgerRebuilt d = true := by
  simp [and_assoc]

theorem bootComplete_reports (starts : Starting d) (hub : hubUp d = true) (rebuilt : ledgerRebuilt d = true) :
    bootComplete d = reportBoot d := if_neg (Bool.eq_false_iff.mp (bootComplete_iff.mpr ⟨starts, hub, rebuilt⟩))

theorem bootComplete_stays (other : ¬ (Starting d ∧ hubUp d = true ∧ ledgerRebuilt d = true)) : bootComplete d = d :=
  if_pos (by_contra fun go => other (bootComplete_iff.mp (Bool.eq_false_iff.mpr go)))

theorem startTimeout_asserts (starts : Starting d) : startTimeout f d = assertSource f 49 0 none
    (if domUp (giveUpStart d) dFABRIC then occur0 Src.START_FAILED (giveUpStart d) else giveUpStart d) :=
  if_neg (by simpa using starts)

theorem startTimeout_stays (other : ¬ Starting d) : startTimeout f d = d :=
  if_pos (by simpa [imp_iff_not_or] using other)

/-! ### SVN_BURN (R398) -/

/-- Valid slots with an image older than the fuse are marked ROLLBACK. -/
def markRollback (n : Nat) (d : Dev) : Dev :=
  [0, 1].foldl (fun d k => if slotState d k = 1 && decide (fwSvn (slotImage d k) < n) then setSlot k 5 (slotImage d k) d else d) d

theorem exec_svnBurn_next (s : State) : exec .svnBurn s =
    .next { s.after (svnBurn s.fuses s.dev) with fuses := { s.fuses with svn := burnSvn s.fuses s.dev } } := by
  rw [exec_svnBurn]
  rfl

theorem svnBurn_same (same : burnSvn f d = f.svn) : svnBurn f d = d := if_pos same

theorem svnBurn_raises (raises : burnSvn f d ≠ f.svn) :
    svnBurn f d = occur Src.SVN_RAISED (burnSvn f d) 0 0 (showSec (markRollback (burnSvn f d) d)) := if_neg raises

end

/-! ### Outputs (R313, R387) -/

section
variable {d : Dev}

/-- The half bridges of a coil are never both driven high. -/
theorem bridgeIn_not_both (a k : Nat) : ¬ ((bridgeIn d a k).1 = true ∧ (bridgeIn d a k).2 = true) := by
  unfold bridgeIn
  extract_lets coil t
  have opposite : ¬ (0 < coil.target ∧ coil.target < 0) := fun both => lt_asymm both.1 both.2
  split_ifs
  · decide
  · simpa only [decide_eq_true_eq] using opposite
  · simpa only [decide_eq_true_eq, and_comm] using opposite
  · decide

theorem Pad.driven_eq_high {b : Bool} : Pad.driven b = .high ↔ b = true := by cases b <;> decide

theorem bridgePads_not_both (a k : Nat) : ¬ ((bridgePads d a k).1 = .high ∧ (bridgePads d a k).2 = .high) := fun ⟨one, two⟩ =>
  bridgeIn_not_both a k ⟨Pad.driven_eq_high.mp one, Pad.driven_eq_high.mp two⟩

theorem evOutPad_down (down : domUp d dFABRIC = false) (o : Nat) : evOutPad d o = .off := by simp [evOutPad, down]

theorem indPad_down (down : domUp d dFABRIC = false) (i : Nat) : indPad d i = .low := by simp [indPad, indicator, down, Pad.driven]

theorem syncTx_down (down : domUp d dFABRIC = false) : syncTx d = false := by simp [syncTx, down]

section
variable (down : domUp d dRP = false) (p : Nat)
include down

theorem rpPwrPad_down : rpPwrPad d p = .low := by simp [rpPwrPad, down, Pad.driven]
theorem rpPerstPad_down : rpPerstPad d p = .low := by simp [rpPerstPad, down, Pad.driven]
theorem rpRefclk_down : rpRefclk d p = false := by simp [rpRefclk, down]

end

section
variable {a g p : Nat}

theorem clockPad_down (down : domUp d (dDIG (g / 4)) = false) (o t : Nat) : clockPad d g o t = .off := by simp [clockPad, down]

theorem spwrPad_down (down : domUp d (dDIG (portDie p)) = false) : spwrPad d p = .low := by simp [spwrPad, down, Pad.driven]

theorem bridgePads_down (down : domUp d (dDIG (a / 2)) = false) (k : Nat) : bridgePads d a k = (.low, .low) := by
  simp [bridgePads, bridgeIn, down, Pad.driven]

theorem axEnPad_down (down : domUp d (dDIG (a / 2)) = false) : axEnPad d a = .low := by simp [axEnPad, down, Pad.driven]

theorem axBrakePad_down (down : domUp d (dDIG (a / 2)) = false) : axBrakePad d a = .low := by simp [axBrakePad, down, Pad.driven]

end

section
variable {n : Nat}

theorem ratioOut_down (down : domUp d (dANA (n / 4)) = false) : ratioOut d n = none := by simp [ratioOut, down]

theorem guardOut_down (down : domUp d (dANA (n / 4)) = false) : guardOut d n = none := by simp [guardOut, down]

theorem excOut_down (down : domUp d (dANA (n / 2)) = false) : excOut d n = 0 := by simp [excOut, down]

theorem bridgeExc_down (down : domUp d (dANA n) = false) : bridgeExc d n = 0 := by simp [bridgeExc, down]

end
end

end Sys2Proof.Machine

/-!
PROOFS. The statements of 13_reset_and_power.md that the assertion of a source leaves.
-/
namespace Sys2Proof.ResetAndPower
open Sys2Proof.Machine

/-- Settles O57: isolation by what was asked to be idle, the Winder's step by its next domain, an output by the domain that owns it. -/
theorem resetCourse : Obligations.ResetCourse := by
  unfold Obligations.ResetCourse
  refine ⟨fun s => ⟨fun n hn => ?_, ?_, fun k hk => ?_, fun rate width hr hw => ?_⟩,
    fun d n => ⟨bridgePads_not_both, fun down => ⟨?_, ?_, ?_, down⟩, fun down => ?_, fun down => ⟨?_, ?_, bridgeExc_down down⟩,
      fun down p => ⟨rpPwrPad_down down p, rpPerstPad_down down p, rpRefclk_down down p⟩⟩⟩
  · rw [exec_domainIdle, act_after (decide_eq_true hn)]
    refine ⟨fun quiet => ?_, fun other => ?_⟩
    · rw [domainIdle_isolates quiet]
    · rw [domainIdle_stays other]
  · rw [exec_rstIdleTimeout, act_after rfl]
    refine ⟨fun asked => ?_, fun none => ?_⟩
    · rw [idleTimeout_isolates asked]; rfl
    · rw [idleTimeout_stays none]
  · rw [exec_resetDeassert, act_after (decide_eq_true hk)]
    refine ⟨fun lasts => ?_, fun pulse => ?_⟩
    · rw [resetDeassert_ends lasts]; rfl
    · rw [resetDeassert_pulse pulse]
  · simp only [exec_winderReleaseStep, exec_domainPowerTimeout, act_after rfl,
      act_after (show (decide (rate ≤ 6) && decide (width ≤ 16)) = true by simp [hr, hw])]
    refine ⟨fun waits => ?_, fun m next may => ?_⟩
    · rw [winderStep_waits rate width waits, powerTimeout_waits waits]
      exact ⟨rfl, rfl⟩
    rw [winderStep_next rate width next may, powerTimeout_next next may]
    refine ⟨fun done => ?_, fun n t left => ⟨fun bad => ?_, fun good off => ?_, fun good on => ?_, fun off => ?_, fun on => ?_⟩⟩
    · rw [releaseNext_done rate width done, failNext_done done]
      exact ⟨rfl, rfl⟩
    · rw [releaseNext_badCopy rate width left bad]
    · rw [releaseNext_leftOff rate width left good off]; rfl
    · rw [releaseNext_releases rate width left good on]; rfl
    · rw [failNext_leftOff left off]; rfl
    · rw [failNext_fails left on]; rfl
  · rintro g o t rfl
    exact clockPad_down down o t
  · rintro p rfl
    exact spwrPad_down down
  · rintro a rfl
    exact ⟨bridgePads_down down, axEnPad_down down, axBrakePad_down down⟩
  · exact ⟨evOutPad_down down, indPad_down down, syncTx_down down⟩
  · rintro o rfl
    exact ⟨ratioOut_down down, guardOut_down down⟩
  · rintro i rfl
    exact excOut_down down

/-- Settles O58: the first verification by what it finds, boot-complete by what the start still waits for, SVN_BURN by whether it raises the
fuse. -/
theorem startCourse : Obligations.StartCourse := by
  unfold Obligations.StartCourse
  intro s
  simp only [exec_fwVerified, exec_bootComplete, exec_startTimeout, act_after rfl]
  refine ⟨fun up first => ⟨fun crowned => ?_, fun k own slot => ?_, fun own none => ?_⟩, fun other => ?_,
    ⟨fun starts hub rebuilt => ?_, fun other => ?_, fun starts => ?_, fun other => ?_⟩, ⟨fun same => ?_, fun raises => ?_⟩⟩
  · rw [fwVerified_crown up first crowned]; rfl
  · rw [fwVerified_runs up first own slot]; rfl
  · rw [fwVerified_none up first own none]; rfl
  · rw [fwVerified_other other]
  · rw [bootComplete_reports starts hub rebuilt]; rfl
  · rw [bootComplete_stays other]
  · rw [startTimeout_asserts starts]; rfl
  · rw [startTimeout_stays other]
  · rw [exec_svnBurn_next, svnBurn_same same, same]; rfl
  · rw [exec_svnBurn_next, svnBurn_raises raises]; rfl

end Sys2Proof.ResetAndPower

/-!
PROOFS. DIAG_LOOPBACK and DIAG_LOG_READ, the event matrix and the log ring as host software writes them, and DIAG_INJECT, by the guards of
each (R414, R416, R418, R425, R427, R434 to R436).
-/
namespace Sys2Proof.Machine

section
variable {c : Cmd} {d : Dev}

/-! ### DIAG_LOOPBACK (R435) -/

/-- The pattern of a DIAG_LOOPBACK. -/
def loopPattern (c : Cmd) : Bytes := loopBytes (leAt c.entry 8 1) (leAt c.entry 24 4)

/-- The pattern written to its buffer. -/
def writeLoop (c : Cmd) (d : Dev) : Dev := hostWrite (leAt c.entry 16 8) (loopPattern c) d

/-- What a DIAG_LOOPBACK answers to the bytes that came back. -/
def loopResult (c : Cmd) (r : Bytes) : Bytes :=
  leBytes 4 (crc32c (loopPattern c)) ++ leBytes 4 (mismatches (loopPattern c) (fitBytes (loopPattern c).length r))

/-- A DIAG_LOOPBACK may run: in Crown mode, or with both memory domains up. -/
abbrev LoopRuns (d : Dev) : Prop := crown d = true ∨ (domUp d (dMEM 0) = true ∧ domUp d (dMEM 1) = true)

theorem diagLoopback_runs (runs : LoopRuns d) (back : Fetch) : diagLoopback c back d =
    match back with
    | .failed cause => complete c stDMA_ERR cause [] (writeLoop c d)
    | .ok r => completeOk c (loopResult c r) (writeLoop c d) := by
  have up0 : ¬ (!crown d && !domUp d (dMEM 0)) = true := by obtain on | ⟨up, -⟩ := runs <;> simp [*]
  have up1 : ¬ (!crown d && !domUp d (dMEM 1)) = true := by obtain on | ⟨-, up⟩ := runs <;> simp [*]
  rw [diagLoopback, if_neg up0, if_neg up1]
  rfl

section
variable (own : crown d = false) (back : Fetch)
include own

theorem diagLoopback_down0 (down : domUp d (dMEM 0) = false) : diagLoopback c back d = complete c stSTATE (dMEM 0) [] d :=
  if_pos (by rw [own, down]; rfl)

theorem diagLoopback_down1 (up : domUp d (dMEM 0) = true) (down : domUp d (dMEM 1) = false) :
    diagLoopback c back d = complete c stSTATE (dMEM 1) [] d :=
  (if_neg (by simp [up])).trans (if_pos (by rw [own, down]; rfl))

end

/-! ### DIAG_LOG_READ (R436) -/

/-- The log that a DIAG_LOG_READ names. -/
def namedLog (c : Cmd) : Nat := leAt c.entry 8 1

/-- The records of a log that LENGTH holds, the oldest first. -/
def logBytes (c : Cmd) (l : List EvRec) : Bytes := (l.reverse.take (leAt c.entry 24 4 / 64)).flatMap (fun r => evRecBytes r false false)

/-- A log copied to its buffer, and its bytes answered. -/
def copyLog (c : Cmd) (l : List EvRec) (d : Dev) : Dev :=
  completeOk c (leBytes 8 (logBytes c l).length) (hostWrite (leAt c.entry 16 8) (logBytes c l) d)

theorem diagLogRead_refused (on : crown d = true) (other : namedLog c ≠ 2) : diagLogRead c d = complete c stSTATE dFABRIC [] d :=
  if_pos (by rw [on, Bool.true_and, decide_eq_true_eq]; exact other)

theorem diagLogRead_copies (may : crown d = false ∨ namedLog c = 2) : diagLogRead c d =
    copyLog c (if namedLog c = 0 then d.evt.history else if namedLog c = 1 then d.evt.eccLog else d.evt.nvsLog) d := by
  refine if_neg ?_
  rw [Bool.and_eq_true, decide_eq_true_eq, not_and_or, Bool.not_eq_true, not_not]
  exact may

theorem diagLogRead_history (own : crown d = false) (log : namedLog c = 0) : diagLogRead c d = copyLog c d.evt.history d := by
  rw [diagLogRead_copies (.inl own), if_pos log]

theorem diagLogRead_ecc (own : crown d = false) (log : namedLog c = 1) : diagLogRead c d = copyLog c d.evt.eccLog d := by
  rw [diagLogRead_copies (.inl own), if_neg (by omega), if_pos log]

theorem diagLogRead_nvs (log : namedLog c = 2) : diagLogRead c d = copyLog c d.evt.nvsLog d := by
  rw [diagLogRead_copies (.inr log), if_neg (by omega), if_neg (by omega)]

end

/-! ### Registers of the event matrix -/

theorem addrDom_evtCtrl : addrDom (regAddr .EVT_CTRL 0) = dFABRIC := by decide
theorem addrDom_evtStatus : ∀ w < 48, addrDom (regAddr .EVT_STATUS w) = dFABRIC := by decide
theorem addrDom_evtEnable : ∀ w < 48, addrDom (regAddr .EVT_ENABLE w) = dFABRIC := by decide
theorem addrDom_evtLogRead : addrDom (regAddr .EVT_LOG_READ 0) = dFABRIC := by decide
theorem addrDom_evtLogCfg : addrDom (regAddr .EVT_LOG_CFG 0) = dFABRIC := by decide
theorem addrDom_diagInject : addrDom (regAddr .DIAG_INJECT 0) = dFABRIC := by decide

section
variable {s : State} (up : domUp s.dev dFABRIC = true)
include up

section
variable {n : Nat} (source : n < 1536)
include source

theorem exec_evtSwSet_up : exec (.evtSwSet n) s = .next (s.after (evtSwSet n s.dev)) := by
  rw [exec_evtSwSet, act_after (ok := isSource n) (decide_eq_true source), regCommand_up addrDom_evtCtrl up]

theorem exec_evtClearCount_up : exec (.evtClearCount n) s = .next (s.after (evtClearCount n s.dev)) := by
  rw [exec_evtClearCount, act_after (ok := isSource n) (decide_eq_true source), regCommand_up addrDom_evtCtrl up]

end

section
variable {w v : Nat} (hw : w < 48) (hv : v < 2 ^ 32)
include hw hv

theorem exec_evtStatusClear_up : exec (.evtStatusClear w v) s = .next (s.after (evtStatusClear w v s.dev)) := by
  rw [exec_evtStatusClear, act_after (by simpa [isFlagWord, isWord, hw] using hv), regCommand_up (addrDom_evtStatus w hw) up]

theorem exec_evtEnableWrite_up : exec (.evtEnableWrite w v) s = .next (s.after (evtEnableWrite w v s.dev)) := by
  rw [exec_evtEnableWrite, act_after (by simpa [isFlagWord, isWord, hw] using hv), regCommand_up (addrDom_evtEnable w hw) up]

end

theorem exec_evtLogRead_up {n : Nat} (hn : n < 2 ^ 32) : exec (.evtLogRead n) s = .next (s.after (evtLogRead n s.dev)) := by
  rw [exec_evtLogRead, act_after (ok := isWord n) (decide_eq_true hn), regCommand_up addrDom_evtLogRead up]

theorem exec_evtLogCfgWrite_up {z : Nat} (hz : z < 65536) (on : Bool) :
    exec (.evtLogCfgWrite z on) s = .next (s.after (evtLogCfgWrite z on s.dev)) := by
  rw [exec_evtLogCfgWrite, act_after (decide_eq_true hz), regCommand_up addrDom_evtLogCfg up]

theorem exec_diagInject_up {m : Nat} (hm : m < 18) (double arm : Bool) :
    exec (.diagInject m double arm) s = .next (s.after (diagInject m double arm s.dev)) := by
  rw [exec_diagInject, act_after (decide_eq_true hm), regCommand_up addrDom_diagInject up]

end

section
variable {d : Dev}

/-! ### Software sources and counters (R414, R427, R429) -/

theorem evtSwSet_software {n : Nat} (source : n < 1536) (software : Src.SW_EVENT 0 ≤ n) : evtSwSet n d = occur n 0 0 0 d :=
  if_pos ⟨software, source⟩

theorem evtSwSet_other {n : Nat} (other : n < Src.SW_EVENT 0) : evtSwSet n d = occur Src.EVT_CFG_INVALID n 0 0 d :=
  if_neg fun go => Nat.not_le.mpr other go.1

/-- A counter as a clear leaves it: with the occurrences of the cycle. -/
theorem evtClearCount_source {n : Nat} (source : n < 1536) :
    evtClearCount n d = wn .EVT_COUNT n (sat32 (ups d .EVT_COUNT n)) d := if_pos source

theorem ups_newCycle (new : d.cyc.at_ ≠ d.now + 1) (r : Reg) (i : Nat) : ups d r i = 0 := by
  rw [ups, cycNow, if_neg new]
  rfl

theorem evtClearCount_newCycle {n : Nat} (source : n < 1536) (new : d.cyc.at_ ≠ d.now + 1) :
    evtClearCount n d = wn .EVT_COUNT n 0 d := by
  rw [evtClearCount_source source, ups_newCycle new]
  rfl

/-! ### EVT_ENABLE (R418) -/

/-- A source of word `w` that a write of `v` newly enables signals where its flag is set: the step of `evtEnableWrite`. -/
def signalEnabled (w v : Nat) (d0 d : Dev) (b : Nat) : Dev :=
  let n := 32 * w + b
  if bitOf v b && !evEnabled d0 n && evFlag d n then signalRoute n (rd d .EVT_ROUTE n) d else d

theorem evtEnableWrite_word {w v : Nat} (word : v < 2 ^ 32) :
    evtEnableWrite w v d = (List.range 32).foldl (signalEnabled w v d) (wn .EVT_ENABLE w v d) := by
  simp only [evtEnableWrite, Nat.mod_eq_of_lt word]
  rfl

theorem signalEnabled_again {w v b : Nat} {d0 : Dev} (again : bitOf v b = true → evEnabled d0 (32 * w + b) = true) (e : Dev) :
    signalEnabled w v d0 e b = e := by
  refine if_neg ?_
  rw [Bool.and_assoc, Bool.and_eq_true, Bool.and_eq_true, Bool.not_eq_true']
  rintro ⟨asked, new, -⟩
  exact Bool.eq_false_iff.mp new (again asked)

/-- A write that enables no source anew only writes the word. -/
theorem evtEnableWrite_again {w v : Nat} (word : v < 2 ^ 32)
    (again : ∀ b, b < 32 → bitOf v b = true → evEnabled d (32 * w + b) = true) : evtEnableWrite w v d = wn .EVT_ENABLE w v d := by
  rw [evtEnableWrite_word word]
  refine List.foldlRecOn (motive := (· = wn .EVT_ENABLE w v d)) _ _ rfl fun e same b listed => ?_
  rw [signalEnabled_again (again b (List.mem_range.mp listed)), same]

/-! ### The event log ring (R425) -/

/-- A count of consumed records that the ring takes. -/
abbrev LogReadValid (n : Nat) (d : Dev) : Prop :=
  rb d .EVT_LOG_CFG 0 EVT_LOG_CFG.ENABLE = true ∧ n < ringL (rf d .EVT_LOG_CFG 0 EVT_LOG_CFG.SIZE) ∧
    notBehind (rf d .EVT_LOG_CFG 0 EVT_LOG_CFG.SIZE) n d.evt.logRead = true ∧
    notBehind (rf d .EVT_LOG_CFG 0 EVT_LOG_CFG.SIZE) (rn d .EVT_LOG_WRITTEN 0) n = true

theorem logReadValid_iff {n : Nat} : (rb d .EVT_LOG_CFG 0 EVT_LOG_CFG.ENABLE && decide (n < ringL (rf d .EVT_LOG_CFG 0 EVT_LOG_CFG.SIZE)) &&
    notBehind (rf d .EVT_LOG_CFG 0 EVT_LOG_CFG.SIZE) n d.evt.logRead &&
    notBehind (rf d .EVT_LOG_CFG 0 EVT_LOG_CFG.SIZE) (rn d .EVT_LOG_WRITTEN 0) n) = true ↔ LogReadValid n d := by
  simp [LogReadValid, and_assoc]

theorem evtLogRead_takes {n : Nat} (valid : LogReadValid n d) : evtLogRead n d = { d with evt := { d.evt with logRead := n } } :=
  if_pos (logReadValid_iff.mpr valid)

theorem evtLogRead_invalid {n : Nat} (invalid : ¬ LogReadValid n d) : evtLogRead n d = occur0 Src.EVT_CFG_INVALID d :=
  if_neg (mt logReadValid_iff.mp invalid)

/-- The log ring is enabled. -/
abbrev logEnabled (d : Dev) : Bool := rb d .EVT_LOG_CFG 0 EVT_LOG_CFG.ENABLE

/-- ENABLE of the log ring written. -/
def setLogEnable (on : Nat) (d : Dev) : Dev := sf .EVT_LOG_CFG 0 EVT_LOG_CFG.ENABLE on d

/-- SIZE of the log ring written. -/
def setLogSize (z : Nat) (d : Dev) : Dev := sf .EVT_LOG_CFG 0 EVT_LOG_CFG.SIZE z d

/-- The counts of the log ring start at 0. -/
def restartLog (d : Dev) : Dev := wn .EVT_LOG_WRITTEN 0 0 { d with evt := { d.evt with logRead := 0, lost := false, dropping := false } }

section
variable {z : Nat}

theorem evtLogCfgWrite_noSize : evtLogCfgWrite 0 true d = occur0 Src.EVT_CFG_INVALID d := rfl

section
variable (off : logEnabled d = false)
include off

theorem evtLogCfgWrite_disabled_on (some_ : 0 < z) (hz : z < 65536) :
    evtLogCfgWrite z true d = restartLog (setLogEnable 1 (setLogSize z d)) := by
  refine (if_neg (by simp [Nat.mod_eq_of_lt hz, Nat.ne_of_gt some_])).trans ?_
  simp only [off]
  rfl

theorem evtLogCfgWrite_disabled_off : evtLogCfgWrite z false d = setLogEnable 0 (setLogSize z d) := by
  simp only [evtLogCfgWrite, off]
  rfl

end

section
variable (on : logEnabled d = true)
include on

theorem evtLogCfgWrite_enabled_on (some_ : 0 < z) (hz : z < 65536) : evtLogCfgWrite z true d = setLogEnable 1 d := by
  refine (if_neg (by simp [Nat.mod_eq_of_lt hz, Nat.ne_of_gt some_])).trans ?_
  simp only [on]
  rfl

theorem evtLogCfgWrite_enabled_off : evtLogCfgWrite z false d = setLogEnable 0 d := by
  simp only [evtLogCfgWrite, on]
  rfl

end
end

/-! ### DIAG_INJECT (R434) -/

/-- An injection that is discarded: into a memory without one, or while one is armed. -/
abbrev InjectRefused (m : Nat) (d : Dev) : Prop := m = 2 ∨ m = 9 ∨ m = 10 ∨ rb d .DIAG_INJECT 0 DIAG_INJECT.ARMED = true

/-- The memory and the kind of an injection. -/
def setInject (m : Nat) (double : Bool) (d : Dev) : Dev :=
  sf .DIAG_INJECT 0 DIAG_INJECT.DOUBLE (if double then 1 else 0) (sf .DIAG_INJECT 0 DIAG_INJECT.MEMORY m d)

section
variable {m : Nat} (double arm : Bool)

theorem diagInject_refused (bad : InjectRefused m d) : diagInject m double arm d = occur Src.EVT_CFG_INVALID m 0 0 d :=
  if_pos (decide_eq_true bad)

theorem diagInject_arms (good : ¬ InjectRefused m d) : diagInject m double arm d =
    if arm then sf .DIAG_INJECT 0 DIAG_INJECT.ARMED 1 (setInject m double d) else setInject m double d :=
  if_neg (by rw [decide_eq_true_eq]; exact good)

end
end

end Sys2Proof.Machine

/-!
PROOFS. The statements of 15_events_and_errors.md.
-/
namespace Sys2Proof.EventsAndErrors
open Sys2Proof.Machine

/-- Settles O31: DIAG_LOOPBACK by the domains it needs and what its read answers, DIAG_LOG_READ by the log it names. -/
theorem diagnosticCommands : Obligations.DiagnosticCommands := by
  unfold Obligations.DiagnosticCommands
  intro s q tag c d
  refine ⟨fun h => ?_, fun h => ?_⟩
  · simp only [exec_diagLoopback, act_awaits s q tag _ c h]
    refine ⟨fun runs => ⟨fun r => ?_, fun cause => ?_⟩, fun r own down => ?_, fun r own up down => ?_⟩
    · rw [diagLoopback_runs (c := c.begun) runs]; rfl
    · rw [diagLoopback_runs (c := c.begun) runs]; rfl
    · rw [diagLoopback_down0 (c := c.begun) own r down]; rfl
    · rw [diagLoopback_down1 (c := c.begun) own r up down]; rfl
  · simp only [exec_diagLogRead, act_awaits s q tag _ c h]
    refine ⟨fun on other => ?_, fun own log => ?_, fun own log => ?_, fun log => ?_⟩
    · rw [diagLogRead_refused (c := c.begun) on other]; rfl
    · rw [diagLogRead_history (c := c.begun) own log]; rfl
    · rw [diagLogRead_ecc (c := c.begun) own log]; rfl
    · rw [diagLogRead_nvs (c := c.begun) log]; rfl

/-- Settles O38: each write by whether it is valid; a counter without occurrences in the cycle, and a write that enables nothing anew. -/
theorem eventControl : Obligations.EventControl := by
  unfold Obligations.EventControl
  intro s up
  refine ⟨fun n source => ?_, fun w v hw hv => ?_, fun n hn => ?_, fun z hz => ?_, fun m double arm hm => ?_⟩
  · rw [exec_evtSwSet_up up source, exec_evtClearCount_up up source]
    refine ⟨fun software => ?_, fun other => ?_, ?_, fun new => ?_⟩
    · rw [evtSwSet_software source software]
    · rw [evtSwSet_other other]
    · rw [evtClearCount_source source]
    · rw [evtClearCount_newCycle source new]
  · rw [exec_evtStatusClear_up up hw hv, exec_evtEnableWrite_up up hw hv]
    refine ⟨rfl, ?_, fun again => ?_⟩
    · rw [evtEnableWrite_word hv]; rfl
    · rw [evtEnableWrite_again hv again]
  · intro z ok
    rw [exec_evtLogRead_up up hn]
    refine ⟨fun valid => ?_, fun invalid => ?_⟩
    · rw [evtLogRead_takes valid]
    · rw [evtLogRead_invalid invalid]
  · simp only [exec_evtLogCfgWrite_up up hz]
    refine ⟨fun zero => ?_, fun off => ⟨fun some_ => ?_, ?_⟩, fun on => ⟨fun some_ => ?_, ?_⟩⟩
    · rw [zero, evtLogCfgWrite_noSize]
    · rw [evtLogCfgWrite_disabled_on off some_ hz]; rfl
    · rw [evtLogCfgWrite_disabled_off off]; rfl
    · rw [evtLogCfgWrite_enabled_on on some_ hz]; rfl
    · rw [evtLogCfgWrite_enabled_off on]; rfl
  · intro bad
    rw [exec_diagInject_up up hm]
    refine ⟨fun good => ?_, fun armed => ?_⟩
    · rw [diagInject_arms double arm good]; rfl
    · rw [diagInject_refused double arm armed]

end Sys2Proof.EventsAndErrors
